-- ==== Sys2Proof/Word.lean ====
section
/-! DEFINITION. The words of the block: bytes, 32-bit registers, and the finite sets of numbered units
that the manual names (Table 0-4 of spec/00_scope.md). -/

namespace Sys2Proof

/-- One byte of a frame, a buffer or a message. -/
abbrev Byte := BitVec 8

/-- A byte string, first byte first. -/
abbrev Bytes := List Byte

/-- A 32-bit register (R233). -/
abbrev Word := BitVec 32

/-- Lanes L00–L63 (R50). -/
abbrev Lane := Fin 64

/-- Ports 0–1023 (R60). -/
abbrev Port := Fin 1024

/-- Octets O0–O7, and the pipelines that serve them (R73). -/
abbrev Octet := Fin 8

/-- Tenants T0000–T4095. -/
abbrev Tenant := Fin 4096

/-- Threads C00.T00–C15.T15, n = 16c + t (R285). -/
abbrev Thread := Fin 256

/-- Cells 0–4095. -/
abbrev Cell := Fin 4096

/-- Cipher lanes CL00–CL33 (R178). -/
abbrev CipherLane := Fin 34

/-- DMA channels 0–31 (R312). -/
abbrev Channel := Fin 32

/-- Queues Q0–Q7 (R132). -/
abbrev QueueNo := Fin 8

/-- Ring numbers 0–63 (R257). -/
abbrev RingNo := Fin 64

/-- Buffer classes 0–5 (Table 5-1). -/
abbrev BufClass := Fin 6

end Sys2Proof
end

