-- ==== Sys2Proof/Syntax.lean ====
section
/-! DEFINITION. The commands of the block: one constructor of `Instr` for each row of
spec/opcode_table.json, and the operand types they use. -/

namespace Sys2Proof

/-- The two PCIe endpoint ports (R226). -/
inductive HostPort where
  | a
  | b
  deriving DecidableEq, Repr

/-- The two management lanes (R71). -/
inductive MgmtLane where
  | m0
  | m1
  deriving DecidableEq, Repr

/-- What owns a register file: the PF0 of a port, the VF of a tenant, a loop-core thread (R228, R268). -/
inductive Func where
  | pf0 (p : HostPort)
  | vf (t : Tenant)
  | thread (n : Thread)
  deriving DecidableEq, Repr

/-- Where a Dolux datagram arrives (R41, R71): on a port, on a management lane, or from a vport. -/
inductive DoluxPlace where
  | port (p : Port)
  | mgmt (m : MgmtLane)
  | vport (n : Fin 65536)
  deriving DecidableEq, Repr

/-- A Dolux datagram as it arrives: its place and its frame, from the destination address on, without FCS (R41). -/
structure DoluxMsg where
  place : DoluxPlace
  frame : Bytes
  deriving DecidableEq, Repr

/-- The path a dictionary request takes (Table 2-4): item `item` of the request in progress in a PF0 window, item
`item` of a Dolux message, firmware on a thread, or a write of LEASE_REQ (R236). -/
inductive Via where
  | window (p : HostPort) (item : Nat)
  | dolux (m : DoluxMsg) (item : Nat)
  | firmware (n : Thread)
  | leaseReq (p : HostPort)
  deriving DecidableEq, Repr

/-- Why an UP lane fails (Table 3-2, codes of 0x2400+l:04). -/
inductive LaneCause where
  | signal
  | lock
  | highBer
  | fec
  | localFault
  deriving DecidableEq, Repr

/-- A lane with a state machine of Table 3-2: L00–L63, or a management lane (R71). -/
inductive AnyLane where
  | lane (l : Lane)
  | mgmt (m : MgmtLane)
  deriving DecidableEq, Repr

/-- What the PCS and FEC of a port report of a frame's reception: block or symbol errors, corrected codewords, uncorrectable
codewords (R63, Table 3-7). -/
structure Coding where
  symbols       : Nat
  corrected     : Nat
  uncorrectable : Nat
  deriving DecidableEq, Repr

/-- Causes of a host-face reset (Table 10-10, event 0x0711). -/
inductive HostCause where
  | perst
  | hotReset
  | linkDisable
  | dlDown
  deriving DecidableEq, Repr

/-- Link states a host link can change to (0x7100:10); L0p with the lanes that it keeps (R227). -/
inductive LinkState where
  | l0
  | l0p (lanes : Nat)
  | l1
  | l2
  deriving DecidableEq, Repr

/-- D-states of a function (R248). -/
inductive DState where
  | d0
  | d1
  | d2
  | d3hot
  | d3cold
  deriving DecidableEq, Repr

/-- Status of a PCIe completion (R243, R244). -/
inductive CplStatus where
  | success
  | ur
  | ca
  | poisoned
  deriving DecidableEq, Repr

/-- Tests whose failure stops the cipher engine (R207, codes of 0x6000:02). -/
inductive EntropyTest where
  | repetition
  | proportion
  | startup
  | drbg
  | knownAnswer
  deriving DecidableEq, Repr

/-- Who asks the debug port or unlocks debug (R359). -/
inductive DebugPath where
  | jtag
  | dictionary (v : Via)
  deriving DecidableEq, Repr

/-- A lookaside job descriptor (Table 8-5a). -/
structure JobDesc where
  opcode : Nat
  irq    : Bool
  fence  : Bool
  tagLen : Nat
  param  : Nat
  key    : Nat
  aux    : Nat
  aadLen : Nat
  src    : Nat
  dst    : Nat
  len    : Nat
  iv     : Bytes
  deriving DecidableEq, Repr

/-- A storage descriptor (Table 9-2). -/
structure StorDesc where
  opcode    : Nat
  irq       : Bool
  noXts     : Bool
  conn      : Nat
  cid       : Nat
  len       : Nat
  inCapsule : Nat
  list      : Nat
  segments  : Nat
  stage     : Nat
  capsule   : Nat
  dun       : Nat
  cookie    : Nat
  deriving DecidableEq, Repr

/-- A segment list entry (R212). -/
structure Seg where
  addr : Nat
  len  : Nat
  deriving DecidableEq, Repr

/-- A transmit or receive descriptor (Tables 11-3 and R263); `flags` and `vport` as the bytes stand. -/
structure RingDesc where
  addr   : Nat
  len    : Nat
  flags  : Byte
  vport  : Byte
  cookie : Nat
  deriving DecidableEq, Repr

/-- PTP messages as the time unit uses them (R326), times in 2⁻¹⁶ ns and every correction field added in: a Sync with its origin
time where it is one-step, a Follow_Up with that of the Sync before it, a peer's turnaround time by Pdelay_Resp and its Follow_Up, a
Delay_Resp with the master's receive time, a Pdelay or delay request of a port identity with its sequence number, an Announce
with its UTC offset, or any other message. -/
inductive PtpMsg where
  | sync (origin : Option Nat)
  | followUp (origin : Nat)
  | pdelayResp (turn : Nat)
  | delayResp (received : Nat)
  | pdelayReq (source : Bytes) (seq : Nat)
  | delayReq (source : Bytes) (seq : Nat)
  | announce (utc : Int)
  | other
  deriving DecidableEq, Repr

/-- Where a PTP message arrived: port 0–1023, or M0 and M1 as rows 1024 and 1025 of 0x1220. -/
abbrev PtpPort := Fin 1026

/-- PTP port states (0x1220:0A). -/
inductive PtpState where
  | disabled
  | listening
  | master
  | passive
  | uncalibrated
  | slave
  deriving DecidableEq, Repr

/-- Structures of Table 16-1 in which a memory error is found. -/
inductive MemUnit where
  | packetData (handle : Nat) (port : Port)
  | control
  | ternaryRow (row : Nat)
  | actionRow (ix row : Nat)
  | meterRow (row : Nat)
  | cacheEntry (row : Nat)
  | hbmTable (stack : Fin 2)
  | hbmSpill (handle : Nat) (port : Port)
  | coreSram (n : Thread)
  | imageSlot (slot : Fin 16384)
  | loopSram
  | cipherLane (l : CipherLane)
  | frameUnit (u : Fin 1088)
  | loopCore (c : Fin 16)
  | dmaSource (ch : Channel)
  deriving DecidableEq, Repr

/-- An event record (Table 16-2); DATA as numbers in listed order. -/
structure Event where
  time       : Nat
  seq        : Nat
  code       : Nat
  valid      : Bool
  partner    : Bool
  suppressed : Nat
  data       : List Nat
  deriving DecidableEq, Repr

/-- A pair message (R374), with the records of the partner's log that it brings. -/
structure PairMsg where
  node      : Nat
  devState  : Nat
  failed    : Nat
  committed : Nat
  firmware  : Nat
  offset    : Int
  records   : List Event := []
  deriving DecidableEq, Repr

/-- The address spaces of a function's registers: BAR0, configuration space, the expansion ROM (R228, R233, R237). -/
inductive RegSpace where
  | bar
  | config
  | rom
  deriving DecidableEq, Repr

/-- A register by its address space and its offset. -/
structure RegPlace where
  space : RegSpace
  off   : Nat
  deriving DecidableEq, Repr

/-- A read of `n` bytes from an offset of an address space. -/
structure RegRead where
  space : RegSpace
  off   : Nat
  n     : Nat
  deriving DecidableEq, Repr

/-- Where a queue of the network side stands: at a port, or at a vport (R132). -/
inductive QueuePlace where
  | port (p : Port)
  | vport (n : Fin 65536)
  deriving DecidableEq, Repr

/-- What a read of host memory has brought: its bytes, or nothing where it failed (R242). -/
abbrev ReadBytes := Option Bytes

/-- How the reading of a host frame ends: read whole, malformed, or with a read that failed (R259, Table 11-4). -/
inductive FrameRead where
  | whole
  | malformed
  | failed
  deriving DecidableEq, Repr

/-- Contexts of the event controller (R275). -/
inductive EvCtx where
  | thread (n : Thread)
  | pf0 (p : HostPort)
  deriving DecidableEq, Repr

/-- The commands; those without operands stand last. Byte strings named `data` are values as a dictionary write carries them. A
command that ends work which the device has read for itself (a job, a storage descriptor, a host frame, a delivery) names that work
by its descriptor and by what was read (log entry 159). -/
inductive Instr where
  -- the dictionary and Dolux (02)
  | read (v : Via) (ix sub : Nat)
  | write (v : Via) (ix sub : Nat) (data : Bytes)
  | domainRead (v : Via) (ix sub off max : Nat)
  | domainWrite (v : Via) (ix sub off total : Nat) (data : Bytes)
  | identify (m : DoluxMsg)
  | doluxDatagramDropped (m : DoluxMsg)
  | freshKeyRecorded (key : Fin 256)
  | replayCounterWrite (key : Fin 256)
  | keyValidityEnded (key : Fin 256)
  | rowSelect (v : Via) (ix row : Nat)
  | commit (v : Via) (ix : Nat)
  | clear (v : Via) (ix : Nat)
  | load (v : Via) (ix : Nat)
  | batchOpen (v : Via)
  | batchClose (v : Via)
  | batchDiscard (v : Via)
  | batchTimeout (master : Nat)
  | domainTransferTimeout (ix sub : Nat)
  | acquire (v : Via) (head ms : Nat)
  | renew (v : Via) (head ms : Nat)
  | release (v : Via) (head ms : Nat)
  | take (v : Via) (head ms : Nat)
  | leaseExpiry (head : Nat)
  | fastPathWrite (master off : Nat) (data : Bytes)
  | registerWrite (f : Func) (at_ : RegPlace) (data : Bytes)
  | readClear (f : Func) (at_ : RegRead)
  | profileWrite (v : Via) (data : Bytes)
  -- lanes, frame units and ports (03)
  | laneModeWrite (v : Via) (l : Lane) (data : Bytes)
  | fecWrite (v : Via) (l : Lane) (data : Bytes)
  | polarityWrite (v : Via) (l : Lane) (tx : Bool) (data : Bytes)
  | lanesEnterDisabled (l : Lane)
  | managementModeWrite (v : Via) (m : MgmtLane) (data : Bytes)
  | refclkLost (o : Octet)
  | refclkRestored (o : Octet)
  | pllLocked (l : AnyLane)
  | pllLockTimeout (l : AnyLane)
  | pllRetry (l : AnyLane)
  | signalDetected (l : AnyLane)
  | alignConditionLost (l : AnyLane)
  | laneUp (l : AnyLane)
  | laneFault (l : AnyLane) (why : LaneCause)
  | portDownDiscard (p : Port)
  | remoteFaultReceived (l : Lane)
  | remoteFaultCleared (l : Lane)
  | sgmiiControlWord (l : Lane) (rate : Nat)
  | flexeOverheadMismatch (l : Lane) (group phy : Nat)
  | calendarSwitchRequest (v : Via) (l : Lane) (data : Bytes)
  | calendarSwitched (l : Lane)
  | calendarSwitchTimeout (l : Lane)
  | maximumFrameWrite (v : Via) (p : Port) (data : Bytes)
  | pauseHonouringWrite (v : Via) (p : Port) (data : Bytes)
  | frameReceived (p : Port) (frame : Bytes) (coding : Coding)
  | pause (p : Port) (quanta : Nat)
  | pauseTimerExpiry (p : Port)
  | managementFrameReceived (m : MgmtLane) (frame : Bytes) (fcs : Nat)
  -- the frame path (04)
  | ingressSlotGrant (k : Octet)
  | recirculate (k : Octet)
  -- buffers (05)
  | alloc (n : Thread) (row : Nat) (cls : BufClass)
  | free (n : Thread) (handle : Nat)
  | poolModeSwitch (quota : Bool)
  | baseMinimumWrite (v : Via) (row : Nat) (cls : BufClass) (data : Bytes)
  | quotaWrite (v : Via) (row : Nat) (cls : BufClass) (data : Bytes)
  | carveWrite (v : Via) (sub : Nat) (data : Bytes)
  | spillFetch (place : QueuePlace) (q : QueueNo)
  | spillFetchComplete (handle : Nat)
  -- egress (06)
  | frameSelection (p : Port)
  | pnMarkWritten (sa : Nat)
  | frameTransmitted (p : Port)
  | headAgeDiscard (row : Nat)
  | quantumWrite (v : Via) (p : Port) (q : QueueNo) (data : Bytes)
  | shaperEnableWrite (v : Via) (p : Port) (q : QueueNo) (data : Bytes)
  | idleSlopeWrite (v : Via) (p : Port) (q : QueueNo) (data : Bytes)
  | gateControlWrite (v : Via) (p : Port) (data : Bytes)
  | initialStatesWrite (v : Via) (p : Port) (data : Bytes)
  | cancelPending (v : Via) (p : Port) (data : Bytes)
  | gateListSwap (p : Port)
  | gateEntryChange (p : Port)
  | telemetrySample (row : Nat)
  | telemetryRingEnable (f : Func) (ctrl : Word)
  | vportDelivery (hp : HostPort) (desc : RingDesc)
  -- stream contracts (07)
  | admitStream (v : Via) (rec : Bytes)
  | withdraw (v : Via) (rec : Bytes)
  | check (v : Via) (rec : Bytes)
  | modify (v : Via) (rec : Bytes)
  | frerRecoveryReset (compound : Fin 4096)
  -- the cipher engine (08)
  | releaseDecrypted (pass : Nat)
  | cipherPageDoorbell (f : Func) (tail : Word)
  | cipherPageEnable (f : Func) (ctrl : Word)
  | cipherPageDisable (f : Func) (ctrl : Word)
  | gcmEncrypt (f : Func) (job : Nat) (d : JobDesc) (src : Bytes)
  | gcmDecrypt (f : Func) (job : Nat) (d : JobDesc) (src : Bytes)
  | gmacGenerate (f : Func) (job : Nat) (d : JobDesc) (src : Bytes)
  | gmacVerify (f : Func) (job : Nat) (d : JobDesc) (src : Bytes)
  | ctr (f : Func) (job : Nat) (d : JobDesc) (src : Bytes)
  | xtsEncrypt (f : Func) (job : Nat) (d : JobDesc) (src : Bytes)
  | xtsDecrypt (f : Func) (job : Nat) (d : JobDesc) (src : Bytes)
  | cmacGenerate (f : Func) (job : Nat) (d : JobDesc) (src : Bytes)
  | cmacVerify (f : Func) (job : Nat) (d : JobDesc) (src : Bytes)
  | wrap (f : Func) (job : Nat) (d : JobDesc)
  | unwrap (f : Func) (job : Nat) (d : JobDesc) (src : Bytes)
  | derive (f : Func) (job : Nat) (d : JobDesc) (src : Bytes)
  | random (f : Func) (job : Nat) (d : JobDesc)
  | laneStall (l : CipherLane)
  | laneStallEnd (l : CipherLane)
  | maskRefresh (l : CipherLane)
  | maskKeyExpiry (l : CipherLane)
  | drbgReseed (i : Fin 4)
  | entropyTestFailure (t : EntropyTest)
  | engineRestart (v : Via) (data : Bytes) (failing : Option EntropyTest)
  -- storage assist (09)
  | storageQueueEnable (f : Func) (ctrl : Word)
  | storageDoorbell (f : Func) (tail : Word)
  | connAdd (f : Func) (d : StorDesc) (rec : Bytes)
  | connDel (f : Func) (d : StorDesc)
  | cmdRead (f : Func) (d : StorDesc) (segs : List Seg) (capsule : List ReadBytes)
  | cmdWrite (f : Func) (d : StorDesc) (segs : List Seg) (capsule data : List ReadBytes)
  | cmdRetire (f : Func) (d : StorDesc)
  | resync (f : Func) (d : StorDesc)
  | storageSegment (f : Func) (vq : Nat) (desc : RingDesc) (host : List ReadBytes)
  | quarantineEnd (conn cid : Nat)
  -- the host face (10)
  | hostPortDisable (v : Via) (hp : HostPort)
  | hostPortEnable (v : Via) (hp : HostPort)
  | hostLinkUp (hp : HostPort) (width rate : Nat)
  | linkStateChange (hp : HostPort) (st : LinkState)
  | tenantEnableWrite (v : Via) (t : Tenant) (data : Bytes)
  | tenantHostPortWrite (v : Via) (t : Tenant) (data : Bytes)
  | uplinkWrite (v : Via) (t : Tenant) (target : Bool) (data : Bytes)
  | vfEnable (hp : HostPort) (numVFs : Nat)
  | completionReceived (hp : HostPort) (tag : Nat) (st : CplStatus) (data : Bytes)
  | completionTimeout (hp : HostPort) (tag : Nat)
  | tagQuarantineEnd (hp : HostPort) (tag : Nat)
  | busMasterEnableClear (f : Func)
  | flr (f : Func)
  | flrComplete (f : Func)
  | dStateChange (f : Func) (d : DState)
  | hostFaceReset (hp : HostPort) (why : HostCause)
  | perstDeassert (hp : HostPort)
  -- rings, mailboxes and events (11)
  | ringEnable (f : Func) (tx : Bool) (r : RingNo) (ctrl : Word)
  | ringDisable (f : Func) (tx : Bool) (r : RingNo) (ctrl : Word)
  | ringDoorbell (f : Func) (tx : Bool) (r : RingNo) (tail : Word)
  | hostFrameRead (f : Func) (r : RingNo) (descs : List RingDesc) (data : List ReadBytes) (how : FrameRead)
  | inlinePush (f : Func) (off : Nat) (data : Bytes)
  | ringModTimer (f : Func) (tx : Bool) (r : RingNo)
  | bindingLock (v : Via) (data : Bytes)
  | sendCommit (f : Func) (slot : RingNo) (val : Word)
  | receiveLatch (f : Func) (slot : RingNo)
  | pop (f : Func) (slot : RingNo) (val : Word)
  | flush (f : Func) (slot : RingNo) (val : Word)
  | sourceAssert (id : Fin 4096)
  | levelWithdrawn (id : Fin 4096)
  | claim (c : EvCtx)
  | complete (c : EvCtx) (id : Nat)
  | setPending (f : Func) (id : Nat)
  | interruptEntry (n : Thread)
  | interruptExit (n : Thread)
  -- loop cores, threads and cells (12)
  | fork (n : Thread) (entry arg : Nat) (privileged : Bool)
  | join (n : Thread) (child deadline : Nat)
  | exit (n : Thread) (code : Word)
  | wait (n : Thread) (mask : Word) (deadline : Nat)
  | signal (n : Thread) (target : Nat) (bits : Word)
  | waitDeadline (n : Thread)
  | accessStall (n : Thread)
  | accessComplete (n : Thread)
  | threadFault (n : Thread) (cause : Nat)
  | threadRestart (n : Thread)
  | threadRelease (n : Thread)
  | threadStop (n : Thread)
  | threadResume (n : Thread)
  | threadKill (n : Thread)
  | executorRestart (n : Thread)
  | unload (v : Via) (c : Cell) (data : Bytes)
  | cellModeWrite (v : Via) (c : Cell) (data : Bytes)
  | cellRelease (c : Cell)
  | cellRun (c : Cell)
  -- the DMA engine (13)
  | copy (master : Nat) (ch : Channel) (host : Bool)
  | fill (master : Nat) (ch : Channel)
  | compare (master : Nat) (ch : Channel) (hostSrc hostDst : Bool)
  | dmaAbort (master : Nat) (ch : Channel)
  | dmaDone (ch : Channel)
  | stationChannelsWrite (v : Via) (data : Bytes)
  -- station time and clocks (14)
  | ptpMessage (p : PtpPort) (m : PtpMsg)
  | ptpPortStateChange (p : PtpPort) (st : PtpState)
  | ptpSyncTransmit (p : PtpPort)
  | nextPpsSecondsWrite (v : Via) (data : Bytes)
  | temperatureSample (readings : List Int)
  | thermalTrip (sensor : Fin 26)
  -- start-up, resets, power and the store (15)
  | sequenceFailure (rail : Nat) (status : Nat)
  | warmResetRequest (v : Via) (data : Bytes)
  | hardResetRequest (v : Via) (data : Bytes)
  | deviceReset (cause : Nat)
  | watchdogWrite (n : Thread)
  | avsStep (lowest : Nat) (refused : Bool)
  | pmbusAlert (words : List Nat)
  | configurationCommit (v : Via) (data : Bytes)
  | commitEnd (failure : Option Nat)
  | program (v : Via)
  | activate (v : Via)
  | programAndActivate (v : Via)
  | switch (v : Via)
  | discard (v : Via)
  | firmwareProgramStep (failure : Option Nat)
  | switchCoreDone (fault : Bool)
  | debugUnlock (d : DebugPath) (token : Bytes)
  -- faults, availability and the pair (16)
  | correctableError (row : Fin 1148)
  | uncorrectableError (u : MemUnit)
  | ternaryRowRewrite (row : Nat)
  | entryReload (u : MemUnit)
  | frameUnitFault (u : Fin 1088)
  | failoverComplete (p : Port)
  | cipherLaneFault (l : CipherLane)
  | cipherLaneRestartComplete (l : CipherLane)
  | loopCoreFault (c : Fin 16)
  | loopCoreFailoverComplete (c : Fin 16)
  | fabricLinkRepair (link : Fin 5) (lost : Nat)
  | fabricLinkRetrained (link : Fin 5) (ok : Bool)
  | hbmStackFailure (stack : Fin 2)
  | fozonLinkChange (st width : Nat)
  | pairMessage (m : PairMsg)
  -- steps the table lists last
  | transmitStart (p : Port)
  | oneCycleAfterStep (p : Port)
  | pdelayRequestTransmit (p : PtpPort)
  -- without operands: the dictionary and Dolux (02)
  | tableVersionEffective
  -- without operands: stream contracts (07)
  | admissionComplete
  -- without operands: loop cores, threads and cells (12)
  | quiescentStall
  | supervisorSilent
  | supervisorTakeover
  | imageBackup
  -- without operands: station time and clocks (14)
  | ppsEdge
  | ppsMissing
  | ppsOut
  | ref10mPresent
  | ref10mAbsent
  | holdoverLimit
  | timeCopyReload
  | coreReferenceLost
  | safeHoldExit
  -- without operands: start-up, resets, power and the store (15)
  | powerOn
  | railEnable
  | sequenceRetry
  | resetNAssert
  | pwrOkLoss
  | resetRelease
  | serviceEntry
  | watchdogExpiry
  | backgroundEraseDone
  | supplyWarnAssert
  | supplyWarnRelease
  -- without operands: faults, availability and the pair (16)
  | scrub
  | recoveryTimeout
  | logFlush
  | availabilityUpdate
  | pairMessageSend
  | partnerLost
  -- without operands: steps the table lists last
  | vaux3v3Loss
  | powerSequenceRestart
  deriving DecidableEq, Repr

end Sys2Proof
end

