-- ==== Sys2Proof/Machine/Bits.lean ====
section
/-! DEFINITION. Bit fields, byte order, two's complement, and the two cyclic redundancy checks. -/

namespace Sys2Proof.Machine

/-- Bits `hi` to `lo` of a number. -/
def bits (n hi lo : Nat) : Nat := n / 2 ^ lo % 2 ^ (hi - lo + 1)

/-- Bit `i` of a number. -/
def bit (n i : Nat) : Bool := n / 2 ^ i % 2 = 1

/-- A number with bits `hi` to `lo` replaced. -/
def setBits (n hi lo v : Nat) : Nat :=
  n / 2 ^ (hi + 1) * 2 ^ (hi + 1) + v % 2 ^ (hi - lo + 1) * 2 ^ lo + n % 2 ^ lo

/-- A number with bit `i` set to `b`. -/
def setBit (n i : Nat) (b : Bool) : Nat := setBits n i i b.toNat

/-- The number a byte string spells, most significant byte first (R5, R23). -/
def ofBE : Bytes → Nat := List.foldl (fun n b => n * 256 + b.toNat) 0

/-- The number a byte string spells, least significant byte first (R5). -/
def ofLE (bs : Bytes) : Nat := ofBE bs.reverse

/-- The `n` low bytes of a number, least significant first. -/
def toLE : (n v : Nat) → Bytes
  | 0, _ => []
  | n + 1, v => BitVec.ofNat 8 v :: toLE n (v / 256)

/-- The `n` low bytes of a number, most significant first. -/
def toBE (n v : Nat) : Bytes := (toLE n v).reverse

/-- Bytes `a` to `a + n - 1` of a byte string, padded with nothing. -/
def slice (bs : Bytes) (a n : Nat) : Bytes := (bs.drop a).take n

/-- The big-endian number in `n` bytes at `a`. -/
def be (bs : Bytes) (a n : Nat) : Nat := ofBE (slice bs a n)

/-- The little-endian number in `n` bytes at `a`. -/
def le (bs : Bytes) (a n : Nat) : Nat := ofLE (slice bs a n)

/-- A byte string as natural numbers. -/
def nats (bs : Bytes) : List Nat := bs.map BitVec.toNat

/-- Zero bytes. -/
def zeros (n : Nat) : Bytes := List.replicate n 0

/-- A byte string cut or padded with zeros to `n` bytes. -/
def fit (n : Nat) (bs : Bytes) : Bytes := bs.take n ++ zeros (n - bs.length)

/-- `new` written over `bs` at `a`. -/
def splice (bs : Bytes) (a : Nat) (new : Bytes) : Bytes :=
  bs.take a ++ new ++ bs.drop (a + new.length)

/-- An integer in `w` bits of two's complement, as an unsigned number. -/
def encI (w : Nat) (i : Int) : Nat := (i % (2 ^ w : Nat)).toNat

/-- The integer that `w` bits of two's complement spell. -/
def decI (w n : Nat) : Int := if n < 2 ^ (w - 1) then n else (n : Int) - (2 ^ w : Nat)

/-- Round up to a multiple. -/
def roundUp (n m : Nat) : Nat := (n + m - 1) / m * m

/-- Quotient rounded up. -/
def ceilDiv (a b : Nat) : Nat := (a + b - 1) / b

/-- One bit step of a reflected CRC with polynomial `p`. -/
def crcBit (p c : Nat) : Nat := if c % 2 = 1 then (c / 2) ^^^ p else c / 2

/-- One byte step of a reflected 32-bit CRC. -/
def crcByte (p c : Nat) (b : Byte) : Nat :=
  let c := c ^^^ b.toNat
  crcBit p (crcBit p (crcBit p (crcBit p (crcBit p (crcBit p (crcBit p (crcBit p c)))))))

/-- A reflected 32-bit CRC with initial value and final inversion of all ones. -/
def crc (p : Nat) (bs : Bytes) : Nat := bs.foldl (crcByte p) 0xFFFFFFFF ^^^ 0xFFFFFFFF

/-- CRC-32 of IEEE 802.3, the FCS of a frame. -/
def crc32 : Bytes → Nat := crc 0xEDB88320

/-- CRC32C, of NVMe over TCP and of the ECMP hash. -/
def crc32c : Bytes → Nat := crc 0x82F63B78

/-- The FCS of a frame as its four trailing bytes, least significant first. -/
def fcsBytes (bs : Bytes) : Bytes := toLE 4 (crc32 bs)

/-- One's complement sum of big-endian 16-bit words. -/
def onesSum : Bytes → Nat
  | [] => 0
  | [a] => a.toNat * 256
  | a :: b :: r =>
    let t := a.toNat * 256 + b.toNat + onesSum r
    t % 65536 + t / 65536

/-- Internet checksum. -/
def checksum (bs : Bytes) : Nat := (65535 - onesSum bs) % 65536

end Sys2Proof.Machine
end

