-- ==== Sys2Proof/Machine/Crypto.lean ====
section
/-! DEFINITION. AES (FIPS 197) and the modes of it that the block runs: GCM and GMAC (SP 800-38D), CTR (SP 800-38A), CMAC
(SP 800-38B), XTS (IEEE 1619), key wrap (RFC 3394) and the counter-mode key derivation of SP 800-108. Keys are byte strings,
blocks are numbers, most significant byte first. -/

namespace Sys2Proof.Machine

/-- A key: its bytes. The AES key length in bits follows from it. -/
abbrev Key := Bytes

/-! ### The block cipher (FIPS 197, R178) -/

/-- The S-box, 32 entries a number, entry 0 first. -/
def sbox : List Nat :=
  [ 0x637C777BF26B6FC53001672BFED7AB76CA82C97DFA5947F0ADD4A2AF9CA472C0
  , 0xB7FD9326363FF7CC34A5E5F171D8311504C723C31896059A071280E2EB27B275
  , 0x09832C1A1B6E5AA0523BD6B329E32F8453D100ED20FCB15B6ACBBE394A4C58CF
  , 0xD0EFAAFB434D338545F9027F503C9FA851A3408F929D38F5BCB6DA2110FFF3D2
  , 0xCD0C13EC5F974417C4A77E3D645D197360814FDC222A908846EEB814DE5E0BDB
  , 0xE0323A0A4906245CC2D3AC629195E479E7C8376D8DD54EA96C56F4EA657AAE08
  , 0xBA78252E1CA6B4C6E8DD741F4BBD8B8A703EB5664803F60E613557B986C11D9E
  , 0xE1F8981169D98E949B1E87E9CE5528DF8CA1890DBFE6426841992D0FB054BB16 ]

/-- The inverse S-box. -/
def sboxInv : List Nat :=
  [ 0x52096AD53036A538BF40A39E81F3D7FB7CE339829B2FFF87348E4344C4DEE9CB
  , 0x547B9432A6C2233DEE4C950B42FAC34E082EA16628D924B2765BA2496D8BD125
  , 0x72F8F66486689816D4A45CCC5D65B6926C704850FDEDB9DA5E154657A78D9D84
  , 0x90D8AB008CBCD30AF7E45805B8B34506D02C1E8FCA3F0F02C1AFBD0301138A6B
  , 0x3A9111414F67DCEA97F2CFCEF0B4E67396AC7422E7AD3585E2F937E81C75DF6E
  , 0x47F11A711D29C5896FB7620EAA18BE1BFC563E4BC6D279209ADBC0FE78CD5AF4
  , 0x1FDDA8338807C731B11210592780EC5F60517FA919B54A0D2DE57A9F93C99CEF
  , 0xA0E03B4DAE2AF5B0C8EBBB3C83539961172B047EBA77D626E169146355210C7D ]

/-- An entry of a table of 256 bytes. -/
def boxAt (t : List Nat) (x : Nat) : Nat := t.getD (x / 32) 0 / 2 ^ (8 * (31 - x % 32)) % 256

/-- Multiply by x in the field of AES. -/
def xtime (a : Nat) : Nat := (2 * a % 256) ^^^ (if 128 ≤ a then 0x1B else 0)

/-- Product in the field of AES by a constant below 16. -/
def fmul (c a : Nat) : Nat :=
  (if bit c 0 then a else 0) ^^^ (if bit c 1 then xtime a else 0) ^^^ (if bit c 2 then xtime (xtime a) else 0)
    ^^^ (if bit c 3 then xtime (xtime (xtime a)) else 0)

/-- A column times the circulant matrix whose first row is `m`. -/
def mixColumn (m c : List Nat) : List Nat :=
  (List.range 4).map fun r => ((List.range 4).map fun k => fmul (m.getD ((k + 4 - r) % 4) 0) (c.getD k 0)).foldl (· ^^^ ·) 0

/-- A block of 16 bytes with its four columns mixed. -/
def mixColumns (m st : List Nat) : List Nat :=
  (List.range 4).flatMap fun c => mixColumn m ((st.drop (4 * c)).take 4)

/-- The bytes of a block in an order: byte i of the result is byte `k` × i mod 16, which rotates the rows. -/
def rotateRows (k : Nat) (st : List Nat) : List Nat := (List.range 16).map fun i => st.getD (k * i % 16) 0

/-- Bytes of a block number. -/
def blockBytes (x : Nat) : List Nat := (toBE 16 x).map BitVec.toNat

/-- Add a round key. -/
def addKey (st : List Nat) (k : Nat) : List Nat := List.zipWith (· ^^^ ·) st (blockBytes k)

/-- The S-box on the four bytes of a word. -/
def subWord (w : Nat) : Nat :=
  ((List.range 4).map fun i => boxAt sbox (w / 2 ^ (8 * i) % 256) * 2 ^ (8 * i)).foldl (· + ·) 0

/-- One word of the key schedule: number `i` of a key of `nk` words, with round constant `rc`; `ws` are the words before it,
newest first. -/
def scheduleWord (nk i rc : Nat) (ws : List Nat) : Nat :=
  let t := ws.headD 0
  let t := if i % nk = 0 then subWord (t % 2 ^ 24 * 256 + t / 2 ^ 24) ^^^ rc * 2 ^ 24
    else if 6 < nk && i % nk = 4 then subWord t else t
  ws.getD (nk - 1) 0 ^^^ t

/-- The next `n` words of the key schedule, newest first. -/
def schedule (nk : Nat) : (n i rc : Nat) → List Nat → List Nat
  | 0, _, _, ws => ws
  | n + 1, i, rc, ws => schedule nk n (i + 1) (if i % nk = 0 then xtime rc else rc) (scheduleWord nk i rc ws :: ws)

/-- Words in fours. -/
def fours : List Nat → List Nat
  | a :: b :: c :: d :: r => (((a * 2 ^ 32 + b) * 2 ^ 32 + c) * 2 ^ 32 + d) :: fours r
  | _ => []

/-- The round keys of a key of 16, 24 or 32 bytes. -/
def roundKeys (k : Key) : List Nat :=
  let nk := k.length / 4
  let ws := (List.range nk).map fun i => be k (4 * i) 4
  fours (schedule nk (4 * (nk + 7) - nk) nk 1 ws.reverse).reverse

/-- The rounds of AES after the first key; the last round does not mix. -/
def aesRounds : List Nat → List Nat → List Nat
  | [], st => st
  | [k], st => addKey (rotateRows 5 (st.map (boxAt sbox))) k
  | k :: ks, st => aesRounds ks (addKey (mixColumns [2, 3, 1, 1] (rotateRows 5 (st.map (boxAt sbox)))) k)

/-- The rounds of the inverse cipher, over the round keys from the last but one. -/
def aesInvRounds : List Nat → List Nat → List Nat
  | [], st => st
  | [k], st => addKey ((rotateRows 13 st).map (boxAt sboxInv)) k
  | k :: ks, st => aesInvRounds ks (mixColumns [14, 11, 13, 9] (addKey ((rotateRows 13 st).map (boxAt sboxInv)) k))

/-- A block number from its bytes. -/
def blockOf (st : List Nat) : Nat := st.foldl (fun n b => n * 256 + b) 0

/-- AES of one block under a key. -/
def aes (k : Key) (x : Nat) : Nat :=
  match roundKeys k with
  | [] => 0
  | k :: ks => blockOf (aesRounds ks (addKey (blockBytes x) k))

/-- Inverse AES of one block under a key. -/
def aesInv (k : Key) (x : Nat) : Nat :=
  match (roundKeys k).reverse with
  | [] => 0
  | k :: ks => blockOf (aesInvRounds ks (addKey (blockBytes x) k))

/-- A byte string in blocks of `n` bytes, the last one short; `fuel` bounds the number of blocks. -/
def chunks (n : Nat) : (fuel : Nat) → Bytes → List Bytes
  | 0, _ => []
  | _, [] => []
  | f + 1, bs => bs.take n :: chunks n f (bs.drop n)

/-- Blocks of 16 bytes. -/
def blocks (bs : Bytes) : List Bytes := chunks 16 bs.length bs

/-- Byte strings added without carry, to the shorter length. -/
def xorBytes (a b : Bytes) : Bytes := List.zipWith (· ^^^ ·) a b

/-! ### GCM -/

/-- Product in GF(2^128) of SP 800-38D, bit 0 the most significant: `n` steps over the bits of `x` from the top. -/
def gfMulAux (x : Nat) : (n z v : Nat) → Nat
  | 0, z, _ => z
  | n + 1, z, v =>
    gfMulAux x n (if bit x n then z ^^^ v else z) (if v % 2 = 1 then (v / 2) ^^^ (0xE1 * 2 ^ 120) else v / 2)

/-- Product in GF(2^128). -/
def gfMul (x y : Nat) : Nat := gfMulAux x 128 0 y

/-- GHASH over blocks padded with zeros. -/
def ghash (h : Nat) (bs : Bytes) : Nat :=
  (blocks bs).foldl (fun y b => gfMul (y ^^^ ofBE (fit 16 b)) h) 0

/-- Pad with zeros to whole blocks. -/
def padBlocks (bs : Bytes) : Bytes := bs ++ zeros (roundUp bs.length 16 - bs.length)

/-- Keystream blocks from a counter block; only its low `w` bits count. -/
def keystream (k : Key) (w : Nat) : (n ctr : Nat) → Bytes
  | 0, _ => []
  | n + 1, ctr => toBE 16 (aes k ctr) ++ keystream k w n (ctr / 2 ^ w * 2 ^ w + (ctr + 1) % 2 ^ w)

/-- Counter mode from a counter block whose low `w` bits count. -/
def ctrMode (k : Key) (w ctr : Nat) (bs : Bytes) : Bytes :=
  xorBytes bs (keystream k w (ceilDiv bs.length 16) ctr)

/-- The first counter block of a 96-bit nonce. -/
def gcmJ0 (nonce : Bytes) : Nat := ofBE nonce * 2 ^ 32 + 1

/-- The tag of SP 800-38D over associated data and ciphertext. -/
def gcmTag (k : Key) (nonce aad ct : Bytes) : Bytes :=
  let h := aes k 0
  let y := ghash h (padBlocks aad ++ padBlocks ct ++ toBE 8 (8 * aad.length) ++ toBE 8 (8 * ct.length))
  toBE 16 (y ^^^ aes k (gcmJ0 nonce))

/-- GCM encryption or decryption of the data (the two are one operation). -/
def gcmCrypt (k : Key) (nonce bs : Bytes) : Bytes := ctrMode k 32 (gcmJ0 nonce + 1) bs

/-! ### CMAC -/

/-- Doubling in GF(2^128) of SP 800-38B. -/
def cmacDouble (x : Nat) : Nat :=
  (2 * x) % 2 ^ 128 ^^^ (if bit x 127 then 0x87 else 0)

/-- AES-CMAC of SP 800-38B: 16 bytes. -/
def cmac (k : Key) (m : Bytes) : Bytes :=
  let k1 := cmacDouble (aes k 0)
  let n := if m.length = 0 then 1 else ceilDiv m.length 16
  let last := m.drop (16 * (n - 1))
  let lastBlock :=
    if last.length = 16 then ofBE last ^^^ k1
    else ofBE (fit 16 (last ++ [0x80])) ^^^ cmacDouble k1
  let x := (blocks (m.take (16 * (n - 1)))).foldl (fun c b => aes k (c ^^^ ofBE b)) 0
  toBE 16 (aes k (x ^^^ lastBlock))

/-! ### XTS -/

/-- Multiply an XTS tweak by the primitive element; tweaks are little-endian (IEEE 1619). -/
def xtsNext (t : Nat) : Nat := (2 * t) % 2 ^ 128 ^^^ (if bit t 127 then 0x87 else 0)

/-- A tweak (a little-endian number) as the big-endian number of its bytes. -/
def flip16 (t : Nat) : Nat := ofBE (toLE 16 t)

/-- One block of XTS under a tweak. -/
def xtsBlock (enc : Bool) (k : Key) (t : Nat) (b : Bytes) : Bytes :=
  let x := ofBE b ^^^ flip16 t
  toBE 16 ((if enc then aes k x else aesInv k x) ^^^ flip16 t)

/-- Whole blocks of XTS, the tweak doubled after each; answers the result and the next tweak. -/
def xtsBlocks (enc : Bool) (k : Key) : Nat → List Bytes → Bytes × Nat
  | t, [] => ([], t)
  | t, b :: r =>
    let q := xtsBlocks enc k (xtsNext t) r
    (xtsBlock enc k t b ++ q.1, q.2)

/-- One data unit of XTS with ciphertext stealing; `key` is the data key followed by the tweak key. -/
def xtsUnit (enc : Bool) (key : Key) (unit : Nat) (bs : Bytes) : Bytes :=
  let h := key.length / 2
  let k1 := key.take h
  let t0 := ofLE (toBE 16 (aes (key.drop h) (ofBE (toLE 16 unit))))
  let rest := bs.length % 16
  if rest = 0 then (xtsBlocks enc k1 t0 (blocks bs)).1
  else
    let whole := bs.length / 16 - 1
    let head := xtsBlocks enc k1 t0 (blocks (bs.take (16 * whole)))
    let t := head.2
    let full := slice bs (16 * whole) 16
    let part := bs.drop (16 * whole + 16)
    let ta := if enc then t else xtsNext t
    let tb := if enc then xtsNext t else t
    let c := xtsBlock enc k1 ta full
    head.1 ++ xtsBlock enc k1 tb (part ++ c.drop rest) ++ c.take rest

/-- XTS over data units of `size` bytes numbered from `unit`. -/
def xts (enc : Bool) (key : Key) (size unit : Nat) (bs : Bytes) : Bytes :=
  let us := chunks size bs.length bs
  ((List.range us.length).zip us).flatMap fun p => xtsUnit enc key ((unit + p.1) % 2 ^ 128) p.2

/-! ### Key wrap -/

/-- The default initial value of RFC 3394. -/
def kwIV : Nat := 0xA6A6A6A6A6A6A6A6

/-- One of the six passes of RFC 3394 over the registers, from counter `t`. -/
def wrapPass (k : Key) : Nat → Nat → List Nat → Nat × List Nat
  | a, _, [] => (a, [])
  | a, t, r :: rs =>
    let b := aes k (a * 2 ^ 64 + r)
    let q := wrapPass k (b / 2 ^ 64 ^^^ t) (t + 1) rs
    (q.1, b % 2 ^ 64 :: q.2)

/-- Passes of RFC 3394. -/
def wrapPasses (k : Key) (n : Nat) : (j : Nat) → Nat → List Nat → Nat × List Nat
  | 0, a, rs => (a, rs)
  | j + 1, a, rs =>
    let q := wrapPass k a (n * (5 - j) + 1) rs
    wrapPasses k n j q.1 q.2

/-- RFC 3394 wrap: 8 bytes more than the key. -/
def keyWrap (kek key : Bytes) : Bytes :=
  let rs := (chunks 8 key.length key).map ofBE
  let q := wrapPasses kek rs.length 6 kwIV rs
  toBE 8 q.1 ++ q.2.flatMap (toBE 8)

/-- One unwrapping pass, over the registers from the last. -/
def unwrapPass (k : Key) : Nat → Nat → List Nat → Nat × List Nat
  | a, _, [] => (a, [])
  | a, t, r :: rs =>
    let b := aesInv k ((a ^^^ t) * 2 ^ 64 + r)
    let q := unwrapPass k (b / 2 ^ 64) (t - 1) rs
    (q.1, b % 2 ^ 64 :: q.2)

/-- Unwrapping passes. -/
def unwrapPasses (k : Key) (n : Nat) : (j : Nat) → Nat → List Nat → Nat × List Nat
  | 0, a, rs => (a, rs)
  | j + 1, a, rs =>
    let q := unwrapPass k a (n * (j + 1)) rs
    unwrapPasses k n j q.1 q.2

/-- RFC 3394 unwrap; `none` when the integrity check fails. -/
def keyUnwrap (kek bs : Bytes) : Option Bytes :=
  let rs := ((chunks 8 bs.length bs).map ofBE).drop 1
  let q := unwrapPasses kek rs.length 6 (ofBE (bs.take 8)) rs.reverse
  if q.1 = kwIV then some (q.2.reverse.flatMap (toBE 8)) else none

/-! ### Key derivation -/

/-- SP 800-108 counter mode with AES-CMAC: `len` bytes (Table 8-5). -/
def kdf (k : Key) (data : Bytes) (len : Nat) : Bytes :=
  ((List.range (ceilDiv len 16)).flatMap fun i =>
    cmac k (toBE 4 (i + 1) ++ data ++ toBE 4 (8 * len))).take len

end Sys2Proof.Machine
end

