-- ==== Sys2Proof/Config.lean ====
section
/-! DEFINITION. What an implementation fixes and what the manual leaves open: constants without a body, so that
nothing proved about the model depends on their values. -/

namespace Sys2Proof.Config

/-- The serial number 0x1000:04 of the device. -/
opaque serial : BitVec 64

/-- The MAC address of the device at a port 0–1023, at M0 and M1 (1024, 1025), and on vport n (1026 + n): the manual names none
(log entry 59). -/
opaque macAddress : (place : Nat) → BitVec 48

/-- The n-th open value drawn (log entry 5). -/
opaque freeValue : Nat → Nat

/-- The Krovrad key `i` fused at manufacture: a P-384 public key, 0x04 followed by X and Y (R352, R359; log entry 6). -/
opaque krovradKey : (i : Nat) → BitVec 776

/-- The n-th byte string drawn from a DRBG instance, as a number (R205; log entry 6). -/
opaque drbg : (inst n len : Nat) → Nat

/-- The hash of an inner 5-tuple that R98 maps into the UDP source port and the flow label (log entry 5). -/
opaque flowHash : (source target proto sport dport : Nat) → BitVec 32

/-- The adaptive proportion cutoff 0x6020:03: the smallest C for which a binomial variable of 1,024 trials with probability
2^−0.5 is C or more with probability at most 2^−40 (R207). -/
def proportionCutoff : BitVec 16 := 824

/-- The store key, derived from the device-unique secret, under which committed keys are wrapped (R196; log entry 6). -/
opaque storeKey : BitVec 256

/-- Bytes of image 0 of the expansion ROM for a firmware version, but for its headers (R237; log entry 5). -/
opaque romByte : (version off : Nat) → BitVec 8

/-- What a fault found by self-test at reset leaves of a failed unit: true when it passes (R362; log entry 8). -/
opaque retestPasses : (row : Nat) → Bool

/-- Bytes 36 to 63 of a buffer's header, in internal form (Table 5-2, log entry 5). -/
opaque headerActions : (handle : Nat) → BitVec 224

end Sys2Proof.Config
end

