-- ==== Sys2Proof/Machine/Flags.lean ====
section
/-! DEFINITION. The parser of a pass (R77): what it finds in the first 256 bytes of a frame and the flags of
Table 4-2. Offsets count from the first byte of the outer destination address; frames are without FCS. -/

namespace Sys2Proof.Machine

/-- What the parser found of one Ethernet frame: the outer one, or the one behind a tunnel header. `ip` is 0, 4 or 6;
`l3` is the offset behind the EtherType, `l4` that of the layer 4 header. -/
structure Layer where
  at_    : Nat := 0
  dst    : Nat := 0
  src    : Nat := 0
  vlans  : List (Nat × Nat) := []
  tag3   : Bool := false
  rtag   : Option Nat := none
  etype  : Nat := 0
  l3     : Nat := 0
  ip     : Nat := 0
  ipSrc  : Nat := 0
  ipDst  : Nat := 0
  proto  : Nat := 0
  dscp   : Nat := 0
  flow   : Nat := 0
  ttl    : Nat := 0
  ipLen  : Nat := 0
  frag   : Bool := false
  opt    : Bool := false
  limit  : Bool := false
  err    : Bool := false
  l4     : Option Nat := none
  sport  : Nat := 0
  dport  : Nat := 0
  tcp    : Nat := 0
  spi    : Nat := 0
  esp    : Bool := false
  depth  : Bool := false
  deriving DecidableEq, Repr

/-- What the parser found of a frame. -/
structure Parsed where
  outer   : Layer := {}
  inner   : Option Layer := none
  macsec  : Bool := false
  sci     : Nat := 0
  vxlan   : Bool := false
  geneve  : Bool := false
  crit    : Bool := false
  vni     : Nat := 0
  gopt    : Nat := 0
  /-- Offset of the VXLAN or Geneve header and of the frame behind it. -/
  tunAt   : Nat := 0
  innerAt : Nat := 0
  ptp     : Option (Nat × Nat) := none
  first4  : Nat := 0
  depth   : Bool := false
  deriving DecidableEq, Repr

/-- A header that ends at `e` is parsed: it lies within the frame and within the first 256 bytes. -/
def parses (bs : Bytes) (e : Nat) : Bool := decide (e ≤ bs.length) && decide (e ≤ 256)

/-- Parsing stopped at byte 256 before a header that would end at `e`. -/
def stopsAt (bs : Bytes) (e : Nat) : Bool := decide (256 < e) && decide (256 ≤ bs.length)

/-- The TPIDs of an outer tag. -/
def isTpid (t : Nat) : Bool := t == 0x8100 || t == 0x88A8

/-- Set the EtherType that stands at `a`. -/
def Layer.typed (l : Layer) (bs : Bytes) (a : Nat) : Layer := { l with etype := be bs a 2, l3 := a + 2 }

/-- The R-tag, where the EtherType at hand names one. -/
def Layer.withRtag (l : Layer) (bs : Bytes) : Layer :=
  if l.etype = 0xF1C1 then
    if parses bs (l.l3 + 6) then { (l.typed bs (l.l3 + 4)) with rtag := some (be bs (l.l3 + 2) 2) }
    else { l with depth := stopsAt bs (l.l3 + 6) }
  else l

/-- Ethernet II with up to two VLAN tags and an R-tag, from offset `a`. -/
def parseEth (bs : Bytes) (a : Nat) : Layer :=
  if !parses bs (a + 14) then { at_ := a, depth := stopsAt bs (a + 14) }
  else
    let l := ({ at_ := a, dst := be bs a 6, src := be bs (a + 6) 6 } : Layer).typed bs (a + 12)
    if !isTpid l.etype then l.withRtag bs
    else if !parses bs (a + 18) then { l with depth := stopsAt bs (a + 18) }
    else
      let l : Layer := { (l.typed bs (a + 16)) with vlans := [(l.etype, be bs (a + 14) 2)] }
      if l.etype ≠ 0x8100 then l.withRtag bs
      else if !parses bs (a + 22) then { l with depth := stopsAt bs (a + 22) }
      else
        let l : Layer := { (l.typed bs (a + 20)) with vlans := l.vlans ++ [(0x8100, be bs (a + 18) 2)] }
        if isTpid l.etype then { l with tag3 := true } else l.withRtag bs

/-- The layer 4 header at `a`: UDP, TCP or ESP. -/
def Layer.withL4 (l : Layer) (bs : Bytes) (a : Nat) : Layer :=
  if l.proto = 17 then
    if parses bs (a + 8) then { l with l4 := some a, sport := be bs a 2, dport := be bs (a + 2) 2 }
    else { l with depth := stopsAt bs (a + 8) }
  else if l.proto = 6 then
    if parses bs (a + 20) then
      { l with l4 := some a, sport := be bs a 2, dport := be bs (a + 2) 2, tcp := be bs (a + 13) 1 }
    else { l with depth := stopsAt bs (a + 20) }
  else if l.proto = 50 then
    if parses bs (a + 8) then { l with l4 := some a, spi := be bs a 4, esp := true }
    else { l with depth := stopsAt bs (a + 8) }
  else l

/-- The IPv4 header at `l3`. -/
def Layer.withIp4 (l : Layer) (bs : Bytes) : Layer :=
  let a := l.l3
  if !parses bs (a + 20) then { l with depth := stopsAt bs (a + 20) }
  else if be bs a 1 / 16 ≠ 4 then l
  else
    let ihl := be bs a 1 % 16
    let fo := be bs (a + 6) 2
    let len := be bs (a + 2) 2
    let l := { l with ip := 4, ipSrc := be bs (a + 12) 4, ipDst := be bs (a + 16) 4, proto := be bs (a + 9) 1,
                      dscp := be bs (a + 1) 1, ttl := be bs (a + 8) 1, ipLen := len, opt := decide (5 < ihl),
                      frag := bit fo 13 || decide (fo % 8192 ≠ 0),
                      err := decide (ihl < 5) || decide (bs.length < a + len) }
    if ihl < 5 then l
    else if !parses bs (a + 4 * ihl) then { l with depth := stopsAt bs (a + 4 * ihl) }
    else
      let l := { l with err := l.err || decide (onesSum (slice bs a (4 * ihl)) ≠ 65535) }
      if fo % 8192 ≠ 0 then l else l.withL4 bs (a + 4 * ihl)

/-- The extension headers that are parsed. -/
def isExt (n : Nat) : Bool := n == 0 || n == 43 || n == 44 || n == 60

/-- Up to `n` extension headers at `a`, then layer 4; `later` when a fragment header gave an offset. -/
def Layer.withExt (l : Layer) (bs : Bytes) (a : Nat) (later : Bool) : Nat → Layer
  | 0 => if isExt l.proto then { l with limit := true } else if later then l else l.withL4 bs a
  | n + 1 =>
    if !isExt l.proto then if later then l else l.withL4 bs a
    else if !parses bs (a + 8) then { l with depth := stopsAt bs (a + 8) }
    else
      let len := if l.proto = 44 then 8 else 8 * (be bs (a + 1) 1 + 1)
      if !parses bs (a + len) then { l with depth := stopsAt bs (a + len) }
      else
        let off := decide (l.proto = 44) && decide (be bs (a + 2) 2 / 8 ≠ 0)
        ({ l with proto := be bs a 1, opt := true, frag := l.frag || decide (l.proto = 44) } : Layer).withExt bs
          (a + len) (later || off) n

/-- The IPv6 header at `l3`. -/
def Layer.withIp6 (l : Layer) (bs : Bytes) : Layer :=
  let a := l.l3
  if !parses bs (a + 40) then { l with depth := stopsAt bs (a + 40) }
  else if be bs a 1 / 16 ≠ 6 then l
  else
    let len := be bs (a + 4) 2
    let l := { l with ip := 6, ipSrc := be bs (a + 8) 16, ipDst := be bs (a + 24) 16, proto := be bs (a + 6) 1,
                      dscp := be bs a 2 / 16 % 256, flow := be bs a 4 % 2 ^ 20, ttl := be bs (a + 7) 1, ipLen := len,
                      err := decide (bs.length < a + 40 + len) }
    l.withExt bs (a + 40) false 2

/-- One Ethernet frame with its IP and layer 4 headers. -/
def parseLayer (bs : Bytes) (a : Nat) : Layer :=
  let l := parseEth bs a
  if l.depth || l.tag3 then l
  else if l.etype = 0x0800 then l.withIp4 bs
  else if l.etype = 0x86DD then l.withIp6 bs
  else l

/-- Where the layer 4 payload of a frame starts. -/
def Layer.udpAt (l : Layer) : Option Nat := if l.proto = 17 then l.l4.map (· + 8) else none

/-- A PTP header at `a`: its message type and domain. -/
def Parsed.withPtp (p : Parsed) (bs : Bytes) (a : Nat) : Parsed :=
  if parses bs (a + 34) then { p with ptp := some (be bs a 1 % 16, be bs (a + 4) 1) }
  else { p with depth := p.depth || stopsAt bs (a + 34) }

/-- The frame behind a tunnel header; of its flags only DEPTH counts (log entry 24). -/
def Parsed.withInner (p : Parsed) (bs : Bytes) (a : Nat) : Parsed :=
  let i := parseLayer bs a
  { p with inner := some i, innerAt := a, depth := p.depth || i.depth }

/-- What stands on UDP: VXLAN, Geneve or PTP (R77). -/
def Parsed.withUdp (p : Parsed) (bs : Bytes) (vx gn a : Nat) : Parsed :=
  let l := p.outer
  if l.dport = vx then
    if parses bs (a + 8) then
      ({ p with vxlan := true, vni := be bs (a + 4) 3, tunAt := a } : Parsed).withInner bs (a + 8)
    else { p with depth := p.depth || stopsAt bs (a + 8) }
  else if l.dport = gn then
    if parses bs (a + 8) then
      let opts := be bs a 1 % 64 * 4
      let p := { p with geneve := true, vni := be bs (a + 4) 3, tunAt := a, crit := bit (be bs (a + 1) 1) 6 }
      if parses bs (a + 8 + opts) then
        let p := { p with gopt := if opts = 0 then 0 else be bs (a + 8) 3 }
        if be bs (a + 2) 2 = 0x6558 then p.withInner bs (a + 8 + opts) else { p with innerAt := a + 8 + opts }
      else { p with innerAt := a + 8 + opts, depth := p.depth || stopsAt bs (a + 8 + opts) }
    else { p with depth := p.depth || stopsAt bs (a + 8) }
  else if l.dport = 319 || l.dport = 320 then p.withPtp bs a
  else p

/-- The SecTAG behind EtherType 0x88E5; without an explicit SCI it is derived from the source address and port
identifier 1 (log entry 25). -/
def Parsed.withSecTag (p : Parsed) (bs : Bytes) : Parsed :=
  let a := p.outer.l3
  let sc := bit (be bs a 1) 5
  let e := if sc then a + 14 else a + 6
  if parses bs e then
    { p with macsec := true, sci := if sc then be bs (a + 6) 8 else p.outer.src * 65536 + 1 }
  else { p with depth := p.depth || stopsAt bs e }

/-- The parser (R77), with the UDP ports of 0x5000:01 and :02. -/
def parseFrame (vx gn : Nat) (bs : Bytes) : Parsed :=
  let l := parseLayer bs 0
  let p : Parsed := { outer := l, depth := l.depth, first4 := if parses bs (l.l3 + 4) then be bs l.l3 4 else 0 }
  if l.etype = 0x88E5 then p.withSecTag bs
  else if l.etype = 0x88F7 then p.withPtp bs l.l3
  else match l.udpAt with
    | some a => p.withUdp bs vx gn a
    | none => p

/-- The parser flags of Table 4-2 (catalogue field 22). -/
def Parsed.flags (p : Parsed) (pass2 pd host : Bool) : Nat :=
  let l := p.outer
  [pass2, pd, p.ptp.isSome, p.macsec, l.esp, p.vxlan, p.geneve, p.crit, l.frag, l.opt, l.limit, p.depth, l.err,
    l.tag3, l.rtag.isSome, host].foldl (fun n b => 2 * n + b.toNat) 0

end Sys2Proof.Machine
end

