-- ==== Sys2Proof/Machine/Dolux.lean ====
section
/-! DEFINITION. Dolux messages and the frames that carry them (R41–R43), the items of a request (R42), and the UDP
datagrams and other answers that the device itself sends. -/

namespace Sys2Proof.Machine

/-! ### Items (R42) -/

/-- An item of a request: its opcode (Table 2-11), index, subindex and data. -/
structure ReqItem where
  op   : Nat
  ix   : Nat
  sub  : Nat
  data : Bytes
  deriving DecidableEq, Repr

/-- Up to `n` items of an opcode from the bytes of a request; one that runs past the end is none (log entry 58). -/
def itemsOf (op : Nat) : (n : Nat) → Bytes → List ReqItem
  | 0, _ => []
  | n + 1, bs =>
    let len := be bs 4 2
    if bs.length < 6 + len then []
    else { op := op, ix := be bs 0 2, sub := be bs 2 1, data := slice bs 6 len }
      :: itemsOf op n (bs.drop (roundUp (6 + len) 4))

/-- A request item as bytes. -/
def ReqItem.bytes (q : ReqItem) : Bytes :=
  let b := toBE 2 q.ix ++ toBE 1 q.sub ++ [0] ++ toBE 2 q.data.length ++ q.data
  b ++ zeros (roundUp b.length 4 - b.length)

/-- A READ item. -/
abbrev readReq (ix sub : Nat) : ReqItem := ⟨1, ix, sub, []⟩

/-- A WRITE item. -/
abbrev writeReq (ix sub : Nat) (data : Bytes) : ReqItem := ⟨2, ix, sub, data⟩

/-- A DOMAIN_READ item. -/
def domainReadReq (ix sub off max : Nat) : ReqItem := ⟨3, ix, sub, toBE 4 off ++ toBE 2 max ++ [0, 0]⟩

/-- A DOMAIN_WRITE item. -/
def domainWriteReq (ix sub off total : Nat) (data : Bytes) : ReqItem := ⟨4, ix, sub, toBE 4 off ++ toBE 4 total ++ data⟩

/-! ### Messages (R41, R43) -/

/-- The outer headers of the frame that carries a message. -/
def msgLayer (m : DoluxMsg) : Layer := parseLayer m.frame 0

/-- The UDP payload, which is the message (R41). -/
def msgBytes (m : DoluxMsg) : Bytes :=
  match (msgLayer m).udpAt with
  | none => []
  | some a => slice m.frame a (be m.frame (a - 4) 2 - 8)

/-- A field of the header (Table 2-10). -/
def msgField (m : DoluxMsg) (a n : Nat) : Nat := be (msgBytes m) a n

abbrev msgVersion (m : DoluxMsg) : Nat := msgField m 0 1
abbrev msgOpcode (m : DoluxMsg) : Nat := msgField m 1 1
abbrev msgDest (m : DoluxMsg) : Nat := msgField m 2 2
abbrev msgSource (m : DoluxMsg) : Nat := msgField m 4 2
abbrev msgSequence (m : DoluxMsg) : Nat := msgField m 6 4
abbrev msgCount (m : DoluxMsg) : Nat := msgField m 10 2
abbrev msgStop (m : DoluxMsg) : Bool := bit (msgField m 12 1) 0
abbrev msgKey (m : DoluxMsg) : Nat := msgField m 13 1
abbrev msgPayload (m : DoluxMsg) : Nat := msgField m 14 2

/-- The replay counter in the trailer (R43). -/
def msgCounter (m : DoluxMsg) : Nat := be (msgBytes m) ((msgBytes m).length - 24) 8

/-- The tag: the last 16 bytes. -/
def msgTag (m : DoluxMsg) : Bytes := (msgBytes m).drop ((msgBytes m).length - 16)

/-- What the tag covers: header, items and replay counter (R43). -/
def msgCovered (m : DoluxMsg) : Bytes := (msgBytes m).take ((msgBytes m).length - 16)

/-- The items of the message (R42). -/
def msgItems (m : DoluxMsg) : List ReqItem := itemsOf (msgOpcode m) (msgCount m) (slice (msgBytes m) 16 (msgPayload m))

/-- The network address that the message came from. -/
def msgAddress (m : DoluxMsg) : Nat := (msgLayer m).ipSrc

/-- A datagram that is dropped unread (R41, R42): sent to a group, of a length other than 40 to 1,400 bytes, of another version or
opcode, or with items that are not the bytes between header and trailer (log entry 58). -/
def msgMalformed (m : DoluxMsg) : Bool :=
  let n := (msgBytes m).length
  bit (be m.frame 0 1) 0 || decide (n < 40) || decide (1400 < n) || msgVersion m != 1
    || !(decide (1 ≤ msgOpcode m) && decide (msgOpcode m ≤ 5)) || msgPayload m != n - 40 || msgPayload m % 4 != 0

/-! ### Frames that the device sends -/

/-- The Ethernet header of an answer: the addresses exchanged, the tags and the EtherType kept. -/
def answerEth (bs : Bytes) (l : Layer) : Bytes := slice bs 6 6 ++ slice bs 0 6 ++ slice bs 12 (l.l3 - 12)

/-- The one's complement sum of a pseudo-header and a payload, as a checksum field; 0 is sent as all ones. -/
def pseudoSum (src dst : Bytes) (proto : Nat) (bs : Bytes) : Nat :=
  let c := checksum (src ++ dst ++ toBE 4 bs.length ++ toBE 4 proto ++ bs)
  if c = 0 then 65535 else c

/-- A 16-bit checksum put into a payload at `a`. -/
def withSum (bs : Bytes) (a c : Nat) : Bytes := splice bs a (toBE 2 c)

/-- The IP packet of an answer to a packet with headers `l`: addresses exchanged, hop limit `ttl` (log entry 59). -/
def answerIp (l : Layer) (ttl : Nat) (payload : Bytes) : Bytes :=
  if l.ip = 4 then
    let h := [0x45, 0] ++ toBE 2 (20 + payload.length) ++ [0, 0, 0, 0] ++ toBE 1 ttl ++ toBE 1 l.proto ++ [0, 0]
      ++ toBE 4 l.ipDst ++ toBE 4 l.ipSrc
    withSum h 10 (checksum h) ++ payload
  else
    [0x60, 0, 0, 0] ++ toBE 2 payload.length ++ toBE 1 l.proto ++ toBE 1 ttl ++ toBE 16 l.ipDst ++ toBE 16 l.ipSrc ++ payload

/-- The addresses of an answer's pseudo-header: source, destination. -/
def answerAddrs (l : Layer) : Bytes × Bytes :=
  let n := if l.ip = 4 then 4 else 16
  (toBE n l.ipDst, toBE n l.ipSrc)

/-- A frame, without FCS, that answers a UDP datagram: every address and port exchanged. -/
def answerUdp (bs : Bytes) (l : Layer) (payload : Bytes) : Bytes :=
  let u := toBE 2 l.dport ++ toBE 2 l.sport ++ toBE 2 (8 + payload.length) ++ [0, 0] ++ payload
  let (a, b) := answerAddrs l
  answerEth bs l ++ answerIp l 64 (withSum u 6 (pseudoSum a b 17 u))

/-- Number of a place, as Config.macAddress counts them. -/
def placeNo : DoluxPlace → Nat
  | .port p => p.val
  | .mgmt .m0 => 1024
  | .mgmt .m1 => 1025
  | .vport n => 1026 + n.val

/-- The device's MAC address at a place. -/
def placeMac (at_ : DoluxPlace) : Bytes := toBE 6 (Config.macAddress (placeNo at_)).toNat

/-- The Ethernet header of an answer from an address of the device's own. -/
def answerEthAs (mac bs : Bytes) (l : Layer) : Bytes := slice bs 6 6 ++ mac ++ slice bs 12 (l.l3 - 12)

/-- The answer to an ARP request. -/
def arpReply (mac bs : Bytes) (l : Layer) : Bytes :=
  let a := l.l3
  answerEthAs mac bs l ++ slice bs a 6 ++ [0, 2] ++ mac ++ slice bs (a + 24) 4 ++ slice bs (a + 8) 10

/-- The answer to a neighbour solicitation: a solicited advertisement of the target, to all nodes where the sender has no
address yet. -/
def ndReply (mac bs : Bytes) (l : Layer) : Bytes :=
  let target := be bs (l.l3 + 48) 16
  let known := decide (l.ipSrc ≠ 0)
  let dest := if known then l.ipSrc else 0xFF02 * 2 ^ 112 + 1
  let na := [136, 0, 0, 0, if known then 0x60 else 0x20, 0, 0, 0] ++ toBE 16 target ++ [2, 1] ++ mac
  let eth := if known then answerEthAs mac bs l else [0x33, 0x33, 0, 0, 0, 1] ++ mac ++ slice bs 12 (l.l3 - 12)
  eth ++ answerIp { l with ipDst := target, ipSrc := dest } 255
    (withSum na 2 (pseudoSum (toBE 16 target) (toBE 16 dest) 58 na))

/-- Where the payload of an IP packet stands, and its length; extension headers are none of it. -/
def ipPayload (bs : Bytes) (l : Layer) : Nat × Nat :=
  let h := if l.ip = 4 then 4 * (be bs l.l3 1 % 16) else 40
  (l.l3 + h, if l.ip = 4 then l.ipLen - h else l.ipLen)

/-- The answer to an ICMP or ICMPv6 echo request. -/
def echoReply (bs : Bytes) (l : Layer) : Bytes :=
  let (a, n) := ipPayload bs l
  let b := [if l.ip = 4 then 0 else 129, 0, 0, 0] ++ slice bs (a + 4) (n - 4)
  let (src, dst) := answerAddrs l
  answerEth bs l ++ answerIp l 64 (withSum b 2 (if l.ip = 4 then checksum b else pseudoSum src dst 58 b))

/-- The message of a response (R42–R44): the request's header answered, `count` items, the device's transmit counter, the tag
over all of it that `mac` computes. -/
def responseBytes (m : DoluxMsg) (node count : Nat) (items : Bytes) (tx : Nat) (mac : Bytes → Bytes) : Bytes :=
  let b := [1] ++ toBE 1 (msgOpcode m + 128) ++ toBE 2 (msgSource m) ++ toBE 2 node ++ toBE 4 (msgSequence m) ++ toBE 2 count
    ++ toBE 1 (msgStop m).toNat ++ toBE 1 (msgKey m) ++ toBE 2 items.length ++ items ++ toBE 8 tx
  b ++ mac b

end Sys2Proof.Machine
end

