-- ==== Sys2Proof/Machine/State.lean ====
section
/-! DEFINITION. The state of the block as plain data. Every dictionary object of the manual is a cell of
`State.dict`, addressed by index, row and subindex; every register of a host function or thread is a word of
`State.regs`, addressed by master id and offset; what stands behind them is in the records below. A cell,
word or byte that a map does not list reads as its default (Machine/Objects.lean, Machine/Registers.lean). -/

namespace Sys2Proof.Machine

/-- A finite map from numbers, in one canonical form: keys strictly rising, no entry equal to its default. -/
abbrev NMap (α : Type) := List (Nat × α)

/-- Faults. The block has no event that stops it, so the one constructor names a step that cannot occur. -/
inductive Fault where
  /-- Raised by no meaning of the model; safe. -/
  | impossible
  deriving DecidableEq, Repr

/-- Refusals. -/
inductive Refusal where
  /-- Raised by an arm of `exec` whose meaning is not written yet; safe. -/
  | notModelled (mnemonic : String)
  deriving DecidableEq, Repr

/-! ### What leaves the block -/

/-- What the block sends out: to the hosts, to the wire and on its pins. Newest first in `State.out`. -/
inductive Output where
  /-- The answer to a firmware thread's dictionary request: status and value (R31, R40). -/
  | answer (thread ix sub status : Nat) (data : Bytes)
  /-- An MSI-X message of a function (master id) on a vector (R284). -/
  | msix (master vector : Nat)
  /-- What a read of a register returned (R7, R270, R278). The owner is the master id of the function or thread; that of its
  configuration space is 0x4000 more, that of its expansion ROM 0x8000 more. -/
  | regRead (owner off value : Nat)
  /-- A posted write of a function to host memory (R260, R263, R199, R219). -/
  | hostWrite (master addr : Nat) (data : Bytes)
  /-- A read request of a function with its tag (R239). -/
  | hostRead (master tag addr len : Nat)
  /-- A frame on the wire of a port, FCS included; `cut` when an error code ends it (R65, R67, R363). -/
  | frame (port : Nat) (bytes : Bytes) (cut : Bool)
  /-- A frame sent on a management lane, without its FCS (R71). -/
  | mgmt (lane : Nat) (bytes : Bytes)
  /-- A PM_PME message (R249). -/
  | pme (master : Nat)
  /-- A level of an output pin: PA_WAKE_N, PB_WAKE_N, TRIP_N, PPS_OUT (R250, R385, R329). -/
  | pin (name : String) (level : Bool)
  /-- An AER report of a function with its severity (R242–R244). -/
  | aer (master : Nat) (what : String) (fatal : Bool)
  /-- What the transmitter of a lane (M0 and M1: 64 and 65) begins to send (Table 3-2). -/
  | laneSignal (lane : Nat) (what : String)
  /-- A request to switch to calendar 0 or 1 in a lane's FlexE overhead (R59). -/
  | calendarRequest (lane cal : Nat)
  /-- What a thread operation returns to its thread: value and status (R107, R289, R290). -/
  | thread (n value status : Nat)
  /-- A PMBus command to a rail (R340–R342). -/
  | pmbus (address command value : Nat)
  /-- A pair message on the Fozon link (R374). -/
  | pair (msg : PairMsg)
  /-- A record mirrored to the partner's log (R374). -/
  | mirrorRecord (e : Event)
  deriving DecidableEq, Repr

/-! ### The dictionary side -/

/-- A master's view of one WINDOW object (R24): the row it selected, the value its selector reads, its staging
(values that differ from the defaults), the fields written since the staging was last loaded, the key-written
marks (R25). -/
structure Window where
  master   : Nat
  index    : Nat
  selected : Option Nat := none
  selector : Nat := 0
  staged   : List (Nat × Nat) := []
  written  : List Nat := []
  marks    : List Nat := []
  deriving DecidableEq, Repr

/-- A change of one row by COMMIT or CLEAR: the fields it sets (subindex, value), those that the master wrote since it
loaded its staging, and what the fields held when the change was made. -/
structure RowChange where
  index   : Nat
  row     : Nat
  clear   : Bool
  new     : List (Nat × Nat)
  written : List Nat
  old     : List (Nat × Nat)
  deriving DecidableEq, Repr

/-- An open batch of a master (R88). -/
structure Batch where
  master : Nat
  opened : Nat
  held   : List RowChange := []
  deriving DecidableEq, Repr

/-- A table version that has landed and not yet taken effect (R87): what its cells held before it, and the item (path,
index, subindex) whose response waits for it; no path once an FLR has ended the request (R48). -/
structure Version where
  undo : List (Nat × Nat)
  via  : Option Via
  ix   : Nat
  sub  : Nat
  deriving DecidableEq, Repr

/-- An open DOMAIN transfer (R26). -/
structure Transfer where
  index  : Nat
  sub    : Nat
  master : Nat
  total  : Nat
  data   : Bytes
  last   : Nat
  deriving DecidableEq, Repr

/-- Replay state of a Dolux key (R44): accepted counters of the window, transmit counter, acceptances since the
last flash write. -/
structure DoluxKey where
  seen     : List Nat := []
  tx       : Nat := 0
  accepted : Nat := 0
  deriving DecidableEq, Repr

/-- A request that is being executed (R42, R47): the Dolux message of a key or the request of a window, its items as they
were copied, the item that comes next, how many are answered, the response so far, whether every item answers AUTH
(R43), and whether it waits for the fresh-key record (R44). -/
structure Session where
  msg      : Option DoluxMsg := none
  items    : List ReqItem := []
  stop     : Bool := false
  auth     : Bool := false
  held     : Bool := false
  next     : Nat := 0
  answered : Nat := 0
  resp     : Bytes := []
  deriving DecidableEq, Repr

/-- A lease operation that took its slot at time `at_` (quarters of a nanosecond): the domain, its explicit holder before, and
the path (R38). -/
structure LeaseSlot where
  at_  : Nat
  head : Nat
  old  : Nat
  path : Nat
  deriving DecidableEq, Repr

/-- The outcome of a master's last admission-checked write (0x4001:02–:09, R155). -/
structure Verdict where
  status    : Nat := 0
  cause     : Nat := 0
  stream    : Nat := 0xFFFFFFFF
  computed  : Nat := 0
  granted   : Nat := 0
  handoff   : Nat := 0
  count     : Nat := 0
  conflicts : List Nat := []
  deriving DecidableEq, Repr

/-- Dictionary state behind the objects. -/
structure Access where
  /-- Row selectors and staging of every master and window; R24; reset: none. -/
  windows   : List Window := []
  /-- Open batches; R88; reset: none. -/
  batches   : List Batch := []
  /-- Number of the table version in effect; R87; reset 0. -/
  version   : Nat := 0
  /-- Landed table versions not yet in effect, oldest first; R87; reset: none. -/
  versions  : List Version := []
  /-- The exact table has held more than 3,670,016 valid rows since the reset; R86; reset: no. -/
  crossed   : Bool := false
  /-- Open DOMAIN transfers; R26; reset: none. -/
  transfers : List Transfer := []
  /-- Contents of DOMAIN objects by (index, subindex); R26; reset: empty. -/
  blobs     : NMap Bytes := []
  /-- Replay state by key id; R44; reset: counters 0. -/
  keys      : NMap DoluxKey := []
  /-- Requests in execution: by key id, and 256 and 257 for the windows of Port A and Port B; R42, R47; reset: none. -/
  sessions  : NMap (Option Session) := []
  /-- Accepted messages that wait for an earlier one of their key, in order of arrival, each with whether it is answered
  AUTH; R45; reset: none. -/
  doluxWait : List (DoluxMsg × Bool) := []
  /-- Lease operations of this cycle; R38; reset: none. -/
  slots     : List LeaseSlot := []
  /-- Start (ns) and count of the Dolux rate window; R45; reset 0, 0. -/
  rateStart : Nat := 0
  rateCount : Nat := 0
  /-- Admission outcomes by master id; R155; reset: defaults of Table 7-6. -/
  verdicts  : NMap Verdict := []
  deriving DecidableEq, Repr

/-! ### Frames and buffers -/

/-- Rewrites at egress (Table 4-7 :29–:2C). -/
structure Rewrite where
  macDst : Option Nat := none
  macSrc : Option Nat := none
  ttl    : Bool := false
  dscp   : Option Nat := none
  deriving DecidableEq, Repr

/-- A field of an action set (Table 4-7): its subindex, its value, and whether a row owned by T0000 has set it (R82). -/
structure ActField where
  sub     : Nat
  val     : Nat
  station : Bool
  deriving DecidableEq, Repr

/-- An action set: the fields that rows have set (R82). -/
abbrev Actions := List ActField

/-- A frame's source (catalogue field 1): kind 0 port, 1 vport, 2 device. -/
structure Source where
  kind : Nat
  num  : Nat
  deriving DecidableEq, Repr

/-- The transmit completion that a host frame is owed at its slot grant (Table 11-4): tenant, ring, cookie, bytes,
descriptors, ring index behind it, IRQ and PUSH. -/
structure TxDone where
  tenant : Nat
  ring   : Nat
  cookie : Nat
  len    : Nat
  descs  : Nat
  head   : Nat
  irq    : Bool
  push   : Bool
  deriving DecidableEq, Repr

/-- A frame that waits for an ingress slot (R74), or is on a decryption pass: its time in ns of the free-running counter
(end of reception for a port frame) and as TIME64. -/
structure Waiting where
  pipe    : Nat
  /-- 0 recirculated, 1 device, 2 host, 3 port. -/
  cls     : Nat
  time    : Nat
  bytes   : Bytes
  fcs     : Option Nat
  source  : Source
  ring    : Nat := 0
  tenant  : Nat := 0
  vport   : Option Nat := none
  stream  : Option Nat := none
  pass2   : Bool := false
  /-- Cipher passes and tunnel operations made so far, and the compound whose recovery it has passed (R165). -/
  ciphers : Nat := 0
  tunnels : Nat := 0
  recovered : Option Nat := none
  ingress : Option Nat := none
  /-- Device frames: egress port and queue (R73, R132). A recirculating frame: its forward port (R100). -/
  egress  : Option Nat := none
  queue   : Nat := 0
  rxTime  : Nat := 0
  /-- TIME64 of its slot grant (R126). -/
  granted : Nat := 0
  txDone  : Option TxDone := none
  /-- The buffer that a recirculated frame or a push holds (R105, R261). -/
  handle  : Option Nat := none
  /-- Descriptors of its ring that were exposed before a push and have not been read (R261). -/
  ahead   : Nat := 0
  deriving DecidableEq, Repr

/-- A buffer with its metadata header (Table 5-2). -/
structure Buffer where
  handle     : Nat
  row        : Nat
  length     : Nat
  rxTime     : Nat
  source     : Source
  tenant     : Nat
  vport      : Option Nat
  stream     : Option Nat
  replicas   : Nat
  unmodified : Bool
  pass2      : Bool
  host       : Bool
  hbm        : Bool
  decrypted  : Bool
  version    : Nat
  data       : Bytes
  fcs        : Option Nat
  deriving DecidableEq, Repr

/-- A tunnel endpoint row as a pass has taken it (Table 4-9, R87). -/
structure Endpoint where
  kind  : Nat
  dst   : Nat
  src   : Nat
  tci   : Nat
  source : Nat
  target : Nat
  ttl   : Nat
  dscp  : Nat
  sport : Nat
  vni   : Nat
  opts  : Bytes
  port  : Nat
  deriving DecidableEq, Repr

/-- The row of stage E that won for a copy, resolved in the frame's table version (R82, R87). -/
structure EgressRow where
  row     : Nat
  drop    : Bool
  trap    : Nat
  mirType : Nat
  mirTgt  : Nat
  trunc   : Nat
  rewrite : Rewrite
  deriving DecidableEq, Repr

/-- A copy in a queue (R133–R135): its buffer, or the frame of its own where a member's VLAN operation or an R-tag
makes it differ, its wire length (R95), its enqueue (ns of the free-running counter), its egress delay (ps), and
what egress still does to it. -/
structure QCopy where
  handle   : Nat
  own      : Option Bytes := none
  wireLen  : Nat
  enq      : Nat
  delay    : Nat
  stream   : Option Nat := none
  trunc    : Nat := 0
  rewrite  : Rewrite := {}
  encap    : Option Endpoint := none
  sa       : Option Nat := none
  eRow     : Option EgressRow := none
  fetched  : Bool := true
  fetching : Bool := false
  trap     : Nat := 0
  /-- Ended on the wire by a failed unit, to be sent again (R365); its buffer has an uncorrectable error (Table 16-1). -/
  again    : Bool := false
  bad      : Bool := false
  deriving DecidableEq, Repr

/-- A frame that a port has selected and not yet started, or has on the wire: its start and end (ps). -/
structure Slot where
  queue : Nat
  copy  : QCopy
  bytes : Bytes
  start : Nat
  fin   : Nat
  occ   : Nat
  stomp : Bool := false
  pn    : Option Nat := none
  /-- Pointer, flag and deficits of R137 before this selection (R136). -/
  ptr   : Nat := 4
  act   : Bool := false
  defs  : List Nat := []
  deriving DecidableEq, Repr

/-- The scheduler of a port (R136, R137): selected frames oldest first, the frame on the wire, the end F of the
occupancy (ps), pointer and flag. -/
structure Sched where
  selected : List Slot := []
  wire     : Option Slot := none
  free     : Nat := 0
  ptr      : Nat := 4
  act      : Bool := false
  /-- Time (ps) to which the credits of the port stand (R139). -/
  credited : Nat := 0
  /-- End (ps) of the running PAUSE and when it began; R69. -/
  pauseEnd : Nat := 0
  pauseBeg : Nat := 0
  /-- Earlier values of the maximum frame with the time (ps) at which each ended, newest first; R63. -/
  maxWas   : List (Nat × Nat) := []
  /-- Set while a failed frame unit keeps the port from starting (R364). -/
  held     : Bool := false
  /-- Down with copies still to be discarded (R67): count recorded so far. -/
  flushing : Bool := false
  /-- When unit failover began (frc ns) and the failed units (R364). -/
  failAt   : Nat := 0
  failed   : List Nat := []
  /-- When (free-running ns) station time was last stepped, until one cycle has passed (R168). -/
  stepped  : Option Nat := none
  deriving DecidableEq, Repr

/-- A deficit round robin (R137): pointer, flag, deficits by member. -/
structure Drr where
  ptr  : Nat := 0
  act  : Bool := false
  defs : NMap Nat := []
  deriving DecidableEq, Repr

/-- Host delivery of a port (R149): over tenants, over each tenant's vports, over Q4–Q0 of each vport. -/
structure Delivery where
  tenants : Drr := {}
  vports  : NMap Drr := []
  queues  : NMap Drr := []
  deriving DecidableEq, Repr

/-- Per-lane state behind 0x2400+l and 0x1120 + m. -/
structure LaneDyn where
  /-- Remote fault is received; R55. -/
  remote     : Bool := false
  /-- In FAULT for want of a PLL lock; Table 3-2. -/
  pllFailed  : Bool := false
  /-- A mode, FEC or polarity write has landed and the lane has not entered DISABLED: the lead lane of the ports whose frames
  in transmission complete first; R53. -/
  draining   : Option Nat := none
  /-- Rate that the peer's SGMII control word announces since entry into ALIGN; R51. -/
  announced  : Option Nat := none
  /-- FlexE group and PHY number that differed in the peer's overhead since entry into ALIGN; R57. -/
  overhead   : Option (Nat × Nat) := none
  /-- Calendar of a pending switch; R59. -/
  calTarget  : Option Nat := none
  /-- Free-running time (ns) at which the link-up hold began, and its length (ns) as taken at entry into ALIGN. -/
  holdFrom   : Nat := 0
  hold       : Nat := 0
  deriving DecidableEq, Repr

/-- Sequence state of a FRER compound (R174, R175). -/
structure Compound where
  nextSeq  : Nat := 0
  recovSeq : Nat := 0
  history  : List Bool := []
  take     : Bool := true
  lastPass : Nat := 0
  deriving DecidableEq, Repr

/-- A request of firmware to the pool manager (R108). -/
inductive PoolReq where
  | mode (quota : Bool)
  | free (handle : Nat)
  | alloc (thread row cls : Nat)
  deriving DecidableEq, Repr

/-- The network side. -/
structure Net where
  /-- Lane state machines by lane, M0 and M1 as 64 and 65; Table 3-2; reset: DISABLED, no signal. -/
  lanes     : NMap LaneDyn := []
  /-- References absent, by octet; R54; reset: all present. -/
  refLost   : List Nat := []
  /-- Frames waiting for ingress slots; R74; reset: none. -/
  waiting   : List Waiting := []
  /-- Packet-clock cycle number of the next ingress slot, by pipeline; R74; reset 0. -/
  cycle     : NMap Nat := []
  /-- Last ring served, by pipeline; R74; reset 0. -/
  ringPtr   : NMap Nat := []
  /-- Frames on a recirculation path: pipeline, stored copy, the frame as it will re-enter; R100; reset: none. -/
  recirc    : List (Nat × QCopy × Waiting) := []
  /-- When each recirculation path is free (ps), by pipeline; R100; reset 0. -/
  recircFree : NMap Nat := []
  /-- Buffers by handle, with the header last written there; R103; reset: none written. -/
  buffers   : NMap (Option Buffer) := []
  /-- Handles that were returned to the free lists, by class, oldest first; R114 (log entry 9); reset: none. -/
  returned  : NMap (List Nat) := []
  /-- Handles of a class never granted since reset start here; R113; reset 0. -/
  fresh     : NMap Nat := []
  /-- Queues by row of 0x3801; R132, R151; reset: empty. -/
  queues    : NMap (List QCopy) := []
  /-- Port schedulers; R135–R137; reset: idle. -/
  sched     : NMap Sched := []
  /-- Host delivery by host port; R149; reset: idle. -/
  delivery  : NMap Delivery := []
  /-- FRER state by compound; R174, R175; reset: sequence 0. -/
  compounds : NMap Compound := []
  /-- Last meter update times (station time, ns) by meter; R127; reset 0. -/
  meterTime : NMap Nat := []
  /-- Multiple of its interval at which a queue row was last sampled, by row of 0x3801; R151; reset 0. -/
  sampled   : NMap Nat := []
  /-- Requests of firmware to the pool manager that its next cycle decides, oldest first; R108; reset: none. -/
  pool      : List PoolReq := []
  /-- Answers on their way back to firmware: packet-clock cycle, thread, handle or NONE; R108; reset: none. -/
  answers   : List (Nat × Nat × Nat) := []
  deriving DecidableEq, Repr

/-! ### Admission -/

/-- A request or checked write that waits for the admission unit (R157); no path once an FLR has ended its request (R48). -/
structure AdmWait where
  via    : Option Via
  master : Nat
  what   : Instr
  deriving DecidableEq, Repr

/-! ### The cipher engine -/

/-- A security association as a pass takes it at its start (R193, Table 8-6); `gen` is the generation of the row's key. -/
structure Sa where
  row       : Nat
  gen       : Nat
  use       : Nat
  owner     : Nat
  key       : Bytes
  extended  : Bool
  salt      : Nat
  sci       : Nat
  an        : Nat
  ssci      : Nat
  offset    : Nat
  integrity : Bool
  withSci   : Bool
  window    : Nat
  spi       : Nat
  tunnel    : Bool
  tunSrc    : Nat
  tunDst    : Nat
  tunVer    : Nat
  ttl       : Nat
  deriving DecidableEq, Repr

/-- A decryption pass (R181): its lane, the SA found, the frame as received, the action set of stages CS and CT, the
match tables in the version that the pass has taken (R87) and the number of that version. Once it has started, at `start`
(ps), the lane's churn holds its plaintext, opened under the packet number `pn`. -/
structure Pass where
  id      : Nat
  lane    : Nat
  sa      : Sa
  frame   : Waiting
  tenant  : Nat
  acts    : Actions
  tables  : NMap Nat
  version : Nat
  /-- Rows that won at CS and CT, whose hits count at release (R181). -/
  rows    : List Nat
  pn      : Nat := 0
  churn   : Bytes := []
  start   : Option Nat := none
  deriving DecidableEq, Repr

/-- What a lane works on (Table 8-1): a decryption pass, an encryption whose frame starts at `start` (ps) on a port, one
for the buffer of the next step, a lookaside job or storage XTS of a tenant. -/
inductive WorkKind where
  | decrypt
  | transmit (port start : Nat)
  | inside
  | lookaside (tenant : Nat)
  deriving DecidableEq, Repr

/-- Work of a lane that is not complete (R179), in the order requested: its bytes, the 128-byte blocks of them that the lane
has not done, and whether its frame names an admitted stream. -/
structure LaneWork where
  id     : Nat
  lane   : Nat
  kind   : WorkKind
  stream : Bool
  bytes  : Nat
  left   : Nat
  deriving DecidableEq, Repr

/-- The window of a receive SA whose key has been replaced while a pass holds it (R193): row, generation, lowest acceptable
and highest accepted number, accepted ESP numbers. -/
structure OldSa where
  row    : Nat
  gen    : Nat
  lowest : Nat
  high   : Nat
  seen   : List Nat
  deriving DecidableEq, Repr

/-- A lane's mask generator (R205, R206): the lane cycle in which its key was loaded, whether that key has expired, the time
(ns) since when the lane is stalled. -/
structure CLane where
  keyLoaded : Nat := 0
  expired   : Bool := false
  stalled   : Option Nat := none
  deriving DecidableEq, Repr

/-- A lookaside job fetched and not completed (R198, R199): its descriptor and what it reads at SRC, once they have arrived.
Once it has started: its lane, its work there, the bytes of the keys that it has taken (none where one is not usable) and its
churn buffers (R193, R201). -/
structure Job where
  owner : Nat
  slot  : Nat
  desc  : Option JobDesc := none
  src   : Option Bytes := none
  lane  : Option Nat := none
  work  : Nat := 0
  key   : Option Bytes := none
  aux   : Option Bytes := none
  churn : List Nat := []
  done  : Bool := false
  deriving DecidableEq, Repr

/-- Cipher engine state behind the objects. -/
structure Cipher where
  /-- Decryption passes, in the order requested; R181; reset: none. -/
  passes   : List Pass := []
  /-- Work of the lanes and the number of the next one; R179; reset: none. -/
  work     : List LaneWork := []
  nextWork : Nat := 0
  /-- Mask generators by lane; R205; reset: fresh. -/
  lanes    : NMap CLane := []
  /-- Generate requests since reseed, by DRBG; R205; reset 0. -/
  drbg     : NMap Nat := []
  /-- Lookaside jobs; R198; reset: none. -/
  jobs     : List Job := []
  /-- Completions since the last message of a page, by master; R199; reset 0. -/
  sinceMsg : NMap Nat := []
  /-- The sealing key, on die; R196; drawn at every reset. -/
  sealing  : Nat := 0
  /-- Key slots in HBM, wrapped under the sealing key, by SA row; R196; reset: none. -/
  slots    : NMap Bytes := []
  /-- Generation of the key of an SA row: how often one was installed or erased; R193; reset 0. -/
  gens     : NMap Nat := []
  /-- Windows of replaced keys that passes still hold; R193; reset: none. -/
  olds     : List OldSa := []
  /-- Receive window: accepted numbers of an ESP SA, by row; R190; reset: none. -/
  seen     : NMap (List Nat) := []
  /-- Marks of transmit SAs that are not yet in flash, by row; R195; reset: none. -/
  markWait : NMap Nat := []
  deriving DecidableEq, Repr

/-! ### Storage assist -/

/-- A registered or quarantined command of a connection (R214, R222): the end of its previous C2HData, the bytes placed,
the bytes of a data unit that is not whole with the buffer of row 6145 that holds them, a failed data digest. -/
structure StorCmd where
  cid        : Nat
  write      : Bool
  len        : Nat
  segs       : List Seg
  stage      : Nat
  dun        : Nat
  xts        : Bool
  cookie     : Nat
  nextOff    : Nat := 0
  placed     : Nat := 0
  part       : Bytes := []
  staging    : Option Nat := none
  bad        : Bool := false
  /-- The connection has been in RESYNC since the registration; data of it was lost, so that it gets no further record
  (R220). -/
  gap        : Bool := false
  cut        : Bool := false
  /-- End of the quarantine (ns of the free-running counter). -/
  quarantine : Option Nat := none
  deriving DecidableEq, Repr

/-- A PDU whose header has been taken and whose body has not ended: header, bytes of the PDU consumed, running CRC of its
data, bytes of its data digest. -/
structure PduBody where
  hdr : Bytes
  pos : Nat
  crc : Nat := 0xFFFFFFFF
  dig : Bytes := []
  deriving DecidableEq, Repr

/-- A storage connection (Tables 9-4, 9-11). -/
structure Conn where
  tenant  : Nat
  version : Nat
  digests : Nat
  hpda    : Nat
  cpda    : Nat
  lport   : Nat
  rport   : Nat
  laddr   : Nat
  raddr   : Nat
  key     : Nat
  unit    : Nat
  vport   : Nat
  quar    : Nat
  maxH2c  : Nat
  /-- Target of RESYNC (R220). -/
  target  : Option Nat := none
  cmds    : List StorCmd := []
  /-- Bytes of a PDU header that a segment boundary has cut, and the PDU in progress. -/
  tail    : Bytes := []
  body    : Option PduBody := none
  deriving DecidableEq, Repr

/-- Host data that a piece of work needs before it can run, and its work in a cipher lane: the reads (address, length), what
has arrived by the number of its read, the reads that failed, the work once it has been requested. -/
structure Prep where
  reads  : List (Nat × Nat)
  got    : List (Nat × Bytes) := []
  failed : List Nat := []
  work   : Option Nat := none
  deriving DecidableEq, Repr

/-- A storage descriptor that has been fetched and has not completed: its ring slot, its content and what it reads at LIST
once they have arrived, the status that it ends with where those reads failed, the command data that it needs. -/
structure StorSlot where
  slot : Nat
  desc : Option StorDesc := none
  list : Option Bytes := none
  fail : Nat := 0
  prep : Option Prep := none
  deriving DecidableEq, Repr

/-- A consumed segment whose records have not all been posted (R211, R218): the records left, vport, queue and ring of the
frame, its storage field, the copy and its bytes. -/
structure SegHeld where
  recs  : List Bytes
  vport : Nat
  queue : Nat
  ring  : Nat
  field : Nat
  copy  : QCopy
  bytes : Bytes
  deriving DecidableEq, Repr

/-- A quarantined command slot of a removed connection (R222). -/
structure Orphan where
  tenant : Nat
  conn   : Nat
  cid    : Nat
  fin    : Nat
  deriving DecidableEq, Repr

/-- Storage assist behind the objects and registers. -/
structure Storage where
  /-- Connections by row of 0x7000; R213; reset: none. -/
  conns   : NMap (Option Conn) := []
  /-- Descriptors in execution, in ring order, by owner; R211; reset: none. -/
  queues  : NMap (List StorSlot) := []
  /-- Quarantined slots of removed connections; R222; reset: none. -/
  orphans : List Orphan := []
  /-- The segment at the head of a vport queue, by row of 0x3801: its buffer and what it needs; R216, R217; reset: none. -/
  preps   : NMap (Option (Nat × Prep)) := []
  /-- Segments consumed whose records wait for room, by owner; R211; reset: none. -/
  held    : NMap (Option SegHeld) := []
  deriving DecidableEq, Repr

/-! ### The host face -/

/-- What a DMA read is for (R242): descriptors of a cipher page, data of a job; descriptors of a storage queue, what one reads at
LIST, command data for one; command data for the segment at the head of a vport queue; descriptors of a ring, frame data of a
transmit ring; a side of a DMA channel, from an offset on. -/
inductive Purpose where
  | cipherDesc (owner slot n : Nat)
  | jobData (owner slot : Nat)
  | storDesc (owner slot n : Nat)
  | storList (owner slot : Nat)
  | storData (owner slot i : Nat)
  | segData (owner row i : Nat)
  | ringDesc (owner : Nat) (tx : Bool) (ring slot n : Nat)
  | txData (owner ring i : Nat)
  | dmaRead (ch : Nat) (dst : Bool) (off : Nat)
  deriving DecidableEq, Repr

/-- A DMA read in progress (R239): its number, function and purpose, the requests that have not been answered, and the data
that has arrived, by offset. -/
structure HostRead where
  id     : Nat
  master : Nat
  why    : Purpose
  left   : Nat
  got    : List (Nat × Bytes) := []
  deriving DecidableEq, Repr

/-- A request of a read that waits for a tag (R240): address, length and offset in the read. -/
structure ReadWait where
  master : Nat
  id     : Nat
  addr   : Nat
  len    : Nat
  off    : Nat
  deriving DecidableEq, Repr

/-- An outstanding or quarantined tag of a host port (R239, R242): the read that its request is of. -/
structure Tag where
  tag        : Nat
  master     : Nat
  id         : Nat
  len        : Nat
  off        : Nat
  sent       : Nat
  quarantine : Option Nat := none
  deriving DecidableEq, Repr

/-- A function (R228): Bus Master Enable, D-state, halted queues, FLR and the tags it left quarantined, PME status, PBA bits. Its
other configuration registers stand in the register file. -/
structure FuncDyn where
  busMaster : Bool := false
  dstate    : DState := .d0
  halted    : Bool := false
  inFlr     : Bool := false
  pmeStatus : Bool := false
  pba       : List Nat := []
  flrTags   : Nat := 0
  deriving DecidableEq, Repr

/-- The settings of a host link that a training takes (x:02–:04, :06; R226). -/
structure LinkSetup where
  width : Nat := 16
  rate  : Nat := 6
  clock : Nat := 0
  l0p   : Nat := 1
  deriving DecidableEq, Repr

/-- A host port (R226): PERST_N, WAKE_N with the function that raised it, the tenants of the applied map in VF order
(R230), VF Enable, the width at which the link trained, the settings in force since then. -/
structure PortDyn where
  perst     : Bool := true
  wake      : Bool := false
  wakeFn    : Nat := 0
  mapped    : List Nat := []
  vfOn      : Bool := false
  trained   : Nat := 0
  inForce   : LinkSetup := {}
  deriving DecidableEq, Repr

/-- Host face state behind the objects. -/
structure HostFace where
  /-- Tags by host port (0 A, 1 B); R239; reset: none. -/
  tags    : NMap (List Tag) := []
  /-- Number that the next tag of a port takes, by host port; reset 0 (the order is the model's). -/
  nextTag : NMap Nat := []
  /-- Requests that wait for a tag, oldest first, by host port; R240; reset: none. -/
  waits   : NMap (List ReadWait) := []
  /-- DMA reads in progress and the number of the next one; R239; reset: none. -/
  reads   : List HostRead := []
  nextRead : Nat := 0
  /-- Functions by master id; R228; reset: D0, Bus Master Enable 0. -/
  funcs   : NMap FuncDyn := []
  /-- Host ports (0 A, 1 B); R226; reset: PERST_N asserted, no map. -/
  ports   : NMap PortDyn := []
  /-- Vport frames are discarded at enqueue until the function is enabled, by tenant (R252). -/
  discard : List Nat := []
  deriving DecidableEq, Repr

/-! ### Rings, mailboxes, events -/

/-- A completion already decided that waits behind frames of its ring that have been read and behind descriptors that have
not (R260, R261). -/
structure Owed where
  frames : Nat
  descs  : Nat
  done   : TxDone
  status : Nat
  deriving DecidableEq, Repr

/-- A transmit frame whose data is read (R259): its descriptors, the ring index behind them, and the reads. -/
structure TxRead where
  descs : List RingDesc
  next  : Nat
  prep  : Prep
  deriving DecidableEq, Repr

/-- A ring (R258, R264): the bytes of the descriptors that have arrived, by slot; the data of the frame that is being read; phase,
completions since its last message and the time of the oldest, pushes held, completions owed in order. -/
structure RingDyn where
  descs    : NMap Bytes := []
  reading  : Option TxRead := none
  phase    : Bool := true
  sinceMsg : Nat := 0
  oldest   : Option Nat := none
  pushes   : Nat := 0
  owed     : List Owed := []
  deriving DecidableEq, Repr

/-- A notice in a channel (R269). -/
structure Notice where
  w0 : Word
  w1 : Word
  w2 : Word
  w3 : Word
  asid  : Nat
  seq   : Nat
  epoch : Nat
  deriving DecidableEq, Repr

/-- A mailbox channel (R266–R272), by row of 0x9000. -/
structure Mailbox where
  notices : List Notice := []
  nextSeq : Nat := 0
  deriving DecidableEq, Repr

/-- Rings, mailboxes and event controller behind registers and objects. -/
structure Rings where
  /-- Rings by key (master × 128 + 64 × direction + r); R258; reset: disabled. -/
  rings    : NMap RingDyn := []
  /-- Telemetry records waiting for a message, by master; R154; reset 0. -/
  tlmSince : NMap Nat := []
  /-- Owners whose telemetry ring is halted; R245; reset: none. -/
  tlmHalted : List Nat := []
  /-- Channels by row of 0x9000; R269; reset: empty. -/
  channels : NMap Mailbox := []
  /-- Endpoint epochs (16 bits) by master id; R271; reset 0. -/
  epochs   : NMap Nat := []
  /-- Level inputs asserted, by source id; R276; reset: none. -/
  levels   : List Nat := []
  /-- Context (one more than its number) that claimed each ACTIVE source, by id; R275; reset: none. -/
  claimed  : NMap Nat := []
  /-- Contexts whose DELIVERED flag is set (threads 0–255, PF0 of Port A 256, of Port B 257); R277; reset: none. -/
  delivered : List Nat := []
  /-- Sources whose message has been sent since they became PENDING; R277; reset: none. -/
  messaged : List Nat := []
  /-- Retention copy: the ids not IDLE, rising, in the always-on domain; R283; reset (power-on): empty. -/
  retained : List Nat := []
  retainedOk : Bool := true
  deriving DecidableEq, Repr

/-! ### Threads -/

/-- A thread behind its row of 0x93F0 (R281, R288–R290). -/
structure ThreadDyn where
  /-- The 32 event bits. -/
  events    : Nat := 0
  /-- The wait that has not ended: 0 none, 1 WAIT, 2 JOIN; its deadline on the free-running counter (ns). -/
  waits     : Nat := 0
  deadline  : Option Nat := none
  /-- Exit code kept for the parent; ended by a kill or release and not yet joined. -/
  exitCode  : Nat := 0
  killed    : Bool := false
  entry     : Nat := 0
  arg       : Nat := 0
  privilege : Bool := false
  /-- Priorities in the save area, innermost first; interrupt entry (1) or exit (2) in progress until (ps). -/
  saved     : List Nat := []
  phase     : Nat := 0
  phaseEnd  : Nat := 0
  /-- State that a debugger stop keeps; a stop asked for while STALLED. -/
  prior     : Nat := 0
  stopAsked : Bool := false
  /-- When it last began to run at thread level and last began to wait (ns), and whether that run began with TIMEOUT. -/
  ranFrom   : Nat := 0
  waitFrom  : Nat := 0
  timedOut  : Bool := false
  deriving DecidableEq, Repr

/-- The cores and the supervisor. -/
structure Threads where
  /-- Threads by number; Table 12-2; reset: no waits, no events. -/
  dyn        : NMap ThreadDyn := []
  /-- Thread last run, by core (R287); reset: T15, so that T00 comes first. -/
  last       : NMap Nat := []
  /-- Stall detector armed, since when every watched thread waits (ns), and its window (ms); R294; reset: armed. -/
  armed      : Bool := true
  quietFrom  : Nat := 0
  window     : Nat := 10
  /-- Supervisor state is mirrored to a backup (R291, R368). -/
  backup     : Bool := true
  /-- Thread moves after core failures: role thread → thread now carrying it (R367). -/
  moved      : NMap Nat := []
  /-- The handle ledger of firmware: pool handle → thread that holds it and 1 (R367); reset: none. -/
  ledger     : NMap Nat := []
  deriving DecidableEq, Repr

/-! ### Cells -/

/-- A block record of a cell image (R299). -/
structure Block where
  typ   : Nat
  ins   : List Nat
  param : Bytes
  deriving DecidableEq, Repr

/-- An output template of a cell image (R299). -/
structure Template where
  stream  : Nat
  frame   : Bytes
  counter : Nat
  deriving DecidableEq, Repr

/-- A loaded cell image, parsed (Table 12-4). -/
structure CellImage where
  period : Nat
  wcet   : Nat
  key    : Nat
  build  : Nat
  inputs : List Nat
  blocks : List Block
  templates : List Template
  pool   : Bytes
  deriving DecidableEq, Repr

/-- A cell in execution (R303–R310). Signals are binary32 words. -/
structure CellDyn where
  image     : Option CellImage := none
  /-- Outputs of the last run by 4 × block + port, and the states of the blocks. -/
  outs      : NMap Nat := []
  states    : NMap (List Nat) := []
  /-- Send counters by template. -/
  sends     : NMap Nat := []
  /-- Heartbeat count z and the update count of the slot at the last run. -/
  z         : Nat := 0
  lastCount : Option Nat := none
  /-- A run has been started and has not completed; its mode, TRACK, and the slots copied for it. -/
  running   : Bool := false
  runMode   : Nat := 1
  inputs    : List Bytes := []
  /-- A release has taken place since the load; the last one as TIME64 and on the free-running counter (ns). -/
  released  : Bool := false
  release   : Nat := 0
  releaseF  : Nat := 0
  /-- Active, by a takeover or by a write (log entry 57), and the runs since; CONTROLLER_BACK logged for it. -/
  taken     : Bool := false
  sinceTake : Nat := 0
  backLogged : Bool := false
  /-- The last run lapsed; the releases since then have overrun. -/
  lapsed    : Bool := false
  overran   : Bool := false
  /-- Streams and frames of the last completed run, before the send counter. -/
  lastFrames : List (Nat × Bytes) := []
  deriving DecidableEq, Repr

/-! ### DMA -/

/-- A side of a DMA operation (R317): bytes that its read accesses have asked for, those of them that stand in a request not yet
sent, host data that has arrived by offset, bytes that have joined a holding register, and what the
register holds. -/
structure DmaSide where
  asked   : Nat := 0
  forming : Nat := 0
  arrived : List (Nat × Bytes) := []
  joined  : Nat := 0
  hold    : Bytes := []
  deriving DecidableEq, Repr

/-- A DMA operation that runs (R314–R320): the setup copied at START, its sides as read, the bytes that its write accesses have
made, those of them that stand in a host write not yet sent, and the first offset at which COMPARE has found a difference. -/
structure Dma where
  op      : Nat
  len     : Nat
  src     : Nat
  dst     : Nat
  source  : DmaSide := {}
  target  : DmaSide := {}
  made    : Nat := 0
  writing : Bytes := []
  differs : Option Nat := none
  deriving DecidableEq, Repr

/-- The DMA engine: operations by channel, and the channel that last made a read and a write access (R319). -/
structure DmaEngine where
  ops       : NMap (Option Dma) := []
  lastRead  : Nat := 31
  lastWrite : Nat := 31
  deriving DecidableEq, Repr

/-! ### Time -/

/-- A row of 0x1220 (R326, R328), in 2⁻¹⁶ ns: the transmit timestamp of its last request, the receive timestamp of its last Sync, the
origin and receive timestamp of the last Sync that was complete. -/
structure PtpDyn where
  sent : Option Nat := none
  got  : Option Nat := none
  sync : Option (Nat × Nat) := none
  deriving DecidableEq, Repr

/-- The two counts and the station time servo. -/
structure Clock where
  /-- Free-running counter in quarters of a nanosecond (U64 ns and its fraction); R321; reset 0. -/
  frcQ     : Nat := 0
  /-- Station time in 2⁻¹⁶ ns: seconds (48 bits), nanoseconds (32) and fraction (16) as one number; R321; reset 0. -/
  tai      : Nat := 0
  /-- Frequency correction per cycle, 2⁻¹⁶ ns; R324; reset 0. -/
  corr     : Int := 0
  /-- Consecutive measurements within the lock threshold; R323; reset 0. -/
  within   : Nat := 0
  /-- Consecutive measurements beyond the step threshold while LOCKED; R323; reset 0. -/
  beyond   : Nat := 0
  /-- The source has given a measurement since HOLDOVER began; R323. -/
  measured : Bool := false
  /-- When HOLDOVER began (free-running ns); R323. -/
  holdFrom : Nat := 0
  /-- Station time has been valid since reset; R322. -/
  wasValid : Bool := false
  /-- Seconds of the next PPS edge, written to 0x1202:03; R329. -/
  ppsNext  : Option Nat := none
  /-- Last PPS edge (free-running ns) and whether pulses arrive; R322. -/
  ppsLast  : Option Nat := none
  ppsHere  : Bool := false
  /-- The last pulse followed the one before at 1 s ± 1 µs, or took the seconds of 0x1202:03; R322. -/
  ppsGood  : Bool := false
  /-- Copies of station time last reloaded (station ns); R330. -/
  reloaded : Nat := 0
  /-- PPS_IN has taken the seconds of 0x1202:03 since reset; R322. -/
  ppsTaken : Bool := false
  /-- Sensors hot in the last sample; since when all sensors are cool (ns), for the warning and for safe hold; R332,
  R387. -/
  hot      : List Nat := []
  coolFrom : Option Nat := none
  holdCool : Option Nat := none
  /-- By sensor: since when (ns) its code has stayed the same, and what its neighbours then read; R333. -/
  stuck    : NMap (Nat × List Nat) := []
  /-- Sensors excluded since the reset; R333. -/
  excluded : List Nat := []
  /-- PTP rows; R328; reset: no timestamps. -/
  ptp      : NMap PtpDyn := []
  deriving DecidableEq, Repr

/-! ### Power, flash, stores -/

/-- A bank's control block (Table 15-7) with what its content stands for. -/
structure Bank where
  state    : Nat := 0xFF
  sequence : Nat := 0xFFFFFFFF
  check    : Nat := 0xFFFFFFFF
  length   : Nat := 0xFFFFFFFF
  /-- Configuration banks: the CMAC over the content, 0xFF elsewhere; the content's own layout is free (log entry 5). -/
  cmac     : Bytes := List.replicate 16 0xFF
  good     : Bool := false
  version  : Nat := 0
  hitless  : Bool := false
  datapath : Nat := 0
  /-- Configuration banks: the snapshot, cells and blobs (R350). -/
  cells    : NMap Nat := []
  blobs    : NMap Bytes := []
  /-- Keys by SA row, wrapped under the store key (R350). -/
  keys     : NMap Bytes := []
  deriving DecidableEq, Repr

/-- A configuration commit that runs (R350). -/
structure Commit where
  bank    : Nat
  cells   : NMap Nat
  blobs   : NMap Bytes
  keys    : NMap Bytes
  master  : Nat
  /-- Code of the warm reset that follows it (R337). -/
  reset   : Option Nat
  deriving DecidableEq, Repr

/-- Flash, the always-on domain, the power controller. -/
structure Power where
  /-- Firmware banks A and B of flash 0; Table 15-6; power-on: bank A good (log entry 4), B erased. -/
  fwA      : Bank := {}
  fwB      : Bank := {}
  /-- Configuration banks A and B of flash 1; Table 15-6; power-on: erased (log entry 4). -/
  cfgA     : Bank := {}
  cfgB     : Bank := {}
  /-- Records of keys in flash 1: highest accepted counter, transmit counter, in use; R44; power-on: none (log entry 4). -/
  replay   : NMap (Nat × Nat × Bool) := []
  /-- The journal of packet-number marks in flash 1: records of 16 bytes, newest first; R195; power-on: none (log entry 4). -/
  journal  : List Bytes := []
  /-- A commit in progress; R350; reset: none. -/
  commit   : Option Commit := none
  /-- A firmware command in progress: 1 PROGRAM, 2 ACTIVATE, 3 both; its bank; R353; reset: none. -/
  fwJob    : Option (Nat × Nat) := none
  /-- The staged firmware file: version, HITLESS, DATAPATH, length; R352; reset: none. -/
  staged   : Option (Nat × Bool × Nat × Nat) := none
  /-- A hitless switch in progress: the next core; R355; reset: none. -/
  switching : Option Nat := none
  /-- Datapath revision and HITLESS of the running image; R355. -/
  datapath : Nat := 0
  /-- Consecutive failed boots of a bank; R344; power-on 0. -/
  attempts : Nat := 0
  booted   : Nat := 0
  /-- Watchdog: written or armed at (ns); R338. -/
  watchdog : Nat := 0
  /-- The always-on record: device state at a watchdog expiry (R338), station time of a PWR_OK loss (R358). -/
  watchRec : Option Nat := none
  lossRec  : Option Nat := none
  /-- The reset cut a commit, a firmware command. -/
  cutCommit : Bool := false
  cutFw    : Bool := false
  /-- Steps of Table 15-4 whose rails are on; R340; power-on 0. -/
  railStep : Nat := 0
  seqTries : Nat := 0
  seqRec   : Option (Nat × Nat × Nat) := none
  lockout  : Bool := false
  /-- Device held in reset; R335; power-on: held. -/
  inReset  : Bool := true
  cause    : Nat := 1
  released : Nat := 0
  /-- Pins: RESET_N low, PWR_OK high, SUPPLY_WARN_N low, VAUX_3V3 present. -/
  resetLow : Bool := false
  pwrOk    : Bool := false
  warnLow  : Bool := false
  warnFrom : Nat := 0
  vaux     : Bool := true
  /-- Refused VOUT_COMMANDs in a row, and AVS disabled until reset; R342; reset 0. -/
  avsRefused : Nat := 0
  avsOff   : Bool := false
  /-- State left for SAFE_HOLD and when (ns); R334, R387. -/
  heldFrom : Nat := 0
  heldAt   : Nat := 0
  /-- Reset requested by write and waiting: code of Table 15-2; R337. -/
  pendingReset : Option Nat := none
  deriving DecidableEq, Repr

/-! ### Faults, log -/

/-- A rate limit of an event code and key (R372): last written (ns), withheld since. -/
structure Limit where
  code : Nat
  key  : Nat
  last : Nat
  held : Nat
  deriving DecidableEq, Repr

/-- The event log (R372). -/
structure EventLog where
  /-- Records in flash 1, newest first; power-on: none (log entry 4). -/
  flash  : List Event := []
  /-- Records staged in shared loop SRAM, newest first; at most 4,096; reset: none. -/
  staged : List Event := []
  /-- Next SEQUENCE (32 bits); continues across resets. -/
  seq    : Nat := 1
  limits : List Limit := []
  deriving DecidableEq, Repr

/-- Fault handling. -/
structure Faults where
  /-- Failovers in progress (rows of 0x1401); R363; reset: none. -/
  recovering : List Nat := []
  /-- When RECOVERY began (ns); R363. -/
  since      : Nat := 0
  /-- Retrains that failed or ran, by link; R370; reset 0. -/
  retrains   : NMap Nat := []
  /-- Links that are retraining; R370; reset: none. -/
  training   : List Nat := []
  /-- Lanes that take a failed role until its work has restarted, by failed lane; lanes that carry two roles; R366; reset:
  none. -/
  taking     : NMap (Option Nat) := []
  shared     : List Nat := []
  /-- Fabric links retired since the reset; frames lost by the repair that runs, by link; R370; reset: none. -/
  deadLinks  : List Nat := []
  linkLost   : NMap Nat := []
  /-- Ternary rows that failed parity and wait for their rewrite; R361; reset: none. -/
  badRows    : List Nat := []
  /-- Entries (index × 2³² + row) that wait for a reload from HBM; R360; reset: none. -/
  reloading  : List Nat := []
  /-- HBM stacks failed; R371; reset: none. -/
  deadHbm    : List Nat := []
  /-- Unit record in flash 1: health and times failed by row of 0x1401; R362; power-on: none (log entry 4). -/
  unitRec    : NMap (Nat × Nat) := []
  /-- Availability counters kept in the unit record; R375. -/
  availRec   : List Nat := []
  /-- Times (ns) of the last 17 correctable errors by row; R361; reset: none. -/
  correct24  : NMap (List Nat) := []
  /-- When the last pair message arrived (ns); R374. -/
  pairLast   : Nat := 0
  scrubbed   : Nat := 0
  /-- Time with PWR_OK high and outage since the unit record was last loaded, in quarters of a nanosecond; R375. -/
  serviceQ   : Nat := 0
  outageQ    : Nat := 0
  /-- A reset of code 6 or 7 has been released, and a committed gate list is not yet operative or SERVICE not entered. -/
  restoring  : Bool := false
  deriving DecidableEq, Repr

/-! ### The state -/

/-- The state of the block. -/
structure State where
  /-- Commands that wait, first in first out. -/
  pending : List Instr := []
  /-- Dictionary cells by `cellKey`; R20; reset: every object at its default. -/
  dict    : NMap Nat := []
  /-- Registers by `regKey`; R7; reset: every register at its reset value. -/
  regs    : NMap Word := []
  /-- Shared loop SRAM, 16 MiB; the first 4 MiB are the process image; R285, R298; reset: reads 0. -/
  loop    : NMap Byte := []
  /-- Local SRAM of the cores, core × 1 MiB + offset; R285; reset: reads 0 (log entry 7). -/
  coreMem : NMap Byte := []
  /-- Process-image backup in HBM with its check; R298, R347; reset: none. -/
  backup  : Option (NMap Byte) := none
  /-- Window buffers, port × 0x1_0000 + offset in the window; R47; reset 0. -/
  dwBuf   : NMap Byte := []
  clk     : Clock := {}
  acc     : Access := {}
  net     : Net := {}
  /-- Requests waiting for the admission unit, oldest first; R157; reset: none. -/
  adm     : List AdmWait := []
  cip     : Cipher := {}
  sto     : Storage := {}
  hst     : HostFace := {}
  rng     : Rings := {}
  thr     : Threads := {}
  cells   : NMap CellDyn := []
  /-- The DMA engine; R314–R320; reset: idle. -/
  dma     : DmaEngine := {}
  pwr     : Power := {}
  flt     : Faults := {}
  log     : EventLog := {}
  /-- What has left the block, newest first: the model's own record of its outputs (log entry 14). -/
  out     : List Output := []
  /-- The model's own counter of free values drawn (log entry 5). -/
  free    : Nat := 0
  deriving DecidableEq, Repr

/-- The device right after a power-on reset has begun (R335, R336): every map empty, so every object and register
reads its default; in START; rails off; firmware bank A holds a bootable image (log entry 4). -/
def State.reset : State :=
  { pwr := { fwA := { state := 0xFC, sequence := 1, check := 0xFFFFFFFE, good := true } } }

end Sys2Proof.Machine
end

