-- ==== Sys2Proof/Machine/Map.lean ====
section
/-! DEFINITION. Finite maps in canonical form: reading, writing, the canonical form as a test, and the few
list operations the meanings share. -/

namespace Sys2Proof.Machine

/-- The value at a key; `d` gives what an unlisted key reads as. -/
def NMap.get {α : Type} (d : Nat → α) : NMap α → Nat → α
  | [], k => d k
  | (a, v) :: m, k => if a = k then v else NMap.get d m k

/-- The map without a key. -/
def NMap.erase {α : Type} (m : NMap α) (k : Nat) : NMap α :=
  m.filter (fun e => e.1 != k)

/-- The map with an entry put in its place. -/
def NMap.insert {α : Type} : NMap α → Nat → α → NMap α
  | [], k, v => [(k, v)]
  | (a, w) :: m, k, v =>
    if k < a then (k, v) :: (a, w) :: m
    else if a = k then (k, v) :: m
    else (a, w) :: NMap.insert m k v

/-- A write keeps the canonical form: the value an unlisted key reads as removes the entry. -/
def NMap.set {α : Type} [DecidableEq α] (d : Nat → α) (m : NMap α) (k : Nat) (v : α) : NMap α :=
  if v = d k then NMap.erase m k else NMap.insert m k v

/-- The canonical form: keys strictly rising, no entry equal to what its key reads as unlisted. -/
def NMap.wf {α : Type} [DecidableEq α] (d : Nat → α) : NMap α → Bool
  | [] => true
  | (a, v) :: m => decide (v ≠ d a) && m.all (fun e => decide (a < e.1)) && NMap.wf d m

/-- A map with one default for every key. -/
def NMap.at {α : Type} (d : α) (m : NMap α) (k : Nat) : α := NMap.get (fun _ => d) m k

/-- A write into a map with one default. -/
def NMap.put {α : Type} [DecidableEq α] (d : α) (m : NMap α) (k : Nat) (v : α) : NMap α :=
  NMap.set (fun _ => d) m k v

/-- Change the value at a key. -/
def NMap.upd {α : Type} [DecidableEq α] (d : α) (m : NMap α) (k : Nat) (f : α → α) : NMap α :=
  NMap.put d m k (f (NMap.at d m k))

/-- Write a run of bytes from an address. -/
def NMap.putBytes (m : NMap Byte) (a : Nat) : Bytes → NMap Byte
  | [] => m
  | b :: bs => NMap.putBytes (NMap.put 0 m a b) (a + 1) bs

/-- Read `n` bytes from an address. -/
def NMap.bytes (m : NMap Byte) (a : Nat) : Nat → Bytes
  | 0 => []
  | n + 1 => NMap.at 0 m a :: NMap.bytes m (a + 1) n

/-- Change the first element that satisfies a test. -/
def updFirst {α : Type} (p : α → Bool) (f : α → α) : List α → List α
  | [] => []
  | x :: xs => if p x then f x :: xs else x :: updFirst p f xs

/-- The list without the first element that satisfies a test. -/
def dropFirst {α : Type} (p : α → Bool) : List α → List α
  | [] => []
  | x :: xs => if p x then xs else x :: dropFirst p xs

/-- Add a number to a list that holds no repeats. -/
def addOnce (xs : List Nat) (x : Nat) : List Nat := if xs.contains x then xs else xs ++ [x]

end Sys2Proof.Machine
end

