-- ==== Sys2Proof/Machine/Objects.lean ====
section
/-! DEFINITION. The object dictionary as the object tables of the manual give it: for each index its
subindices with type, access, default, persistence and the range of a write (R20–R30). -/

namespace Sys2Proof.Machine

/-- Types of Table 2-2 with their length in bytes. -/
inductive Ty where
  | bool
  | u (n : Nat)
  | i (n : Nat)
  | oct (n : Nat)
  | time
  | domain
  deriving DecidableEq, Repr

/-- The length of a value (R23); a DOMAIN has none. -/
def Ty.len : Ty → Nat
  | .bool => 1
  | .u n => n
  | .i n => n
  | .oct n => n
  | .time => 8
  | .domain => 0

/-- Access columns of the object tables, for the principals S, O, T, V (R28). -/
inductive Acc where
  /-- S:r O:r T:– V:r -/
  | r
  /-- S:r O:r T:r V:r -/
  | rT
  /-- S:rw O:rw T:– V:r -/
  | rw
  /-- S:rw O:rw T:rw V:r -/
  | rwT
  /-- S:rw O:rw T:r V:r -/
  | rwTr
  /-- S:rw O:r T:– V:r -/
  | rwS
  /-- S:w O:w T:– V:– -/
  | w
  /-- S:w O:w T:w V:– -/
  | wT
  /-- S:rw O:rw T:rw V:rw, the row selector of Table 2-3 -/
  | all
  deriving DecidableEq, Repr

/-- One or more consecutive subindices with one dictionary entry; `rng` empty admits every value of the type. -/
structure Entry where
  sub : Nat
  n   : Nat
  ty  : Ty
  acc : Acc
  dfl : Nat
  per : Bool
  rng : List (Nat × Nat)
  deriving DecidableEq, Repr

/-- An object: its rows when it is a WINDOW, whether it heads a lease domain (R33), its entries, and whether
COMMIT and CLEAR return ACCESS because its rows are published. -/
structure Obj where
  rows      : Option Nat := none
  head      : Bool := false
  published : Bool := false
  entries   : List Entry
  deriving DecidableEq, Repr

/-- Identity 0x1000 (Table 2-12). -/
def identity : List Entry :=
  [ ⟨0x01, 1, (.oct 16), .rT, 0x4b726f76726164000000000000000000, false, []⟩
  , ⟨0x02, 1, (.oct 16), .rT, 0x49583130323400000000000000000000, false, []⟩
  , ⟨0x03, 1, (.oct 4), .rT, 0x41320000, false, []⟩
  , ⟨0x04, 1, (.u 8), .rT, 0, false, []⟩
  , ⟨0x05, 1, (.u 4), .rT, 0, false, []⟩
  , ⟨0x06, 1, (.u 4), .rT, 0x1d0c1024, false, []⟩ ]

/-- Profile 0x1001 (Table 1-6). -/
def profileObject : List Entry :=
  [ ⟨0x01, 1, (.u 1), .rwTr, 1, true, [(0, 1)]⟩
  , ⟨0x02, 1, (.u 1), .rT, 1, false, []⟩
  , ⟨0x03, 1, .bool, .r, 0, false, []⟩ ]

/-- Temperatures 0x1002 (Table 14-3). -/
def temperatures : List Entry :=
  [ ⟨0x01, 1, (.i 2), .rT, 0, false, []⟩
  , ⟨0x02, 28, (.i 2), .r, 0, false, []⟩ ]

/-- Node id 0x1010 (Table 2-12). -/
def nodeId : List Entry :=
  [ ⟨0x01, 1, (.u 2), .rw, 0, true, []⟩ ]

/-- Dolux addresses 0x1101 (Table 2-12). -/
def doluxAddress : List Entry :=
  [ ⟨0x01, 1, (.u 2), .rw, 40510, true, [(1, 65535)]⟩
  , ⟨0x02, 1, (.oct 16), .rw, 0, true, []⟩
  , ⟨0x03, 1, (.oct 4), .rw, 0, true, []⟩
  , ⟨0x04, 1, (.u 2), .rw, 0, true, [(0, 4094)]⟩ ]

/-- Dolux counters 0x1102 (Table 2-12). -/
def doluxCounters : List Entry :=
  [ ⟨0x01, 5, (.u 8), .r, 0, false, []⟩ ]

/-- Key table 0x1110 (Table 2-12). -/
def keyTable : List Entry :=
  [ ⟨0x04, 1, .bool, .rw, 0, true, []⟩
  , ⟨0x05, 1, (.u 1), .rw, 3, true, [(1, 3)]⟩
  , ⟨0x06, 1, (.u 2), .rw, 0, true, [(0, 4095)]⟩
  , ⟨0x07, 1, (.oct 32), .w, 0, true, []⟩
  , ⟨0x08, 1, .time, .rw, 0, true, []⟩
  , ⟨0x09, 1, (.u 8), .r, 0, false, []⟩ ]

/-- Management lanes 0x1120, 0x1121 (Table 3-6). -/
def mgmtLane : List Entry :=
  [ ⟨0x01, 1, (.u 1), .rw, 1, true, [(1, 1), (3, 3)]⟩
  , ⟨0x02, 1, (.u 1), .r, 0, false, []⟩
  , ⟨0x03, 3, (.u 8), .r, 0, false, []⟩ ]

/-- Station time 0x1200 (Table 14-3). -/
def stationTime : List Entry :=
  [ ⟨0x01, 1, (.u 1), .rT, 0, false, []⟩
  , ⟨0x02, 1, .bool, .rT, 0, false, []⟩
  , ⟨0x03, 1, (.u 1), .rT, 0, false, []⟩
  , ⟨0x04, 1, .time, .rT, 0, false, []⟩
  , ⟨0x05, 1, (.i 8), .r, 0, false, []⟩
  , ⟨0x06, 1, (.i 4), .r, 0, false, []⟩
  , ⟨0x07, 1, (.u 4), .r, 0, false, []⟩
  , ⟨0x08, 1, (.i 8), .r, 0, false, []⟩
  , ⟨0x09, 1, (.u 8), .rT, 0, false, []⟩ ]

/-- Time sources 0x1201 (Table 14-3). -/
def timeSources : List Entry :=
  [ ⟨0x01, 1, (.u 1), .rw, 1, true, [(0, 5)]⟩
  , ⟨0x02, 1, (.u 1), .rw, 5, true, [(0, 5)]⟩
  , ⟨0x03, 2, (.u 1), .rw, 0, true, [(0, 5)]⟩
  , ⟨0x05, 1, (.u 4), .rw, 60, true, [(0, 86400)]⟩
  , ⟨0x06, 1, (.u 4), .rw, 1000, true, [(100, 0xf4240)]⟩
  , ⟨0x07, 1, (.u 4), .rw, 100, true, [(10, 10000)]⟩ ]

/-- PPS and REF10M 0x1202 (Table 14-3). -/
def ppsObject : List Entry :=
  [ ⟨0x01, 1, .bool, .rw, 0, true, []⟩
  , ⟨0x02, 1, (.i 4), .rw, 0, true, []⟩
  , ⟨0x03, 1, (.u 8), .w, 0, false, []⟩
  , ⟨0x04, 1, .bool, .rw, 1, true, []⟩
  , ⟨0x05, 1, (.u 2), .rw, 100, true, [(1, 500000)]⟩
  , ⟨0x06, 1, (.i 4), .rw, 0, true, []⟩
  , ⟨0x07, 1, .bool, .rw, 0, true, []⟩
  , ⟨0x08, 1, .bool, .r, 0, false, []⟩ ]

/-- Core reference 0x1203 (Table 14-3). -/
def coreReference : List Entry :=
  [ ⟨0x01, 1, (.u 1), .rw, 0, true, [(0, 1)]⟩
  , ⟨0x02, 1, (.u 1), .r, 0, false, []⟩
  , ⟨0x03, 1, (.u 4), .r, 0, false, []⟩ ]

/-- PTP instances 0x1210 (Table 14-3). -/
def ptpInstances : List Entry :=
  [ ⟨0x04, 1, .bool, .rw, 0, true, []⟩
  , ⟨0x05, 1, (.u 1), .rw, 1, true, [(1, 3)]⟩
  , ⟨0x06, 1, (.u 1), .rw, 0, true, []⟩
  , ⟨0x07, 2, (.u 1), .rw, 248, true, []⟩
  , ⟨0x09, 1, (.u 1), .rw, 1, true, []⟩
  , ⟨0x0C, 1, (.i 8), .r, 0, false, []⟩
  , ⟨0x0D, 1, (.i 2), .r, 0, false, []⟩ ]

/-- PTP ports 0x1220 (Table 14-3). -/
def ptpPorts : List Entry :=
  [ ⟨0x04, 1, .bool, .rw, 0, true, []⟩
  , ⟨0x05, 1, (.u 1), .rw, 0, true, [(0, 3)]⟩
  , ⟨0x06, 1, (.i 1), .rw, 253, true, [(0, 3), (249, 255)]⟩
  , ⟨0x07, 1, (.i 1), .rw, 0, true, [(0, 3), (249, 255)]⟩
  , ⟨0x09, 1, (.i 4), .rw, 0, true, []⟩
  , ⟨0x0A, 1, (.u 1), .r, 0, false, []⟩
  , ⟨0x0B, 1, (.u 4), .r, 0, false, []⟩
  , ⟨0x0C, 3, (.u 8), .r, 0, false, []⟩ ]

/-- Reset control 0x1300 (Table 15-11). -/
def resetControl : List Entry :=
  [ ⟨0x01, 1, (.u 1), .w, 0, false, [(1, 2)]⟩
  , ⟨0x02, 1, (.u 1), .rT, 0, false, []⟩
  , ⟨0x03, 1, (.u 4), .r, 0, false, []⟩
  , ⟨0x04, 1, (.u 1), .rT, 0, false, []⟩
  , ⟨0x05, 2, (.u 1), .r, 0, false, []⟩
  , ⟨0x07, 1, (.u 4), .r, 0, false, []⟩
  , ⟨0x08, 1, .bool, .r, 0, false, []⟩
  , ⟨0x10, 1, (.oct 16), .r, 0, false, []⟩
  , ⟨0x11, 1, (.oct 128), .w, 0, false, []⟩
  , ⟨0x12, 1, (.u 1), .r, 0, false, []⟩ ]

/-- Configuration commit 0x1301 (Table 15-11). -/
def commitControl : List Entry :=
  [ ⟨0x01, 1, (.u 1), .w, 0, false, [(1, 1)]⟩
  , ⟨0x02, 1, (.u 1), .r, 0, false, []⟩
  , ⟨0x03, 1, (.u 4), .r, 0, false, []⟩
  , ⟨0x04, 1, (.u 1), .r, 255, false, []⟩
  , ⟨0x05, 1, (.u 4), .r, 0, false, []⟩
  , ⟨0x06, 1, .time, .r, 0, false, []⟩
  , ⟨0x07, 1, .bool, .r, 0, false, []⟩
  , ⟨0x08, 2, (.u 1), .r, 0, false, []⟩ ]

/-- Firmware update 0x1302 (Table 15-11). -/
def firmwareUpdate : List Entry :=
  [ ⟨0x01, 1, .domain, .w, 0, false, []⟩
  , ⟨0x02, 1, (.u 1), .w, 0, false, [(1, 5)]⟩
  , ⟨0x03, 4, (.u 1), .r, 0, false, []⟩
  , ⟨0x07, 5, (.u 4), .r, 0, false, []⟩
  , ⟨0x0C, 1, (.u 1), .r, 0, false, []⟩ ]

/-- Station lease 0x1303 (Table 2-8). -/
def stationLease : List Entry :=
  [ ⟨0x01, 1, (.u 1), .r, 0, false, []⟩
  , ⟨0x02, 1, (.u 2), .r, 0, false, []⟩ ]

/-- Event log 0x1400 (Table 16-6). -/
def eventLog : List Entry :=
  [ ⟨0x04, 1, (.u 4), .r, 0, false, []⟩
  , ⟨0x05, 1, .time, .r, 0, false, []⟩
  , ⟨0x06, 1, (.u 2), .r, 0, false, []⟩
  , ⟨0x07, 2, (.u 1), .r, 0, false, []⟩
  , ⟨0x09, 1, (.oct 48), .r, 0, false, []⟩ ]

/-- Unit health 0x1401 (Table 16-4). -/
def unitHealth : List Entry :=
  [ ⟨0x04, 1, (.u 1), .r, 0, false, []⟩
  , ⟨0x05, 1, (.u 2), .r, 0, false, []⟩
  , ⟨0x06, 1, (.u 1), .r, 0, false, []⟩
  , ⟨0x07, 1, .time, .r, 0, false, []⟩
  , ⟨0x08, 1, (.u 8), .r, 0, false, []⟩
  , ⟨0x09, 1, (.u 4), .r, 0, false, []⟩
  , ⟨0x0A, 1, (.u 1), .r, 0, false, []⟩
  , ⟨0x0B, 1, (.u 2), .r, 65535, false, []⟩
  , ⟨0x0C, 1, (.oct 16), .r, 0xffffffffffffffffffffffffffffffff, false, []⟩ ]

/-- Availability counters 0x1402 (Table 16-5). -/
def availability : List Entry :=
  [ ⟨0x01, 2, (.u 8), .r, 0, false, []⟩
  , ⟨0x03, 1, (.u 4), .r, 0x3b9aca00, false, []⟩
  , ⟨0x04, 7, (.u 4), .r, 0, false, []⟩
  , ⟨0x0B, 2, (.u 8), .r, 0, false, []⟩
  , ⟨0x10, 2, (.u 4), .r, 0, false, []⟩
  , ⟨0x12, 1, (.u 8), .r, 0, false, []⟩ ]

/-- Port 0x2000+p (Tables 3-8, 4-14, 6-12, 16-8). -/
def portObject : List Entry :=
  [ ⟨0x01, 1, .bool, .rw, 0, true, []⟩
  , ⟨0x02, 2, (.u 1), .r, 0, false, []⟩
  , ⟨0x04, 1, (.u 4), .r, 0, false, []⟩
  , ⟨0x05, 1, (.u 2), .rw, 1526, true, []⟩
  , ⟨0x06, 1, .bool, .rw, 0, true, []⟩
  , ⟨0x07, 1, (.u 1), .r, 0, false, []⟩
  , ⟨0x08, 1, (.u 1), .r, 1, false, []⟩
  , ⟨0x09, 1, .bool, .r, 0, false, []⟩
  , ⟨0x0A, 1, (.u 4), .r, 0, false, []⟩
  , ⟨0x10, 14, (.u 8), .r, 0, false, []⟩
  , ⟨0x1E, 1, (.u 4), .r, 0, false, []⟩
  , ⟨0x20, 15, (.u 8), .r, 0, false, []⟩
  , ⟨0x30, 3, (.u 8), .r, 0, false, []⟩
  , ⟨0x33, 1, (.u 4), .r, 0, false, []⟩ ]

/-- Lane 0x2400+l (Table 3-7). -/
def laneObject : List Entry :=
  [ ⟨0x01, 2, (.u 1), .rw, 0, true, []⟩
  , ⟨0x03, 2, (.u 1), .r, 0, false, []⟩
  , ⟨0x05, 2, .bool, .rw, 0, true, []⟩
  , ⟨0x07, 1, (.u 2), .rw, 10, true, [(0, 1000)]⟩
  , ⟨0x08, 2, (.u 2), .r, 0, false, []⟩
  , ⟨0x10, 3, (.u 8), .r, 0, false, []⟩
  , ⟨0x13, 1, (.u 4), .r, 0, false, []⟩
  , ⟨0x20, 1, (.u 4), .rw, 0, true, [(0, 1048574)]⟩
  , ⟨0x21, 1, (.u 1), .rw, 1, true, [(1, 254)]⟩
  , ⟨0x30, 2, (.oct 20), .rw, 0xffffffffffffffffffffffffffffffffffffffff, true, []⟩
  , ⟨0x32, 1, (.u 1), .r, 0, true, []⟩
  , ⟨0x33, 1, (.u 1), .w, 0, false, []⟩
  , ⟨0x34, 1, (.u 1), .r, 0, false, []⟩
  , ⟨0x40, 16, (.u 2), .rw, 0, true, [(0, 65534)]⟩ ]

/-- Frame unit map 0x2500 (Table 3-4). -/
def frameUnitMap : List Entry :=
  [ ⟨0x04, 1, (.u 2), .r, 0, false, []⟩
  , ⟨0x05, 2, (.u 1), .r, 0, false, []⟩
  , ⟨0x07, 1, .time, .r, 0, false, []⟩
  , ⟨0x08, 1, (.u 4), .r, 0, false, []⟩ ]

/-- Queue q of 0x3000+p (Table 6-8). -/
def queueObject (q : Nat) : List Entry :=
  [ ⟨16 * q + 1, 1, (.u 4), .rw, 16384, true, []⟩
  , ⟨16 * q + 2, 1, .bool, .rw, 0, true, []⟩
  , ⟨16 * q + 3, 1, (.u 4), .rw, 0, true, []⟩
  , ⟨16 * q + 4, 1, (.i 8), .r, 0, false, []⟩
  , ⟨16 * q + 5, 1, (.u 4), .rw, 0, true, []⟩
  , ⟨16 * q + 6, 1, (.u 4), .rw, 0, true, []⟩
  , ⟨16 * q + 7, 1, .bool, .r, 1, false, []⟩
  , ⟨16 * q + 8, 1, (.u 4), .r, 0, false, []⟩
  , ⟨16 * q + 9, 1, (.u 4), .r, 0, false, []⟩
  , ⟨16 * q + 10, 1, (.u 8), .r, 0, false, []⟩
  , ⟨16 * q + 11, 1, (.u 8), .r, 0, false, []⟩
  , ⟨16 * q + 12, 1, (.u 8), .r, 0, false, []⟩
  , ⟨16 * q + 13, 1, (.u 8), .r, 0, false, []⟩ ]

/-- Gate lists 0x3400+p (Table 6-9). -/
def gateObject : List Entry :=
  [ ⟨0x01, 1, .bool, .rw, 0, true, []⟩
  , ⟨0x02, 1, (.u 1), .rw, 255, true, []⟩
  , ⟨0x03, 1, .domain, .rw, 0, true, []⟩
  , ⟨0x04, 1, .domain, .r, 0, false, []⟩
  , ⟨0x05, 2, .time, .r, 0, false, []⟩
  , ⟨0x07, 1, (.u 4), .r, 0, false, []⟩
  , ⟨0x08, 2, (.u 2), .r, 0, false, []⟩
  , ⟨0x0A, 1, (.u 1), .r, 255, false, []⟩
  , ⟨0x0B, 1, (.u 1), .w, 0, false, []⟩
  , ⟨0x0C, 1, (.u 4), .r, 0, false, []⟩
  , ⟨0x0D, 1, .time, .r, 0, false, []⟩
  , ⟨0x0E, 1, (.u 1), .r, 0, false, []⟩ ]

/-- Meter rows 0x3800 (Table 6-10). -/
def meterRow : List Entry :=
  [ ⟨0x04, 1, .bool, .rwT, 0, true, []⟩
  , ⟨0x05, 1, (.u 2), .rwTr, 0, true, []⟩
  , ⟨0x06, 1, (.u 1), .rwT, 0, true, [(0, 2)]⟩
  , ⟨0x07, 4, (.u 4), .rwT, 0, true, []⟩
  , ⟨0x0B, 1, (.u 1), .rwT, 0, true, [(0, 1), (3, 3)]⟩
  , ⟨0x0C, 1, (.u 1), .rwT, 0, true, [(0, 3)]⟩
  , ⟨0x0D, 1, (.u 1), .rwT, 3, true, [(0, 3)]⟩
  , ⟨0x0E, 2, (.u 1), .rwT, 0, true, [(0, 63)]⟩
  , ⟨0x10, 9, (.u 8), .rT, 0, false, []⟩ ]

/-- Queue rows 0x3801 (Table 6-11). -/
def queueRow : List Entry :=
  [ ⟨0x04, 1, (.u 4), .rwT, 0, true, []⟩
  , ⟨0x05, 1, (.u 4), .rwT, 1000, true, [(1, 0xf4240)]⟩
  , ⟨0x06, 1, .bool, .rwT, 0, true, []⟩
  , ⟨0x07, 1, (.u 1), .rwT, 0, false, []⟩
  , ⟨0x08, 1, (.u 4), .rwT, 0, true, []⟩
  , ⟨0x09, 1, (.u 4), .rwT, 0x5f5e100, true, []⟩
  , ⟨0x0A, 1, (.u 4), .rT, 0, false, []⟩
  , ⟨0x0B, 3, (.u 8), .rT, 0, false, []⟩
  , ⟨0x0E, 3, (.u 4), .rT, 0, false, []⟩
  , ⟨0x11, 1, (.u 8), .rT, 0, false, []⟩
  , ⟨0x12, 1, (.oct 64), .rT, 0, false, []⟩
  , ⟨0x13, 1, (.u 8), .rT, 0, false, []⟩ ]

/-- Stream table 0x4000 (Table 7-7). -/
def streamRow : List Entry :=
  [ ⟨0x04, 1, (.u 1), .rT, 0, false, []⟩
  , ⟨0x14, 1, (.u 4), .rT, 0, false, []⟩
  , ⟨0x15, 1, (.u 4), .rT, 0, true, []⟩
  , ⟨0x16, 2, (.u 4), .rT, 0, false, []⟩
  , ⟨0x18, 2, (.u 1), .rT, 0, false, []⟩
  , ⟨0x1A, 1, .time, .rT, 0, false, []⟩
  , ⟨0x1B, 3, (.u 8), .rT, 0, false, []⟩
  , ⟨0x30, 1, (.u 1), .rT, 0, true, []⟩
  , ⟨0x31, 1, (.u 2), .rT, 0, true, []⟩
  , ⟨0x32, 1, (.u 4), .rT, 0, true, []⟩
  , ⟨0x33, 1, (.u 2), .rT, 0, true, []⟩
  , ⟨0x34, 1, (.u 1), .rT, 0, true, []⟩
  , ⟨0x35, 3, (.u 2), .rT, 0, true, []⟩
  , ⟨0x38, 2, (.u 1), .rT, 0, true, []⟩
  , ⟨0x3A, 6, (.u 4), .rT, 0, true, []⟩
  , ⟨0x40, 2, (.u 2), .rT, 0, true, []⟩
  , ⟨0x42, 1, (.u 4), .rT, 0, true, []⟩ ]

/-- Admission request 0x4001 (Table 7-6). -/
def admissionObject : List Entry :=
  [ ⟨0x01, 1, (.oct 64), .w, 0, false, []⟩
  , ⟨0x02, 2, (.u 1), .r, 0, false, []⟩
  , ⟨0x04, 1, (.u 4), .r, 0xffffffff, false, []⟩
  , ⟨0x05, 3, (.u 4), .r, 0, false, []⟩
  , ⟨0x08, 1, (.u 2), .r, 0, false, []⟩
  , ⟨0x09, 1, (.oct 64), .r, 0xffffffffffffffffffffffffffffffffffffffffffffffffffffffffffffffffffffffffffffffffffffffffffffffffffffffffffffffffffffffffffffffff, false, []⟩
  , ⟨0x0A, 1, (.u 1), .r, 0, false, []⟩ ]

/-- FRER member rows 0x4002 (Table 7-8). -/
def frerRow : List Entry :=
  [ ⟨0x04, 1, .bool, .rw, 0, true, []⟩
  , ⟨0x05, 1, (.u 1), .rw, 0, true, [(1, 2)]⟩
  , ⟨0x06, 1, (.u 2), .rw, 0, true, [(0, 4095)]⟩
  , ⟨0x07, 1, (.u 4), .rw, 0xffffffff, true, []⟩
  , ⟨0x08, 1, (.u 1), .rw, 0, true, [(0, 2)]⟩
  , ⟨0x09, 1, (.u 1), .rw, 0, true, [(0, 1)]⟩
  , ⟨0x0A, 1, (.u 1), .rw, 8, true, [(2, 32)]⟩
  , ⟨0x0B, 1, (.u 4), .rw, 0x1e8480, true, [(1000, 0x3b9aca00)]⟩
  , ⟨0x0C, 1, .bool, .rw, 0, true, []⟩
  , ⟨0x10, 8, (.u 8), .r, 0, false, []⟩ ]

/-- Parser and batch 0x5000 (Table 4-11). -/
def parserObject : List Entry :=
  [ ⟨0x01, 1, (.u 2), .rw, 4789, true, []⟩
  , ⟨0x02, 1, (.u 2), .rw, 6081, true, []⟩
  , ⟨0x03, 4, (.u 2), .rw, 0, true, []⟩
  , ⟨0x10, 1, (.u 1), .wT, 0, false, [(1, 3)]⟩
  , ⟨0x11, 1, (.u 1), .rT, 0, false, []⟩
  , ⟨0x12, 1, (.u 2), .rT, 0, false, []⟩
  , ⟨0x13, 1, (.u 4), .r, 0, false, []⟩ ]

/-- Exact rows 0x5010 (Tables 4-7, 4-12). -/
def exactRow : List Entry :=
  [ ⟨0x04, 1, .bool, .rwT, 0, true, []⟩
  , ⟨0x05, 1, (.u 2), .rwTr, 0, true, []⟩
  , ⟨0x06, 1, (.u 1), .rwT, 0, true, [(1, 63)]⟩
  , ⟨0x07, 1, (.oct 48), .rwT, 0, true, []⟩
  , ⟨0x09, 1, (.u 8), .rT, 0, false, []⟩
  , ⟨0x10, 1, (.u 2), .rwTr, 65535, true, [(0, 4095), (65535, 65535)]⟩
  , ⟨0x11, 1, (.u 4), .rwT, 0xffffffff, true, [(0, 65535), (0xffffffff, 0xffffffff)]⟩
  , ⟨0x12, 3, (.u 1), .rwT, 0, true, [(0, 63)]⟩
  , ⟨0x15, 1, (.u 1), .rwT, 0, true, [(0, 2)]⟩
  , ⟨0x16, 1, (.u 1), .rwT, 0, true, [(0, 6)]⟩
  , ⟨0x17, 1, (.u 4), .rwT, 0, true, []⟩
  , ⟨0x18, 1, (.u 1), .rwT, 255, true, [(0, 5), (255, 255)]⟩
  , ⟨0x19, 1, (.u 4), .rwT, 0xffffffff, true, [(0, 65535), (0xffffffff, 0xffffffff)]⟩
  , ⟨0x1A, 2, (.u 4), .rwTr, 0xffffffff, true, [(0, 16383), (0xffffffff, 0xffffffff)]⟩
  , ⟨0x1C, 1, (.u 1), .rwT, 0, true, [(0, 3)]⟩
  , ⟨0x1D, 1, (.u 4), .rwT, 0xffffffff, true, [(0, 131071), (0xffffffff, 0xffffffff)]⟩
  , ⟨0x1E, 1, (.u 1), .rwT, 0, true, [(0, 2)]⟩
  , ⟨0x1F, 1, (.u 4), .rwT, 0, true, []⟩
  , ⟨0x20, 1, (.u 2), .rwT, 0, true, [(0, 0), (64, 256)]⟩
  , ⟨0x21, 1, (.u 2), .rwTr, 65535, true, [(0, 16383), (65535, 65535)]⟩
  , ⟨0x22, 1, (.u 2), .rwTr, 0, true, []⟩
  , ⟨0x23, 1, (.u 1), .rwTr, 0, true, []⟩
  , ⟨0x24, 1, (.u 1), .rwT, 0, true, [(0, 0), (16, 255)]⟩
  , ⟨0x25, 1, .bool, .rwT, 0, true, []⟩
  , ⟨0x26, 1, (.u 1), .rwT, 0, true, [(0, 5)]⟩
  , ⟨0x27, 1, (.u 2), .rwT, 0, true, []⟩
  , ⟨0x28, 1, (.u 1), .rwT, 0, true, [(0, 1)]⟩
  , ⟨0x29, 2, (.oct 6), .rwT, 0, true, []⟩
  , ⟨0x2B, 1, .bool, .rwT, 0, true, []⟩
  , ⟨0x2C, 1, (.u 1), .rwT, 255, true, [(0, 63), (255, 255)]⟩
  , ⟨0x2D, 1, .bool, .rwT, 0, true, []⟩
  , ⟨0x2E, 1, (.u 2), .rwT, 0, true, []⟩ ]

/-- Ternary rows 0x5011 (Tables 4-7, 4-12). -/
def ternaryRow : List Entry :=
  [ ⟨0x04, 1, .bool, .rwT, 0, true, []⟩
  , ⟨0x05, 1, (.u 2), .rwTr, 0, true, []⟩
  , ⟨0x06, 1, (.u 1), .rwT, 0, true, []⟩
  , ⟨0x07, 2, (.oct 76), .rwT, 0, true, []⟩
  , ⟨0x09, 1, (.u 8), .rT, 0, false, []⟩
  , ⟨0x10, 1, (.u 2), .rwTr, 65535, true, [(0, 4095), (65535, 65535)]⟩
  , ⟨0x11, 1, (.u 4), .rwT, 0xffffffff, true, [(0, 65535), (0xffffffff, 0xffffffff)]⟩
  , ⟨0x12, 3, (.u 1), .rwT, 0, true, [(0, 63)]⟩
  , ⟨0x15, 1, (.u 1), .rwT, 0, true, [(0, 2)]⟩
  , ⟨0x16, 1, (.u 1), .rwT, 0, true, [(0, 6)]⟩
  , ⟨0x17, 1, (.u 4), .rwT, 0, true, []⟩
  , ⟨0x18, 1, (.u 1), .rwT, 255, true, [(0, 5), (255, 255)]⟩
  , ⟨0x19, 1, (.u 4), .rwT, 0xffffffff, true, [(0, 65535), (0xffffffff, 0xffffffff)]⟩
  , ⟨0x1A, 2, (.u 4), .rwTr, 0xffffffff, true, [(0, 16383), (0xffffffff, 0xffffffff)]⟩
  , ⟨0x1C, 1, (.u 1), .rwT, 0, true, [(0, 3)]⟩
  , ⟨0x1D, 1, (.u 4), .rwT, 0xffffffff, true, [(0, 131071), (0xffffffff, 0xffffffff)]⟩
  , ⟨0x1E, 1, (.u 1), .rwT, 0, true, [(0, 2)]⟩
  , ⟨0x1F, 1, (.u 4), .rwT, 0, true, []⟩
  , ⟨0x20, 1, (.u 2), .rwT, 0, true, [(0, 0), (64, 256)]⟩
  , ⟨0x21, 1, (.u 2), .rwTr, 65535, true, [(0, 16383), (65535, 65535)]⟩
  , ⟨0x22, 1, (.u 2), .rwTr, 0, true, []⟩
  , ⟨0x23, 1, (.u 1), .rwTr, 0, true, []⟩
  , ⟨0x24, 1, (.u 1), .rwT, 0, true, [(0, 0), (16, 255)]⟩
  , ⟨0x25, 1, .bool, .rwT, 0, true, []⟩
  , ⟨0x26, 1, (.u 1), .rwT, 0, true, [(0, 5)]⟩
  , ⟨0x27, 1, (.u 2), .rwT, 0, true, []⟩
  , ⟨0x28, 1, (.u 1), .rwT, 0, true, [(0, 1)]⟩
  , ⟨0x29, 2, (.oct 6), .rwT, 0, true, []⟩
  , ⟨0x2B, 1, .bool, .rwT, 0, true, []⟩
  , ⟨0x2C, 1, (.u 1), .rwT, 255, true, [(0, 63), (255, 255)]⟩
  , ⟨0x2D, 1, .bool, .rwT, 0, true, []⟩
  , ⟨0x2E, 1, (.u 2), .rwT, 0, true, []⟩ ]

/-- Key profiles 0x5012 (Table 4-13). -/
def keyProfile : List Entry :=
  [ ⟨0x04, 17, (.u 1), .rwTr, 0, true, []⟩ ]

/-- Tenant lookup counters 0x5013 (Table 4-13). -/
def lookupCounters : List Entry :=
  [ ⟨0x04, 4, (.u 8), .rT, 0, false, []⟩
  , ⟨0x08, 3, (.u 4), .rT, 0, false, []⟩ ]

/-- Tunnel endpoints 0x5100 (Table 4-9). -/
def tunnelRow : List Entry :=
  [ ⟨0x04, 1, .bool, .rwT, 0, true, []⟩
  , ⟨0x05, 1, (.u 2), .rwTr, 0, true, []⟩
  , ⟨0x06, 1, (.u 1), .rwT, 0, true, [(20, 20), (22, 22), (36, 36), (38, 38)]⟩
  , ⟨0x07, 2, (.oct 6), .rwT, 0, true, []⟩
  , ⟨0x09, 1, (.u 2), .rwT, 0, true, []⟩
  , ⟨0x0A, 2, (.oct 16), .rwT, 0, true, []⟩
  , ⟨0x0C, 1, (.u 1), .rwT, 64, true, []⟩
  , ⟨0x0D, 1, (.u 1), .rwT, 255, true, [(0, 63), (255, 255)]⟩
  , ⟨0x0E, 1, (.u 2), .rwT, 0, true, []⟩
  , ⟨0x0F, 1, (.u 4), .rwT, 0, true, [(0, 0xffffff)]⟩
  , ⟨0x10, 1, (.oct 64), .rwT, 0, true, []⟩
  , ⟨0x11, 1, (.u 1), .rwT, 0, true, [(0, 0), (4, 4), (8, 8), (12, 12), (16, 16), (20, 20), (24, 24), (28, 28), (32, 32), (36, 36), (40, 40), (44, 44), (48, 48), (52, 52), (56, 56), (60, 60), (64, 64)]⟩
  , ⟨0x12, 1, (.u 2), .rwTr, 65535, true, [(0, 1023), (65535, 65535)]⟩ ]

/-- Multicast members 0x5200 (Table 4-10). -/
def multicastRow : List Entry :=
  [ ⟨0x04, 1, .bool, .rw, 0, true, []⟩
  , ⟨0x05, 1, (.u 2), .rw, 0, true, [(0, 4095)]⟩
  , ⟨0x06, 1, (.u 1), .rw, 0, true, [(1, 3)]⟩
  , ⟨0x07, 1, (.u 4), .rw, 0, true, []⟩
  , ⟨0x08, 1, (.u 1), .rw, 0, true, [(0, 5)]⟩
  , ⟨0x09, 1, (.u 2), .rw, 0, true, []⟩
  , ⟨0x0A, 1, (.u 4), .rw, 0xffffffff, true, [(0, 131071), (0xffffffff, 0xffffffff)]⟩ ]

/-- Cipher global 0x6000 (Table 8-7). -/
def cipherGlobal : List Entry :=
  [ ⟨0x01, 1, (.u 1), .rT, 0, false, []⟩
  , ⟨0x02, 1, (.u 1), .r, 0, false, []⟩
  , ⟨0x03, 1, (.u 1), .w, 0, false, []⟩
  , ⟨0x10, 9, (.u 8), .r, 0, false, []⟩ ]

/-- Security associations 0x6010 (Table 8-6). -/
def saRow : List Entry :=
  [ ⟨0x04, 1, .bool, .rwT, 0, true, []⟩
  , ⟨0x05, 1, (.u 2), .rwTr, 0, true, []⟩
  , ⟨0x06, 1, (.u 1), .rwT, 0, true, [(1, 7)]⟩
  , ⟨0x07, 1, (.u 1), .rwT, 32, true, []⟩
  , ⟨0x08, 1, .bool, .rwT, 0, true, []⟩
  , ⟨0x09, 1, (.oct 64), .wT, 0, true, []⟩
  , ⟨0x0A, 1, (.oct 72), .wT, 0, false, []⟩
  , ⟨0x0B, 1, (.u 4), .rwT, 0xffffffff, false, []⟩
  , ⟨0x0C, 1, (.oct 12), .wT, 0, true, []⟩
  , ⟨0x0D, 1, (.oct 8), .rwT, 0, true, []⟩
  , ⟨0x0E, 1, (.u 1), .rwT, 0, true, [(0, 3)]⟩
  , ⟨0x0F, 1, (.u 4), .rwT, 0, true, []⟩
  , ⟨0x10, 1, (.u 1), .rwT, 0, true, [(0, 0), (30, 30), (50, 50)]⟩
  , ⟨0x11, 1, .bool, .rwT, 0, true, []⟩
  , ⟨0x12, 1, .bool, .rwT, 1, true, []⟩
  , ⟨0x13, 1, (.u 8), .rwT, 1, true, []⟩
  , ⟨0x14, 2, (.u 4), .rwT, 0, true, []⟩
  , ⟨0x16, 1, (.u 1), .rwT, 1, true, [(1, 2)]⟩
  , ⟨0x17, 2, (.oct 16), .rwT, 0, true, []⟩
  , ⟨0x19, 1, (.u 1), .rwT, 4, true, [(4, 4), (6, 6)]⟩
  , ⟨0x1A, 1, (.u 1), .rwT, 64, true, [(1, 255)]⟩
  , ⟨0x1B, 1, (.u 8), .rwT, 0xc0000000, true, []⟩
  , ⟨0x1C, 1, .bool, .rwT, 0, true, []⟩
  , ⟨0x20, 1, (.u 1), .rT, 0, false, []⟩
  , ⟨0x21, 1, (.u 8), .rT, 0, true, []⟩
  , ⟨0x22, 6, (.u 8), .rT, 0, false, []⟩ ]

/-- Randomness health 0x6020 (Table 8-7). -/
def randomness : List Entry :=
  [ ⟨0x01, 1, (.u 1), .rT, 0, false, []⟩
  , ⟨0x02, 1, (.u 2), .rT, 81, false, []⟩
  , ⟨0x03, 1, (.u 2), .rT, 0, false, []⟩
  , ⟨0x04, 1, (.u 8), .r, 0, false, []⟩
  , ⟨0x05, 2, (.u 4), .r, 0, false, []⟩
  , ⟨0x07, 2, (.u 8), .r, 0, false, []⟩
  , ⟨0x09, 1, (.u 4), .r, 0, false, []⟩ ]

/-- Storage connections 0x7000 (Table 9-11). -/
def storageRow : List Entry :=
  [ ⟨0x04, 1, (.u 1), .rT, 0, false, []⟩
  , ⟨0x05, 1, (.u 2), .rT, 0, false, []⟩
  , ⟨0x06, 1, (.u 1), .rT, 0, false, []⟩
  , ⟨0x07, 3, (.u 4), .rT, 0, false, []⟩
  , ⟨0x0A, 4, (.u 8), .rT, 0, false, []⟩
  , ⟨0x0E, 2, (.u 4), .rT, 0, false, []⟩
  , ⟨0x10, 1, (.u 8), .rT, 0, false, []⟩ ]

/-- Host ports 0x7100, 0x7101 (Table 10-1). -/
def hostPort : List Entry :=
  [ ⟨0x01, 1, .bool, .rw, 1, true, []⟩
  , ⟨0x02, 1, (.u 1), .rw, 16, true, [(4, 4), (8, 8), (16, 16)]⟩
  , ⟨0x03, 1, (.u 1), .rw, 6, true, [(1, 6)]⟩
  , ⟨0x04, 2, (.u 1), .rw, 0, true, [(0, 1)]⟩
  , ⟨0x06, 1, .bool, .rw, 1, true, []⟩
  , ⟨0x10, 3, (.u 1), .r, 0, false, []⟩
  , ⟨0x13, 3, (.u 4), .r, 0, false, []⟩
  , ⟨0x16, 5, (.u 2), .r, 0, false, []⟩
  , ⟨0x1B, 5, (.u 8), .r, 0, false, []⟩ ]

/-- Tenant 0x8000+t (Table 10-2). -/
def tenantObject : List Entry :=
  [ ⟨0x01, 1, .bool, .rwTr, 0, true, []⟩
  , ⟨0x02, 1, (.u 1), .rwTr, 1, true, [(1, 2)]⟩
  , ⟨0x03, 1, (.u 1), .rT, 0, false, []⟩
  , ⟨0x04, 1, (.u 2), .rT, 0, false, []⟩
  , ⟨0x05, 1, .bool, .rT, 0, false, []⟩
  , ⟨0x06, 1, (.u 1), .rwTr, 0, true, [(0, 1), (3, 3)]⟩
  , ⟨0x07, 1, (.u 4), .rwTr, 0, true, []⟩
  , ⟨0x08, 3, (.u 2), .rT, 0, false, []⟩
  , ⟨0x0B, 1, (.u 1), .rwT, 1, true, []⟩
  , ⟨0x0C, 1, (.u 1), .rT, 0, false, []⟩
  , ⟨0x0D, 1, (.u 4), .rT, 0, false, []⟩
  , ⟨0x0E, 2, (.u 8), .rT, 0, false, []⟩ ]

/-- Mailbox binding 0x9000 (Table 11-12). -/
def bindingRow : List Entry :=
  [ ⟨0x04, 1, .bool, .rw, 0, true, []⟩
  , ⟨0x05, 1, (.u 1), .rw, 0, true, []⟩
  , ⟨0x06, 1, (.u 2), .rw, 0, true, []⟩
  , ⟨0x07, 2, (.u 1), .rw, 0, true, []⟩
  , ⟨0x09, 1, (.u 2), .rw, 0, true, []⟩
  , ⟨0x0A, 1, (.u 1), .rw, 0, true, []⟩
  , ⟨0x0B, 1, (.u 1), .r, 0, false, []⟩
  , ⟨0x0C, 3, (.u 8), .r, 0, false, []⟩ ]

/-- Binding lock 0x9001 (Table 11-12). -/
def bindingLockObject : List Entry :=
  [ ⟨0x01, 1, .bool, .rw, 0, false, []⟩
  , ⟨0x02, 1, .bool, .rw, 1, true, []⟩
  , ⟨0x03, 1, .time, .r, 0, false, []⟩ ]

/-- Event sources 0x9100 (Table 11-13). -/
def eventSource : List Entry :=
  [ ⟨0x04, 1, (.u 1), .r, 0, false, []⟩
  , ⟨0x05, 1, .bool, .rwS, 0, true, []⟩
  , ⟨0x06, 1, (.u 1), .rwS, 0, true, [(0, 15)]⟩
  , ⟨0x07, 1, (.u 1), .rwS, 0, true, [(0, 4)]⟩
  , ⟨0x08, 1, (.u 2), .rwS, 0, true, [(0, 255)]⟩
  , ⟨0x09, 1, (.u 2), .rwS, 0, true, [(0, 2047)]⟩
  , ⟨0x0A, 1, (.u 1), .r, 0, false, []⟩
  , ⟨0x0B, 2, (.u 8), .r, 0, false, []⟩ ]

/-- Event controller counters 0x9101 (Table 11-13). -/
def eventCounters : List Entry :=
  [ ⟨0x01, 6, (.u 8), .r, 0, false, []⟩
  , ⟨0x07, 1, (.u 4), .r, 0, false, []⟩ ]

/-- DMA engine 0x9200 (Table 13-4). -/
def dmaObject : List Entry :=
  [ ⟨0x01, 1, (.u 1), .rw, 8, true, [(0, 32)]⟩
  , ⟨0x02, 4, (.u 8), .r, 0, false, []⟩
  , ⟨0x10, 32, (.u 2), .r, 0, false, []⟩ ]

/-- Pool manager 0x9300 (Table 5-6). -/
def poolObject : List Entry :=
  [ ⟨0x01, 1, (.u 1), .r, 1, false, []⟩
  , ⟨0x02, 1, (.u 4), .r, 0, false, []⟩
  , ⟨0x10, 1, (.u 2), .rw, 64, true, []⟩
  , ⟨0x11, 2, (.u 2), .rw, 48, true, []⟩
  , ⟨0x13, 1, (.u 2), .rw, 32, true, []⟩
  , ⟨0x14, 4, (.u 2), .r, 0, false, []⟩
  , ⟨0x18, 1, (.u 1), .rw, 8, true, []⟩
  , ⟨0x19, 1, (.u 1), .r, 8, false, []⟩
  , ⟨0x1A, 1, (.u 1), .rw, 2, true, []⟩
  , ⟨0x1B, 1, .bool, .r, 0, false, []⟩
  , ⟨0x1C, 1, (.u 1), .r, 2, false, []⟩
  , ⟨0x20, 12, (.u 4), .r, 0, false, []⟩ ]

/-- Requesters 0x9301 (Table 5-7). -/
def requesterRow : List Entry :=
  [ ⟨0x04, 1, (.u 1), .r, 0, false, []⟩
  , ⟨0x05, 6, (.u 4), .rw, 0, true, []⟩
  , ⟨0x0B, 6, (.u 4), .r, 0, false, []⟩
  , ⟨0x11, 1, (.u 1), .rw, 0, true, [(0, 8), (255, 255)]⟩
  , ⟨0x12, 6, (.u 4), .rw, 0xffffffff, true, []⟩
  , ⟨0x18, 6, (.u 4), .r, 0, false, []⟩
  , ⟨0x1E, 3, (.u 8), .r, 0, false, []⟩ ]

/-- Placement 0x9310 (Table 5-8). -/
def placement : List Entry :=
  [ ⟨0x01, 1, (.u 4), .rw, 20000, true, [(1000, 0x989680)]⟩
  , ⟨0x02, 1, .bool, .rw, 1, true, []⟩
  , ⟨0x03, 1, (.u 4), .rw, 750000, true, [(100000, 900000)]⟩
  , ⟨0x10, 16, (.u 4), .r, 0, false, []⟩ ]

/-- Cipher lanes 0x9311 (Table 5-8). -/
def cipherLanes : List Entry :=
  [ ⟨0x04, 2, (.u 1), .r, 0, false, []⟩
  , ⟨0x06, 1, .time, .r, 0, false, []⟩ ]

/-- Stream cipher lanes 0x9312 (Table 5-8). -/
def streamLanes : List Entry :=
  [ ⟨0x04, 2, (.u 1), .r, 255, false, []⟩ ]

/-- Cell placement 0x9313 (Table 5-8). -/
def cellPlacement : List Entry :=
  [ ⟨0x04, 2, (.u 1), .r, 255, false, []⟩
  , ⟨0x06, 1, (.u 4), .r, 0, false, []⟩
  , ⟨0x07, 1, .time, .r, 0, false, []⟩ ]

/-- Thread table 0x93F0 (Table 12-8). -/
def threadRow : List Entry :=
  [ ⟨0x04, 3, (.u 1), .r, 0, false, []⟩
  , ⟨0x07, 1, (.u 4), .r, 0, false, []⟩
  , ⟨0x08, 1, .time, .r, 0, false, []⟩
  , ⟨0x09, 1, (.u 2), .r, 65535, false, []⟩
  , ⟨0x0A, 1, (.u 1), .r, 0, false, []⟩
  , ⟨0x0B, 1, .time, .r, 0, false, []⟩
  , ⟨0x0C, 1, (.u 4), .r, 0, false, []⟩
  , ⟨0x0D, 1, (.u 2), .r, 0, false, []⟩
  , ⟨0x0E, 2, (.u 8), .r, 0, false, []⟩ ]

/-- Process image 0x93F1 (Table 12-9). -/
def imageSlot : List Entry :=
  [ ⟨0x04, 1, .time, .r, 0, false, []⟩
  , ⟨0x05, 1, (.u 4), .r, 0, false, []⟩
  , ⟨0x06, 2, (.u 2), .r, 0, false, []⟩
  , ⟨0x08, 1, (.oct 240), .r, 0, false, []⟩ ]

/-- Loop cores 0x9400 (Table 12-7). -/
def loopCores : List Entry :=
  [ ⟨0x01, 1, (.u 2), .r, 0, false, []⟩
  , ⟨0x02, 1, (.u 2), .rw, 10, true, [(1, 1000)]⟩
  , ⟨0x03, 1, (.u 4), .r, 0, false, []⟩
  , ⟨0x04, 1, (.oct 32), .r, 0, false, []⟩
  , ⟨0x05, 1, .bool, .r, 0, false, []⟩
  , ⟨0x06, 1, (.u 2), .r, 128, false, []⟩
  , ⟨0x07, 1, (.u 8), .r, 0, false, []⟩
  , ⟨0x08, 2, (.u 4), .r, 0, false, []⟩
  , ⟨0x10, 16, (.u 1), .r, 0, false, []⟩
  , ⟨0x20, 4, (.oct 97), .rw, 0, true, []⟩ ]

/-- Cell 0xA000+c (Table 12-10). -/
def cellObject : List Entry :=
  [ ⟨0x01, 1, .domain, .rw, 0, true, []⟩
  , ⟨0x02, 2, (.u 1), .r, 0, false, []⟩
  , ⟨0x04, 1, (.u 1), .rw, 1, true, [(1, 3)]⟩
  , ⟨0x05, 1, (.u 1), .r, 1, false, []⟩
  , ⟨0x06, 1, (.u 2), .rw, 65535, true, [(0, 4095), (65535, 65535)]⟩
  , ⟨0x07, 1, (.u 2), .rw, 65535, true, [(0, 16383), (65535, 65535)]⟩
  , ⟨0x08, 1, (.u 1), .rw, 3, true, [(2, 100)]⟩
  , ⟨0x09, 1, (.u 4), .rw, 0xffffffff, true, [(0, 16383), (0xffffffff, 0xffffffff)]⟩
  , ⟨0x0A, 1, (.u 4), .rw, 0, true, [(0, 0x98967f)]⟩
  , ⟨0x0B, 2, (.u 4), .r, 0, false, []⟩
  , ⟨0x0D, 2, (.u 8), .r, 0, false, []⟩
  , ⟨0x0F, 2, (.u 4), .r, 0, false, []⟩
  , ⟨0x11, 1, .time, .r, 0, false, []⟩
  , ⟨0x12, 2, (.u 4), .r, 0, false, []⟩
  , ⟨0x14, 1, (.u 1), .r, 0, false, []⟩
  , ⟨0x15, 1, (.u 8), .r, 0, false, []⟩
  , ⟨0x16, 1, (.u 2), .rw, 0, false, [(0, 0)]⟩
  , ⟨0x1A, 1, (.u 1), .w, 0, false, []⟩ ]

/-- Power 0xB000 (Tables 15-12, 17-11). -/
def powerObject : List Entry :=
  [ ⟨0x01, 1, (.u 4), .r, 0, false, []⟩
  , ⟨0x02, 1, (.u 2), .r, 800, false, []⟩
  , ⟨0x03, 1, .bool, .rw, 1, true, []⟩
  , ⟨0x04, 1, .bool, .rT, 0, false, []⟩
  , ⟨0x05, 2, (.u 4), .r, 0, false, []⟩
  , ⟨0x08, 1, (.u 4), .r, 0, false, []⟩
  , ⟨0x10, 1, (.u 4), .r, 0, false, []⟩
  , ⟨0x11, 2, (.u 8), .r, 0, false, []⟩ ]

/-- Rails 0xB100 (Table 15-12). -/
def rails : List Entry :=
  [ ⟨0x04, 1, (.u 1), .r, 0, false, []⟩
  , ⟨0x05, 1, (.u 2), .r, 0, false, []⟩
  , ⟨0x06, 1, (.u 4), .r, 0, false, []⟩
  , ⟨0x07, 1, (.u 2), .r, 0, false, []⟩
  , ⟨0x09, 1, (.u 4), .r, 0, false, []⟩ ]

/-- Fozon link and pair 0xC000 (Table 16-7). -/
def pairObject : List Entry :=
  [ ⟨0x01, 1, .bool, .rw, 0, true, []⟩
  , ⟨0x02, 1, (.u 2), .rw, 0, true, []⟩
  , ⟨0x03, 4, (.u 1), .r, 0, false, []⟩
  , ⟨0x07, 2, (.u 4), .r, 0, false, []⟩
  , ⟨0x09, 1, (.u 2), .r, 0, false, []⟩
  , ⟨0x0A, 1, (.i 4), .r, 0, false, []⟩
  , ⟨0x0B, 1, (.u 8), .r, 0, false, []⟩
  , ⟨0x0C, 1, (.u 4), .r, 0, false, []⟩ ]

/-- The queues of 0x3000+p: Quantum and Deficit are Q0–Q4 only, Depth limit and Head-age limit Q0–Q5 only. -/
def schedulerObject : List Entry :=
  (List.range 8).flatMap fun q =>
    (queueObject q).filter fun e =>
      let k := e.sub % 16
      !((k == 1 || k == 8) && decide (4 < q)) && !((k == 5 || k == 6) && decide (5 < q))

/-- The object at an index (R21); `none` gives NO_OBJECT: for 0xF000 to 0xFFFF while debug is unlocked too, since the manual names
no debug object (log entry 85). -/
def objectAt (ix : Nat) : Option Obj :=
  if ix < 0x1400 then
    if ix = 0x1000 then some { entries := identity }
    else if ix = 0x1001 then some { entries := profileObject }
    else if ix = 0x1002 then some { entries := temperatures }
    else if ix = 0x1010 then some { entries := nodeId }
    else if ix = 0x1101 then some { entries := doluxAddress }
    else if ix = 0x1102 then some { entries := doluxCounters }
    else if ix = 0x1110 then some { rows := some 256, entries := keyTable }
    else if ix = 0x1120 || ix = 0x1121 then some { entries := mgmtLane }
    else if ix = 0x1200 then some { entries := stationTime }
    else if ix = 0x1201 then some { entries := timeSources }
    else if ix = 0x1202 then some { entries := ppsObject }
    else if ix = 0x1203 then some { entries := coreReference }
    else if ix = 0x1210 then some { rows := some 4, entries := ptpInstances }
    else if ix = 0x1220 then some { rows := some 1026, entries := ptpPorts }
    else if ix = 0x1300 then some { entries := resetControl }
    else if ix = 0x1301 then some { entries := commitControl }
    else if ix = 0x1302 then some { entries := firmwareUpdate }
    else if ix = 0x1303 then some { head := true, entries := stationLease }
    else none
  else if ix < 0x4000 then
    if ix = 0x1400 then some { rows := some 0, published := true, entries := eventLog }
    else if ix = 0x1401 then some { rows := some 1148, published := true, entries := unitHealth }
    else if ix = 0x1402 then some { entries := availability }
    else if 0x2000 ≤ ix && ix < 0x2400 then some { head := true, entries := portObject }
    else if 0x2400 ≤ ix && ix < 0x2440 then some { head := true, entries := laneObject }
    else if ix = 0x2500 then some { rows := some 1088, published := true, entries := frameUnitMap }
    else if 0x3000 ≤ ix && ix < 0x3400 then some { entries := schedulerObject }
    else if 0x3400 ≤ ix && ix < 0x3800 then some { entries := gateObject }
    else if ix = 0x3800 then some { rows := some 65536, entries := meterRow }
    else if ix = 0x3801 then some { rows := some 532480, entries := queueRow }
    else none
  else if ix < 0x8000 then
    if ix = 0x4000 then some { rows := some 16384, published := true, entries := streamRow }
    else if ix = 0x4001 then some { entries := admissionObject }
    else if ix = 0x4002 then some { rows := some 16384, entries := frerRow }
    else if ix = 0x5000 then some { entries := parserObject }
    else if ix = 0x5010 then some { rows := some 4194304, entries := exactRow }
    else if ix = 0x5011 then some { rows := some 65536, entries := ternaryRow }
    else if ix = 0x5012 then some { rows := some 64, entries := keyProfile }
    else if ix = 0x5013 then some { rows := some 4096, published := true, entries := lookupCounters }
    else if ix = 0x5100 then some { rows := some 262144, entries := tunnelRow }
    else if ix = 0x5200 then some { rows := some 131072, entries := multicastRow }
    else if ix = 0x6000 then some { entries := cipherGlobal }
    else if ix = 0x6010 then some { rows := some 131072, entries := saRow }
    else if ix = 0x6020 then some { entries := randomness }
    else if ix = 0x7000 then some { rows := some 65537, published := true, entries := storageRow }
    else if ix = 0x7100 || ix = 0x7101 then some { entries := hostPort }
    else none
  else if ix < 0x9000 then some { head := true, entries := tenantObject }
  else if ix < 0xA000 then
    if ix = 0x9000 then some { rows := some 16384, entries := bindingRow }
    else if ix = 0x9001 then some { entries := bindingLockObject }
    else if ix = 0x9100 then some { rows := some 4096, entries := eventSource }
    else if ix = 0x9101 then some { entries := eventCounters }
    else if ix = 0x9200 then some { entries := dmaObject }
    else if ix = 0x9300 then some { entries := poolObject }
    else if ix = 0x9301 then some { rows := some 6150, entries := requesterRow }
    else if ix = 0x9310 then some { entries := placement }
    else if ix = 0x9311 then some { rows := some 34, published := true, entries := cipherLanes }
    else if ix = 0x9312 then some { rows := some 16384, published := true, entries := streamLanes }
    else if ix = 0x9313 then some { rows := some 4096, published := true, entries := cellPlacement }
    else if ix = 0x93F0 then some { rows := some 256, published := true, entries := threadRow }
    else if ix = 0x93F1 then some { rows := some 16384, published := true, entries := imageSlot }
    else if ix = 0x9400 then some { entries := loopCores }
    else none
  else if ix < 0xB000 then some { head := true, entries := cellObject }
  else if ix = 0xB000 then some { entries := powerObject }
  else if ix = 0xB100 then some { rows := some 9, published := true, entries := rails }
  else if ix = 0xC000 then some { entries := pairObject }
  else none

/-- Table 2-5 (lease subindices); :F2 is written by R34 and reads as nothing. -/
def leaseEntries : List Entry :=
  [ ⟨0xF0, 1, .u 2, .rT, 0, false, []⟩
  , ⟨0xF1, 1, .time, .rT, 0, false, []⟩
  , ⟨0xF2, 1, .u 4, .wT, 0, false, []⟩
  , ⟨0xF3, 2, .u 4, .rT, 0, false, []⟩ ]

/-- Table 2-3 (common subindices of a WINDOW). -/
def windowEntries : List Entry :=
  [ ⟨0x01, 1, .u 4, .all, 0, false, []⟩
  , ⟨0x02, 1, .u 4, .rT, 0, false, []⟩
  , ⟨0x03, 1, .u 1, .wT, 0, false, []⟩ ]

/-- Every entry of an object, the common ones first. -/
def Obj.all (o : Obj) : List Entry :=
  (if o.rows.isSome then windowEntries else []) ++ o.entries ++ (if o.head then leaseEntries else [])

/-- The entry of a subindex. -/
def entryIn (es : List Entry) (sub : Nat) : Option Entry :=
  es.find? fun e => decide (e.sub ≤ sub) && decide (sub < e.sub + e.n)

/-- The entry of a subindex of an object; `none` gives NO_SUBINDEX. -/
def Obj.entry (o : Obj) (sub : Nat) : Option Entry := entryIn o.all sub

/-- The highest subindex of an object, read at :00 (R20). -/
def Obj.highest (o : Obj) : Nat := o.all.foldl (fun m e => max m (e.sub + e.n - 1)) 0

/-- The cell of (index, row, subindex); a scalar object has row 0. Rows are 32-bit and subindices 8-bit numbers, so no cell
of one object is a cell of another. -/
def cellKey (ix row sub : Nat) : Nat := (ix * 2 ^ 32 + row % 2 ^ 32) * 256 + sub % 256

/-- Owners by row number in Partitioned (Tables 4-5, 6-1, 8-3): T0000 up to `base`, then `per` rows a tenant. -/
def ownerByRow (base per row : Nat) : Nat :=
  if row < base then 0
  else if (row - base) / per < 4095 then (row - base) / per + 1
  else 0xFFFF

/-- Default owner of a general meter row (Table 6-1); stream meters read 0xFFFE. -/
def meterOwner (row : Nat) : Nat :=
  if row < 16384 then 0xFFFE
  else if 49152 ≤ row then 0
  else if (row - 16384) / 8 < 4095 then (row - 16384) / 8 + 1
  else 0xFFFF

/-- Kind of a requester row: the line of Table 5-4, from 1. -/
def requesterKind (row : Nat) : Nat :=
  if row < 1024 then 1 else if row < 2048 then 2 else if row < 6144 then 3 else row - 6140

/-- Base minima of Table 5-5 by row and class code. -/
def baseMinimum (partitioned : Bool) (row c : Nat) : Nat :=
  let l :=
    if row < 1024 then [64, 16, 8, 1, 0, 0]
    else if row < 2048 then []
    else if row < 6144 then
      if partitioned then [16, 4, 2, 0, 64, 16]
      else if row - 2048 < 1024 then [32, 8, 4, 0, 0, 0] else []
    else if row = 6144 then [4096, 2048, 2048, 256, 0, 0]
    else if row = 6145 then [0, 0, 1024, 64, 0, 0]
    else if row = 6146 then [2048, 256, 0, 0, 0, 0]
    else if row = 6147 then [0, 0, 256, 32, 0, 0]
    else if row = 6148 then [1024, 1024, 1024, 128, 0, 0]
    else if row = 6149 then [1024, 256, 64, 8, 0, 0]
    else []
  l.getD c 0

/-- Sharing exponents of Table 5-5; 0xFF NONE. -/
def sharingExponent (partitioned : Bool) (row : Nat) : Nat :=
  if 1024 ≤ row && row < 2048 then 0xFF
  else if row = 6148 then 0xFF
  else if 2048 ≤ row && row < 6144 then
    if partitioned || decide (1024 ≤ row - 2048) then 0xFF else 2
  else 2

/-- Default counts of Table 5-1 by class code. -/
def classCount (c : Nat) : Nat := [262144, 65536, 24576, 2048, 1048576, 393216].getD c 0

/-- Kinds of Table 11-8: 0 unassigned, 1 level, 2 edge, 3 software. -/
def sourceKind (id : Nat) : Nat :=
  if id = 0 || id = 4095 then 0
  else if id ≤ 0x200 then 1
  else if id ≤ 0x7A3 then 2
  else if id ≤ 0x7A5 then 1
  else if id ≤ 0x7A7 then 2
  else if id ≤ 0x7AC then 1
  else if id ≤ 0x7AF then 2
  else if id < 0xE00 then 0
  else 3

/-- Roles of Table 12-1: 0 free, 1 supervisor, 2 backup, 3 service, 4 executor. -/
def threadRole (n : Nat) : Nat :=
  let c := n / 16
  let t := n % 16
  if c = 0 || c = 8 then
    if t = 0 then (if c = 0 then 1 else 2) else if t < 8 then 3 else 0
  else if t < 8 then 0 else 4

/-- Kind and unit of a row of 0x1401 (Table 16-4). -/
def unitKind (row : Nat) : Nat × Nat :=
  if row < 1088 then (1, row)
  else if row < 1122 then (2, row - 1088)
  else if row < 1138 then (3, row - 1122)
  else if row < 1140 then (4, row - 1138)
  else if row < 1145 then (5, row - 1140)
  else (row - 1139, 0)

/-- Defaults that depend on the index, the row or the device. -/
def dynDefault (ix row sub : Nat) : Option Nat :=
  if ix = 0x1000 then if sub = 4 then some Config.serial.toNat else none
  else if ix = 0x1010 then some (Config.serial.toNat % 65536)
  else if 0x2000 ≤ ix && ix < 0x2400 then if sub = 7 then some ((ix - 0x2000) / 16) else none
  else if ix = 0x2500 then
    if sub = 4 then some (if row < 1024 then row else 0xFFFF)
    else if sub = 5 then some (if row < 1024 then 0 else 4) else none
  else if ix = 0x3800 then if sub = 5 then some (meterOwner row) else none
  else if ix = 0x5010 then if sub = 5 then some (ownerByRow 1048576 768 row) else none
  else if ix = 0x5011 then if sub = 5 then some (ownerByRow 16384 12 row) else none
  else if ix = 0x5012 then
    if row = 0 && decide (5 ≤ sub) && decide (sub ≤ 0x14) then some ([1, 5, 6, 7, 3, 22].getD (sub - 5) 0) else none
  else if ix = 0x5100 then if sub = 5 then some (ownerByRow 65536 48 row) else none
  else if ix = 0x6010 then if sub = 5 then some (ownerByRow 16384 28 row) else none
  else if ix = 0x6020 then if sub = 3 then some Config.proportionCutoff.toNat else none
  else if ix = 0x8000 then if sub = 1 then some 1 else none
  else if ix = 0x9100 then if sub = 4 then some (sourceKind row) else none
  else if ix = 0x9300 then
    if 0x14 ≤ sub && sub ≤ 0x17 then some ([64, 48, 48, 32].getD (sub - 0x14) 0)
    else if 0x20 ≤ sub && sub ≤ 0x25 then some (classCount (sub - 0x20)) else none
  else if ix = 0x9301 then
    if sub = 4 then some (requesterKind row)
    else if 5 ≤ sub && sub ≤ 0xA then some (baseMinimum true row (sub - 5))
    else if 0x85 ≤ sub && sub ≤ 0x8A then some (baseMinimum false row (sub - 0x85))
    else if sub = 0x91 then some (sharingExponent false row)
    else if sub = 0x11 then some (sharingExponent true row) else none
  else if ix = 0x9311 then
    if sub = 4 then some (if 32 ≤ row then 3 else if row % 4 < 2 then 1 else 2)
    else if sub = 5 then some row else none
  else if ix = 0x93F0 then if sub = 4 then some (threadRole row) else none
  else if ix = 0x1401 then
    if sub = 4 then some (unitKind row).1 else if sub = 5 then some (unitKind row).2 else none
  else if ix = 0xB100 then if sub = 4 then some (0x40 + row) else none
  else none

/-- The default of a cell (R30): what it reads when nothing has been written. -/
def cellDefault (ix row sub : Nat) : Nat :=
  match dynDefault ix row sub with
  | some v => v
  | none =>
    match objectAt ix with
    | none => 0
    | some o => match entryIn o.entries sub with
      | none => 0
      | some e => e.dfl

/-- The default of a cell by its key. -/
def dictDefault (k : Nat) : Nat :=
  cellDefault (k / 256 / 2 ^ 32) (k / 256 % 2 ^ 32) (k % 256)

end Sys2Proof.Machine
end

