-- ==== Sys2Proof/Machine/Registers.lean ====
section
/-! DEFINITION. The registers of host functions, loop-core threads and DMA channels: which function reaches which
register, and for each register the bits that are read-write, cleared by writing 1, cleared by reading, and its
reset value (Table 0-3, Tables 2-12a, 6-7, 8-4, 9-1, 10-3 to 10-5, 11-1, 11-2, 11-6, 11-7, 11-10, 13-1). -/

namespace Sys2Proof.Machine

/-- A register: masks of its RW, RW1C and RC bits (every other bit is RO, WO or reserved) and its reset value. -/
structure Reg where
  rw    : Nat := 0
  w1c   : Nat := 0
  rc    : Nat := 0
  reset : Nat := 0
  deriving DecidableEq, Repr

/-! ### Owners

A register file is kept under the master id of its owner: PF0 of Port A 1, of Port B 2; tenant t 0x1000 + t (for
T0000 the station region of the PF0 that carries it, R236); thread n 0x2000 + n; the DMA channels 0. -/

/-- Master id of a host function or thread (Table 2-4, R228). -/
def portMaster : HostPort → Nat
  | .a => 1
  | .b => 2

/-- Register file owner of a tenant's rings, slots and queues. -/
def tenantMaster (t : Nat) : Nat := 0x1000 + t

/-- Master id of thread n = 16c + t (Table 2-4). -/
def threadMaster (n : Nat) : Nat := 0x2000 + n

/-- Master id of a function operand. -/
def ownerOf : Func → Nat
  | .pf0 p => portMaster p
  | .vf t => tenantMaster t.val
  | .thread n => threadMaster n.val

/-- Ring registers (Table 11-2); on a VF bits [26:22] of the vector are reserved. -/
def ringReg (vec : Nat) (o : Nat) : Option Reg :=
  if o = 0x00 then some { rw := 0xFFFFF000 }
  else if o = 0x04 then some { rw := 0xFFFFFFFF }
  else if o = 0x08 then some { rw := 0x1F, reset := 8 }
  else if o = 0x0C then some { rw := 0xFFFF }
  else if o = 0x10 then some {}
  else if o = 0x14 then some { rw := 0xFFFFF000 }
  else if o = 0x18 then some { rw := 0xFFFFFFFF }
  else if o = 0x1C then some { rw := 0xFFFF }
  else if o = 0x20 then some {}
  else if o = 0x24 then some { rw := vec + 3 }
  else if o = 0x28 then some { rw := 0xFFFFFFFF, reset := 1 }
  else if o = 0x2C then some {}
  else if o = 0x30 then some { rc := 0xFFFFFFFF }
  else none

/-- Mailbox slot registers (Table 11-7). -/
def slotReg (vec : Nat) (o : Nat) : Option Reg :=
  if o < 0x10 then if o % 4 = 0 then some { rw := 0xFFFFFFFF } else none
  else if o = 0x10 then some {}
  else if o = 0x14 then some { w1c := 0x400, reset := 0x100000 }
  else if o = 0x18 then some { rw := vec + 3 }
  else if o = 0x40 || o = 0x44 || o = 0x48 || o = 0x4C || o = 0x50 || o = 0x54 || o = 0x58 || o = 0x5C then some {}
  else if o = 0x60 then some { rw := vec + 3 }
  else if o = 0x64 then some { rc := 0xFFFFFFFF }
  else if o = 0x68 then some {}
  else none

/-- Cipher page registers (Table 8-4). -/
def cipherReg (vec : Nat) (o : Nat) : Option Reg :=
  if o = 0x00 then some { rw := 0xFFFFF000 }
  else if o = 0x04 then some { rw := 0xFFFFFFFF }
  else if o = 0x08 then some { rw := 0x1F, reset := 6 }
  else if o = 0x0C then some { rw := 0xFFFF }
  else if o = 0x10 || o = 0x14 then some {}
  else if o = 0x18 then some { rw := vec + 7 }
  else if o = 0x1C then some { rw := 0xFFFF, reset := 1 }
  else if o = 0x20 then some {}
  else if o = 0x24 then some { w1c := 7 }
  else if o = 0x28 then some { rc := 0xFFFFFFFF }
  else none

/-- Storage queue registers (Table 9-1). -/
def storageReg (vec : Nat) (o : Nat) : Option Reg :=
  if o = 0x00 then some { rw := 0xFFFFF000 }
  else if o = 0x04 then some { rw := 0xFFFFFFFF }
  else if o = 0x08 then some { rw := 0x1F, reset := 6 }
  else if o = 0x0C then some { rw := 0xFFFF }
  else if o = 0x10 then some {}
  else if o = 0x14 then some { rw := 0xFFFFF000 }
  else if o = 0x18 then some { rw := 0xFFFFFFFF }
  else if o = 0x1C then some { rw := 0x1F, reset := 8 }
  else if o = 0x20 then some {}
  else if o = 0x24 then some { rw := 0xFFFFF }
  else if o = 0x28 then some { rw := vec + 3 }
  else if o = 0x2C then some { rw := 0xFFFFF, reset := 1 }
  else if o = 0x30 then some {}
  else if o = 0x34 then some { rc := 0xFFFFFFFF }
  else none

/-- Telemetry ring registers (Table 6-7). -/
def telemetryReg (vec : Nat) (o : Nat) : Option Reg :=
  if o = 0x00 then some { rw := 0xFFFFF000 }
  else if o = 0x04 then some { rw := 0xFFFFFFFF }
  else if o = 0x08 then some { rw := 0x1F, reset := 6 }
  else if o = 0x0C then some {}
  else if o = 0x10 then some { rw := 0xFFFFF }
  else if o = 0x14 then some { rw := vec + 3 }
  else if o = 0x18 then some { rw := 0xFFFFF, reset := 1 }
  else if o = 0x1C then some { rc := 0xFFFFFFFF }
  else none

/-- Dictionary window registers (Table 2-12a), offsets from the window; the buffers are bytes of `State.dwBuf`. -/
def windowReg (o : Nat) : Option Reg :=
  if o = 0x00 then some { rw := 0xFF }
  else if o = 0x04 then some { rw := 0xFFFF }
  else if o = 0x08 then some { rw := 0x1FFF }
  else if o = 0x0C then some {}
  else if o = 0x10 then some { w1c := 6 }
  else if o = 0x14 then some {}
  else if o = 0x18 then some { rw := 0x87FF }
  else none

/-- Event controller host view (Table 11-10), offsets from the view. -/
def eventReg (o : Nat) : Option Reg :=
  if o = 0x00 || o = 0x04 || o = 0x0C || o = 0x10 then some {}
  else if o = 0x08 then some { rw := 0xF }
  else if 0x1000 ≤ o && o < 0x1200 && o % 4 == 0 then some {}
  else if 0x2000 ≤ o && o < 0x2200 && o % 4 == 0 then some {}
  else none

/-- DMA channel registers (Table 13-1). -/
def dmaReg (o : Nat) : Option Reg :=
  if o = 0x00 then some { rw := 0xE0FFFFFF, reset := 0x8100 }
  else if o = 0x04 then some { rw := 0x1FFFFFF }
  else if o = 0x08 || o = 0x0C || o = 0x10 || o = 0x14 then some { rw := 0xFFFFFFFF }
  else if o = 0x18 || o = 0x1C then some {}
  else if o = 0x20 then some { w1c := 6 }
  else if o = 0x24 then some {}
  else if o = 0x28 then some { reset := 0xFFFFFFFF }
  else if o = 0x2C then some {}
  else none

/-- An MSI-X table word: message address, data, and the vector control whose bit 0 masks the vector and is set
after reset (log entry 16). -/
def msixReg (o : Nat) : Option Reg :=
  if o % 4 = 0 then
    if o % 16 = 12 then some { rw := 1, reset := 1 } else some { rw := 0xFFFFFFFF }
  else none

/-- The register of a tenant's region at an offset in the VF layout (Tables 10-4, 11-1). -/
def tenantReg (t off : Nat) : Option Reg :=
  let vec := if t = 0 then 0x7FF0000 else 0x3F0000
  if off < 0x1000 then
    if off = 0x04 then some { rw := 0xFFFFFFFF }
    else if off ≤ 0x10 && off % 4 = 0 then some {} else none
  else if off < 0x3000 then ringReg vec (off % 64)
  else if off < 0x3040 then if off % 4 = 0 then some { rw := 0x3F3F, reset := 0x100 } else none
  else if off < 0x4000 then none
  else if off < 0x6000 then slotReg vec (off % 128)
  else if off < 0x8000 then cipherReg vec (off - 0x6000)
  else if off < 0x8400 then msixReg (off - 0x8000)
  else if off < 0xA000 then none
  else if off < 0xC000 then storageReg vec (off - 0xA000)
  else telemetryReg vec (off - 0xC000)

/-- The register of a PF0 at a BAR0 offset outside the station region (Tables 10-3, 10-5). -/
def pf0Reg (off : Nat) : Option Reg :=
  if off < 0x100000 then
    if off = 0x04 then some { rw := 0xFFFFFFFF }
    else if off ≤ 0x2C && off % 4 = 0 then some {} else none
  else if off < 0x200000 then windowReg (off - 0x100000)
  else if 0x400000 ≤ off && off < 0x408000 then msixReg (off - 0x400000)
  else if 0x800000 ≤ off && off < 0x1000000 then eventReg (off - 0x800000)
  else none

/-! ### Configuration space (R228, R229, R234, R237, R390)

The header is that of PCI; which offset a capability stands at is the model's (log entry 80). -/

/-- Offset of Power Management, MSI-X, PCI Express, AER, ARI and SR-IOV. -/
abbrev capPm : Nat := 0x40
abbrev capMsix : Nat := 0x50
abbrev capPcie : Nat := 0x70
abbrev capAer : Nat := 0x100
abbrev capAri : Nat := 0x148
abbrev capSriov : Nat := 0x160

/-- A register of configuration space, of a PF0 or a VF. The bits that other state holds (Bus Master Enable, D-state,
PME_Status, Transactions Pending, VF Enable, TotalVFs, the link) read 0 here; `State.configWord` puts them in. -/
def configReg (pf : Bool) (o : Nat) : Option Reg :=
  let both := [ (0x00, { reset := (if pf then 0x1024 else 0x1025) * 65536 + 0x1D0C : Reg }), (0x04, { rw := 0x542, reset := 0x100000 })
    , (0x08, { reset := 0x020000A2 }), (0x0C, {}), (0x2C, { reset := 0x00001D0C }), (0x34, { reset := capPm })
    , (capPm, { reset := 0xFE030001 + capMsix * 256 }), (capPm + 4, { rw := 0x100, reset := 8 })
    , (capMsix, { rw := 0xC0000000, reset := (if pf then 2047 else 63) * 65536 + capPcie * 256 + 0x11 })
    , (capMsix + 4, { reset := if pf then 0x400000 else 0x8000 }), (capMsix + 8, { reset := if pf then 0x410000 else 0x8800 })
    , (capPcie, { reset := 0x00020010 }), (capPcie + 4, { reset := 0x10008005 })
    , (capPcie + 8, { rw := if pf then 0x79FF else 0x000F, reset := if pf then 0x2810 else 0 })
    , (capPcie + 0x24, { reset := 0x0F }), (capPcie + 0x28, { rw := 0x0F })
    , (capAer, { reset := 0x00020001 + capAri * 2 ^ 20 }), (capAer + 4, { w1c := 0x15000 }), (capAer + 8, { rw := 0x15000 })
    , (capAer + 0xC, { rw := 0x15000 }), (capAer + 0x10, { w1c := 0x2000 }), (capAer + 0x14, { rw := 0x2000, reset := 0x2000 })
    , (capAri, { reset := 0x0001000E + if pf then capSriov * 2 ^ 20 else 0 }), (capAri + 4, {}) ]
  let own := [ (0x10, { rw := 0xFC000000, reset := 4 : Reg }), (0x14, { rw := 0xFFFFFFFF }), (0x30, { rw := 0xFFF00001 })
    , (capPcie + 0xC, { reset := 0x00018906 }), (capPcie + 0x10, {})
    , (capSriov, { reset := 0x00010010 }), (capSriov + 4, { reset := 2 }), (capSriov + 8, { rw := 0x18 }), (capSriov + 0xC, {})
    , (capSriov + 0x10, { rw := 0xFFFF }), (capSriov + 0x14, { reset := 0x00010001 }), (capSriov + 0x18, { reset := 0x10250000 })
    , (capSriov + 0x1C, { reset := 0x1F }), (capSriov + 0x20, { rw := 0x1F, reset := 1 })
    , (capSriov + 0x24, { rw := 0xFFFF0000, reset := 4 }), (capSriov + 0x28, { rw := 0xFFFFFFFF }) ]
  (if pf then both ++ own else both).lookup o

/-- Configuration space of a function is kept under its master id and this. -/
abbrev configOwner (m : Nat) : Nat := 0x4000 + m

/-- The register of a thread's local register space: mailbox slots at the VF offsets (R268). -/
def threadReg (off : Nat) : Option Reg :=
  if 0x4000 ≤ off && off < 0x6000 then slotReg 0x7FF0000 (off % 128) else none

/-- The register an owner keeps at an offset. -/
def regAt (owner off : Nat) : Option Reg :=
  if owner = 0 then if off < 2048 then dmaReg (off % 64) else none
  else if owner ≤ 2 then pf0Reg off
  else if owner < 0x2000 then tenantReg (owner - 0x1000) off
  else if owner < 0x4000 then threadReg off
  else configReg (decide (owner - 0x4000 ≤ 2)) off

/-- The key of a register; a register file is 64 MiB, the size of PF0 BAR0 (R233). -/
def regKey (owner off : Nat) : Nat := owner * 2 ^ 26 + off % 2 ^ 26

/-- The reset value of a register by its key. -/
def regDefault (k : Nat) : Word :=
  match regAt (k / 2 ^ 26) (k % 2 ^ 26) with
  | some r => BitVec.ofNat 32 r.reset
  | none => 0

/-- What a register write leaves (Table 0-3): RW bits take the value, RW1C bits clear where 1 is written. -/
def Reg.write (r : Reg) (old val : Word) : Word :=
  ((old &&& ~~~ BitVec.ofNat 32 r.rw) ||| (val &&& BitVec.ofNat 32 r.rw)) &&& ~~~ (val &&& BitVec.ofNat 32 r.w1c)

/-- What a read leaves (Table 0-3): RC bits clear. -/
def Reg.afterRead (r : Reg) (old : Word) : Word := old &&& ~~~ BitVec.ofNat 32 r.rc

end Sys2Proof.Machine
end

