-- ==== Sys2Proof/Machine/Ops.lean ====
section
/-! DEFINITION. The named operations over State that every family shares: dictionary cells, registers, time, event
sources and MSI-X messages, the event log, leases and principals, free values. -/

namespace Sys2Proof.Machine

/-! ### Dictionary cells -/

/-- The value of a dictionary cell. -/
def State.cell (s : State) (ix row sub : Nat) : Nat := NMap.get dictDefault s.dict (cellKey ix row sub)

/-- Write a dictionary cell. -/
def State.setCell (s : State) (ix row sub v : Nat) : State :=
  { s with dict := NMap.set dictDefault s.dict (cellKey ix row sub) v }

/-- The value of a subindex of a scalar object. -/
def State.ob (s : State) (ix sub : Nat) : Nat := s.cell ix 0 sub

/-- Write a subindex of a scalar object. -/
def State.setOb (s : State) (ix sub v : Nat) : State := s.setCell ix 0 sub v

/-- Length in bytes of a subindex. -/
def cellLen (ix sub : Nat) : Nat :=
  match objectAt ix with
  | none => 0
  | some o => match o.entry sub with
    | none => 0
    | some e => e.ty.len

/-- Add to a counter, which wraps at the width of its type (log entry 15). -/
def State.bump (s : State) (ix row sub n : Nat) : State :=
  s.setCell ix row sub ((s.cell ix row sub + n) % 256 ^ cellLen ix sub)

/-- Increment a counter of a scalar object. -/
def State.inc (s : State) (ix sub : Nat) : State := s.bump ix 0 sub 1

/-- Write several subindices of a row. -/
def State.setCells (s : State) (ix row : Nat) : List (Nat × Nat) → State
  | [] => s
  | (sub, v) :: r => (s.setCell ix row sub v).setCells ix row r

/-! ### Registers -/

/-- A register. -/
def State.reg (s : State) (owner off : Nat) : Word := NMap.get regDefault s.regs (regKey owner off)

/-- Set a register. -/
def State.setReg (s : State) (owner off : Nat) (v : Word) : State :=
  { s with regs := NMap.set regDefault s.regs (regKey owner off) v }

/-- A register as a number. -/
def State.regN (s : State) (owner off : Nat) : Nat := (s.reg owner off).toNat

/-- Bits of a register. -/
def State.regBits (s : State) (owner off hi lo : Nat) : Nat := bits (s.regN owner off) hi lo

/-- Set bits of a register. -/
def State.setRegBits (s : State) (owner off hi lo v : Nat) : State :=
  s.setReg owner off (BitVec.ofNat 32 (setBits (s.regN owner off) hi lo v))

/-- Add to a 32-bit counter register, which wraps. -/
def State.bumpReg (s : State) (owner off n : Nat) : State :=
  s.setReg owner off (s.reg owner off + BitVec.ofNat 32 n)

/-- A 64-bit address in a LO and a HI register. -/
def State.regAddr (s : State) (owner off : Nat) : Nat := s.regN owner off + 2 ^ 32 * s.regN owner (off + 4)

/-! ### Time -/

/-- The free-running counter, in nanoseconds (R321). -/
def State.now (s : State) : Nat := s.clk.frcQ / 4

/-- The free-running counter in picoseconds, the unit of the port schedulers. -/
def State.ps (s : State) : Nat := s.clk.frcQ * 250

/-- Station time as TIME64: the fraction is dropped (R321). -/
def State.tai (s : State) : Nat := s.clk.tai / 65536

/-- Station time is valid (R323). -/
def State.timeValid (s : State) : Bool := s.ob 0x1200 2 = 1

/-- A free-running instant as station time at this moment (0xF1, 0x93F0:08). -/
def State.asTai (s : State) (t : Nat) : Nat := s.tai + t - s.now

/-- A cell of the dictionary that is listed satisfies a test on row, subindex and value; `f` gives those of an index. -/
def State.anyCell (s : State) (ix : Nat) (f : (row sub v : Nat) → Bool) : Bool :=
  s.dict.any fun e => decide (e.1 / 2 ^ 40 = ix) && f (e.1 / 256 % 2 ^ 32) (e.1 % 256) e.2

/-- A stream is admitted and its impairment is cause 4, or with `stopped` it declares CIPHER above 0 (R375). -/
def State.streamOut (s : State) (stopped : Bool) : Bool :=
  s.anyCell 0x4000 fun row sub v =>
    ((decide (sub = 0x19) && decide (v = 4)) || (stopped && decide (sub = 0x38) && decide (0 < v)))
      && decide (s.cell 0x4000 row 4 = 1)

/-- A reset of code 6 or 7 still counts as outage: not in SERVICE, or a committed gate list is not operative (R375). -/
def State.stillRestoring (s : State) : Bool :=
  s.flt.restoring && (decide (s.ob 0x1300 4 = 0) || s.dict.any fun e =>
    decide (0x3400 ≤ e.1 / 2 ^ 40) && decide (e.1 / 2 ^ 40 < 0x3800) && decide (e.1 % 2 ^ 40 = 5))

/-- The device is out of service by the count of R375. -/
def State.outage (s : State) : Bool :=
  s.stillRestoring || decide (s.ob 0x1300 4 = 4) || s.streamOut (decide (s.ob 0x6000 1 ≠ 1))

/-- One cycle of the station time domain (R321): the free-running counter gains 1.25 ns, station time 1.25 ns and
the correction; the time in service and in outage is counted (R375). -/
def State.passTime (s : State) : State :=
  { s with
    clk := { s.clk with
      frcQ := s.clk.frcQ + 5
      tai  := ((s.clk.tai : Int) + 81920 + s.clk.corr).toNat % (2 ^ 48 * 1000000000 * 65536) }
    flt := { s.flt with
      serviceQ := s.flt.serviceQ + if s.pwr.pwrOk then 5 else 0
      outageQ := s.flt.outageQ + if s.outage then 5 else 0
      restoring := s.stillRestoring } }

/-! ### Outputs and free values -/

/-- Record what leaves the block. -/
def State.emit (s : State) (o : Output) : State := { s with out := o :: s.out }

/-- The next free value (log entry 5). -/
def State.draw (s : State) : Nat × State := (Config.freeValue s.free, { s with free := s.free + 1 })

/-! ### Device state and profile -/

/-- The active profile is Partitioned (0x1001:02). -/
def State.partitioned (s : State) : Bool := s.ob 0x1001 2 = 1

/-- Device state (Table 15-1): 0 START, 1 SERVICE, 2 RECOVERY, 3 SAFE_HOLD, 4 FAULT. -/
def State.devState (s : State) : Nat := s.ob 0x1300 4

/-- The device is in SAFE_HOLD (R385). -/
def State.inHold (s : State) : Bool := s.devState = 3

/-- The master id of the PF0 that carries T0000 (0x1303:01), 0 while there is none. -/
def State.stationMaster (s : State) : Nat := s.ob 0x1303 1

/-- Object index of a tenant; a number that no tenant has names no object. -/
def tenantIx (t : Nat) : Nat := if t < 4096 then 0x8000 + t else 0xFFFF

/-- The host port code (1 Port A, 2 Port B) that carries a tenant's function, 0 for none (0x8000+t:03). -/
def State.portOf (s : State) (t : Nat) : Nat :=
  if t = 0 then s.ob 0x1303 1 else if s.ob (tenantIx t) 4 = 0 then 0 else s.ob (tenantIx t) 3

/-! ### Functions and MSI-X -/

/-- Configuration state of a function, by master id. -/
def State.func (s : State) (m : Nat) : FuncDyn := NMap.at {} s.hst.funcs m

/-- Set the configuration state of a function. -/
def State.setFunc (s : State) (m : Nat) (f : FuncDyn) : State :=
  { s with hst := { s.hst with funcs := NMap.put {} s.hst.funcs m f } }

/-- The function that carries the queues of a register file owner: for T0000 the PF0 of the station port. -/
def State.funcMaster (s : State) (owner : Nat) : Nat :=
  if owner = 0x1000 then s.stationMaster else owner

/-- A function may issue requests: Bus Master Enable set, in D0, not in an FLR (R245, R246, R248). -/
def State.mayIssue (s : State) (m : Nat) : Bool :=
  let f := s.func m
  f.busMaster && decide (f.dstate = .d0) && !f.inFlr && decide (0 < m)

/-- A configuration register of a function, in the bits that the register file holds (R228). -/
abbrev State.config (s : State) (m o : Nat) : Nat := s.regN (configOwner m) o

/-- A vector of a function sends nothing: it is masked by its vector control or by Function Mask, or MSI-X is not enabled
(R284). -/
def State.vectorMask (s : State) (m v : Nat) : Bool :=
  bit (s.regN m ((if m ≤ 2 then 0x400000 else 0x8000) + 16 * v + 12)) 0 || decide (s.config m capMsix / 2 ^ 30 ≠ 2)

/-- An AER error of a function: its status bit, and for an advisory error the one of correctable errors; reported with the
severity that the AER registers set (R242–R244). -/
def State.aer (s : State) (m i : Nat) (what : String) (advisory : Bool) : State :=
  let o := configOwner m
  let s := s.setReg o (capAer + 4) (BitVec.ofNat 32 (setBit (s.config m (capAer + 4)) i true))
  let s := if advisory then s.setReg o (capAer + 0x10) (BitVec.ofNat 32 (setBit (s.config m (capAer + 0x10)) 13 true)) else s
  s.emit (.aer m what (bit (s.config m (capAer + 0xC)) i))

/-- One MSI-X message (R284): sent, or kept in the PBA while the vector is masked or the function may not issue. -/
def State.msix (s : State) (m v : Nat) : State :=
  let f := s.func m
  if m = 0 then s
  else if s.mayIssue m && !s.vectorMask m v then s.emit (.msix m v)
  else s.setFunc m { f with pba := addOnce f.pba v }

/-! ### Event sources (R274–R279) -/

/-- State of a source: 0 IDLE, 1 PENDING, 2 ACTIVE, 3 ACTIVE_PENDING. -/
def State.srcState (s : State) (id : Nat) : Nat := s.cell 0x9100 id 0xA

/-- Put an id into a rising list without repeats. -/
def insertId : List Nat → Nat → List Nat
  | [], x => [x]
  | y :: r, x => if x < y then x :: y :: r else if x = y then y :: r else y :: insertId r x

/-- Change a source's state; the retention copy holds the ids not IDLE (R283). -/
def State.setSrc (s : State) (id st : Nat) : State :=
  let s := s.setCell 0x9100 id 0xA st
  { s with rng := { s.rng with
      retained := if st = 0 then s.rng.retained.filter (· != id) else insertId s.rng.retained id
      messaged := if st = 1 then s.rng.messaged else s.rng.messaged.filter (· != id) } }

/-- The thread that now carries the role of a thread (R367). -/
def State.moved (s : State) (n : Nat) : Nat := NMap.get (fun k => k) s.thr.moved n

/-- The sources that the supervisor holds (R292). -/
def supervised (id : Nat) : Bool := (decide (0x201 ≤ id) && decide (id ≤ 0x300)) || id == 0x7AD

/-- The context of a source (R275): a thread 0–255, PF0 of Port A 256, of Port B 257; `none` where it has none. The sources
that the supervisor holds have that of the active supervisor, which 0x9400:01 names (R291, R292). -/
def State.ctxOf (s : State) (id : Nat) : Option Nat :=
  let k := s.cell 0x9100 id 7
  if supervised id then some (s.ob 0x9400 1)
  else if k = 1 then some (s.moved (s.cell 0x9100 id 8))
  else if k = 2 then (if s.ob 0x1303 1 = 0 then none else some (255 + s.ob 0x1303 1))
  else if k = 3 then some 256
  else if k = 4 then some 257
  else none

/-- Enabled PENDING sources of a context with priority at least `floor`, in rising id order (R277). -/
def State.candidates (s : State) (ctx floor : Nat) : List Nat :=
  s.rng.retained.filter fun id =>
    decide (s.srcState id = 1) && decide (s.cell 0x9100 id 5 = 1) && decide (max 1 floor ≤ s.cell 0x9100 id 6)
      && decide (s.ctxOf id = some ctx)

/-- The first of the ids with the highest priority. -/
def State.bestOf (s : State) (ids : List Nat) : Option Nat :=
  ids.foldl (fun b id => match b with
    | none => some id
    | some j => if s.cell 0x9100 j 6 < s.cell 0x9100 id 6 then some id else some j) none

/-- The source a context selects at or above a priority (R277). -/
def State.select (s : State) (ctx floor : Nat) : Option Nat := s.bestOf (s.candidates ctx floor)

/-! ### Threads (R281, R287–R290) -/

/-- A thread behind its row. -/
def State.thread (s : State) (n : Nat) : ThreadDyn := NMap.at {} s.thr.dyn n

/-- Set a thread. -/
def State.setThread (s : State) (n : Nat) (d : ThreadDyn) : State :=
  { s with thr := { s.thr with dyn := NMap.put {} s.thr.dyn n d } }

/-- State of a thread in the codes of Table 12-2. -/
def State.thSt (s : State) (n : Nat) : Nat := s.cell 0x93F0 n 5

/-- Set the state of a thread. -/
def State.setThSt (s : State) (n st : Nat) : State := s.setCell 0x93F0 n 5 st

/-- The source that a thread would enter: enabled, pending, above its running priority (R277). -/
def State.deliverable (s : State) (n : Nat) : Option Nat := s.select n (s.cell 0x93F0 n 6 + 1)

/-- A thread leaves its role: its row is free. -/
def State.vacate (s : State) (n : Nat) : State :=
  let s := (s.setCells 0x93F0 n [(4, 0), (5, 0), (9, 0xFFFF)]).inc 0x9400 6
  s.setThread n {}

/-- The wait of a thread ends with its status (R290); a joined child becomes FREE. -/
def State.finishWait (s : State) (n : Nat) : State :=
  let d := s.thread n
  let s := s.setThread n { d with waits := 0, deadline := none, ranFrom := s.now, timedOut := false }
  let past := d.deadline.any (· ≤ s.now)
  if d.waits = 1 then
    let mask := s.cell 0x93F0 n 7
    let got := d.events &&& mask
    let s := s.setCell 0x93F0 n 7 0
    if got ≠ 0 then
      (s.setThread n { s.thread n with events := d.events ^^^ got }).emit (.thread n got 0)
    else if past then (s.setThread n { s.thread n with timedOut := true }).emit (.thread n 0 1)
    else s.emit (.thread n 0 2)
  else if d.waits = 2 then
    let child := s.cell 0x93F0 n 7
    let s := s.setCell 0x93F0 n 7 0
    let c := s.thread child
    if s.cell 0x93F0 child 9 = n && s.thSt child = 5 then (s.vacate child).emit (.thread n c.exitCode 0)
    else if s.cell 0x93F0 child 9 = n && c.killed then
      ((s.setThread child { c with killed := false }).setCell 0x93F0 child 9 0xFFFF).emit (.thread n 0xFFFFFFFF 0)
    else if past then (s.setThread n { s.thread n with timedOut := true }).emit (.thread n 0 1)
    else s.emit (.thread n 0 2)
  else s

/-- Deadline (ns of the free-running counter) of the earliest run that is ready on an executor (R304). -/
def State.runDeadline (s : State) (n : Nat) : Option Nat :=
  s.cells.foldl (fun b e =>
    let due := e.2.releaseF + (e.2.image.map (·.period)).getD 0 * 1000
    if e.2.running && decide (s.cell 0x9313 e.1 4 = n / 16) && decide (s.cell 0x9313 e.1 5 = n % 16) then
      match b with
      | some x => some (min x due)
      | none => some due
    else b) none

/-- The thread of least rank in a list. -/
def leastBy (rank : Nat → Nat) : List Nat → Option Nat
  | [] => none
  | n :: r => match leastBy rank r with
    | none => some n
    | some m => if rank m < rank n then some m else some n

/-- The READY thread that a core runs next (R287). -/
def State.pickThread (s : State) (c : Nat) : Option Nat :=
  let ready := ((List.range 16).map fun t => 16 * c + t).filter fun n => decide (s.thSt n = 1)
  if ready.contains (s.ob 0x9400 1) then some (s.ob 0x9400 1)
  else
    let prio := fun n => ((s.deliverable n).map fun id => s.cell 0x9100 id 6).getD 0
    match leastBy (fun n => 15 - prio n) (ready.filter fun n => decide (0 < prio n)) with
    | some n => some n
    | none =>
      match leastBy (fun n => (s.runDeadline n).getD 0) (ready.filter fun n => (s.runDeadline n).isSome) with
      | some n => some n
      | none => leastBy (fun n => (n + 16 - (NMap.at 15 s.thr.last c + 1)) % 16) (ready.map (· % 16)) |>.map (16 * c + ·)

/-- A core selects a thread: it runs; at thread level a wait ends with its status, unless an entry is due (R287, R290). -/
def State.runThread (s : State) (n : Nat) : State :=
  let s := s.setThSt n 2
  let s := { s with thr := { s.thr with last := NMap.put 15 s.thr.last (n / 16) (n % 16) } }
  let s := if n = s.ob 0x9400 1 then s.setOb 0x9400 5 0 else s
  if (s.thread n).saved.isEmpty && (s.deliverable n).isNone then
    if (s.thread n).waits = 0 then s else s.finishWait n
  else s

/-- A core that runs no thread selects one. -/
def State.dispatch (s : State) (c : Nat) : State :=
  if s.ob 0x9400 (0x10 + c) = 1 || (List.range 16).any (fun t => s.thSt (16 * c + t) = 2) then s
  else match s.pickThread c with
    | none => s
    | some n => s.runThread n

/-- A thread becomes READY. -/
def State.makeReady (s : State) (n : Nat) : State := (s.setThSt n 1).dispatch (n / 16)

/-- A thread context has a deliverable source: a WAITING thread becomes READY (R290). -/
def State.wakeThread (s : State) (n : Nat) : State :=
  if s.thSt n = 4 && (s.deliverable n).isSome then s.makeReady n else s

/-! ### Delivery -/

/-- EC_THRESHOLD of a PF0 context. -/
def State.threshold (s : State) (ctx : Nat) : Nat := s.regBits (ctx - 255) 0x800008 3 0

/-- A context delivers the source it selects: a thread that waits becomes READY for its entry, a PF0 gets one message
while the source stays PENDING (R277). -/
def State.deliver (s : State) (ctx : Nat) : State :=
  if ctx < 256 then s.wakeThread ctx
  else match s.select ctx (s.threshold ctx + 1) with
    | none => s
    | some id =>
      if s.rng.messaged.contains id then s
      else
        let s := { s with rng := { s.rng with
          messaged := insertId s.rng.messaged id, delivered := insertId s.rng.delivered ctx } }
        s.msix (ctx - 255) (s.cell 0x9100 id 9)

/-- Deliver in the context of a source. -/
def State.deliverFor (s : State) (id : Nat) : State :=
  match s.ctxOf id with
  | none => s
  | some c => s.deliver c

/-- An edge, or a software set, arrives at a source (Table 11-9). -/
def State.edge (s : State) (id : Nat) : State :=
  if s.cell 0x9100 id 4 = 0 then s
  else if s.srcState id = 0 then ((s.setSrc id 1).bump 0x9100 id 0xB 1).deliverFor id
  else if s.srcState id = 1 then s.bump 0x9100 id 0xC 1
  else if s.srcState id = 2 then s.setSrc id 3
  else s.bump 0x9100 id 0xC 1

/-- A level input is asserted (Table 11-9). -/
def State.levelOn (s : State) (id : Nat) : State :=
  let s' := { s with rng := { s.rng with levels := insertId s.rng.levels id } }
  if s.srcState id = 0 && !s.rng.levels.contains id then ((s'.setSrc id 1).bump 0x9100 id 0xB 1).deliverFor id
  else s'

/-- A level input is withdrawn (Table 11-9): a PENDING source becomes IDLE. -/
def State.levelOff (s : State) (id : Nat) : State :=
  let s' := { s with rng := { s.rng with levels := s.rng.levels.filter (· != id) } }
  if s.srcState id = 1 then (s'.setSrc id 0).deliverFor id else s'

/-- Drive a level input. -/
def State.level (s : State) (id : Nat) (on : Bool) : State := if on then s.levelOn id else s.levelOff id

/-! ### The event log (R372) -/

/-- A 64-bit item of record data: two U32, low word first. -/
def w64 (n : Nat) : List Nat := [n % 2 ^ 32, n / 2 ^ 32 % 2 ^ 32]

/-- Stage a record under the next SEQUENCE; one made while staging is full is discarded and counted in 0x1402:12. Source 0x7A3
gets an edge. -/
def State.stageRecord (s : State) (e : Event) : State :=
  if 4096 ≤ s.log.staged.length then s.inc 0x1402 0x12
  else
    let n := s.log.seq
    let s := { s with log := { s.log with staged := { e with seq := n } :: s.log.staged, seq := (n + 1) % 2 ^ 32 } }
    (s.setOb 0x1402 0x11 n).edge 0x7A3

/-- Make a record; while the Fozon link is up it also goes to the partner's log (R374). -/
def State.record (s : State) (code sup : Nat) (data : List Nat) : State :=
  let e : Event := { time := if s.timeValid then s.tai else s.now, seq := s.log.seq, code := code,
                     valid := s.timeValid, partner := false, suppressed := sup, data := data }
  let s := if s.ob 0xC000 1 = 1 && s.ob 0xC000 3 = 2 then (s.emit (.mirrorRecord e)).inc 0xC000 0xB else s
  s.stageRecord e

/-- Log an event without a rate limit. -/
def State.event (s : State) (code : Nat) (data : List Nat) : State := s.record code 0 data

/-- Set the rate limit of a code and key (R372). -/
def State.setLimit (s : State) (code key last held : Nat) : State :=
  let rest := s.log.limits.filter fun l => !(l.code == code && l.key == key)
  { s with log := { s.log with limits := { code := code, key := key, last := last, held := held } :: rest } }

/-- Log an event at most once per `gap` ns for each key (R372). -/
def State.eventGap (s : State) (gap code key : Nat) (data : List Nat) : State :=
  match s.log.limits.find? (fun l => l.code == code && l.key == key) with
  | none => (s.setLimit code key s.now 0).record code 0 data
  | some l =>
    if s.now - l.last < gap then s.setLimit code key l.last (min 255 (l.held + 1))
    else (s.setLimit code key s.now 0).record code l.held data

/-- Log an event at most once per second for each key (R372). -/
def State.eventLim (s : State) (code key : Nat) (data : List Nat) : State :=
  s.eventGap 1000000000 code key data

/-- Enter a device state and log 0x0102 (R334). -/
def State.setDev (s : State) (st : Nat) : State :=
  if s.devState = st then s else (s.setOb 0x1300 4 st).event 0x0102 [s.devState, st]

/-! ### Principals and leases (R27, R32–R36) -/

/-- Principals of Table 2-4. -/
inductive Principal where
  | station
  | operator
  | tenant (t : Nat)
  | viewer
  deriving DecidableEq, Repr

/-- Master id of a request (Table 2-4). -/
def masterOf : Via → Nat
  | .window p _ => portMaster p
  | .dolux m _ => 0x4000 + msgKey m
  | .firmware n => 0x2000 + n.val
  | .leaseReq p => portMaster p

/-- The path of a request, as the arbiter tells paths apart: a thread, a window, LEASE_REQ or (0x402 + 4 × its master id) the
fast-path registers of a port, a key (R38). -/
def pathOf : Via → Nat
  | .window p _ => 0x400 + 4 * portMaster p
  | .dolux m _ => 0x4000 + msgKey m
  | .firmware n => n.val
  | .leaseReq p => 0x401 + 4 * portMaster p

/-- Where a path stands among those that contend for a cycle (R38): firmware, Port A, Port B, Dolux by master id. -/
def pathRank (path : Nat) : Nat := if path < 0x400 then 0 else if path < 0x4000 then (path - 0x400) / 4 else path

/-- The explicit holder of a domain, by its head; 0 when free. -/
def State.explicitHolder (s : State) (head : Nat) : Nat := s.ob head 0xF0

/-- The effective holder of a domain (R32): the explicit holder, else the holder of the station lease. -/
def State.holder (s : State) (head : Nat) : Nat :=
  if s.explicitHolder head ≠ 0 then s.explicitHolder head else s.explicitHolder 0x1303

/-- The explicit holder of a domain as it stood when the cycle of a request on a path began: a lease operation of another path
in the same cycle, which stands before it in R38's order, does not count yet (log entry 60). -/
def State.startHolder (s : State) (path head : Nat) : Nat :=
  match s.acc.slots.find? fun x => decide (x.at_ = s.clk.frcQ) && x.head == head && x.path != path
      && decide (pathRank x.path ≤ pathRank path) with
  | some x => x.old
  | none => s.explicitHolder head

/-- The effective holder of a domain when the cycle of a request began (R32, R38). -/
def State.slotHolder (s : State) (path head : Nat) : Nat :=
  if s.startHolder path head ≠ 0 then s.startHolder path head else s.startHolder path 0x1303

/-- The principal of a key of 0x1110. -/
def State.keyPrincipal (s : State) (k : Nat) : Principal :=
  let p := s.cell 0x1110 k 5
  if p = 1 then .operator else if p = 2 then .tenant (s.cell 0x1110 k 6) else .viewer

/-- The principal of a request (Table 2-4). -/
def State.principal (s : State) : Via → Principal
  | .window p item => if s.startHolder (pathOf (.window p item)) 0x1303 = portMaster p then .station else .viewer
  | .dolux m _ => s.keyPrincipal (msgKey m)
  | .firmware _ => .station
  | .leaseReq p => if s.startHolder (pathOf (.leaseReq p)) 0x1303 = portMaster p then .station else .viewer

/-- The Owner field of a row: in Partitioned it follows the row number (R83, R125, R191). -/
def State.owner (s : State) (ix row : Nat) : Nat :=
  if s.partitioned then cellDefault ix row 5 else s.cell ix row 5

/-- The owner tenant of a row of a table whose rows have owners; `none` where the table's rows have none or the
row is unassigned (R22, R83, R125, R151, R191). -/
def State.rowOwner (s : State) (ix row : Nat) : Option Nat :=
  if ix = 0x5010 || ix = 0x5011 || ix = 0x5100 || ix = 0x3800 || ix = 0x6010 then
    let o := s.owner ix row
    if o < 4096 then some o else none
  else if ix = 0x3801 then if row < 8192 then some 0 else some ((row - 8192) / 128)
  else if ix = 0x4000 then if s.cell ix row 4 = 0 then none else some (s.cell ix row 0x31)
  else if ix = 0x4002 then some 0
  else if ix = 0x5013 then some row
  else if ix = 0x7000 then
    if row = 65536 then some 0 else if s.cell ix row 4 = 0 then none else some (s.cell ix row 5)
  else none

/-- The head of the lease domain of an object's subindex, for the row a request names (Table 2-1, R22). -/
def State.domain (s : State) (ix row : Nat) : Nat :=
  if 0x2000 ≤ ix && ix < 0x2400 then ix
  else if 0x2400 ≤ ix && ix < 0x2440 then ix
  else if 0x3000 ≤ ix && ix < 0x3400 then ix - 0x1000
  else if 0x3400 ≤ ix && ix < 0x3800 then ix - 0x1400
  else if 0x8000 ≤ ix && ix < 0x9000 then ix
  else if 0xA000 ≤ ix && ix < 0xB000 then ix
  else match s.rowOwner ix row with
    | some t => if t = 0 then 0x1303 else tenantIx t
    | none => 0x1303

/-- A lease ends (R35, R36): the holder clears, the epoch rises; for the station lease the last holder is kept. -/
def State.endLease (s : State) (head : Nat) : State :=
  let old := s.explicitHolder head
  let s := ((s.setOb head 0xF0 0).setOb head 0xF1 0).inc head 0xF3
  if head = 0x1303 then s.setOb 0x1303 2 old else s

/-- A lease that has reached its expiry lapses, logged as 0x0122 (R36). -/
def State.lapse (s : State) (head : Nat) : State :=
  if s.explicitHolder head ≠ 0 && s.ob head 0xF1 ≤ s.now then
    (s.endLease head).event 0x0122 [head, s.explicitHolder head]
  else s

/-- Index of the head of a domain (R32); any other index names no object. -/
def headIx (h : Nat) : Nat :=
  if h = 0x1303 || (0x2000 ≤ h && h < 0x2440) || (0x8000 ≤ h && h < 0x9000) || (0xA000 ≤ h && h < 0xB000) then h
  else 0xFFFF

/-- End every lease of a master, logged as 0x0121 with the cause (R36). -/
def State.endLeases (s : State) (m cause : Nat) (heads : List Nat) : State :=
  heads.foldl (fun s h =>
    if s.explicitHolder h = m then (s.endLease (headIx h)).event 0x0121 [h, m, cause] else s) s

/-- The heads of domains that are leased now. -/
def State.leasedHeads (s : State) : List Nat :=
  s.dict.filterMap fun e =>
    if e.1 % 256 = 0xF0 then
      let ix := e.1 / 256 / 2 ^ 32
      match objectAt ix with
      | some o => if o.head && e.1 / 256 % 2 ^ 32 == 0 then some ix else none
      | none => none
    else none

/-- End every lease a master holds (R36). -/
def State.endLeasesOf (s : State) (m cause : Nat) : State := s.endLeases m cause s.leasedHeads

/-! ### Ports and lanes -/

/-- Object index of a port; a number that no port has names no object. -/
def portIx (p : Nat) : Nat := if p < 1024 then 0x2000 + p else 0xFFFF

/-- Object index of a lane; a number that no lane has names no object. -/
def laneIx (l : Nat) : Nat := if l < 64 then 0x2400 + l else 0xFFFF

/-- Object index of a cell; a number that no cell has names no object. -/
def cellIx (c : Nat) : Nat := if c < 4096 then 0xA000 + c else 0xFFFF

/-- Port rate in Mb/s; 0 while ABSENT (0x2000+p:04). -/
def State.rate (s : State) (p : Nat) : Nat := s.ob (portIx p) 4

/-- A port is UP. -/
def State.up (s : State) (p : Nat) : Bool := s.ob (portIx p) 2 = 3

/-- Lead lane of a port. -/
def State.leadLane (s : State) (p : Nat) : Nat := s.ob (portIx p) 7

/-- Lane state by lane. -/
def State.lane (s : State) (l : Nat) : LaneDyn := NMap.at {} s.net.lanes l

/-- Set the lane state. -/
def State.setLane (s : State) (l : Nat) (d : LaneDyn) : State :=
  { s with net := { s.net with lanes := NMap.put {} s.net.lanes l d } }

/-- Scheduler of a port. -/
def State.sched (s : State) (p : Nat) : Sched := NMap.at {} s.net.sched p

/-- Set the scheduler of a port. -/
def State.setSched (s : State) (p : Nat) (d : Sched) : State :=
  { s with net := { s.net with sched := NMap.put {} s.net.sched p d } }

/-- The fabric link of a port's lane die: link 0 is the host die's, link k + 1 that of lane die k (Table 16-4). -/
def dieLink (p : Nat) : Nat := p / 256 + 1

/-- A port neither sends nor receives: its frame unit is being replaced or its die's fabric link retrains (R364, R370). -/
def State.blocked (s : State) (p : Nat) : Bool := (s.sched p).held || s.flt.training.contains (dieLink p)

/-- An entry waits for its reload from HBM (Table 16-1). -/
def State.reloads (s : State) (ix row : Nat) : Bool := s.flt.reloading.contains (ix * 2 ^ 32 + row)

/-- A queue by its row of 0x3801. -/
def State.queue (s : State) (row : Nat) : List QCopy := NMap.at [] s.net.queues row

/-- Set a queue. -/
def State.setQueue (s : State) (row : Nat) (q : List QCopy) : State :=
  { s with net := { s.net with queues := NMap.put [] s.net.queues row q } }

end Sys2Proof.Machine
end

