-- ==== Sys2Proof/Machine/Access.lean ====
section
/-! DEFINITION. Dictionary requests: how an item of a Dolux message, a PF0 window request or a firmware request
begins and is answered (R40–R48), the checks every object shares in the order of Table 2-9, and the lease
operations (R32–R38). -/

namespace Sys2Proof.Machine

/-! ### Status codes (Table 2-9) -/

abbrev stOk : Nat := 0x00
abbrev stNoObject : Nat := 0x01
abbrev stNoSubindex : Nat := 0x02
abbrev stAccess : Nat := 0x03
abbrev stType : Nat := 0x04
abbrev stRange : Nat := 0x05
abbrev stLeaseHeld : Nat := 0x06
abbrev stBusy : Nat := 0x07
abbrev stRefused : Nat := 0x08
abbrev stAuth : Nat := 0x09
abbrev stState : Nat := 0x0A
abbrev stResource : Nat := 0x0B

/-- The first status that is not OK. -/
def firstBad : List Nat → Nat
  | [] => stOk
  | x :: r => if x = stOk then firstBad r else x

/-- A number lies in a range. -/
def within (lo hi n : Nat) : Bool := decide (lo ≤ n) && decide (n ≤ hi)

/-- A check: the status when the test fails. -/
def require (ok : Bool) (st : Nat) : Nat := if ok then stOk else st

/-! ### Answering items -/

/-- How an item ends: with a status and data, or later, when the unit that decides it answers. -/
inductive Ended where
  | done (status : Nat) (data : Bytes) (s : State)
  | later (s : State)
  deriving Repr

/-- A response item in the layout of R42. -/
def itemBytes (ix sub status : Nat) (data : Bytes) : Bytes :=
  let b := toBE 2 ix ++ toBE 1 sub ++ toBE 1 status ++ toBE 2 data.length ++ data
  b ++ zeros (roundUp b.length 4 - b.length)

/-- The PF0 window's registers (Table 2-12a), by offset from the window. -/
abbrev dw (o : Nat) : Nat := 0x100000 + o

/-- The window of a port is busy. -/
def State.dwBusy (s : State) (p : HostPort) : Bool := s.regBits (portMaster p) (dw 0x10) 0 0 = 1

/-- Source 0x7AB follows the windows that have a request in progress (Table 11-8). -/
def State.dwLevel (s : State) : State := s.level 0x7AB (s.dwBusy .a || s.dwBusy .b)

/-- Where the request of a window stands in `Access.sessions`. -/
def winSlot (p : HostPort) : Nat := 255 + portMaster p

/-- The request in execution: of a Dolux key, or of a window. -/
def State.session (s : State) (k : Nat) : Option Session := NMap.at none s.acc.sessions k

/-- Set the request in execution; source 0x7AA follows the open Dolux messages (Table 11-8). -/
def State.setSession (s : State) (k : Nat) (d : Option Session) : State :=
  let s := { s with acc := { s.acc with sessions := NMap.put none s.acc.sessions k d } }
  s.level 0x7AA (s.acc.sessions.any fun e => decide (e.1 < 256))

/-- End the request in progress in a window: BUSY clears, DONE sets, and DW_IRQ sends its message (R47). -/
def State.dwDone (s : State) (p : HostPort) : State :=
  let m := portMaster p
  let s := ((s.setSession (winSlot p) none).setRegBits m (dw 0x10) 1 0 2).dwLevel
  if s.regBits m (dw 0x18) 15 15 = 1 then s.msix m (s.regBits m (dw 0x18) 10 0) else s

/-- GO written as 1 (R47, R48): ignored with OVERRUN while BUSY; else the request is copied from its registers and buffer and
starts with DONE, ITEMS_DONE and DW_RLENGTH cleared (log entry 54). One with no item to execute is done. -/
def State.dwGo (s : State) (p : HostPort) : State :=
  let m := portMaster p
  if s.dwBusy p then s.setRegBits m (dw 0x10) 2 2 1
  else
    let op := s.regBits m (dw 0x00) 7 0
    let bs := NMap.bytes s.dwBuf (m * 0x10000 + 0x1000) (min 4096 (s.regBits m (dw 0x08) 12 0))
    let items := if 1 ≤ op && decide (op ≤ 4) then itemsOf op (s.regBits m (dw 0x04) 15 0) bs else []
    let s := s.setSession (winSlot p) (some { items := items })
    let s := (s.setRegBits m (dw 0x10) 23 8 0).setRegBits m (dw 0x10) 1 0 1
    let s := (s.setReg m (dw 0x14) 0).dwLevel
    if items.isEmpty then s.dwDone p else s

/-- Append a response item to a window; the last one ends the request. A request that an FLR has ended gets none (R48). -/
def State.dwAnswer (s : State) (p : HostPort) (b : Bytes) : State :=
  let m := portMaster p
  match s.session (winSlot p) with
  | none => s
  | some d =>
    let len := s.regN m (dw 0x14)
    let s := { s with dwBuf := NMap.putBytes s.dwBuf (m * 0x10000 + 0x2000 + len) b }
    let s := s.setReg m (dw 0x14) (BitVec.ofNat 32 (len + b.length))
    let s := s.setRegBits m (dw 0x10) 23 8 (d.answered + 1)
    if d.answered + 1 = d.items.length then s.dwDone p
    else s.setSession (winSlot p) (some { d with answered := d.answered + 1 })

/-- An FLR of PF0 ends the request in progress: items that wait for admission or a table version are answered to nobody
(R48). -/
def State.endWindow (s : State) (p : HostPort) : State :=
  let drop := fun (v : Option Via) => match v with
    | some (.window q _) => if q = p then none else v
    | _ => v
  let s := { s with adm := s.adm.map fun (w : AdmWait) => { w with via := drop w.via } }
  let s := { s with acc := { s.acc with versions := s.acc.versions.map fun (x : Version) => { x with via := drop x.via } } }
  s.setSession (winSlot p) none

/-- Replay state of a key. -/
def State.key (s : State) (k : Nat) : DoluxKey := NMap.at {} s.acc.keys k

/-- Set the replay state of a key. -/
def State.setKey (s : State) (k : Nat) (d : DoluxKey) : State :=
  { s with acc := { s.acc with keys := NMap.put {} s.acc.keys k d } }

/-- The key is fresh: flash 1 does not record it as in use (R44). -/
def State.keyFresh (s : State) (k : Nat) : Bool := !(NMap.at (0, 0, false) s.pwr.replay k).2.2

/-! ### Frames that the device originates (R71, R73, R132) -/

/-- Object index of a management lane. -/
def mgmtIx : MgmtLane → Nat
  | .m0 => 0x1120
  | .m1 => 0x1121

/-- Number of a management lane. -/
def mgmtNo : MgmtLane → Nat
  | .m0 => 0
  | .m1 => 1

/-- A frame sent on a management lane is counted (R71). -/
def State.sendMgmt (s : State) (m : MgmtLane) (frame : Bytes) : State :=
  (s.emit (.mgmt (mgmtNo m) frame)).bump (mgmtIx m) 0 5 1

/-- A frame that the device originates waits for a slot of the ingress pipeline of its egress port's octet, for Q5 of the
port (R73, R132). -/
def State.originate (s : State) (p : Nat) (frame : Bytes) : State :=
  let w : Waiting := { pipe := p / 128, cls := 1, time := s.now, bytes := frame, fcs := none, source := ⟨2, 0xFFFF⟩,
                       egress := some p, queue := 5, rxTime := s.tai }
  { s with net := { s.net with waiting := s.net.waiting ++ [w] } }

/-- A frame that the device originates for a tenant's vport, in Q7 for PTP or Q6 (R132); it takes the pipeline of the tenant's
ring 0 (log entry 61). -/
def State.originateVport (s : State) (n q : Nat) (frame : Bytes) : State :=
  let t := n / 16
  let w : Waiting := { pipe := t % 8, cls := 1, time := s.now, bytes := frame, fcs := none, source := ⟨2, 0xFFFF⟩,
                       tenant := t, vport := some n, queue := q, rxTime := s.tai }
  { s with net := { s.net with waiting := s.net.waiting ++ [w] } }

/-- An answer leaves where its request arrived. -/
def State.sendBack (s : State) (at_ : DoluxPlace) (frame : Bytes) : State :=
  match at_ with
  | .port p => s.originate p.val frame
  | .mgmt m => s.sendMgmt m frame
  | .vport n => s.originateVport n.val 6 frame

/-- Send the response of a message with the next value of its key's transmit counter (R44); the next accepted message of the
key is opened (R45). -/
def State.respond (s : State) (k : Nat) (d : Session) : State :=
  match d.msg with
  | none => s
  | some m =>
    let key := s.key k
    let s := s.setKey k { key with tx := key.tx + 1 }
    let b := responseBytes m (s.ob 0x1010 1) d.answered d.resp (key.tx + 1) (cmac (toBE 32 (s.cell 0x1110 k 7)))
    let s := s.sendBack m.place (answerUdp m.frame (msgLayer m) b)
    match s.acc.doluxWait.find? fun w => msgKey w.1 == k with
    | none => s.setSession k none
    | some w =>
      let s := { s with acc := { s.acc with doluxWait := dropFirst (fun x => decide (x = w)) s.acc.doluxWait } }
      s.setSession k (some { msg := some w.1, items := msgItems w.1, stop := msgStop w.1, auth := w.2, held := s.keyFresh k })

/-- Append an item to the response of a message; the last one, or one refused under STOP_ON_ERROR, sends it. -/
def State.doluxAnswer (s : State) (k status : Nat) (b : Bytes) : State :=
  match s.session k with
  | none => s
  | some d =>
    let d := { d with resp := d.resp ++ b, answered := d.answered + 1 }
    if d.answered = d.items.length || (d.stop && decide (status ≠ stOk)) then s.respond k d
    else s.setSession k (some d)

/-- Answer an item on the path it came. -/
def State.answer (s : State) (v : Via) (ix sub status : Nat) (data : Bytes) : State :=
  match v with
  | .window p _ => s.dwAnswer p (itemBytes ix sub status data)
  | .dolux m _ => s.doluxAnswer (msgKey m) status (itemBytes ix sub status data)
  | .firmware n => s.emit (.answer n.val ix sub status data)
  | .leaseReq p => s.setRegBits (portMaster p) 0x24 7 0 status

/-- Answer an item whose request may have ended. -/
def State.answerTo (s : State) (v : Option Via) (ix sub status : Nat) : State :=
  match v with
  | none => s
  | some v => s.answer v ix sub status []

/-- End the response before an item that would not fit (R42, R47). -/
def State.stopBefore (s : State) (v : Via) : State :=
  match v with
  | .window p _ => s.dwDone p
  | .dolux m _ =>
    match s.session (msgKey m) with
    | none => s
    | some d => s.respond (msgKey m) d
  | _ => s

/-- Bytes of response data that an item may still carry: 1,400 bytes of a Dolux message less header and trailer,
or 4,096 of a window, less what the response holds and the 6 bytes of an item (R42, R47). -/
def State.room (s : State) (v : Via) : Option Nat :=
  match v with
  | .window p _ =>
    let used := s.regN (portMaster p) (dw 0x14)
    if used + 6 ≤ 4096 then some (4096 - used - 6) else none
  | .dolux m _ =>
    match s.session (msgKey m) with
    | none => none
    | some d => if d.resp.length + 6 ≤ 1360 then some (1360 - d.resp.length - 6) else none
  | _ => some (2 ^ 24)

/-! ### Accepting a Dolux message (R41–R46) -/

/-- The IP addresses of 0x1101: IPv6, IPv4; none where all zero. -/
def State.isOurs (s : State) (l : Layer) : Bool :=
  (l.ip = 4 && decide (l.ipDst ≠ 0) && decide (l.ipDst = s.ob 0x1101 3))
    || (l.ip = 6 && decide (l.ipDst ≠ 0) && decide (l.ipDst = s.ob 0x1101 2))

/-- The frame carries the VLAN of 0x1101:04: its tag's id, or 0 for none (R41). -/
def State.ourVlan (s : State) (l : Layer) : Bool :=
  match l.vlans with
  | [] => s.ob 0x1101 4 = 0
  | [t] => t.2 % 4096 = s.ob 0x1101 4
  | _ => false

/-- A UDP datagram at the Dolux port, addresses and VLAN (R41). -/
def State.isDolux (s : State) (l : Layer) : Bool :=
  s.isOurs l && s.ourVlan l && decide (l.proto = 17) && l.l4.isSome && !l.frag && decide (l.dport = s.ob 0x1101 1)

/-- Frames that the device itself takes (R71, R74, R327). -/
inductive DeviceFrame where
  | dolux
  | ptp
  | arp
  | nd
  | echo
  deriving DecidableEq, Repr

/-- A PTP message: to 01-80-C2-00-00-0E, on Ethernet to the PTP group, or on UDP to the PTP groups or an address of 0x1101. -/
def State.isPtp (s : State) (l : Layer) : Bool :=
  let group := (l.ip = 4 && decide (l.ipDst = 0xE0000181)) || (l.ip = 6 && decide (l.ipDst = 0xFF0E * 2 ^ 112 + 0x181))
  decide (l.dst = 0x0180C200000E) || (decide (l.etype = 0x88F7) && decide (l.dst = 0x011B19000000))
    || (decide (l.proto = 17) && (l.dport == 319 || l.dport == 320) && (s.isOurs l || group))

/-- What the device takes a frame as: PTP, Dolux, ARP and neighbour discovery for the addresses of 0x1101, echo requests to
them (R71, R74; ICMP on ports and vports: log entry 64). -/
def State.deviceFrame (s : State) (l : Layer) (bs : Bytes) : Option DeviceFrame :=
  let (a, _) := ipPayload bs l
  if s.isPtp l then some .ptp
  else if s.isDolux l then some .dolux
  else if l.etype = 0x0806 && decide (s.ob 0x1101 3 ≠ 0) && decide (be bs (l.l3 + 24) 4 = s.ob 0x1101 3) then some .arp
  else if l.ip = 6 && decide (l.proto = 58) && !l.opt && (be bs a 1 == 135 || be bs a 1 == 136)
      && decide (s.ob 0x1101 2 ≠ 0) && decide (be bs (a + 8) 16 = s.ob 0x1101 2) then some .nd
  else if s.isOurs l && !l.frag && ((l.ip = 4 && decide (l.proto = 1) && be bs a 1 == 8)
      || (l.ip = 6 && decide (l.proto = 58) && !l.opt && be bs a 1 == 128)) then some .echo
  else none

/-- The answer that the device gives to a frame of its own: to an ARP request, a neighbour solicitation, an echo request. -/
def DeviceFrame.reply (k : DeviceFrame) (at_ : DoluxPlace) (l : Layer) (bs : Bytes) : Option Bytes :=
  match k with
  | .arp => if be bs (l.l3 + 6) 2 = 1 then some (arpReply (placeMac at_) bs l) else none
  | .nd => if be bs (l.l3 + 40) 1 = 135 then some (ndReply (placeMac at_) bs l) else none
  | .echo => some (echoReply bs l)
  | _ => none

/-- The device takes a frame of its own: what it answers itself leaves where the frame arrived; Dolux messages and PTP
messages act by their own commands. -/
def State.takeOwn (s : State) (k : DeviceFrame) (at_ : DoluxPlace) (l : Layer) (bs : Bytes) : State :=
  match k.reply at_ l bs with
  | none => s
  | some f => s.sendBack at_ f

/-- The place receives: a port or management lane that is UP. -/
def State.placeUp (s : State) (at_ : DoluxPlace) : Bool :=
  match at_ with
  | .port p => s.up p.val
  | .mgmt m => s.ob (mgmtIx m) 2 = 4
  | .vport _ => true

/-- A replay counter is new: above the highest accepted, or within the 64 below it and not yet seen (R44). -/
def State.counterNew (s : State) (k c : Nat) : Bool :=
  let hi := s.cell 0x1110 k 9
  decide (hi < c) || (decide (hi ≤ c + 64) && decide (c < hi) && !(s.key k).seen.contains c)

/-- Note a replay counter as accepted; every 65,536 acceptances the highest is due for flash 1 (R44). -/
def State.noteCounter (s : State) (k c : Nat) : State :=
  let hi := s.cell 0x1110 k 9
  let top := max hi c
  let d := s.key k
  let s := s.setKey k { d with seen := (c :: d.seen).filter (fun x => decide (top ≤ x + 64)), accepted := d.accepted + 1 }
  s.setCell 0x1110 k 9 top

/-- The key's validity end has passed (R43). -/
def State.keyEnded (s : State) (k : Nat) : Bool :=
  let e := s.cell 0x1110 k 8
  decide (e ≠ 0) && decide (e ≤ s.tai)

/-- What becomes of a message that arrives (R43–R46). -/
inductive Arrival where
  | dropped (s : State)
  | accepted (s : State)
  deriving Repr

/-- Count an arriving message against the limit of 100,000 in each second of the free-running counter (R45; which seconds:
log entry 10); `none` beyond it. -/
def State.underRate (s : State) : Option State :=
  let fresh := decide (1000000000 ≤ s.now - s.acc.rateStart)
  let n := if fresh then 0 else s.acc.rateCount
  let start := if fresh then s.now / 1000000000 * 1000000000 else s.acc.rateStart
  if 100000 ≤ n then none else some { s with acc := { s.acc with rateStart := start, rateCount := n + 1 } }

/-- The checks of a message under its key: node, key, tag, replay (R43, R44), in that order (log entry 19). A message that is
answered AUTH is not executed and does not count in 0x1102:01. -/
def State.authenticate (s : State) (m : DoluxMsg) : Arrival :=
  let k := msgKey m
  if msgDest m ≠ s.ob 0x1010 1 then .dropped (s.inc 0x1102 2)
  else if s.cell 0x1110 k 4 = 0 then .dropped (s.inc 0x1102 3)
  else if cmac (toBE 32 (s.cell 0x1110 k 7)) (msgCovered m) ≠ msgTag m then
    .dropped ((s.inc 0x1102 3).eventLim 0x0126 k [k, msgAddress m])
  else if !s.counterNew k (msgCounter m) then .dropped ((s.inc 0x1102 4).event 0x0127 (k :: w64 (msgCounter m)))
  else
    let s := s.noteCounter k (msgCounter m)
    .accepted (if s.keyEnded k then s else s.inc 0x1102 1)

/-- A datagram arrives: one that is not for the device, or at a place that receives nothing, is none of the object server's;
one that is malformed, or beyond the rate, is dropped and counted (R41, R42, R45); a message from the device's own node id is
logged (R46). -/
def State.arrive (s : State) (m : DoluxMsg) : Arrival :=
  if !s.isDolux (msgLayer m) || !s.placeUp m.place then .dropped s
  else if msgMalformed m then .dropped (s.inc 0x1102 2)
  else match s.underRate with
    | none => .dropped (s.inc 0x1102 5)
    | some s =>
      (if msgSource m = s.ob 0x1010 1 then s.eventGap 60000000000 0x0128 0 [msgAddress m] else s).authenticate m

/-- An accepted message is opened, or waits for the one of its key that is open (R45). -/
def State.openSession (s : State) (m : DoluxMsg) : State :=
  let k := msgKey m
  let auth := s.keyEnded k
  if (s.session k).isSome then { s with acc := { s.acc with doluxWait := s.acc.doluxWait ++ [(m, auth)] } }
  else
    s.setSession k (some { msg := some m, items := msgItems m, stop := msgStop m, auth := auth, held := s.keyFresh k })

/-- A message is open or waits to be opened. -/
def State.knows (s : State) (m : DoluxMsg) : Bool :=
  (s.session (msgKey m)).any (fun d => decide (d.msg = some m)) || s.acc.doluxWait.any fun w => decide (w.1 = m)

/-- Where a dictionary item stands when its command comes: it is executed, it is answered AUTH, or it is not
executed (the request is not in progress, was dropped, is held or has stopped). -/
inductive Begun where
  | run (s : State)
  | auth (s : State)
  | no (s : State)
  deriving Repr

/-- The function's registers answer: not in START beyond the identity registers (R334), not in an FLR (R246). -/
def State.windowLive (s : State) (p : HostPort) : Bool :=
  decide (s.devState ≠ 0) && decide (s.devState ≠ 4) && !(s.func (portMaster p)).inFlr

/-- Begin item `item` of a request in execution: the items before it have been answered, and it is the request's own (R42). -/
def State.beginItem (s : State) (k item : Nat) (q : ReqItem) : Begun :=
  match s.session k with
  | none => .no s
  | some d =>
    if d.held || decide (d.next ≠ item) || decide (d.answered ≠ item) || decide (d.items[item]? ≠ some q) then .no s
    else
      let s := s.setSession k (some { d with next := item + 1 })
      if d.auth then .auth s else .run s

/-- A message arrives with the command of its first item. Messages of one key are executed in order of arrival, and one under a
fresh key when flash 1 records the key (R44, R45); the items of a message that waited are commanded again (log entry 20). -/
def State.admitMsg (s : State) (m : DoluxMsg) : State :=
  if s.knows m then s
  else match s.arrive m with
    | .dropped s => s
    | .accepted s => s.openSession m

/-- An open message with no items is answered at once. -/
def State.answerBare (s : State) (m : DoluxMsg) : State :=
  match s.session (msgKey m) with
  | none => s
  | some d =>
    if d.msg = some m && d.items.isEmpty && !d.held && decide (msgOpcode m ≠ 5) then s.respond (msgKey m) d else s

/-- Begin an item of a Dolux message. -/
def State.beginDolux (s : State) (m : DoluxMsg) (item : Nat) (q : ReqItem) : Begun :=
  let s := if item = 0 then (s.admitMsg m).answerBare m else s
  match s.session (msgKey m) with
  | none => .no s
  | some d => if d.msg = some m then s.beginItem (msgKey m) item q else .no s

/-- Begin an item; the object server runs neither in reset nor in FAULT (R334, R344). -/
def State.begin (s : State) (v : Via) (q : ReqItem) : Begun :=
  if s.pwr.inReset || s.devState = 4 then .no s
  else match v with
  | .window p item => if s.windowLive p then s.beginItem (winSlot p) item q else .no s
  | .dolux m item => s.beginDolux m item q
  | .firmware _ => .run s
  | .leaseReq p => if (s.func (portMaster p)).inFlr then .no s else .run s

/-- What a path reaches: LEASE_REQ only the request subindex of the station lease (R236). -/
def reaches (v : Via) (ix sub : Nat) : Bool :=
  match v with
  | .leaseReq _ => ix == 0x1303 && sub == 0xF2
  | _ => true

/-- Execute one item: its body gets the bytes of data its response may carry; an item whose response does not fit
is not executed and ends the message (R42). -/
def State.item (s : State) (v : Via) (q : ReqItem) (body : State → Nat → Ended) : State :=
  match (if reaches v q.ix q.sub then s.begin v q else .no s) with
  | .no s => s
  | .auth s => s.answer v q.ix q.sub stAuth []
  | .run s =>
    match s.room v with
    | none => s.stopBefore v
    | some room =>
      match body s room with
      | .later s => s
      | .done st data s' => if data.length ≤ room then s'.answer v q.ix q.sub st data else s.stopBefore v

/-! ### The checks every object shares -/

/-- A principal may read an entry (R28). -/
def Acc.reads : Acc → Principal → Bool
  | .r, .tenant _ => false
  | .r, _ => true
  | .rT, _ => true
  | .rw, .tenant _ => false
  | .rw, _ => true
  | .rwT, _ => true
  | .rwTr, _ => true
  | .rwS, .tenant _ => false
  | .rwS, _ => true
  | .w, _ => false
  | .wT, _ => false
  | .all, _ => true

/-- A principal may write an entry (R28). -/
def Acc.writes : Acc → Principal → Bool
  | .r, _ => false
  | .rT, _ => false
  | .rw, .station => true
  | .rw, .operator => true
  | .rw, _ => false
  | .rwT, .viewer => false
  | .rwT, _ => true
  | .rwTr, .station => true
  | .rwTr, .operator => true
  | .rwTr, _ => false
  | .rwS, .station => true
  | .rwS, _ => false
  | .w, .station => true
  | .w, .operator => true
  | .w, _ => false
  | .wT, .viewer => false
  | .wT, _ => true
  | .all, _ => true

/-- A Tenant principal reaches no tenant object but its own (R27). -/
def ownTenant (p : Principal) (ix : Nat) : Bool :=
  match p with
  | .tenant t => !(decide (0x8000 ≤ ix) && decide (ix < 0x9000)) || ix == tenantIx t
  | _ => true

/-- A value lies in the ranges of an entry (R23); a BOOL is 0 or 1. -/
def Entry.inRange (e : Entry) (v : Nat) : Bool :=
  (decide (e.ty ≠ .bool) || decide (v < 2)) && (e.rng.isEmpty || e.rng.any fun r => decide (r.1 ≤ v) && decide (v ≤ r.2))

/-- Masters that may write x:F2 of a domain (Table 2-7). -/
def State.mayLease (s : State) (v : Via) (head : Nat) : Bool :=
  let m := masterOf v
  let op := decide (s.principal v = .operator)
  let holder := decide (s.explicitHolder 0x1303 = m) && decide (m ≠ 0)
  if head = 0x1303 then op || m == 1 || m == 2
  else if 0x8000 ≤ head && head < 0x9000 then op || holder || decide (s.principal v = .tenant (head - 0x8000))
  else op || holder

/-- Masters that may TAKE a domain (Table 2-7). -/
def State.mayTake (s : State) (v : Via) (head : Nat) : Bool :=
  decide (head ≠ 0x1303) && decide (s.explicitHolder 0x1303 = masterOf v)

/-- Note a data write refused by the lease check: x:F4 and event 0x0124 (R38). -/
def State.noteRefused (s : State) (v : Via) (head ix sub : Nat) : State :=
  (s.inc head 0xF4).eventLim 0x0124 head [ix * 256 + sub, masterOf v, s.slotHolder (pathOf v) head]

/-- The lease check of a data write to a domain (place 4 of Table 2-9), against the leases at the start of its cycle (R38). -/
def State.leased (s : State) (v : Via) (head : Nat) : Bool :=
  decide (s.slotHolder (pathOf v) head = masterOf v) && decide (masterOf v ≠ 0)

/-- A write of a scalar object: what is checked after TYPE, and what the value does once every check has passed. -/
structure WriteRule where
  check : State → Via → Nat → Nat
  act   : State → Via → Nat → Ended

/-- The domain's lease and the station lease lapse when their time has come, in the slot of the request (R36). -/
def State.lapses (s : State) (head : Nat) : State := (s.lapse 0x1303).lapse head

/-- A field that is read-only to every principal in the row at hand (R83, R111, R125, R131, R191). -/
def State.rowReadOnly (s : State) (ix row sub : Nat) : Bool :=
  if ix = 0x3800 then decide (row < 16384) || (decide (sub = 5) && s.partitioned)
  else if ix = 0x5010 || ix = 0x5011 || ix = 0x5100 || ix = 0x6010 then decide (sub = 5) && s.partitioned
  else if ix = 0x9301 then
    decide (2048 ≤ row) && decide (row < 6144)
      && (if s.partitioned then decide (5 ≤ sub) && decide (sub ≤ 0x11) else decide (3072 ≤ row))
  else false

/-- The first place of Table 2-9 that a write fails, up to TYPE (places 1 to 5); a scalar object has row 0. -/
def State.writeCheck (s : State) (v : Via) (ix row sub len : Nat) : Nat :=
  match objectAt ix with
  | none => stNoObject
  | some o =>
    match o.entry sub with
    | none => if sub = 0 then stAccess else stNoSubindex
    | some e =>
      firstBad
        [ require (e.acc.writes (s.principal v) && ownTenant (s.principal v) ix && !s.rowReadOnly ix row sub) stAccess
        , require (s.leased v (s.domain ix row)) stLeaseHeld
        , require (decide (e.ty ≠ .domain) && decide (len = e.ty.len)) stType ]

/-- A write of one field under its rule (R40). A write refused by the lease check counts and is logged. -/
def State.tryWriteAt (s : State) (v : Via) (ix row sub : Nat) (data : Bytes) (r : WriteRule) : Ended :=
  let head := s.domain ix row
  let s := s.lapses head
  let st := s.writeCheck v ix row sub data.length
  if st = stLeaseHeld then .done st [] (s.noteRefused v head ix sub)
  else if st ≠ stOk then .done st [] s
  else
    let st := r.check s v (ofBE data)
    if st = stLeaseHeld then .done st [] (s.noteRefused v head ix sub)
    else if st ≠ stOk then .done st [] s
    else r.act s v (ofBE data)

/-- A write of a scalar object under its rule. -/
def State.tryWrite (s : State) (v : Via) (ix sub : Nat) (data : Bytes) (r : WriteRule) : Ended :=
  s.tryWriteAt v ix 0 sub data r

/-- The write of a scalar object as an item of a request. -/
def State.writeItem (s : State) (v : Via) (ix sub : Nat) (data : Bytes) (r : WriteRule) : State :=
  s.item v (writeReq ix sub data) fun s _ => s.tryWrite v ix sub data r

/-- The write of one field of a row, its selection and its COMMIT as one item of a request (log entry 22). -/
def State.writeRowItem (s : State) (v : Via) (ix row sub : Nat) (data : Bytes) (r : WriteRule) : State :=
  s.item v (writeReq ix sub data) fun s _ => s.tryWriteAt v ix row sub data r

/-- The range of a subindex admits a value. -/
def rangeOk (ix sub v : Nat) : Bool :=
  match objectAt ix with
  | none => false
  | some o => match o.entry sub with
    | none => false
    | some e => e.inRange v

/-- The STATE that every write gets in START (R334) and in SAFE_HOLD (R385). -/
def State.startState (s : State) : Nat := require (decide (s.devState ≠ 0) && !s.inHold) stState

/-- The rule of an object that simply holds the value written. -/
def plainRule (ix sub : Nat) : WriteRule where
  check s _ v := firstBad [s.startState, require (rangeOk ix sub v) stRange]
  act s _ v := .done stOk [] (s.setOb ix sub v)

/-! ### Lease requests (R34, R35) -/

/-- Operations of Table 2-6. -/
inductive LeaseOp where
  | acquire
  | renew
  | release
  | take
  deriving DecidableEq, Repr

/-- The operation of a code. -/
def LeaseOp.ofCode : Nat → Option LeaseOp
  | 1 => some .acquire
  | 2 => some .renew
  | 3 => some .release
  | 4 => some .take
  | _ => none

/-- DURATION is in range (Table 2-6). -/
def LeaseOp.durationOk : LeaseOp → Nat → Bool
  | .release, ms => ms == 0
  | _, ms => decide (100 ≤ ms) && decide (ms ≤ 3600000)

/-- The status of a lease operation (table of R35). -/
def leaseResult (op : LeaseOp) (holder m : Nat) : Nat :=
  match op with
  | .acquire => if holder = 0 || holder = m then stOk else stLeaseHeld
  | .renew => if holder = m && holder ≠ 0 then stOk else stLeaseHeld
  | .release => if holder = m && holder ≠ 0 then stOk else stLeaseHeld
  | .take => stOk

/-- Set the holder and expiry of a domain; a change of holder raises the epoch, is logged as 0x0120 or, taken from
another master, as 0x0123 (R33, R35), and for the station lease names the port (R37). -/
def State.grantLease (s : State) (head m ms : Nat) : State :=
  let old := s.explicitHolder head
  let s := (s.setOb head 0xF0 m).setOb head 0xF1 (s.now + ms * 1000000)
  if old = m then s
  else
    let s := s.inc head 0xF3
    let s := if head = 0x1303 && m ≤ 2 then s.setOb 0x1303 1 m else s
    if old = 0 then s.event 0x0120 [head, m, s.ob head 0xF3] else s.event 0x0123 [head, old, m]

/-- Note the slot of a lease operation, for the data writes of its cycle (R38). -/
def State.noteSlot (s : State) (v : Via) (head : Nat) : State :=
  let x : LeaseSlot := { at_ := s.clk.frcQ, head := head, old := s.explicitHolder head, path := pathOf v }
  { s with acc := { s.acc with slots := s.acc.slots.filter (fun y => decide (y.at_ = s.clk.frcQ)) ++ [x] } }

/-- A lease operation that passed its checks. -/
def State.leaseAct (s : State) (head m : Nat) (op : LeaseOp) (ms : Nat) : State :=
  match op with
  | .release => (s.endLease head).event 0x0121 [head, m, 1]
  | _ => s.grantLease head m ms

/-- A lease request of x:F2: ACCESS of R34, then TYPE, STATE, RANGE, then the table of R35 (log entry 21). The
sources that follow the station PF0 are selected again when 0x1303:01 first names a port (R280). -/
def State.lease (s : State) (v : Via) (head code ms len : Nat) : Ended :=
  let s := s.lapses head
  match objectAt head with
  | none => .done stNoObject [] s
  | some o =>
    if !o.head then .done stNoSubindex [] s
    else
      let op := LeaseOp.ofCode code
      let st := firstBad
        [ require (s.mayLease v head && ownTenant (s.principal v) head) stAccess
        , require (decide (len ≠ 4) || decide (op ≠ some .take) || s.mayTake v head) stAccess
        , require (len == 4) stType
        , require (decide (s.devState ≠ 0)) stState ]
      if st ≠ stOk then .done st [] s
      else match op with
        | none => .done stRange [] s
        | some op =>
          if !op.durationOk ms then .done stRange [] s
          else
            let st := leaseResult op (s.explicitHolder head) (masterOf v)
            if st ≠ stOk then .done st [] s
            else .done stOk [] (((s.noteSlot v head).leaseAct head (masterOf v) op ms).deliver (255 + masterOf v))

end Sys2Proof.Machine
end

