-- ==== Sys2Proof/Machine/Operands.lean ====
section
/-! DEFINITION. What a pass reads and makes: table versions (R87), keys and their fields (R78, R79), the stages' searches
and the action set (R80–R82, R89), and the edits of a frame: VLAN operations, rewrites, decapsulation and
encapsulation (R96–R98). Frames are byte strings without FCS. -/

namespace Sys2Proof.Machine

/-! ### Tables -/

/-- The dictionary with every landed table version that is not yet in effect taken back (R87). -/
def State.eff (s : State) : NMap Nat :=
  s.acc.versions.foldr (fun v d => v.undo.foldl (fun d c => NMap.set dictDefault d c.1 c.2) d) s.dict

/-- The tables that change only by table version (R87). -/
def versioned (ix : Nat) : Bool := [0x5010, 0x5011, 0x5012, 0x5100, 0x5200].contains ix

/-- The table version in effect: the cells of the tables of R87. -/
def State.tables (s : State) : NMap Nat := s.eff.filter fun e => versioned (e.1 / 2 ^ 40)

/-- A cell of a set of tables. -/
def tcell (d : NMap Nat) (ix row sub : Nat) : Nat := NMap.get dictDefault d (cellKey ix row sub)

/-- The rows of a table in which a subindex differs from its default, rising. -/
def rowsWith (d : NMap Nat) (ix sub : Nat) : List Nat :=
  d.filterMap fun e => if e.1 / 2 ^ 40 = ix && e.1 % 256 = sub then some (e.1 / 256 % 2 ^ 32) else none

/-- The subindices of a row from `lo` to `hi` that differ from their defaults, with their values. -/
def rowFields (d : NMap Nat) (ix row lo hi : Nat) : List (Nat × Nat) :=
  d.filterMap fun e =>
    if e.1 / 256 = ix * 2 ^ 32 + row && decide (lo ≤ e.1 % 256) && decide (e.1 % 256 ≤ hi) then some (e.1 % 256, e.2)
    else none

/-- The Owner field of a row of a set of tables; in Partitioned it follows the row number (R83). -/
def State.ownerIn (s : State) (d : NMap Nat) (ix row : Nat) : Nat :=
  if s.partitioned then cellDefault ix row 5 else tcell d ix row 5

/-! ### Keys (Table 4-3) -/

/-- Fields 3 to 16 of one parsed frame. -/
def Layer.field (l : Layer) (id : Nat) : Nat :=
  match id with
  | 3 => l.dst
  | 4 => l.src
  | 5 => (l.vlans.head?.getD (0, 0)).2
  | 6 => ((l.vlans.drop 1).head?.getD (0, 0)).2
  | 7 => l.etype
  | 8 => if l.ip = 4 then l.ipSrc else 0
  | 9 => if l.ip = 4 then l.ipDst else 0
  | 10 => if l.ip = 6 then l.ipSrc else 0
  | 11 => if l.ip = 6 then l.ipDst else 0
  | 12 => l.proto
  | 13 => l.dscp
  | 14 => l.flow
  | 15 => l.sport
  | 16 => l.dport
  | _ => 0

/-- Width in bits of a field of the catalogue; 0 for an id that is not in it. -/
def fieldWidth (id : Nat) : Nat :=
  if 35 ≤ id && id ≤ 48 then [48, 48, 16, 16, 16, 32, 32, 128, 128, 8, 8, 20, 16, 16].getD (id - 35) 0
  else [0, 20, 16, 48, 48, 16, 16, 16, 32, 32, 128, 128, 8, 8, 20, 16, 16, 8, 24, 32, 64, 24, 16, 16, 16, 32].getD id 0

/-- What keys are built from. -/
structure KeyCtx where
  parsed : Parsed
  source : Source
  vport  : Option Nat
  flags  : Nat
  tag    : Nat

/-- Catalogue field 1 of a source. -/
def Source.field (x : Source) : Nat := x.kind * 65536 + x.num

/-- The value of a field of the catalogue. -/
def KeyCtx.field (k : KeyCtx) (id : Nat) : Nat :=
  if 35 ≤ id && id ≤ 48 then (k.parsed.inner.getD {}).field (id - 32)
  else match id with
    | 1 => k.source.field
    | 2 => k.vport.getD 0
    | 17 => k.parsed.outer.tcp
    | 18 => k.parsed.vni
    | 19 => k.parsed.outer.spi
    | 20 => k.parsed.sci
    | 21 => k.parsed.gopt
    | 22 => k.flags
    | 23 => k.tag
    | 24 => match k.parsed.ptp with
      | some (t, d) => t * 256 + d
      | none => 0
    | 25 => k.parsed.first4
    | _ => k.parsed.outer.field id

/-- A key of `n` bytes: the fields in order from bit 7 of byte 0, zeros behind them (R78). -/
def KeyCtx.key (k : KeyCtx) (ids : List Nat) (n : Nat) : Nat :=
  let x := ids.foldl (fun (a : Nat × Nat) id => (a.1 * 2 ^ fieldWidth id + k.field id % 2 ^ fieldWidth id, a.2 + fieldWidth id))
    (0, 0)
  x.1 * 2 ^ (8 * n - x.2)

/-- The field ids of the classify key (R79). -/
def classifyIds : List Nat := [1, 5, 6, 7, 3, 22]

/-- The field ids of a key profile; id 0 ends the list (R79, Table 4-13). -/
def profileIds (d : NMap Nat) (profile : Nat) : List Nat :=
  ((List.range 16).map fun i => tcell d 0x5012 profile (5 + i)).takeWhile (· ≠ 0)

/-- The key of a stage under a profile. -/
def KeyCtx.profileKey (k : KeyCtx) (d : NMap Nat) (profile n : Nat) : Nat := k.key (profileIds d profile) n

/-! ### Searches (R80, R81) -/

/-- The ternary row that wins: the lowest valid row of the owner, stage and profile that matches the key; a row that failed
parity is not valid until it is rewritten (R361). -/
def State.ternary (s : State) (d : NMap Nat) (owner stage profile key : Nat) : Option Nat :=
  (rowsWith d 0x5011 4).find? fun r =>
    !s.flt.badRows.contains r && decide (s.ownerIn d 0x5011 r = owner) && decide (tcell d 0x5011 r 6 = stage * 64 + profile)
      && decide (key &&& tcell d 0x5011 r 8 = tcell d 0x5011 r 7 &&& tcell d 0x5011 r 8)

/-- The exact row that matches a key under a profile. -/
def State.exact (s : State) (d : NMap Nat) (owner profile key : Nat) : Option Nat :=
  (rowsWith d 0x5010 4).find? fun r =>
    decide (s.ownerIn d 0x5010 r = owner) && decide (tcell d 0x5010 r 6 = profile) && decide (tcell d 0x5010 r 7 = key)

/-! ### The action set (R82, Table 4-7) -/

/-- A field of an action set; a field that no row has set reads its "none" value, which is its default. -/
def Actions.val (a : Actions) (sub : Nat) : Nat :=
  match a.find? (fun f => f.sub == sub) with
  | some f => f.val
  | none => cellDefault 0x5010 0 sub

/-- Marks an action set that took a record being reloaded (Table 16-1); no field of Table 4-7 has this number. -/
abbrev lostField : Nat := 0x100

/-- A row sets one field: a field that a row of T0000 has set is not replaced by a row of another owner. -/
def Actions.setField (a : Actions) (sub val : Nat) (station : Bool) : Actions :=
  if !station && a.any (fun f => f.sub == sub && f.station) then a
  else { sub := sub, val := val, station := station } :: a.filter (fun f => !(f.sub == sub))

/-- The row of a stage applies: it replaces each field that it sets. -/
def State.applyRow (s : State) (d : NMap Nat) (ix row : Nat) (a : Actions) : Actions :=
  let station := decide (s.ownerIn d ix row = 0)
  if s.reloads ix row then a.setField lostField 1 true
  else (rowFields d ix row 0x10 0x2E).foldl (fun a f => a.setField f.1 f.2 station) a

/-- The frame needs a record that is being reloaded. -/
def Actions.lost (a : Actions) : Bool := a.any fun f => f.sub == lostField

/-- A field whose "none" value is all ones. -/
def Actions.opt (a : Actions) (sub : Nat) : Option Nat :=
  if a.val sub = cellDefault 0x5010 0 sub then none else some (a.val sub)

abbrev Actions.tenant (a : Actions) : Option Nat := a.opt 0x10
abbrev Actions.vport (a : Actions) : Option Nat := a.opt 0x11
abbrev Actions.exactProfile (a : Actions) : Nat := a.val 0x12
abbrev Actions.aclProfile (a : Actions) : Nat := a.val 0x13
abbrev Actions.egressProfile (a : Actions) : Nat := a.val 0x14
abbrev Actions.decrypt (a : Actions) : Nat := a.val 0x15
abbrev Actions.fwdType (a : Actions) : Nat := a.val 0x16
abbrev Actions.fwdTarget (a : Actions) : Nat := a.val 0x17
abbrev Actions.queue (a : Actions) : Option Nat := a.opt 0x18
abbrev Actions.meter (a : Actions) : Option Nat := a.opt 0x19
abbrev Actions.stream (a : Actions) : Option Nat := a.opt 0x1A
abbrev Actions.frer (a : Actions) : Option Nat := a.opt 0x1B
abbrev Actions.decap (a : Actions) : Nat := a.val 0x1C
abbrev Actions.sa (a : Actions) : Option Nat := a.opt 0x1D
abbrev Actions.mirType (a : Actions) : Nat := a.val 0x1E
abbrev Actions.mirTarget (a : Actions) : Nat := a.val 0x1F
abbrev Actions.mirTrunc (a : Actions) : Nat := a.val 0x20
abbrev Actions.slot (a : Actions) : Option Nat := a.opt 0x21
abbrev Actions.trap (a : Actions) : Nat := a.val 0x24
abbrev Actions.drop (a : Actions) : Bool := a.val 0x25 = 1
abbrev Actions.vlanOp (a : Actions) : Nat := a.val 0x26
abbrev Actions.recirculate (a : Actions) : Bool := a.val 0x2D = 1
abbrev Actions.tag (a : Actions) : Nat := a.val 0x2E

/-- The rewrites of an action record (:29–:2C). -/
def rewriteOf (val : Nat → Nat) : Rewrite where
  macDst := if val 0x29 = 0 then none else some (val 0x29)
  macSrc := if val 0x2A = 0 then none else some (val 0x2A)
  ttl := decide (val 0x2B = 1)
  dscp := if val 0x2C = 0xFF then none else some (val 0x2C)

/-- The row of stage E that won, as its copy will meet it (R82). -/
def egressRow (r : Nat) (v : Nat → Nat) : EgressRow :=
  { row := r, drop := decide (v 0x25 = 1), trap := v 0x24, mirType := v 0x1E, mirTgt := v 0x1F, trunc := v 0x20,
    rewrite := rewriteOf v }

/-- A tunnel endpoint row (Table 4-9). -/
def endpointOf (d : NMap Nat) (r : Nat) : Endpoint :=
  let v := fun sub => tcell d 0x5100 r sub
  { kind := v 6, dst := v 7, src := v 8, tci := v 9, source := v 0xA, target := v 0xB, ttl := v 0xC, dscp := v 0xD,
    sport := v 0xE, vni := v 0xF, opts := (toBE 64 (v 0x10)).take (v 0x11), port := v 0x12 }

/-! ### VLAN operations (R96) -/

/-- Put a tag behind the source address. -/
def pushTag (bs : Bytes) (tpid tci : Nat) : Bytes :=
  bs.take 12 ++ toBE 2 (if tpid = 1 then 0x88A8 else 0x8100) ++ toBE 2 tci ++ bs.drop 12

/-- A VLAN operation on a frame; `none` when the frame is dropped. A replace on an untagged frame changes nothing
(log entry 26). -/
def vlanEdit (op tci tpid : Nat) (bs : Bytes) : Option Bytes :=
  let l := parseEth bs 0
  let n := l.vlans.length
  match op with
  | 1 => if 2 ≤ n then none else some (pushTag bs tpid tci)
  | 2 => if n = 0 then none else some (bs.take 12 ++ bs.drop 16)
  | 3 => if n = 0 then none else some (bs.take 12 ++ bs.drop (12 + 4 * n))
  | 4 => if n = 0 then some bs else some (splice bs 14 (toBE 2 tci))
  | 5 => if n = 0 then some bs else some (splice bs 14 (toBE 2 (be bs 14 2 / 4096 * 4096 + tci % 4096)))
  | _ => some bs

/-- The TCI of the outer tag of a frame. -/
def outerTci (bs : Bytes) : Option Nat := (parseEth bs 0).vlans.head?.map (·.2)

/-- Put an R-tag behind the VLAN tags (R174). -/
def pushRtag (bs : Bytes) (sequence : Nat) : Bytes :=
  let a := 12 + 4 * (parseEth bs 0).vlans.length
  bs.take a ++ [0xF1, 0xC1, 0, 0] ++ toBE 2 sequence ++ bs.drop a

/-- Remove the R-tag (R175). -/
def popRtag (bs : Bytes) : Bytes :=
  let a := 12 + 4 * (parseEth bs 0).vlans.length
  bs.take a ++ bs.drop (a + 6)

/-! ### Rewrites -/

/-- Recompute the checksum of the IPv4 header at `a`. -/
def fixIp4 (bs : Bytes) (a : Nat) : Bytes :=
  let n := 4 * (be bs a 1 % 16)
  let z := splice bs (a + 10) [0, 0]
  splice z (a + 10) (toBE 2 (checksum (slice z a n)))

/-- Write the DSCP of the outermost IP header; a frame without IP is unchanged (R96, R129). -/
def setDscp (v : Nat) (bs : Bytes) : Bytes :=
  let l := parseLayer bs 0
  if l.ip = 4 then fixIp4 (splice bs (l.l3 + 1) (toBE 1 (v * 4 + l.dscp % 4))) l.l3
  else if l.ip = 6 then
    splice bs l.l3 (toBE 2 (6 * 4096 + (v * 4 + l.dscp % 4) * 16 + be bs (l.l3 + 1) 1 % 16))
  else bs

/-- Decrement the TTL or hop limit of the outermost IP header (R96). -/
def decTtl (bs : Bytes) : Bytes :=
  let l := parseLayer bs 0
  if l.ip = 4 then fixIp4 (splice bs (l.l3 + 8) (toBE 1 (l.ttl - 1))) l.l3
  else if l.ip = 6 then splice bs (l.l3 + 7) (toBE 1 (l.ttl - 1))
  else bs

/-- The DEI bit of the outer tag set; an untagged frame is unchanged (R129). -/
def setDei (bs : Bytes) : Bytes :=
  match outerTci bs with
  | none => bs
  | some t => splice bs 14 (toBE 2 (setBit t 12 true))

/-- A frame with TTL decrement whose TTL or hop limit is 1 or less is trapped (R96). -/
def ttlEnds (bs : Bytes) : Bool :=
  let l := parseLayer bs 0
  decide (l.ip ≠ 0) && decide (l.ttl ≤ 1)

/-- The rewrites at egress. -/
def Rewrite.run (r : Rewrite) (bs : Bytes) : Bytes :=
  let bs := match r.macDst with
    | some m => splice bs 0 (toBE 6 m)
    | none => bs
  let bs := match r.macSrc with
    | some m => splice bs 6 (toBE 6 m)
    | none => bs
  let bs := if r.ttl then decTtl bs else bs
  match r.dscp with
  | some v => setDscp v bs
  | none => bs

/-- The rewrites of stage E apply after those of the earlier rows, which they replace where they are set (R82). -/
def Rewrite.onto (r e : Rewrite) : Rewrite where
  macDst := e.macDst.or r.macDst
  macSrc := e.macSrc.or r.macSrc
  ttl := r.ttl
  dscp := e.dscp.or r.dscp

/-- A rewrite changes the frame. -/
def Rewrite.acts (r : Rewrite) : Bool := decide (r ≠ {})

/-! ### Tunnels (R97, R98) -/

/-- The pseudo header sum of IPv4 or IPv6 with the UDP segment at `a` of `n` bytes. -/
def udpSum (l : Layer) (bs : Bytes) (a n : Nat) : Nat :=
  let w := if l.ip = 4 then 4 else 16
  onesSum (toBE w l.ipSrc ++ toBE w l.ipDst ++ toBE 4 n ++ [0, 0, 0, 17] ++ slice bs a n)

/-- The first test of R97 that a frame fails, by a cause number (log entry 27): 1 flag, 2 L3_ERR, 3 checksum, 4 I flag,
5 version, 6 options, 7 protocol, 8 critical option; 0 when decapsulation runs. -/
def decapFault (val : Nat) (p : Parsed) (bs : Bytes) : Nat :=
  let t := p.tunAt
  let u := t - 8
  if (val = 1 && !p.vxlan) || (val ≠ 1 && !p.geneve) then 1
  else if p.outer.err then 2
  else if be bs (u + 6) 2 ≠ 0 && udpSum p.outer bs u (be bs (u + 4) 2) ≠ 65535 then 3
  else if val = 1 then if bit (be bs t 1) 3 then 0 else 4
  else if be bs t 1 / 64 ≠ 0 then 5
  else if 16 < be bs t 1 % 64 then 6
  else if be bs (t + 2) 2 ≠ 0x6558 then 7
  else if p.crit && val ≠ 3 then 8
  else 0

/-- The frame behind the tunnel header. -/
def decapsulate (p : Parsed) (bs : Bytes) : Bytes := bs.drop p.innerAt

/-- A stored Geneve option has its critical bit set; options are class, type and length in words (R98). -/
def critical : (fuel : Nat) → Bytes → Bool
  | 0, _ => false
  | n + 1, bs => if bs.length < 4 then false
    else bit (be bs 2 1) 7 || critical n (bs.drop (4 + 4 * (be bs 3 1 % 32)))

/-- The IP version of an endpoint. -/
def Endpoint.version (e : Endpoint) : Nat := e.kind % 16

/-- The endpoint is a Geneve one. -/
def Endpoint.isGeneve (e : Endpoint) : Bool := e.kind / 16 = 2

/-- Header length of an endpoint (Table 4-8). -/
def Endpoint.header (e : Endpoint) : Nat :=
  (if e.version = 6 then 70 else 50) + (if e.isGeneve then e.opts.length else 0) + (if e.tci ≠ 0 then 4 else 0)

/-- The hash of the inner 5-tuple (R98). -/
def innerHash (l : Layer) : Nat := (Config.flowHash l.ipSrc l.ipDst l.proto l.sport l.dport).toNat

/-- The tunnel header of an endpoint; the UDP ports are those of 0x5000:01 and :02. -/
def Endpoint.tunnel (e : Endpoint) : Bytes :=
  if e.isGeneve then
    toBE 1 (e.opts.length / 4) ++ toBE 1 (if critical 16 e.opts then 0x40 else 0) ++ [0x65, 0x58] ++ toBE 3 e.vni ++ [0]
      ++ e.opts
  else [8, 0, 0, 0] ++ toBE 3 e.vni ++ [0]

/-- Encapsulation (R98). -/
def Endpoint.encapsulate (e : Endpoint) (vx gn : Nat) (bs : Bytes) : Bytes :=
  let l := parseLayer bs 0
  let h := innerHash l
  let sport := if e.sport = 0 then 49152 + h % 16384 else e.sport
  let dscp := if e.dscp = 0xFF then l.dscp / 4 else e.dscp
  let body := e.tunnel ++ bs
  let udp := toBE 2 sport ++ toBE 2 (if e.isGeneve then gn else vx) ++ toBE 2 (8 + body.length)
  let mac := toBE 6 e.dst ++ toBE 6 e.src ++ (if e.tci = 0 then [] else [0x81, 0x00] ++ toBE 2 e.tci)
  if e.version = 6 then
    let o : Layer := { ip := 6, ipSrc := e.source, ipDst := e.target }
    let seg := udp ++ [0, 0] ++ body
    let c := 65535 - udpSum o seg 0 seg.length
    let seg := splice seg 6 (toBE 2 (if c = 0 then 65535 else c))
    mac ++ [0x86, 0xDD] ++ toBE 4 (6 * 2 ^ 28 + dscp * 4 * 2 ^ 20 + h % 2 ^ 20) ++ toBE 2 seg.length ++ [17] ++ toBE 1 e.ttl
      ++ toBE 16 e.source ++ toBE 16 e.target ++ seg
  else
    let seg := udp ++ [0, 0] ++ body
    let ip := [0x45] ++ toBE 1 (dscp * 4) ++ toBE 2 (20 + seg.length) ++ [0, 0, 0x40, 0] ++ toBE 1 e.ttl ++ [17, 0, 0]
      ++ toBE 4 e.source ++ toBE 4 e.target
    mac ++ [0x08, 0x00] ++ fixIp4 ip 0 ++ seg

/-! ### Frame lengths -/

/-- The 5-tuple hash that selects a receive ring (R262); `none` for a frame that is not IP. -/
def ringHash (bs : Bytes) : Nat :=
  let l := parseLayer bs 0
  let w := if l.ip = 4 then 4 else 16
  if l.ip = 0 then 0
  else crc32c (toBE w l.ipSrc ++ toBE w l.ipDst ++ toBE 1 l.proto
    ++ (if l.frag then [] else toBE 2 l.sport ++ toBE 2 l.dport))

/-- L of a frame: its bytes with the FCS, at least 64 once padded (R65, R95; log entry 28). -/
def frameLen (bs : Bytes) : Nat := max 64 (bs.length + 4)

/-- A frame as the unit sends it: padded with zeros to 60 bytes, its FCS appended (R65). -/
def withFcs (bs : Bytes) : Bytes :=
  let b := bs ++ zeros (60 - bs.length)
  b ++ fcsBytes b

end Sys2Proof.Machine
end

