-- ==== Sys2Proof/Machine/Buffers.lean ====
section
/-! DEFINITION. Buffer pools (R101–R116): classes, requester rows, grants, the free lists, buffers with their copies,
and the commands of spec/05_buffers_placement.md but for the carve. -/

namespace Sys2Proof.Machine

/-! ### Counts -/

/-- Buffers of a class under a carve: shares in MiB of the four SRAM classes, spill size and Plum-H part in GiB (R112). -/
def carveCount (share : Nat → Nat) (spill part c : Nat) : Nat :=
  match c with
  | 0 => share 0 * 4096
  | 1 => share 1 / 3 * 4096
  | 2 => share 2 * 512
  | 3 => share 3 * 64
  | 4 => part * 524288
  | 5 => (spill - part) * 65536
  | _ => 0

/-- Buffers of a class under the active carve. -/
def State.classTotal (s : State) (c : Nat) : Nat :=
  carveCount (fun i => s.ob 0x9300 (0x14 + i)) (s.ob 0x9300 0x19) (s.ob 0x9300 0x1C) c

/-- Size of a buffer of a class (Table 5-1). -/
def classSize (c : Nat) : Nat := [256, 768, 2048, 16384, 2048, 16384].getD c 0

/-- The smallest SRAM class for a stored length (R102). -/
def classFor (stored : Nat) : Nat :=
  if 64 + stored ≤ 256 then 0 else if 64 + stored ≤ 768 then 1 else if 64 + stored ≤ 2048 then 2 else 3

/-! ### Requester rows -/

/-- The subindex that holds a base minimum or the sharing exponent of a row: those of host-path rows in Pooled are
kept beside those of Partitioned, since each profile has its own (R106). R15 derives them at the application of a port map
too, R106 at device resets only: values written in Pooled stand over a map application (log entry 77). -/
def State.minSub (s : State) (row sub : Nat) : Nat :=
  if !s.partitioned && decide (2048 ≤ row) && decide (row < 6144) then sub + 0x80 else sub

/-- Base minimum b. -/
def State.baseMin (s : State) (row c : Nat) : Nat := s.cell 0x9301 row (s.minSub row (5 + c))

/-- Admission part a. -/
def State.admPart (s : State) (row c : Nat) : Nat := s.cell 0x9301 row (0xB + c)

/-- Effective minimum m. -/
def State.effMin (s : State) (row c : Nat) : Nat := s.baseMin row c + s.admPart row c

/-- Held count h. -/
def State.held (s : State) (row c : Nat) : Nat := s.cell 0x9301 row (0x18 + c)

/-- Sharing exponent k; 0xFF NONE. -/
def State.sharing (s : State) (row : Nat) : Nat := s.cell 0x9301 row (s.minSub row 0x11)

/-- Effective quota: 0xFFFF_FFFF means m (R107). -/
def State.quota (s : State) (row c : Nat) : Nat :=
  let q := s.cell 0x9301 row (0x12 + c)
  if q = 0xFFFFFFFF then s.effMin row c else q

/-- Free count f. -/
def State.freeCount (s : State) (c : Nat) : Nat := s.ob 0x9300 (0x20 + c)

/-- The sum of the default base minima of a profile. -/
def minimaBase (part : Bool) (c : Nat) : Nat :=
  1024 * baseMinimum part 0 c + (if part then 4096 else 1024) * baseMinimum part 2048 c
    + baseMinimum part 6144 c + baseMinimum part 6145 c + baseMinimum part 6146 c + baseMinimum part 6147 c
    + baseMinimum part 6148 c + baseMinimum part 6149 c

/-- The rows that have a field of a class that differs from its default. -/
def State.touchedRows (s : State) (c : Nat) : List Nat :=
  (s.dict.filterMap fun e =>
    let sub := e.1 % 256
    if e.1 / 2 ^ 40 = 0x9301 && (sub == 5 + c || sub == 0x85 + c || sub == 0xB + c || sub == 0x12 + c || sub == 0x18 + c)
    then some (e.1 / 256 % 2 ^ 32) else none).eraseDups

/-- A sum over all rows of a figure that is the default base minimum where no field differs from its default. -/
def State.sumRows (s : State) (part : Bool) (c : Nat) (f : Nat → Nat) : Nat :=
  let rows := s.touchedRows c
  minimaBase part c + (rows.map f).sum - (rows.map (baseMinimum part · c)).sum

/-- Unmet minima U (R107). -/
def State.unmet (s : State) (c : Nat) : Nat := s.sumRows s.partitioned c fun r => s.effMin r c - s.held r c

/-- The sum of the effective minima of a class. -/
def State.sumMinima (s : State) (c : Nat) : Nat := s.sumRows s.partitioned c fun r => s.effMin r c

/-- The sum of the effective quotas of a class. -/
def State.sumQuotas (s : State) (c : Nat) : Nat := s.sumRows s.partitioned c fun r => s.quota r c

/-- A request of a row in a class is granted (R107). -/
def State.grants (s : State) (row c : Nat) (stream : Bool) : Bool :=
  let h := s.held row c
  let m := s.effMin row c
  let f := s.freeCount c
  if f = 0 then false
  else if s.ob 0x9300 1 = 1 then decide (h < s.quota row c)
  else if h < m && !(decide (row = 6148) && !stream && decide (m - s.admPart row c ≤ h)) then true
  else s.sharing row ≠ 0xFF && decide ((h - m) * 2 ^ s.sharing row + s.unmet c < f)

/-! ### Free lists (R114) -/

/-- The next handle of a class: the first that was never granted since reset, else the one returned longest ago
(log entry 9). -/
def State.popHandle (s : State) (c : Nat) : Nat × State :=
  let n := NMap.at 0 s.net.fresh c
  if n < s.classTotal c then
    (c * 2 ^ 24 + n, { s with net := { s.net with fresh := NMap.put 0 s.net.fresh c (n + 1) } })
  else match NMap.at [] s.net.returned c with
    | h :: r => (h, { s with net := { s.net with returned := NMap.put [] s.net.returned c r } })
    | [] => (c * 2 ^ 24, s)

/-- NONE (R104). -/
abbrev noHandle : Nat := 0xFFFFFFFF

/-- ALLOC (R107, R109): a handle, or NONE and the refusal counted and, on a stream reserve row, logged. -/
def State.allocBuf (s : State) (row c : Nat) (stream : Bool) : Nat × State :=
  if s.grants row c stream then
    let q := s.popHandle c
    let s := q.2.bump 0x9301 row (0x18 + c) 1
    let s := s.setOb 0x9300 (0x20 + c) (s.freeCount c - 1)
    let s := s.bump 0x9301 row 0x1E 1
    (q.1, if 4 ≤ c then s.bump 0x9301 row 0x20 1 else s)
  else
    let s := s.bump 0x9301 row 0x1F 1
    (noHandle, if 1024 ≤ row && row < 2048 then s.eventLim 0x0380 row [row, c] else s)

/-- The buffer of a handle as memory holds it. -/
def State.buf (s : State) (h : Nat) : Option Buffer := NMap.at none s.net.buffers h

/-- Write a buffer and its header. -/
def State.setBuf (s : State) (b : Buffer) : State :=
  { s with net := { s.net with buffers := NMap.put none s.net.buffers b.handle (some b) } }

/-- FREE (R114): unchecked; the row that REQUESTER names gives one back, stopping at 0. -/
def State.freeBuf (s : State) (h : Nat) : State :=
  let c := h / 2 ^ 24 % 8
  let row := match s.buf h with
    | some b => b.row
    | none => 0
  if 6 ≤ c then s
  else
    let s := s.setOb 0x9300 (0x20 + c) (s.freeCount c + 1)
    let s := s.setCell 0x9301 row (0x18 + c) (s.held row c - 1)
    { s with net := { s.net with returned := NMap.put [] s.net.returned c (NMap.at [] s.net.returned c ++ [h]) } }

/-- One copy leaves REPLICAS; at 0 the hardware frees the buffer (R115). -/
def State.dropCopy (s : State) (h : Nat) : State :=
  match s.buf h with
  | none => s
  | some b =>
    let s := s.setBuf { b with replicas := b.replicas - 1 }
    if b.replicas ≤ 1 then s.freeBuf h else s

/-- One further copy shares a buffer. -/
def State.addCopy (s : State) (h : Nat) : State :=
  match s.buf h with
  | none => s
  | some b => s.setBuf { b with replicas := b.replicas + 1 }

/-- The bytes of a buffer without FCS. -/
def State.bufData (s : State) (h : Nat) : Bytes :=
  match s.buf h with
  | some b => b.data
  | none => []

/-- A buffer with nothing in it, granted to a requester row. -/
def blankBuf (h row : Nat) : Buffer :=
  { handle := h, row := row, length := 0, rxTime := 0, source := ⟨0, 0⟩, tenant := 0, vport := none, stream := none,
    replicas := 0, unmodified := false, pass2 := false, host := false, hbm := decide (4 ≤ h / 2 ^ 24 % 8),
    decrypted := false, version := 0, data := [], fcs := none }

/-- A buffer of a row for the device's own use: its handle, or `none` when the request is refused. -/
def State.takeBuf (s : State) (row c : Nat) : Option Nat × State :=
  let q := s.allocBuf row c false
  if q.1 = noHandle then (none, q.2) else (some q.1, q.2.setBuf (blankBuf q.1 row))

/-! ### ALLOC, FREE and the pool mode -/

/-- Note in the handle ledger which thread holds a handle; `none` for no thread (R367). -/
def State.noteHolder (s : State) (h : Nat) (n : Option Nat) : State :=
  { s with thr := { s.thr with ledger := NMap.put 0 s.thr.ledger h ((n.map (· + 1)).getD 0) } }

/-- Free every handle that a thread holds (R367). -/
def State.freeHeld (s : State) (n : Nat) : State :=
  (s.thr.ledger.filter fun e => e.2 == n + 1).foldl (fun s e => (s.freeBuf e.1).noteHolder e.1 none) s

/-- A thread has supervisor privilege (R291). -/
def State.privileged (s : State) (n : Nat) : Bool :=
  decide (s.ob 0x9400 1 = n) || (s.thread n).privilege

/-- Put a request of firmware to the pool manager (R108, log entry 76). -/
def State.askPool (s : State) (r : PoolReq) : State := { s with net := { s.net with pool := s.net.pool ++ [r] } }

/-- ALLOC of firmware with supervisor privilege (R107, R115). -/
def execAlloc (n : Thread) (row : Nat) (cls : BufClass) (s : State) : Host.Outcome State Fault Refusal :=
  .next (if s.privileged n.val && decide (row < 6150) then s.askPool (.alloc n.val row cls.val) else s)

/-- FREE of firmware with supervisor privilege (R114). -/
def execFree (n : Thread) (handle : Nat) (s : State) : Host.Outcome State Fault Refusal :=
  .next (if s.privileged n.val then s.askPool (.free (handle % 2 ^ 32)) else s)

/-- The supervisor switches the pool mode (R110). -/
def execPoolModeSwitch (quota : Bool) (s : State) : Host.Outcome State Fault Refusal :=
  .next (s.askPool (.mode quota))

/-- Switch the pool mode (R110). -/
def State.poolMode (s : State) (mode : Nat) : State :=
  if s.ob 0x9300 1 = mode then s else ((s.setOb 0x9300 1 mode).inc 0x9300 2).event 0x0381 [mode]

/-! ### The pool manager's cycle (R108) -/

/-- Place of a requester row in the order in which ALLOCs are decided: ingress pipelines by the octet of the port, then
recirculation, host path, cipher, storage assist, cells, DMA, device. -/
def requesterRank (row : Nat) : Nat :=
  if row < 2048 then row % 1024 / 128
  else if row = 6148 then 8
  else if row < 6144 then 9
  else if row < 6148 then row - 6134
  else 14

/-- The requests are of one kind. -/
def PoolReq.isMode : PoolReq → Bool
  | .mode _ => true
  | _ => false
def PoolReq.isFree : PoolReq → Bool
  | .free _ => true
  | _ => false
def PoolReq.isAlloc : PoolReq → Bool
  | .alloc _ _ _ => true
  | _ => false

/-- Rank of an ALLOC. -/
def PoolReq.rank : PoolReq → Nat
  | .alloc _ row _ => requesterRank row
  | _ => 0

/-- Put an ALLOC behind those that go before it or come before it. -/
def insertAlloc (x : PoolReq) : List PoolReq → List PoolReq
  | [] => [x]
  | y :: r => if y.rank ≤ x.rank then y :: insertAlloc x r else x :: y :: r

/-- Packet-clock cycles (1.6 GHz) since the reset. -/
def State.packetCycle (s : State) : Nat := s.clk.frcQ * 2 / 5

/-- Decide one request; the answer to an ALLOC is on its way for 12 cycles. -/
def State.decideOne (s : State) (r : PoolReq) : State :=
  match r with
  | .mode q => s.poolMode q.toNat
  | .free h => (s.freeBuf h).noteHolder h none
  | .alloc n row c =>
    let q := s.takeBuf row c
    let a := (q.2.packetCycle + 12, n, q.1.getD noHandle)
    let s := match q.1 with
      | some h => q.2.noteHolder h (some n)
      | none => q.2
    { s with net := { s.net with answers := s.net.answers ++ [a] } }

/-- One cycle of the pool manager: mode changes, then up to 16 FREEs, then up to 16 ALLOCs in the fixed order, each on the
counts that the ones before it left. -/
def State.poolCycle (s : State) : State :=
  let rs := s.net.pool
  let frees := rs.filter PoolReq.isFree
  let allocs := (rs.filter PoolReq.isAlloc).foldl (fun l x => insertAlloc x l) []
  let s := { s with net := { s.net with pool := frees.drop 16 ++ allocs.drop 16 } }
  (rs.filter PoolReq.isMode ++ frees.take 16 ++ allocs.take 16).foldl State.decideOne s

/-- Answers that have come back (R108). -/
def State.poolAnswers (s : State) : State :=
  let due := s.net.answers.filter fun a => a.1 ≤ s.packetCycle
  let s := { s with net := { s.net with answers := s.net.answers.filter fun a => !decide (a.1 ≤ s.packetCycle) } }
  due.foldl (fun s a => s.emit (.thread a.2.1 a.2.2 0)) s

/-! ### Base minima and quotas (R106, R111) -/

/-- A raise of a row's minimum in a class fits: the minima stay within the class count and f − U is at least the
increase (R111). -/
def State.raiseFits (s : State) (c up : Nat) : Bool :=
  decide (up = 0) || (decide (s.sumMinima c + up ≤ s.classTotal c) && decide (s.unmet c + up ≤ s.freeCount c))

/-- The new values of a requester row fit (R106, R111). -/
def State.requesterCheck (s : State) (row : Nat) (new : Nat → Nat) : Nat :=
  let ok := fun c => s.raiseFits c (new (5 + c) - s.baseMin row c)
  let q := fun c =>
    let m := new (5 + c) + s.admPart row c
    let eff := if new (0x12 + c) = 0xFFFFFFFF then m else new (0x12 + c)
    decide (new (0x12 + c) = s.cell 0x9301 row (0x12 + c)) || decide (s.sumQuotas c - s.quota row c + eff ≤ s.classTotal c)
  firstBad
    [ require (decide (row < 6150) && (decide (new 0x11 ≤ 8) || decide (new 0x11 = 0xFF))) stRange
    , require ((List.range 6).all fun c => ok c && q c) stResource ]

/-- The present value of a field of a requester row. -/
def State.requesterField (s : State) (row sub : Nat) : Nat :=
  if (5 ≤ sub && sub ≤ 0xA) || sub = 0x11 then s.cell 0x9301 row (s.minSub row sub) else s.cell 0x9301 row sub

/-- Write a field of a requester row. -/
def State.setRequester (s : State) (row sub v : Nat) : State :=
  if (5 ≤ sub && sub ≤ 0xA) || sub = 0x11 then s.setCell 0x9301 row (s.minSub row sub) v else s.setCell 0x9301 row sub v

/-- The rule of a write of one field of a requester row. -/
def requesterRule (row sub : Nat) : WriteRule where
  check s _ v := firstBad
    [ s.startState, s.requesterCheck row fun k => if k = sub then v else s.requesterField row k ]
  act s _ v := .done stOk [] (s.setRequester row sub v)

/-- A write of a base minimum (R111). -/
def execBaseMinimumWrite (v : Via) (row : Nat) (cls : BufClass) (data : Bytes) (s : State) :
    Host.Outcome State Fault Refusal :=
  .next (s.writeRowItem v 0x9301 row (5 + cls.val) data (requesterRule row (5 + cls.val)))

/-- A write of a quota (R107, R111). -/
def execQuotaWrite (v : Via) (row : Nat) (cls : BufClass) (data : Bytes) (s : State) :
    Host.Outcome State Fault Refusal :=
  .next (s.writeRowItem v 0x9301 row (0x12 + cls.val) data (requesterRule row (0x12 + cls.val)))

/-! ### Spilled frames (R118) -/

/-- Change the first copy that satisfies a test in the queue of a row. -/
def State.updCopy (s : State) (row : Nat) (p : QCopy → Bool) (f : QCopy → QCopy) : State :=
  s.setQueue row (updFirst p f (s.queue row))

/-- The row of 0x3801 of a queue. -/
def placeRow : QueuePlace → (q : QueueNo) → Nat
  | .port p, q => 8 * p.val + q.val
  | .vport n, q => 8192 + 8 * n.val + q.val

/-- The egress pipeline starts the fetch of the first frame within position 4 of a queue that is still in HBM (R118): a
port's queue or a vport's. -/
def execSpillFetch (place : QueuePlace) (q : QueueNo) (s : State) : Host.Outcome State Fault Refusal :=
  let row := placeRow place q
  let head := (s.queue row).take 4
  .next <|
    if head.any (fun c => !c.fetched && !c.fetching) then
      s.updCopy row (fun c => !c.fetched && !c.fetching) fun c => { c with fetching := true }
    else s

/-- A fetch completes: every copy of the buffer becomes ready in its queue (R118). -/
def execSpillFetchComplete (handle : Nat) (s : State) : Host.Outcome State Fault Refusal :=
  let f := fun (c : QCopy) => if c.handle = handle && c.fetching then { c with fetching := false, fetched := true } else c
  .next { s with net := { s.net with queues := s.net.queues.map fun e => (e.1, e.2.map f) } }

end Sys2Proof.Machine
end

