-- ==== Sys2Proof/Machine/Queues.lean ====
section
/-! DEFINITION. Meters (R125–R131), wire occupancy (R66), gate lists and gate states (R141–R147), shaper credit (R139),
queue entries and the enqueue of a copy (R133, R134), and PME sources (R249). Station and port times are in ps. -/

namespace Sys2Proof.Machine

/-! ### Meters -/

/-- Colours. -/
inductive Colour where
  | green
  | yellow
  | red
  deriving DecidableEq, Repr

/-- The pre-colour of a frame in the meter's colour mode (R128). -/
def preColour (mode : Nat) (p : Parsed) : Colour :=
  if mode = 1 then
    match p.outer.vlans with
    | (_, tci) :: _ => if bit tci 12 then .yellow else .green
    | [] => .green
  else if mode = 2 && p.outer.ip ≠ 0 then
    let d := p.outer.dscp / 4
    if d / 8 ∈ [1, 2, 3, 4] then (if d % 8 = 4 then .yellow else if d % 8 = 6 then .red else .green) else .green
  else .green

/-- The two-rate marker of R127: colour and buckets. -/
def marker (cir cbs pir pbs tc tp delta b : Nat) (pre : Colour) : Colour × Nat × Nat :=
  let tc := min (cbs * 8000000) (tc + cir * delta)
  let tp := min (pbs * 8000000) (tp + pir * delta)
  let need := b * 8000000
  if pre = .red || tp < need then (.red, tc, tp)
  else if pre = .yellow || tc < need then (.yellow, tc, tp - need)
  else (.green, tc - need, tp - need)

/-- Subindices of a colour's action, frame counter and byte counter. -/
def Colour.subs : Colour → Nat × Nat × Nat
  | .green => (0x0B, 0x12, 0x15)
  | .yellow => (0x0C, 0x13, 0x16)
  | .red => (0x0D, 0x14, 0x17)

/-- What a meter decides for a frame: forward as it is, with DEI, with a DSCP value, or drop (R129). -/
inductive MeterAct where
  | forward
  | dei
  | dscp (v : Nat)
  | drop
  /-- The meter's state is being reloaded (Table 16-1). -/
  | lost
  deriving DecidableEq, Repr

/-- A frame of length `b` reaches meter `m` at meter time `t` ns (R126–R129); a meter that is not valid counts nothing. -/
def State.police (s : State) (m t b : Nat) (p : Parsed) : MeterAct × State :=
  if s.cell 0x3800 m 4 = 0 then (.forward, s)
  else if s.reloads 0x3800 m then (.lost, s)
  else
    let v := fun sub => s.cell 0x3800 m sub
    let last := NMap.at 0 s.net.meterTime m
    let r := marker (v 7) (v 8) (v 9) (v 0xA) (v 0x10) (v 0x11) (t - last) b (preColour (v 6) p)
    let (c, tc, tp) := r
    let s := { s with net := { s.net with meterTime := NMap.put 0 s.net.meterTime m (max last t) } }
    let s := (s.setCell 0x3800 m 0x10 tc).setCell 0x3800 m 0x11 tp
    let s := (s.bump 0x3800 m c.subs.2.1 1).bump 0x3800 m c.subs.2.2 b
    let a := v c.subs.1
    if a = 3 then (.drop, s.bump 0x3800 m 0x18 1)
    else if a = 1 then (.dei, s)
    else if a = 2 then (.dscp (v (if c = .yellow then 0xE else 0xF)), s)
    else (.forward, s)

/-- Edit a frame as its meter decided. -/
def MeterAct.edit : MeterAct → Bytes → Bytes
  | .dei, bs => setDei bs
  | .dscp v, bs => setDscp v bs
  | _, bs => bs

/-! ### Wire occupancy (R66) -/

/-- Alignment A of a port: by the mode of its lead lane. -/
def State.align (s : State) (p : Nat) : Nat :=
  let m := s.ob (laneIx (s.leadLane p)) 1
  if m ≤ 3 then 1 else if m ≤ 5 then 4 else 8

/-- Wire occupancy of a frame of length L at a port, in bytes. -/
def State.wireBytes (s : State) (p len : Nat) : Nat := roundUp (20 + len) (s.align p)

/-- Wire occupancy in ps; 0 while the port has no rate. -/
def State.wirePs (s : State) (p len : Nat) : Nat := s.wireBytes p len * 8000000 / s.rate p

/-! ### Gates -/

/-- A gate list (Tables 6-4, 6-5): base time and cycle time in ns, entries as states and interval. -/
structure GateList where
  base    : Nat
  cycle   : Nat
  entries : List (Nat × Nat)
  deriving DecidableEq, Repr

/-- Object index of a port's gates; a number that no port has names no object. -/
def gateIx (p : Nat) : Nat := if p < 1024 then 0x3400 + p else 0xFFFF

/-- Object index of a port's queues and shapers; a number that no port has names no object. -/
def schedIx (p : Nat) : Nat := if p < 1024 then 0x3000 + p else 0xFFFF

/-- The content of a DOMAIN object. -/
def State.blob (s : State) (ix sub : Nat) : Bytes := NMap.at [] s.acc.blobs (ix * 256 + sub)

/-- Set the content of a DOMAIN object. -/
def State.setBlob (s : State) (ix sub : Nat) (b : Bytes) : State :=
  { s with acc := { s.acc with blobs := NMap.put [] s.acc.blobs (ix * 256 + sub) b } }

/-- Entries of a gate list blob from offset 32. -/
def gateEntries (b : Bytes) (n : Nat) : List (Nat × Nat) :=
  (List.range n).map fun i => (be b (33 + 8 * i) 1, be b (36 + 8 * i) 4)

/-- A gate list as its blob spells it. -/
def gateList (b : Bytes) : GateList :=
  { base := be b 8 8, cycle := be b 4 4, entries := gateEntries b (be b 2 2) }

/-- The operative list of a port; its base time is the one in :06. -/
def State.operative (s : State) (p : Nat) : Option GateList :=
  let b := s.blob (gateIx p) 4
  if b = [] then none else some { gateList b with base := s.ob (gateIx p) 6 }

/-- The pending list of a port; its base time is the one in :05. -/
def State.pendingList (s : State) (p : Nat) : Option GateList :=
  let b := s.blob (gateIx p) 3
  if s.ob (gateIx p) 5 = 0 then none else some { gateList b with base := s.ob (gateIx p) 5 }

/-- The pending list as a list that will govern: not before station time has been valid since the reset (R346). -/
def State.dueList (s : State) (p : Nat) : Option GateList := if s.clk.wasValid then s.pendingList p else none

/-- Phase of station time `t` ps in a list: (t − base) mod cycle (R142). -/
def GateList.phase (g : GateList) (t : Nat) : Nat :=
  let c := g.cycle * 1000
  if c = 0 then 0 else (t + (c - g.base * 1000 % c)) % c

/-- The entry that a phase lies in: its number, its states and the time left in it (ps). -/
def entryAt : (es : List (Nat × Nat)) → (n phase : Nat) → Nat × Nat × Nat
  | [], n, _ => (n, 0, 0)
  | (st, iv) :: r, n, x => if x < iv * 1000 then (n, st, iv * 1000 - x) else entryAt r (n + 1) (x - iv * 1000)

/-- How long a gate stays open from a phase: entries of the rest of the cycle, then of the cycles that follow, added
while their bit is set; `none` when every entry is open. -/
def openRun (q : Nat) : List (Nat × Nat) → Nat → Nat
  | [], acc => acc
  | (st, iv) :: r, acc => if bit st q then openRun q r (acc + iv * 1000) else acc

/-- Time for which the gate of `q` stays open from a phase. -/
def GateList.openFrom (g : GateList) (q phase : Nat) : Option Nat :=
  if g.entries.all (fun e => bit e.1 q) then none
  else
    let (n, st, left) := entryAt g.entries 0 phase
    if bit st q then some (openRun q (g.entries.drop (n + 1) ++ g.entries) left) else some 0

/-- Open time of a gate in the phases below `x` of one cycle. -/
def openBelow (q : Nat) : List (Nat × Nat) → Nat → Nat
  | [], _ => 0
  | (st, iv) :: r, x =>
    if x ≤ iv * 1000 then (if bit st q then x else 0)
    else (if bit st q then iv * 1000 else 0) + openBelow q r (x - iv * 1000)

/-- Open time of a gate from station time `a` to `b` under one list. -/
def GateList.openIn (g : GateList) (q a b : Nat) : Nat :=
  let c := g.cycle * 1000
  if c = 0 then 0
  else
    let off := c - g.base * 1000 % c
    let f := fun t => (t + off) / c * openBelow q g.entries c + openBelow q g.entries ((t + off) % c)
    f b - f a

/-- The longest continuous open window of a queue (R143); `none` without limit. -/
def GateList.longest (g : GateList) (q : Nat) : Option Nat :=
  if g.entries.all (fun e => bit e.1 q) then none
  else some <| ((List.range g.entries.length).map fun i => openRun q (g.entries.drop i ++ g.entries.take i) 0).foldl max 0

/-- What governs the gates of a port at a station time (R141, R143). -/
inductive Gating where
  | off
  | fixed (states : Nat)
  | list (g : GateList)
  deriving Repr

/-- Gating of a port at station time `t` ps. -/
def State.gating (s : State) (p t : Nat) : Gating :=
  if s.ob (gateIx p) 1 = 0 then .off
  else match s.dueList p, s.operative p with
    | some g, o => if g.base * 1000 ≤ t then .list g else match o with
      | some h => .list h
      | none => .fixed (s.ob (gateIx p) 2 % 128)
    | none, some h => .list h
    | none, none => .fixed (s.ob (gateIx p) 2 % 128)

/-- Station time of now in ps. -/
def State.stPs (s : State) : Nat := s.clk.tai * 1000 / 65536

/-- Station time of a port-scheduler instant. -/
def State.toSt (s : State) (t : Nat) : Nat := s.stPs + t - s.ps

/-- The gate of `q` is open throughout [a, b) of station time under what governs at `a`. -/
def Gating.opens (g : Gating) (q a b : Nat) : Bool :=
  match g with
  | .off => true
  | .fixed st => bit st q
  | .list g => match g.openFrom q (g.phase a) with
    | none => true
    | some n => decide (b ≤ a + n)

/-- The gate of `q` is open at every instant of [a, b) (R135, R143): before and after the base time of a pending list. -/
def State.gateOpen (s : State) (p q a b : Nat) : Bool :=
  match s.dueList p with
  | some g =>
    let t := g.base * 1000
    if a < t && t < b then (s.gating p a).opens q a t && (s.gating p t).opens q t b
    else (s.gating p a).opens q a b
  | none => (s.gating p a).opens q a b

/-- Gate states at a station time. -/
def State.gateStates (s : State) (p t : Nat) : Nat :=
  match s.gating p t with
  | .off => 0xFF
  | .fixed st => st
  | .list g => (entryAt g.entries 0 (g.phase t)).2.1

/-- Open time of a gate from station time `a` to `b`. -/
def State.openTime (s : State) (p q a b : Nat) : Nat :=
  let one := fun (g : Gating) (a b : Nat) => match g with
    | .off => b - a
    | .fixed st => if bit st q then b - a else 0
    | .list g => g.openIn q a b
  match s.dueList p with
  | some g =>
    let t := g.base * 1000
    if a < t && t < b then one (s.gating p a) a t + one (s.gating p t) t b else one (s.gating p a) a b
  | none => one (s.gating p a) a b

/-- The longest window under what governs a queue now; `none` without limit. -/
def State.longestWindow (s : State) (p q : Nat) : Option Nat :=
  match s.gating p s.stPs with
  | .list g => g.longest q
  | _ => none

/-! ### Shaper credit (R139, Table 6-3) -/

/-- Subindex k of queue q in the scheduler object (Table 6-8). -/
abbrev qSub (q k : Nat) : Nat := 16 * q + k

/-- Credit of a shaped queue in 10⁻⁶ bit. -/
def State.credit (s : State) (p q : Nat) : Int := decI 64 (s.ob (schedIx p) (qSub q 4))

/-- Set a credit. -/
def State.setCredit (s : State) (p q : Nat) (c : Int) : State := s.setOb (schedIx p) (qSub q 4) (encI 64 c)

/-- A queue counts as empty when nothing of it waits or is selected and not started (R139). -/
def State.queueEmpty (s : State) (p q : Nat) : Bool :=
  (s.queue (8 * p + q)).isEmpty && !(s.sched p).selected.any (fun x => x.queue == q)

/-- The credit of a queue from scheduler time `a` to `b`, during which what is on the wire does not change. -/
def State.creditOver (s : State) (p q a b : Nat) (c : Int) : Int :=
  let idle : Int := s.ob (schedIx p) (qSub q 3)
  let wire := match (s.sched p).wire with
    | some x => if x.queue = q then min b x.fin - max a x.start else 0
    | none => 0
  let opened := s.openTime p q (s.toSt a) (s.toSt b) - wire
  let c := c + (idle - 1000 * s.rate p) * wire / 1000
  if !s.queueEmpty p q then c + idle * opened / 1000
  else if c < 0 then min 0 (c + idle * opened / 1000)
  else if 0 < opened then 0 else c

/-- Bring the credits of a port to scheduler time `t`; while it is not UP they are 0 and stay so (R140). -/
def State.settleTo (s : State) (p t : Nat) : State :=
  let d := s.sched p
  if t ≤ d.credited then s
  else
    let s' := (List.range 8).foldl (fun x q =>
      if s.up p && decide (s.ob (schedIx p) (qSub q 2) = 1) then x.setCredit p q (s.creditOver p q d.credited t (s.credit p q)) else x) s
    s'.setSched p { d with credited := t }

/-- Bring the credits of a port to now. -/
def State.settle (s : State) (p : Nat) : State := s.settleTo p s.ps

/-! ### Counters of discarded copies -/

/-- A copy of a queue of 0x3801 is discarded instead of sent: k = 13 of a port queue, :13 of a vport row. -/
def State.countDiscard (s : State) (row : Nat) : State :=
  if row < 8192 then s.bump (schedIx (row / 8)) 0 (qSub (row % 8) 13) 1 else s.bump 0x3801 row 0x13 1

/-- Discard a copy of a queue: it leaves REPLICAS. -/
def State.discardCopy (s : State) (row : Nat) (c : QCopy) : State := (s.countDiscard row).dropCopy c.handle

/-! ### Queue entries (R133, Table 6-2) -/

/-- Copies of the queues that satisfy a test and hold entries: waiting, selected or on the wire. -/
def State.entries (s : State) (p : Nat → Bool) : Nat :=
  (s.net.queues.map fun e => if p e.1 then e.2.length else 0).sum
    + (s.net.sched.map fun e =>
        ((e.2.selected ++ e.2.wire.toList).filter fun x => p (8 * e.1 + x.queue)).length).sum

/-- Stream entries of a port: one for each buffer of the admission part of row 1024 + p. -/
def State.streamEntries (s : State) (p : Nat) : Nat := ((List.range 6).map fun c => s.admPart (1024 + p) c).sum

/-- Minimum of a tenant's vport entries. -/
def State.vportMin (s : State) (t : Nat) : Nat := if s.partitioned || t < 1024 then 256 else 0

/-- The tenant of a vport row. -/
def vportTenant (row : Nat) : Nat := (row - 8192) / 128

/-- Entries of the shared part: those in no minimum and no stream part. -/
def State.sharedEntries (s : State) : Nat :=
  let stream := (s.dict.map fun e =>
    if e.1 / 2 ^ 40 = 0x9301 && decide (1024 ≤ e.1 / 256 % 2 ^ 32) && decide (e.1 / 256 % 2 ^ 32 < 2048)
      && decide (0xB ≤ e.1 % 256) && decide (e.1 % 256 ≤ 0x10) then e.2 else 0).sum
  2097152 - 1024 * 512 - (if s.partitioned then 4096 else 1024) * 256 - stream

/-- Entries of the shared part in use. -/
def State.sharedUsed (s : State) : Nat :=
  let rows := s.net.queues.map (·.1)
  let ports := (rows.filter (· < 8192)).map (· / 8)
  let busy := (s.net.sched.map (·.1)) ++ ports
  let tenants := ((rows.filter (8192 ≤ ·)).map vportTenant).eraseDups
  (busy.eraseDups.map fun p => s.entries (fun r => decide (r / 8 = p) && decide (r % 8 < 6)) - 512).sum
    + (tenants.map fun t => s.entries (fun r => decide (8192 ≤ r) && decide (vportTenant r = t)) - s.vportMin t).sum

/-- An entry for a queue row: `none` when it is granted, else the part that refuses it. -/
def State.entryRefused (s : State) (row : Nat) : Option Nat :=
  if row < 8192 then
    let p := row / 8
    if 6 ≤ row % 8 then
      if s.entries (fun r => decide (r / 8 = p) && decide (6 ≤ r % 8)) < s.streamEntries p then none else some 1
    else
      let used := s.entries (fun r => decide (r / 8 = p) && decide (r % 8 < 6))
      if used < 512 then none
      else if 262144 ≤ used then some 2
      else if s.sharedUsed < s.sharedEntries then none else some 4
  else
    let t := vportTenant row
    let used := s.entries (fun r => decide (8192 ≤ r) && decide (vportTenant r = t))
    if used < s.vportMin t then none
    else if s.partitioned || s.vportMin t = 0 || 65536 ≤ used then some 3
    else if s.sharedUsed < s.sharedEntries then none else some 4

/-- Bytes queued in a row: wire lengths of what waits and what is selected. -/
def State.bytesQueued (s : State) (row : Nat) : Nat :=
  ((s.queue row).map (·.wireLen)).sum
    + (((s.sched (row / 8)).selected.filter fun x => decide (row < 8192) && x.queue == row % 8).map (·.copy.wireLen)).sum

/-- Frames queued in a row. -/
def State.framesQueued (s : State) (row : Nat) : Nat :=
  (s.queue row).length
    + ((s.sched (row / 8)).selected.filter fun x => decide (row < 8192) && x.queue == row % 8).length

/-- The depth limit of a row in KiB; 0 none. -/
def State.depthLimit (s : State) (row : Nat) : Nat :=
  if row < 8192 then (if row % 8 < 6 then s.ob (schedIx (row / 8)) (qSub (row % 8) 5) else 0) else s.cell 0x3801 row 8

/-- The head-age limit of a row in ns; 0 off. -/
def State.ageLimit (s : State) (row : Nat) : Nat :=
  if row < 8192 then (if row % 8 < 6 then s.ob (schedIx (row / 8)) (qSub (row % 8) 6) else 0) else s.cell 0x3801 row 9

/-! ### Power management events (R249, R250) -/

/-- The object of a host port; a number that no host port has names no object. -/
def hostIx (p : Nat) : Nat := if p < 2 then 0x7100 + p else 0xFFFF

/-- Dynamic state of a host port (0 A, 1 B). -/
def State.hport (s : State) (p : Nat) : PortDyn := NMap.at {} s.hst.ports p

/-- Set the dynamic state of a host port. -/
def State.setHport (s : State) (p : Nat) (d : PortDyn) : State :=
  { s with hst := { s.hst with ports := NMap.put {} s.hst.ports p d } }

/-- Name of a wake pin. -/
def wakePin (p : Nat) : String := if p = 0 then "PA_WAKE_N" else "PB_WAKE_N"

/-- A PME source (a bit of 0x8000+t:0B) of a function arises: outside D0, with PME_En set and the source enabled, the
function raises PME: a PM_PME message in L0 or L1, WAKE_N in L2 with VAUX_3V3 (R249, R250). -/
def State.pmeSource (s : State) (t master port source : Nat) : State :=
  let f := s.func master
  if port = 0 || f.dstate = .d0 || !bit (s.config master (capPm + 4)) 8 || !bit (s.ob (tenantIx t) 0xB) source || f.pmeStatus then s
  else
    let s := s.setFunc master { f with pmeStatus := true }
    let st := s.ob (hostIx (port - 1)) 0x10
    if st = 1 || st = 2 || st = 3 then s.emit (.pme master)
    else if st = 4 && s.pwr.vaux then
      ((s.setHport (port - 1) { s.hport (port - 1) with wake := true, wakeFn := master }).emit
        (.pin (wakePin (port - 1)) false)).event 0x0718 [port, master, source]
    else s

/-- A PME source of the function of a tenant. -/
def State.pmeTenant (s : State) (t source : Nat) : State :=
  s.pmeSource t (s.funcMaster (tenantMaster t)) (s.portOf t) source

/-! ### Enqueue (R134) -/

/-- The queue row of queue `q` of a port. -/
abbrev portRow (p q : Nat) : Nat := 8 * p + q

/-- The queue row of queue `q` of a vport. -/
abbrev vportRow (n q : Nat) : Nat := 8192 + 8 * n + q

/-- Put a copy at the tail of its queue. -/
def State.appendCopy (s : State) (row : Nat) (c : QCopy) : State := s.setQueue row (s.queue row ++ [c])

/-- Enqueue of a copy (R133, R134); a copy to a vport also is a PME source of its tenant (R249). In SAFE_HOLD only copies of
device frames are queued (R385). -/
def State.enqueue (s : State) (row : Nat) (c : QCopy) : State :=
  let port := decide (row < 8192)
  let p := row / 8
  let s := if port then s.settle p else s
  if port && !s.up p then (s.inc (portIx p) 0x1B).discardCopy row c
  else if s.inHold && (s.buf c.handle).all (fun b => b.source.kind ≠ 2) then (s.inc 0xB000 0x12).discardCopy row c
  else if !port && s.hst.discard.contains (vportTenant row) then s.discardCopy row c
  else match s.entryRefused row with
    | some part =>
      let s := if port then s.inc (portIx p) 0x2B else s
      (s.discardCopy row c).eventLim 0x0308 0 [part, if port then p else vportTenant row]
    | none =>
      let lim := s.depthLimit row
      if lim ≠ 0 && lim * 1024 < s.bytesQueued row + c.wireLen then
        (if port then s.inc (portIx p) 0x2C else s).discardCopy row c
      else
        let s := s.appendCopy row c
        if port then s else s.pmeTenant (vportTenant row) 0

end Sys2Proof.Machine
end

