-- ==== Sys2Proof/Machine/Inline.lean ====
section
/-! DEFINITION. Inline cipher work (R178–R196): security associations, home lanes, MACsec and ESP in both directions on
byte strings, receive windows, packet numbers, thresholds and reservation marks. -/

namespace Sys2Proof.Machine

/-! ### Associations, lanes, engine -/

/-- A field of an SA row. -/
abbrev State.saField (s : State) (row sub : Nat) : Nat := s.cell 0x6010 row sub

/-- The sealing key (R196). -/
def State.sealKey (s : State) : Bytes := toBE 32 s.cip.sealing

/-- The key in the slot of an SA row, unwrapped with its integrity check (R196); `none` where that fails or no key is there. -/
def State.slotKey (s : State) (row : Nat) : Option Bytes :=
  match NMap.at [] s.cip.slots row with
  | [] => none
  | w => keyUnwrap s.sealKey w

/-- Put a key into its slot, wrapped under the sealing key (R196); the empty key empties the slot. -/
def State.setSlot (s : State) (row : Nat) (key : Bytes) : State :=
  { s with cip := { s.cip with slots := NMap.put [] s.cip.slots row (if key.isEmpty then [] else keyWrap s.sealKey key) } }

/-- Key of an SA row. -/
def State.saKey (s : State) (row : Nat) : Bytes := (s.slotKey row).getD []

/-- How often a key was installed in a row or erased there. -/
def State.genOf (s : State) (row : Nat) : Nat := NMap.at 0 s.cip.gens row

/-- A slot fails its check: what needs it is dropped, counted in :26, and 0x060C is logged (R196). -/
def State.slotFailed (s : State) (row : Nat) : State := (s.bump 0x6010 row 0x26 1).event 0x060C [row]

/-- The record of an SA row. -/
def State.sa (s : State) (row : Nat) : Sa :=
  let v := s.saField row
  { row := row, gen := s.genOf row, use := v 6, owner := s.owner 0x6010 row, key := s.saKey row, extended := decide (v 8 = 1), salt := v 0xC,
    sci := v 0xD, an := v 0xE, ssci := v 0xF, offset := v 0x10, integrity := decide (v 0x11 = 1),
    withSci := decide (v 0x12 = 1), window := v 0x14, spi := v 0x15, tunnel := decide (v 0x16 = 2), tunSrc := v 0x17,
    tunDst := v 0x18, tunVer := v 0x19, ttl := v 0x1A }

/-- The cipher engine runs (0x6000:01). -/
def State.engineRuns (s : State) : Bool := s.ob 0x6000 1 = 1

/-- The lane that stands for a role. -/
def State.roleHolder (s : State) (role : Nat) : Option Nat :=
  (List.range 34).find? fun r => decide (s.cell 0x9311 r 5 = role) && decide (s.cell 0x9311 r 4 ≠ 4)

/-- The lane that carries a role: the one that stands for it, else the one of its partner (R121). -/
def State.laneOf (s : State) (role : Nat) : Nat := (s.roleHolder role).getD ((s.roleHolder (role ^^^ 1)).getD (role ^^^ 1))

/-- Home roles of a SerDes lane (R119): decryption, encryption. -/
def homeDecrypt (l : Nat) : Nat := 4 * (l / 8) + l % 8 / 4
def homeEncrypt (l : Nat) : Nat := 4 * (l / 8) + 2 + l % 8 / 4

/-- The lane of an encryption (R119): the home of its forward port's lead lane, or that of its tenant in egress pipeline t mod 8
(log entry 71). -/
def State.encryptLane (s : State) (port : Option Nat) (t : Nat) : Nat :=
  s.laneOf <| match port with
    | some p => homeEncrypt (s.leadLane p)
    | none => 4 * (t % 8) + 2 + t % 2

/-- The mask generator of a lane. -/
def State.clane (s : State) (l : Nat) : CLane := NMap.at {} s.cip.lanes l

/-- Set the mask generator of a lane. -/
def State.setClane (s : State) (l : Nat) (d : CLane) : State :=
  { s with cip := { s.cip with lanes := NMap.put {} s.cip.lanes l d } }

/-- A lane is stalled (R206). -/
def State.laneStalled (s : State) (l : Nat) : Bool := (s.clane l).stalled.isSome

/-! ### The order of work in a lane (R178–R180, R184) -/

/-- Cycles of the cipher clock, 1.6 GHz, since the reset. -/
def State.laneCycle (s : State) : Nat := s.packetCycle

/-- Blocks of a piece of work. -/
def workBlocks (bytes : Nat) : Nat := max 1 (ceilDiv bytes 128)

/-- A pass or job is requested of a lane: its blocks of 128 bytes are work of that lane. Answers its number. -/
def State.addWork (s : State) (lane : Nat) (kind : WorkKind) (stream : Bool) (bytes : Nat) : Nat × State :=
  let id := s.cip.nextWork
  let x : LaneWork := { id := id, lane := lane, kind := kind, stream := stream, bytes := bytes, left := workBlocks bytes }
  (id, { s with cip := { s.cip with work := s.cip.work ++ [x], nextWork := id + 1 } })

/-- All blocks of a piece of work are done. -/
def State.workDone (s : State) (id : Nat) : Bool := !s.cip.work.any (fun x => x.id == id)

/-- Take work from the lanes. -/
def State.endWork (s : State) (p : LaneWork → Bool) : State :=
  { s with cip := { s.cip with work := s.cip.work.filter fun x => !p x } }

/-- Bytes in the transmit stage of a piece of work: what the lane has done less what the frame unit has drawn. -/
def State.staged (s : State) (x : LaneWork) : Nat :=
  match x.kind with
  | .transmit p start => (workBlocks x.bytes - x.left) * 128 - (s.ps - start) * s.rate p / 8000000
  | _ => 0

/-- Order of a piece of work (Table 8-1). -/
def State.workOrder (s : State) (x : LaneWork) : Nat :=
  match x.kind with
  | .lookaside _ => 4
  | .transmit _ start => if start ≤ s.ps then 1 else if x.stream then 2 else 3
  | _ => if x.stream then 2 else 3

/-- A piece of work may take a block in a cycle: its stage of 2 KiB has room (R184), and in Partitioned the cycle is one of its
kind and tenant (R180); on a lane that carries two roles the cycles of a tenant alternate between them (R366). -/
def State.mayServe (s : State) (cycle : Nat) (x : LaneWork) : Bool :=
  match x.kind with
  | .lookaside t =>
    let turn := !s.flt.shared.contains x.lane || decide (cycle / 256 % 2 = (decide (s.cell 0x9311 x.lane 5 ≠ t % 32)).toNat)
    !s.inHold && (!s.partitioned || (decide (cycle % 2 = 1) && decide (t / 32 % 128 = cycle / 2 % 128) && turn))
  | _ => (!s.partitioned || decide (cycle % 2 = 0)) && decide (s.staged x + 128 ≤ 2048)

/-- One piece of work goes before another: by order, started transmit passes by their staged bytes, else the one requested
earlier. -/
def State.worksBefore (s : State) (a b : LaneWork) : Bool :=
  let ra := s.workOrder a
  let rb := s.workOrder b
  decide (ra < rb) || (decide (ra = rb) && decide (ra = 1) && decide (s.staged a < s.staged b))

/-- The work that takes a lane's next block (R179). -/
def State.pickWork (s : State) (lane cycle : Nat) : Option LaneWork :=
  (s.cip.work.filter fun x => x.lane == lane && s.mayServe cycle x).foldl (fun b x => match b with
    | none => some x
    | some y => if s.worksBefore x y then some x else some y) none

/-- One cycle of a lane; a stalled lane, and every lane while the engine is stopped, takes no block (R206, R208). -/
def State.serveLane (s : State) (cycle lane : Nat) : State :=
  if s.laneStalled lane || !s.engineRuns then s
  else match s.pickWork lane cycle with
    | none => s
    | some x =>
      let work := s.cip.work.filterMap fun y =>
        if y.id = x.id then (if y.left ≤ 1 then none else some { y with left := y.left - 1 }) else some y
      { s with cip := { s.cip with work := work } }

/-- One cycle of every lane. -/
def State.serveCycle (s : State) (cycle : Nat) : State :=
  ((s.cip.work.map (·.lane)).eraseDups).foldl (fun s l => s.serveLane cycle l) s

/-- The lane cycles of one tick. -/
def State.serveLanes (s : State) : State :=
  if s.cip.work.isEmpty then s else (s.serveCycle (s.laneCycle - 2)).serveCycle (s.laneCycle - 1)

/-- The cipher constant of the profile (Table 4-1). -/
def State.cipherNs (s : State) : Nat := if s.partitioned then 200 else 140

/-- The Owner's CP_EVENTS register. -/
abbrev cpEvents : Nat := 0x6024

/-- A CP_EVENTS bit of a tenant's cipher page becomes set: a message with IRQ_EVENTS, and a PME source (R194, R249). -/
def State.cpEvent (s : State) (t b : Nat) : State :=
  let o := tenantMaster t
  let s := s.setRegBits o cpEvents b b 1
  let s := if s.regBits o 0x6018 2 2 = 1 then s.msix (s.funcMaster o) (s.regBits o 0x6018 26 16) else s
  s.pmeTenant t 2

/-! ### MACsec (R187, R188) -/

/-- The nonce of a packet number: SCI and PN, or for XPN the SSCI and PN with the salt added. -/
def macsecNonce (a : Sa) (sci pn : Nat) : Bytes :=
  if a.extended then xorBytes (toBE 4 a.ssci ++ toBE 8 pn) (toBE 12 a.salt) else toBE 8 sci ++ toBE 4 pn

/-- Protect a frame with packet number `pn` (R187). -/
def macsecProtect (a : Sa) (pn : Nat) (bs : Bytes) : Bytes :=
  let data := bs.drop 12
  let tci := (if a.withSci then 0x20 else 0) + (if a.integrity then 0 else 0x0C) + a.an
  let sl := if data.length < 48 then data.length else 0
  let tag := [0x88, 0xE5] ++ toBE 1 tci ++ toBE 1 sl ++ toBE 4 pn ++ (if a.withSci then toBE 8 a.sci else [])
  let clear := if a.integrity then data else data.take a.offset
  let rest := if a.integrity then [] else data.drop a.offset
  let n := macsecNonce a a.sci pn
  let ct := gcmCrypt a.key n rest
  bs.take 12 ++ tag ++ clear ++ ct ++ gcmTag a.key n (bs.take 12 ++ tag ++ clear) ct

/-- The SecTAG of a received frame: TCI and AN, SL, PN, and its length. -/
structure SecTag where
  tci : Nat
  sl  : Nat
  pn  : Nat
  len : Nat

/-- The SecTAG behind the source address. -/
def secTag (bs : Bytes) : SecTag :=
  let tci := be bs 14 1
  { tci := tci, sl := be bs 15 1, pn := be bs 16 4, len := if bit tci 5 then 16 else 8 }

/-- Bytes of secure data between SecTAG and ICV. -/
def secureLen (bs : Bytes) : Nat := bs.length - 12 - (secTag bs).len - 16

/-- Check 1 of R188: V, ES with SC, and SL against the frame length. -/
def secTagBad (bs : Bytes) : Bool :=
  let t := secTag bs
  decide (be bs 12 2 ≠ 0x88E5) || decide (bs.length < 28 + t.len) || bit t.tci 7 || (bit t.tci 6 && bit t.tci 5)
    || (if t.sl = 0 then decide (secureLen bs < 48)
        else decide (48 ≤ t.sl) || decide (secureLen bs < t.sl) || (decide (t.sl < secureLen bs) && decide (bs.length ≠ 60)))

/-- The packet number of an XPN frame, recovered from its low 32 bits and the lowest acceptable (IEEE 802.1AE). -/
def recoverPn (a : Sa) (lowest pn : Nat) : Nat :=
  if !a.extended then pn
  else
    let hi := lowest / 2 ^ 32
    (if 2 ^ 31 ≤ lowest % 2 ^ 32 && decide (pn < 2 ^ 31) then hi + 1 else hi) * 2 ^ 32 + pn

/-- The secure data of a frame, in the clear and encrypted, and its ICV. -/
def secureData (a : Sa) (bs : Bytes) : Bytes × Bytes × Bytes :=
  let t := secTag bs
  let at_ := 12 + t.len
  let n := if t.sl = 0 then secureLen bs else t.sl
  let data := slice bs at_ n
  (if bit t.tci 2 then data.take a.offset else data, if bit t.tci 2 then data.drop a.offset else [], slice bs (at_ + n) 16)

/-- The plaintext frame. -/
def macsecPlain (a : Sa) (sci pn : Nat) (bs : Bytes) : Bytes :=
  let (clear, ct, _) := secureData a bs
  bs.take 12 ++ clear ++ gcmCrypt a.key (macsecNonce a sci pn) ct

/-- The ICV matches. -/
def macsecVerify (a : Sa) (sci pn : Nat) (bs : Bytes) : Bool :=
  let (clear, ct, icv) := secureData a bs
  decide (gcmTag a.key (macsecNonce a sci pn) (bs.take (12 + (secTag bs).len) ++ clear) ct = icv)

/-! ### ESP (R186, R189, R190) -/

/-- Where the bytes behind an IPv6 header and its parsed extension headers start, and where the last next-header field
stands. -/
def ip6Payload (bs : Bytes) : (n a field : Nat) → Nat × Nat
  | 0, a, f => (a, f)
  | n + 1, a, f =>
    if isExt (be bs f 1) then ip6Payload bs n (a + (if be bs f 1 = 44 then 8 else 8 * (be bs (a + 1) 1 + 1))) a else (a, f)

/-- Where the IP payload of a frame starts, and where its protocol or last next-header field stands. -/
def payloadAt (l : Layer) (bs : Bytes) : Nat × Nat :=
  if l.ip = 4 then (l.l3 + 4 * (be bs l.l3 1 % 16), l.l3 + 9) else ip6Payload bs 2 (l.l3 + 40) (l.l3 + 6)

/-- Where the IP packet of a frame ends. -/
def packetEnd (l : Layer) : Nat := if l.ip = 4 then l.l3 + l.ipLen else l.l3 + 40 + l.ipLen

/-- Pad count p of R186. -/
def padCount (n : Nat) : Nat := (4 - (n + 2) % 4) % 4

/-- Set the length field of the IP header at `a` for a packet of `n` bytes, and its checksum. -/
def setIpLen (ip a n : Nat) (bs : Bytes) : Bytes :=
  if ip = 4 then fixIp4 (splice bs (a + 2) (toBE 2 n)) a else splice bs (a + 4) (toBE 2 (n - 40))

/-- A frame that ESP cannot protect: not IP, or in transport mode one with FRAG, EXT_LIMIT, DEPTH or L3_ERR (R189). -/
def espRefuses (a : Sa) (l : Layer) : Bool :=
  l.ip = 0 || (!a.tunnel && (l.frag || l.limit || l.depth || l.err))

/-- The associated data of ESP: SPI and sequence number, 64 bits of it with extended numbers (RFC 4106). -/
def espAad (a : Sa) (seq : Nat) : Bytes := toBE 4 a.spi ++ (if a.extended then toBE 8 seq else toBE 4 seq)

/-- Salt of an ESP SA: bytes 0–3 of its Salt field. -/
def espSalt (a : Sa) : Bytes := (toBE 12 a.salt).take 4

/-- SPI, sequence, IV, ciphertext and ICV over a payload with its next header. -/
def espBody (a : Sa) (seq next : Nat) (payload : Bytes) : Bytes :=
  let p := padCount payload.length
  let pt := payload ++ (List.range p).map (fun i => BitVec.ofNat 8 (i + 1)) ++ toBE 1 p ++ toBE 1 next
  let iv := toBE 8 seq
  let ct := gcmCrypt a.key (espSalt a ++ iv) pt
  toBE 4 a.spi ++ toBE 4 seq ++ iv ++ ct ++ gcmTag a.key (espSalt a ++ iv) (espAad a seq) ct

/-- The outer header of an ESP tunnel for `n` bytes behind it. -/
def espOuter (a : Sa) (dscp n : Nat) : Bytes :=
  if a.tunVer = 6 then
    toBE 4 (6 * 2 ^ 28 + dscp * 4 * 2 ^ 20) ++ toBE 2 n ++ [50] ++ toBE 1 a.ttl ++ toBE 16 a.tunSrc ++ toBE 16 a.tunDst
  else fixIp4 ([0x45] ++ toBE 1 (dscp * 4) ++ toBE 2 (20 + n) ++ [0, 0, 0x40, 0] ++ toBE 1 a.ttl ++ [50, 0, 0]
    ++ toBE 4 a.tunSrc ++ toBE 4 a.tunDst) 0

/-- Protect a frame with sequence number `seq` (R189). -/
def espProtect (a : Sa) (seq : Nat) (bs : Bytes) : Bytes :=
  let l := parseLayer bs 0
  let e := packetEnd l
  if a.tunnel then
    let body := espBody a seq (if l.ip = 4 then 4 else 41) (slice bs l.l3 (e - l.l3))
    bs.take (l.l3 - 2) ++ (if a.tunVer = 6 then [0x86, 0xDD] else [0x08, 0x00]) ++ espOuter a (l.dscp / 4) body.length ++ body
  else
    let (at_, f) := payloadAt l bs
    let body := espBody a seq (be bs f 1) (slice bs at_ (e - at_))
    setIpLen l.ip l.l3 (at_ - l.l3 + body.length) (splice (bs.take at_) f [50]) ++ body

/-- The 64-bit sequence number recovered as RFC 4303 Appendix A specifies. -/
def recoverSeq (a : Sa) (highest seq : Nat) : Nat :=
  if !a.extended then seq
  else
    let w := max 1 a.window
    let tl := highest % 2 ^ 32
    let th := highest / 2 ^ 32
    let low := (tl + 2 ^ 32 + 1 - w) % 2 ^ 32
    let hi := if w - 1 ≤ tl then (if low ≤ seq then th else (th + 1) % 2 ^ 32)
      else (if low ≤ seq then (th + 2 ^ 32 - 1) % 2 ^ 32 else th)
    hi * 2 ^ 32 + seq

/-- The IV, the ciphertext and the ICV of an ESP frame. -/
def espParts (bs : Bytes) : Bytes × Bytes × Bytes :=
  let l := parseLayer bs 0
  let at_ := (payloadAt l bs).1
  let e := packetEnd l
  (slice bs (at_ + 8) 8, slice bs (at_ + 16) (e - at_ - 32), slice bs (e - 16) 16)

/-- The plaintext of an ESP frame, with its trailer. -/
def espPlain (a : Sa) (bs : Bytes) : Bytes :=
  let (iv, ct, _) := espParts bs
  gcmCrypt a.key (espSalt a ++ iv) ct

/-- The ICV matches. -/
def espVerify (a : Sa) (seq : Nat) (bs : Bytes) : Bool :=
  let (iv, ct, icv) := espParts bs
  decide (gcmTag a.key (espSalt a ++ iv) (espAad a seq) ct = icv)

/-- The frame that a plaintext with its trailer leaves; `none` for a trailer error (R190). -/
def espStrip (a : Sa) (bs pt : Bytes) : Option Bytes :=
  let l := parseLayer bs 0
  let (at_, f) := payloadAt l bs
  let n := pt.length
  let pad := be pt (n - 2) 1
  let next := be pt (n - 1) 1
  let data := pt.take (n - 2 - pad)
  let padOk := slice pt (n - 2 - pad) pad = (List.range pad).map (fun i => BitVec.ofNat 8 (i + 1))
  if n < 2 + pad || !padOk then none
  else if a.tunnel then
    let v := be data 0 1 / 16
    if (next = 4 && v = 4) || (next = 41 && v = 6) then
      some (bs.take (l.l3 - 2) ++ (if v = 6 then [0x86, 0xDD] else [0x08, 0x00]) ++ data)
    else none
  else some (setIpLen l.ip l.l3 (at_ - l.l3 + data.length) (splice (bs.take at_) f (toBE 1 next)) ++ data)

/-! ### Both ways -/

/-- Length of a frame after an SA has protected it, without FCS (Table 8-2). -/
def saLength (a : Sa) (bs : Bytes) : Nat :=
  if a.use = 2 then bs.length + (if a.withSci then 32 else 24)
  else
    let l := parseLayer bs 0
    if l.ip = 0 then bs.length
    else if a.tunnel then
      let n := packetEnd l - l.l3
      l.l3 + (if a.tunVer = 6 then 74 else 54) + n + padCount n
    else
      let n := packetEnd l - (payloadAt l bs).1
      (payloadAt l bs).1 + 34 + n + padCount n

/-- Protect a frame. -/
def protect (a : Sa) (pn : Nat) (bs : Bytes) : Bytes := if a.use = 2 then macsecProtect a pn bs else espProtect a pn bs

/-- The receive SA of a tenant for a frame: by SCI and AN, or by SPI (R181). -/
def State.findSa (s : State) (tenant how : Nat) (p : Parsed) (bs : Bytes) : Option Nat :=
  (rowsWith s.dict 0x6010 4).find? fun r =>
    let v := s.saField r
    decide (s.owner 0x6010 r = tenant) && (if how = 1 then
      decide (v 6 = 1) && decide (v 0xD = p.sci) && decide (v 0xE = (secTag bs).tci % 4)
    else decide (v 6 = 3) && p.outer.esp && decide (v 0x15 = p.outer.spi))

/-- How a received frame fares: the check that drops it, or its number and the plaintext. -/
inductive Receipt where
  | replay
  | auth
  | trailer
  | ok (pn : Nat) (bs : Bytes)
  deriving Repr

/-- The window of an SA whose key has been replaced since a pass took it; `none` while the row holds that key (R193). -/
def State.oldSa (s : State) (a : Sa) : Option OldSa :=
  if a.gen = s.genOf a.row then none
  else some ((s.cip.olds.find? fun o => o.row == a.row && o.gen == a.gen).getD ⟨a.row, a.gen, 0, 0, []⟩)

/-- Lowest acceptable number, highest accepted number, accepted ESP numbers of a receive SA. -/
def State.winLow (s : State) (a : Sa) : Nat := ((s.oldSa a).map (·.lowest)).getD (s.saField a.row 0x13)
def State.winHigh (s : State) (a : Sa) : Nat := ((s.oldSa a).map (·.high)).getD (s.saField a.row 0x21)
def State.winSeen (s : State) (a : Sa) : List Nat := ((s.oldSa a).map (·.seen)).getD (NMap.at [] s.cip.seen a.row)

/-- The key of a row is to be replaced or erased: a pass that holds it keeps its window, and the row enters its next
generation (R193). -/
def State.retireSa (s : State) (row : Nat) : State :=
  let g := s.genOf row
  let o : OldSa := ⟨row, g, s.saField row 0x13, s.saField row 0x21, NMap.at [] s.cip.seen row⟩
  let held := s.cip.passes.any fun x => x.sa.row == row && x.sa.gen == g
  { s with cip := { s.cip with olds := if held then o :: s.cip.olds else s.cip.olds
                               gens := NMap.put 0 s.cip.gens row (g + 1) } }

/-- The window of a replaced key goes with the last pass that holds it (R193). -/
def State.dropOlds (s : State) : State :=
  let held := fun (o : OldSa) => s.cip.passes.any fun x => x.sa.row == o.row && x.sa.gen == o.gen
  { s with cip := { s.cip with olds := s.cip.olds.filter held } }

/-- A number lies below the window of a receive SA, or is marked in it (R188, R190). -/
def State.replayed (s : State) (a : Sa) (pn : Nat) : Bool :=
  decide (pn < s.winLow a) || (a.use = 3 && (s.winSeen a).contains pn)

/-- The packet number of a frame that a pass takes up (R188, R190). -/
def State.passPn (s : State) (a : Sa) (p : Parsed) (bs : Bytes) : Nat :=
  if a.use = 1 then recoverPn a (s.winLow a) (secTag bs).pn
  else recoverSeq a (s.winHigh a) (be bs ((payloadAt p.outer bs).1 + 4) 4)

/-- What a pass writes into its churn. -/
def churnBytes (a : Sa) (p : Parsed) (pn : Nat) (bs : Bytes) : Bytes :=
  if a.use = 1 then macsecPlain a p.sci pn bs else espPlain a bs

/-- Checks 3 and 4 of R188, 2 to 4 of R190, in order, on a pass whose blocks are done. -/
def State.openPass (s : State) (x : Pass) (p : Parsed) : Receipt :=
  if s.replayed x.sa x.pn then .replay
  else if x.sa.use = 1 then (if macsecVerify x.sa p.sci x.pn x.frame.bytes then .ok x.pn x.churn else .auth)
  else if !espVerify x.sa x.pn x.frame.bytes then .auth
  else match espStrip x.sa x.frame.bytes x.churn with
    | none => .trailer
    | some b => .ok x.pn b

/-! ### Marks in flash 1 (R195) -/

/-- A record of the journal: SA row, value, CRC32C. -/
def markRecord (row v : Nat) : Bytes := let b := toLE 4 row ++ toLE 8 v; b ++ toLE 4 (crc32c b)

/-- A record is of a row and passes its CRC32C. -/
def markOf (row : Nat) (r : Bytes) : Bool := decide (le r 0 4 = row) && decide (le r 12 4 = crc32c (r.take 12))

/-- The value of the newest valid record of a row; 0 where there is none. -/
def State.mark (s : State) (row : Nat) : Nat :=
  match s.pwr.journal.find? (markOf row) with
  | some r => le r 4 8
  | none => 0

/-- The newest valid record of every row. -/
def newestMarks : List Bytes → List Bytes
  | [] => []
  | r :: l => if markOf (le r 0 4) r then r :: (newestMarks l).filter (fun x => !decide (le x 0 4 = le r 0 4)) else newestMarks l

/-- Records that the region of 16 MiB holds. -/
abbrev journalSize : Nat := 1048576

/-- Write a record; a full journal is first copied, the newest record of every row, into erased sectors. -/
def State.setMark (s : State) (row v : Nat) : State :=
  let old := if s.pwr.journal.length < journalSize then s.pwr.journal else newestMarks s.pwr.journal
  { s with pwr := { s.pwr with journal := markRecord row v :: old } }

/-- The highest number of a receive SA is due for flash 1 when it has advanced by 2^20 since the last write (R195). -/
def State.noteReceive (s : State) (row high : Nat) : State := if s.mark row + 2 ^ 20 ≤ high then s.setMark row high else s

/-- The window of a receive SA takes an accepted number at release (R188, R190); a pass under a replaced key moves the window
of that key alone (R193). -/
def State.accept (s : State) (a : Sa) (pn octets : Nat) : State :=
  let high := max (s.winHigh a) pn
  let low := max (s.winLow a) (high + 1 - a.window)
  let seen := if a.use = 3 then (pn :: s.winSeen a).filter (fun n => decide (low ≤ n)) else []
  match s.oldSa a with
  | some o =>
    let new : OldSa := { o with lowest := low, high := high, seen := seen }
    { s with cip := { s.cip with olds := updFirst (fun x => x.row == o.row && x.gen == o.gen) (fun _ => new) s.cip.olds } }
  | none =>
    let s := (s.setCell 0x6010 a.row 0x21 high).setCell 0x6010 a.row 0x13 low
    let s := (s.bump 0x6010 a.row 0x22 1).bump 0x6010 a.row 0x23 octets
    let s := { s with cip := { s.cip with seen := NMap.put [] s.cip.seen a.row seen } }
    s.noteReceive a.row high

/-- Count in the SA of a pass: in its row, unless the row has been cleared since (R193, R194). -/
def State.countSa (s : State) (a : Sa) (sub : Nat) : State :=
  if s.saField a.row 4 = 1 then s.bump 0x6010 a.row sub 1 else s

/-! ### Packet numbers (R185, R194, R195) -/

/-- The last number of an SA row: 64 bits with extended numbers, else 32. -/
def State.lastNumber (s : State) (row : Nat) : Nat := if s.saField row 8 = 1 then 2 ^ 64 - 1 else 2 ^ 32 - 1

/-- The SA is exhausted. -/
def State.exhausted (s : State) (row : Nat) : Bool := bit (s.saField row 0x20) 1

/-- The next number of a transmit SA: the one behind Current PN, at least Next PN. -/
def State.nextPn (s : State) (row : Nat) : Nat := max (s.saField row 0x21 + 1) (s.saField row 0x13)

/-- The mark that stands 2^24 above a number; the highest that a record holds stands above every number (R195, log entry 83). -/
def markAfter (n : Nat) : Nat := min (n + 2 ^ 24) (2 ^ 64 - 1)

/-- The mark of a transmit SA in flash lets its next number be assigned, and no new mark waits (R195). -/
def State.markPermits (s : State) (row : Nat) : Bool :=
  (decide (s.nextPn row < s.mark row) || decide (s.mark row = 2 ^ 64 - 1)) && !(s.cip.markWait.any (fun e => e.1 == row))

/-- An encryption under an SA can start on a lane (R184); its record and key are in the lane by position 4 of the queue. -/
def State.saReady (s : State) (row lane : Nat) : Bool :=
  decide (s.saField row 4 = 1) && s.markPermits row && s.engineRuns && !s.laneStalled lane

/-- The owner of a row as a tenant number. -/
def State.saTenant (s : State) (row : Nat) : Nat := (s.rowOwner 0x6010 row).getD 0

/-- Current PN has moved: threshold, exhaustion and the advance of the mark (R194, R195). -/
def State.pnMoved (s : State) (row : Nat) : State :=
  let pn := s.saField row 0x21
  let t := s.saTenant row
  let st := s.saField row 0x20
  let s := if s.saField row 0x1B ≤ pn && !bit st 0 then
      ((s.setCell 0x6010 row 0x20 (setBit st 0 true)).cpEvent t 0).event 0x0604 [row]
    else s
  let s := if s.lastNumber row ≤ pn && !bit st 1 then
      ((s.setCell 0x6010 row 0x20 (setBit (s.saField row 0x20) 1 true)).cpEvent t 1).event 0x0605 [row]
    else s
  let m := s.mark row
  if m ≤ pn + 2 ^ 22 && decide (m ≠ 2 ^ 64 - 1) && !(s.cip.markWait.any (fun e => e.1 == row)) && decide (0 < m) then
    { s with cip := { s.cip with markWait := NMap.put 0 s.cip.markWait row (markAfter m) } }
  else s

/-- Assign the next number of a transmit SA (R184, R185); Next PN names the one behind it. -/
def State.assignPn (s : State) (row : Nat) : Nat × State :=
  let pn := s.nextPn row
  let s := s.setCells 0x6010 row [(0x21, pn), (0x13, min (pn + 1) (2 ^ 64 - 1))]
  (pn, (s.bump 0x6010 row 0x22 1).pnMoved row)

/-- PN_MARK_WRITTEN: flash 1 holds the advanced mark of an SA (R195). -/
def execPnMarkWritten (sa : Nat) (s : State) : Host.Outcome State Fault Refusal :=
  let m := NMap.at 0 s.cip.markWait sa
  .next <|
    if m = 0 then s
    else { s with cip := { s.cip with markWait := NMap.put 0 s.cip.markWait sa 0 } }.setMark sa m

/-- A frame that needs a cipher pass while the engine is stopped, or beyond what a stalled lane holds (R206, R208). -/
def State.countCipherDrop (s : State) : State := s.inc 0x6000 0x15

end Sys2Proof.Machine
end

