-- ==== Sys2Proof/Machine/RingOps.lean ====
section
/-! DEFINITION. What rings share (R257, R258, R260, R263, R264): sizes, the write of a completion with its phase, messages
and their moderation, posted writes of a function, and halting (R265). -/

namespace Sys2Proof.Machine

/-- The host port (1 A, 2 B, 0 none) that carries the functions of a register file owner. -/
def State.ownerPort (s : State) (owner : Nat) : Nat :=
  if owner ≤ 2 then owner else if owner < 0x2000 then s.portOf (owner - 0x1000) else 0

/-- The registers of a function answer: not in START or FAULT (R334), not in an FLR (R246). -/
def State.funcLive (s : State) (m : Nat) : Bool :=
  decide (s.devState ≠ 0) && decide (s.devState ≠ 4) && !(s.func m).inFlr

/-- The owner of the tenant region that a function reaches: a VF its own, the PF0 of the station port that of T0000
(R236); `none` where writes are discarded. -/
def State.regionOf (s : State) (f : Func) : Option Nat :=
  match f with
  | .pf0 p => if s.stationMaster = portMaster p && s.funcLive (portMaster p) then some 0x1000 else none
  | .vf t => if t.val ≠ 0 && s.portOf t.val ≠ 0 && s.funcLive (tenantMaster t.val) then some (tenantMaster t.val) else none
  | .thread _ => none

/-- Write a control register: its RW bits take the value. -/
def State.writeReg (s : State) (owner off : Nat) (v : Word) : State :=
  match regAt owner off with
  | some r => s.setReg owner off (r.write (s.reg owner off) v)
  | none => s

/-- The host port (0 A, 1 B) of a function's master id. -/
def State.hpOf (s : State) (m : Nat) : Nat := if m ≤ 2 then m - 1 else s.portOf (m - 0x1000) - 1

/-- Max_Payload_Size of a function: that of its PF0's Device Control. -/
def State.maxPayload (s : State) (m : Nat) : Nat := 128 * 2 ^ min 5 (bits (s.config (s.hpOf m + 1) (capPcie + 8)) 7 5)

/-- The posted writes that data makes, each of at most `size` bytes (R239). -/
def State.postRuns (s : State) (m size addr : Nat) : (fuel : Nat) → Bytes → State
  | 0, _ => s
  | k + 1, bs => if bs.isEmpty then s else (s.emit (.hostWrite m addr (bs.take size))).postRuns m size (addr + size) k (bs.drop size)

/-- A posted write of a function: it leaves only while the function may issue requests (R245), and counts in x:1F. -/
def State.dmaWrite (s : State) (owner addr : Nat) (data : Bytes) : State :=
  let m := s.funcMaster owner
  if s.mayIssue m then
    (s.postRuns m (s.maxPayload m) addr data.length data).bump (hostIx (s.ownerPort owner - 1)) 0 0x1F data.length
  else s

/-- A message of a queue on the vector of its control register. -/
def State.queueMsg (s : State) (owner ctrl : Nat) : State := s.msix (s.funcMaster owner) (s.regBits owner ctrl 26 16)

/-- Messages that wait in the PBA leave once their vectors are unmasked and the function may issue (R248, R284). -/
def State.flushPba (s : State) (m : Nat) : State :=
  let f := s.func m
  if !s.mayIssue m then s
  else
    let s := s.setFunc m { f with pba := f.pba.filter (s.vectorMask m) }
    (f.pba.filter fun v => !s.vectorMask m v).foldl (fun s v => s.emit (.msix m v)) s

/-- The register block of a ring (Table 11-1). -/
def ringBase (tx : Bool) (r : Nat) : Nat := (if tx then 0x1000 else 0x2000) + 64 * r

/-- The key of a ring in `Rings.rings`. -/
def ringKey (owner : Nat) (tx : Bool) (r : Nat) : Nat := owner * 128 + (if tx then 0 else 64) + r

/-- A ring behind its registers. -/
def State.ring (s : State) (owner : Nat) (tx : Bool) (r : Nat) : RingDyn := NMap.at {} s.rng.rings (ringKey owner tx r)

/-- Set a ring. -/
def State.setRing (s : State) (owner : Nat) (tx : Bool) (r : Nat) (d : RingDyn) : State :=
  { s with rng := { s.rng with rings := NMap.put {} s.rng.rings (ringKey owner tx r) d } }

/-- A power of two from a LOG2 field, within its limits, else the value it acts as. -/
def sizeOf2 (lo hi other log2 : Nat) : Nat := 2 ^ (if lo ≤ log2 && log2 ≤ hi then log2 else other)

/-- Descriptors and completions of a ring (Table 11-2). -/
def State.ringSize (s : State) (owner : Nat) (tx : Bool) (r : Nat) : Nat :=
  sizeOf2 6 16 8 (s.regBits owner (ringBase tx r + 0x08) 4 0)

/-- ENABLE of a ring. -/
def State.ringEnabled (s : State) (owner : Nat) (tx : Bool) (r : Nat) : Bool :=
  s.regBits owner (ringBase tx r + 0x24) 0 0 = 1

/-- HALTED of a ring. -/
def State.ringHalted (s : State) (owner : Nat) (tx : Bool) (r : Nat) : Bool :=
  s.regBits owner (ringBase tx r + 0x2C) 1 1 = 1

/-- The bytes of a descriptor that has arrived. -/
def State.descBytes (s : State) (owner : Nat) (tx : Bool) (r slot : Nat) : Bytes := NMap.at [] (s.ring owner tx r).descs slot

/-- The descriptor that 32 bytes spell (Table 11-3, R263). -/
def ringDesc (b : Bytes) : RingDesc where
  addr := le b 0 8
  len := le b 8 2
  flags := b.getD 10 0
  vport := b.getD 11 0
  cookie := le b 16 8

/-- The descriptor in a slot. -/
def State.descAt (s : State) (owner : Nat) (tx : Bool) (r slot : Nat) : RingDesc := ringDesc (s.descBytes owner tx r slot)

/-- Set the bytes of the descriptor in a slot; none when it has been used. -/
def State.setDesc (s : State) (owner : Nat) (tx : Bool) (r slot : Nat) (b : Bytes) : State :=
  let d := s.ring owner tx r
  s.setRing owner tx r { d with descs := NMap.put [] d.descs slot b }

/-- A descriptor has been used. -/
abbrev State.dropDesc (s : State) (owner : Nat) (tx : Bool) (r slot : Nat) : State := s.setDesc owner tx r slot []

/-- Descriptors of a ring arrive. -/
def State.ringDescs (s : State) (owner : Nat) (tx : Bool) (r slot n : Nat) (data : Bytes) : State :=
  (List.range n).foldl (fun s i => s.setDesc owner tx r (slot + i) (slice data (32 * i) 32)) s

/-- The completion ring is full (R264). -/
def State.ringFull (s : State) (owner : Nat) (tx : Bool) (r : Nat) : Bool :=
  let b := ringBase tx r
  decide ((s.regN owner (b + 0x20) + 1) % s.ringSize owner tx r = s.regN owner (b + 0x1C) % s.ringSize owner tx r)

/-- CMPL_FULL follows the completion ring. -/
def State.noteFull (s : State) (owner : Nat) (tx : Bool) (r : Nat) : State :=
  s.setRegBits owner (ringBase tx r + 0x2C) 2 2 (s.ringFull owner tx r).toNat

/-- Send the ring's message; count and timer restart (R264). -/
def State.ringMsg (s : State) (owner : Nat) (tx : Bool) (r : Nat) : State :=
  (s.setRing owner tx r { s.ring owner tx r with sinceMsg := 0, oldest := none }).queueMsg owner (ringBase tx r + 0x24)

/-- Write one completion of a ring (R260, R263, R264): `bytes` gets the PHASE bit as 0x80 of its FLAGS byte. -/
def State.ringComplete (s : State) (owner : Nat) (tx : Bool) (r : Nat) (bytes : Nat → Bytes) (irq : Bool) : State :=
  let b := ringBase tx r
  let tail := s.regN owner (b + 0x20)
  let size := s.ringSize owner tx r
  let d := s.ring owner tx r
  let next := (tail + 1) % size
  let s := s.dmaWrite owner (s.regAddr owner (b + 0x14) + 32 * tail) (bytes (if d.phase then 0x80 else 0))
  let s := s.setReg owner (b + 0x20) (BitVec.ofNat 32 next)
  let d := { d with phase := if next = 0 then !d.phase else d.phase, sinceMsg := d.sinceMsg + 1,
                    oldest := d.oldest.or (some s.now) }
  let s := (s.setRing owner tx r d).noteFull owner tx r
  if s.regBits owner (b + 0x24) 1 1 = 1 && (irq || decide (max 1 (s.regBits owner (b + 0x28) 15 0) ≤ d.sinceMsg)) then
    s.ringMsg owner tx r
  else s

/-- The transmit completion of a frame (Table 11-4). -/
def txCompletion (t : TxDone) (time status phase : Nat) : Bytes :=
  toLE 8 t.cookie ++ toLE 8 time ++ toLE 2 t.len ++ toLE 1 status ++ toLE 1 (phase + if t.push then 0x40 else 0)
    ++ toLE 2 t.descs ++ toLE 2 t.head ++ zeros 8

/-- Complete a transmit frame with a status. -/
def State.completeTx (s : State) (t : TxDone) (time status : Nat) : State :=
  s.ringComplete (tenantMaster t.tenant) true t.ring (txCompletion t time status) t.irq

/-- Write what is owed and has no frame ahead, while the completion ring has room (R260, R264); `fuel` bounds it. -/
def State.payOwed (s : State) (owner r : Nat) : (fuel : Nat) → State
  | 0 => s
  | k + 1 =>
    let d := s.ring owner true r
    match d.owed with
    | x :: rest =>
      if x.frames ≠ 0 || x.descs ≠ 0 || s.ringFull owner true r then s
      else ((s.setRing owner true r { d with owed := rest }).completeTx x.done 0 x.status).payOwed owner r k
    | [] => s

/-- A waiting frame is of a transmit ring. -/
def Waiting.ofRing (w : Waiting) (owner r : Nat) : Bool :=
  w.txDone.any fun t => tenantMaster t.tenant == owner && t.ring == r

/-- Frames of a transmit ring that wait for a slot. -/
def State.ringWaiting (s : State) (owner r : Nat) : List Waiting := s.net.waiting.filter fun w => w.ofRing owner r

/-- BUSY of a transmit ring. -/
def State.noteBusy (s : State) (owner r : Nat) : State :=
  s.setRegBits owner (ringBase true r + 0x2C) 0 0
    (!(s.ringWaiting owner r).isEmpty || !(s.ring owner true r).owed.isEmpty).toNat

/-- Pay a ring. -/
def State.settleRing (s : State) (owner r : Nat) : State :=
  (s.payOwed owner r (s.ring owner true r).owed.length).noteBusy owner r

/-- Put an owed completion before the first that still waits for descriptors. -/
def insertOwed (x : Owed) : List Owed → List Owed
  | [] => [x]
  | y :: r => if y.descs = 0 then y :: insertOwed x r else x :: y :: r

/-- Owe the completion of a frame whose descriptors have been read. -/
def State.oweFrame (s : State) (t : TxDone) (status : Nat) : State :=
  let o := tenantMaster t.tenant
  let d := s.ring o true t.ring
  let n := ((s.ringWaiting o t.ring).filter fun w => w.ahead == 0).length
  (s.setRing o true t.ring { d with owed := insertOwed ⟨n, 0, t, status⟩ d.owed }).settleRing o t.ring

/-- Owe the completion of a push, behind `n` descriptors that have not been read. -/
def State.owePush (s : State) (t : TxDone) (status n : Nat) : State :=
  let o := tenantMaster t.tenant
  let d := s.ring o true t.ring
  (s.setRing o true t.ring { d with owed := d.owed ++ [⟨(s.ringWaiting o t.ring).length, n, t, status⟩] }).settleRing o t.ring

/-- `n` descriptors of a ring have been read for one frame; `waits` when that frame waits for a slot. -/
def State.descsRead (s : State) (o r n : Nat) (waits : Bool) : State :=
  let d := s.ring o true r
  let owed := d.owed.map fun x =>
    if x.descs = 0 then x else { x with descs := x.descs - n, frames := x.frames + waits.toNat }
  let ws := s.net.waiting.map fun w => if w.ofRing o r then { w with ahead := w.ahead - n } else w
  { s.setRing o true r { d with owed := owed } with net := { s.net with waiting := ws } }

/-- A frame of a ring has entered its pipeline and is completed with OK (R260). -/
def State.entered (s : State) (t : TxDone) : State :=
  let o := tenantMaster t.tenant
  let s := s.completeTx t s.tai 0
  let d := s.ring o true t.ring
  let d := { d with pushes := if t.push then d.pushes - 1 else d.pushes, owed := d.owed.map fun x => { x with frames := x.frames - 1 } }
  (s.setRing o true t.ring d).settleRing o t.ring

/-- A frame may be granted a slot: its completion finds room (R264), and nothing of its ring is before it (R261). -/
def State.cmplReady (s : State) (w : Waiting) : Bool :=
  decide (w.ahead = 0) && w.txDone.all fun t => !s.ringFull (tenantMaster t.tenant) true t.ring

/-- A ring enters the halted state (R265); QUEUES_HALTED of its function reads 1. -/
def State.haltRing (s : State) (owner : Nat) (tx : Bool) (r cause : Nat) : State :=
  let m := s.funcMaster owner
  let s := s.setRegBits owner (ringBase tx r + 0x2C) 1 1 1
  (s.setFunc m { s.func m with halted := true }).event 0x0806 [owner, tx.toNat * 64 + r, cause]

end Sys2Proof.Machine
end

