-- ==== Sys2Proof/Machine/FramePath.lean ====
section
/-! DEFINITION. One pass of a frame up to its enqueue (R73–R100, R165, R172–R176, R181, R182): the slot grant, the lookup
stages, metering, process-data and mirror copies, edits, forwarding, sequence recovery and replication, recirculation and
the release of a decrypted frame. -/

namespace Sys2Proof.Machine

/-- A frame in its pass: what has been found of it so far. `bs` is the frame as it stands, without FCS; `parsed` is what
the parser found before any edit; `version` is the number of the table version taken; `stream` is the admitted stream that its
action set holds, to which it is charged (R105). -/
structure Ctx where
  w         : Waiting
  bs        : Bytes
  parsed    : Parsed
  tables    : NMap Nat
  version   : Nat
  tenant    : Nat
  acts      : Actions
  decrypted : Bool := false
  recovered : Option Nat := none
  stream    : Option Nat := none

/-- A frame as its pass begins, in the table version now in effect (R87). -/
def State.begins (s : State) (w : Waiting) (acts : Actions) : Ctx :=
  { w := w, bs := w.bytes, parsed := parseFrame (s.ob 0x5000 1) (s.ob 0x5000 2) w.bytes, tables := s.tables,
    version := s.acc.version, tenant := w.tenant, acts := acts, recovered := w.recovered }

/-- Count in a counter of the frame's ingress port. -/
def State.countIn (s : State) (w : Waiting) (sub : Nat) : State :=
  match w.ingress with
  | some p => s.inc (portIx p) sub
  | none => s

/-- The vport of a frame: kept on a second pass, else the one its action set assigns (R80). -/
def Ctx.vport (c : Ctx) : Option Nat := if c.w.pass2 then c.w.vport else c.acts.vport

/-- The parser with the ports of 0x5000. -/
def State.parse (s : State) (bs : Bytes) : Parsed := parseFrame (s.ob 0x5000 1) (s.ob 0x5000 2) bs

/-- The parser flags of a frame (Table 4-2). -/
def State.frameFlags (s : State) (w : Waiting) (p : Parsed) : Nat :=
  p.flags w.pass2 (decide (p.outer.etype ≠ 0) && [3, 4, 5, 6].any fun i => decide (s.ob 0x5000 i = p.outer.etype))
    (decide (w.source.kind = 1))

/-- What the keys of a frame are built from. -/
def State.keyCtx (s : State) (c : Ctx) : KeyCtx :=
  { parsed := c.parsed, source := c.w.source, vport := c.vport, flags := s.frameFlags c.w c.parsed, tag := c.acts.tag }

/-- A row's hit counter (Table 4-12). -/
def State.hit (s : State) (ix row : Nat) : State := s.bump ix row 9 1

/-! ### Frames to the device (R74) -/

/-- Link-local addresses 01-80-C2-00-00-00 to -0F. -/
def linkLocal (dst : Nat) : Bool := dst / 16 = 0x0180C200000

/-- Where a frame of the pipelines came from, as a place of the device. -/
def Source.place (x : Source) : DoluxPlace :=
  if x.kind = 1 then .vport (Fin.ofNat 65536 x.num) else .port (Fin.ofNat 1024 x.num)

/-! ### Lookup stages (R80–R82) -/

/-- The rows that win at CS and CT. -/
def State.classifyRows (s : State) (c : Ctx) : List Nat :=
  let key := (s.keyCtx c).key classifyIds 76
  (s.ternary c.tables 0 1 0 key).toList
    ++ (if c.w.source.kind = 1 && c.w.tenant ≠ 0 then (s.ternary c.tables c.w.tenant 1 0 key).toList else [])

/-- Stages CS and CT: the action set of the rows that win. -/
def State.classify (s : State) (c : Ctx) (rows : List Nat) : Actions :=
  rows.foldl (fun a r => s.applyRow c.tables 0x5011 r a) c.acts

/-- Stage X. -/
def State.stageX (s : State) (c : Ctx) : Ctx × State :=
  let n := c.acts.exactProfile
  if n = 0 then (c, s)
  else match s.exact c.tables c.tenant n ((s.keyCtx c).profileKey c.tables n 48) with
    | none => (c, s)
    | some r => ({ c with acts := s.applyRow c.tables 0x5010 r c.acts }, s.hit 0x5010 r)

/-- Stage A. -/
def State.stageA (s : State) (c : Ctx) : Ctx × State :=
  let n := c.acts.aclProfile
  if n = 0 then (c, s)
  else match s.ternary c.tables c.tenant 2 n ((s.keyCtx c).profileKey c.tables n 76) with
    | none => (c, s)
    | some r => ({ c with acts := s.applyRow c.tables 0x5011 r c.acts }, s.hit 0x5011 r)

/-- The row of stage E, resolved in the version of the pass for when a copy is dequeued (R82, R87): a field that a row of
T0000 has set is not replaced by a row of another owner. -/
def State.stageE (s : State) (c : Ctx) : Option EgressRow :=
  let n := c.acts.egressProfile
  let kept := fun r sub => decide (s.ownerIn c.tables 0x5011 r ≠ 0) && c.acts.any (fun f => f.sub == sub && f.station)
  if n = 0 then none
  else (s.ternary c.tables c.tenant 3 n ((s.keyCtx c).profileKey c.tables n 76)).map fun r =>
    egressRow r fun sub => if kept r sub then cellDefault 0x5011 r sub else tcell c.tables 0x5011 r sub

/-! ### Streams -/

/-- A field of a stream's row. -/
abbrev State.str (s : State) (i sub : Nat) : Nat := s.cell 0x4000 i sub

/-- A stream is admitted. -/
def State.admitted (s : State) (i : Nat) : Bool := s.str i 4 = 1

/-- Rows that name a stream that has been withdrawn (0x0505). -/
def State.rowsNaming (s : State) (i : Nat) : Nat :=
  ((rowsWith s.dict 0x5010 0x1A).filter fun r => decide (s.cell 0x5010 r 0x1A = i) && decide (s.cell 0x5010 r 4 = 1)).length
    + ((rowsWith s.dict 0x5011 0x1A).filter fun r => decide (s.cell 0x5011 r 0x1A = i) && decide (s.cell 0x5011 r 4 = 1)).length

/-- A stream is withdrawn while rows name it: 0x0505, once per withdrawal (R92). -/
def State.withdrawnNamed (s : State) (i : Nat) : State :=
  let n := s.rowsNaming i
  if n = 0 then s else s.event 0x0505 [i, n]

/-- A frame resolves to a stream that is not admitted: :26 of its ingress port (R92). -/
def State.withdrawnDrop (s : State) (w : Waiting) : State := s.countIn w 0x26

/-- Cells in force Active and placed whose controller stream a copy resolves to (R310). -/
def State.suppressors (s : State) (i : Nat) : List Nat :=
  s.dict.filterMap fun e =>
    let ix := e.1 / 2 ^ 40
    if e.1 % 256 = 5 && decide (e.2 = 3) && decide (0xA000 ≤ ix) && decide (ix < 0xB000) && decide (s.ob ix 9 = i)
      && !bit (s.ob ix 0x14) 1 then some (ix - 0xA000) else none

/-- Log a size or path violation of a stream (R165). -/
def State.violation (s : State) (i sub : Nat) : State := (s.bump 0x4000 i sub 1).eventLim 0x0408 i [i, sub]

/-! ### Sequence recovery (R175) -/

/-- What recovery decides. -/
inductive Recovery where
  | pass (outOfOrder : Bool) (lost : Nat)
  | duplicate
  | rogue
  deriving DecidableEq, Repr

/-- State of a compound. -/
def State.compound (s : State) (c : Nat) : Compound := NMap.at {} s.net.compounds c

/-- Set the state of a compound. -/
def State.setCompound (s : State) (c : Nat) (d : Compound) : State :=
  { s with net := { s.net with compounds := NMap.put {} s.net.compounds c d } }

/-- Shift `n` places into a history of length `h`, the newest of them set; count the places lost unset. -/
def shiftHistory (h : Nat) : (n : Nat) → List Bool → List Bool × Nat
  | 0, l => (l, 0)
  | n + 1, l =>
    let l' := (decide (n = 0)) :: l
    let lost := ((l'.drop h).filter (!·)).length
    let r := shiftHistory h n (l'.take h)
    (r.1, r.2 + lost)

/-- Vector and match recovery of IEEE 802.1CB: the state after a sequence number, and what is decided. -/
def recoverStep (vector : Bool) (h seq : Nat) (d : Compound) : Compound × Recovery :=
  if d.take then ({ d with take := false, recovSeq := seq, history := [true] }, .pass false 0)
  else
    let up := (seq + 65536 - d.recovSeq) % 65536
    if !vector then
      if up = 0 then (d, .duplicate) else ({ d with recovSeq := seq }, .pass (decide (up ≠ 1)) 0)
    else if up = 0 || 32768 ≤ up then
      let back := (65536 - up) % 65536
      if h ≤ back then (d, .rogue)
      else if d.history.getD back false then (d, .duplicate)
      else ({ d with history := (d.history ++ List.replicate (back + 1 - d.history.length) false).set back true },
            .pass true 0)
    else if h ≤ up then (d, .rogue)
    else
      let r := shiftHistory h up d.history
      ({ d with recovSeq := seq, history := r.1 }, .pass (decide (up ≠ 1)) r.2)

/-- A field of a FRER row. -/
abbrev State.frerField (s : State) (m sub : Nat) : Nat := s.cell 0x4002 m sub

/-- A frame handed to recover row `m`: it passes as a frame of the row's stream, or is dropped and counted (R175). -/
def State.recover (s : State) (c : Ctx) (m : Nat) : Option Ctx × State :=
  let comp := s.frerField m 6
  match c.parsed.outer.rtag with
  | none => if s.frerField m 0xC = 1 then
      (some { c with recovered := some comp },
        (s.setCompound comp { s.compound comp with lastPass := s.now }).bump 0x4002 m 0x10 1)
            else (none, s.bump 0x4002 m 0x15 1)
  | some seq =>
    let r := recoverStep (decide (s.frerField m 9 = 0)) (s.frerField m 0xA) seq (s.compound comp)
    match r.2 with
    | .duplicate => (none, s.bump 0x4002 m 0x11 1)
    | .rogue => (none, (s.bump 0x4002 m 0x13 1).eventLim 0x040A comp [comp])
    | .pass late lost =>
      let s := s.setCompound comp { r.1 with lastPass := s.now }
      let s := (s.bump 0x4002 m 0x10 1).bump 0x4002 m 0x14 lost
      let s := if late then s.bump 0x4002 m 0x12 1 else s
      (some { c with recovered := some comp, bs := if s.frerField m 8 = 2 then popRtag c.bs else c.bs }, s)

/-- Valid replicate rows of a compound, rising. -/
def State.replicateRows (s : State) (comp : Nat) : List Nat :=
  (rowsWith s.dict 0x4002 4).filter fun r => decide (s.frerField r 5 = 1) && decide (s.frerField r 6 = comp)

/-! ### Forwarding -/

/-- One copy that a frame is to make: a port or vport, its endpoint, what a group member replaces, its R-tag, its stream
and its position among the frame's copies. -/
structure Target where
  port   : Option Nat := none
  vport  : Option Nat := none
  encap  : Option Endpoint := none
  vlan   : Option (Nat × Nat) := none
  sa     : Option Nat := none
  rtag   : Option Nat := none
  stream : Option Nat := none
  pos    : Nat := 1
  mirror : Bool := false
  trap   : Nat := 0
  /-- The replicate row in which the copy counts (R174). -/
  member : Option Nat := none
  deriving Repr

/-- What becomes of the Forward field: the copies, with the number of group members whose endpoint has no egress port. -/
inductive Fwd where
  | drop
  | dropTenant
  | copies (ts : List Target) (lost : Nat)

/-- Where a tunnel endpoint sends: its egress port, none when 0xFFFF or when the row is not valid (R98). -/
def endpointTarget (d : NMap Nat) (row : Nat) : Option Target :=
  let e := endpointOf d row
  if e.port = 0xFFFF || tcell d 0x5100 row 4 = 0 then none else some { port := some e.port, encap := some e }

/-- Valid members of a group in row order. -/
def groupMembers (d : NMap Nat) (g : Nat) : List Nat :=
  (rowsWith d 0x5200 4).filter fun r => decide (tcell d 0x5200 r 5 = g)

/-- The frame's own source as a port or vport; a tunnel endpoint is neither (log entry 72). -/
def Waiting.isSource (w : Waiting) (t : Target) : Bool :=
  t.encap.isNone
    && ((w.source.kind = 0 && t.port = some w.source.num) || (w.source.kind = 1 && t.vport = some w.source.num))

/-- Number the targets from 1. -/
def numbered (ts : List Target) : List Target := (ts.zip (List.range ts.length)).map fun x => { x.1 with pos := x.2 + 1 }

/-- Targets of a multicast group: one for each member but the frame's own source (R99), and how many members name an
endpoint without an egress port (Table 4-9). -/
def groupTargets (c : Ctx) : List Target × Nat :=
  let one := fun r =>
    let v := fun sub => tcell c.tables 0x5200 r sub
    let t : Option Target :=
      if v 6 = 1 then some { port := some (v 7) }
      else if v 6 = 2 then some { vport := some (v 7) }
      else endpointTarget c.tables (v 7)
    t.map fun t => { t with vlan := if v 8 = 0 then none else some (v 8, v 9)
                            sa := if v 0xA = 0xFFFFFFFF then c.acts.sa else some (v 0xA) }
  let members := groupMembers c.tables c.acts.fwdTarget
  let ts := members.filterMap one
  (numbered (ts.filter fun t => !c.w.isSource t), members.length - ts.length)

/-- The targets of the Forward field (Table 4-7 :16, R93, R98, R99, R232); a frame of a stream without Forward goes to
its egress port (log entry 29). -/
def State.forward (s : State) (c : Ctx) (stream : Option Nat) : Fwd :=
  let f := c.acts.fwdTarget
  let one := fun (t : Option Target) => match t with
    | some t => Fwd.copies [{ t with sa := c.acts.sa, stream := stream }] 0
    | none => Fwd.drop
  match c.acts.fwdType with
  | 1 => one (some { port := some f })
  | 2 => one (some { vport := some f })
  | 3 => one (endpointTarget c.tables f)
  | 4 =>
    let g := groupTargets c
    .copies (g.1.map fun t => { t with stream := stream }) g.2
  | 5 =>
    let k := s.ob (tenantIx c.tenant) 6
    let g := s.ob (tenantIx c.tenant) 7
    if k = 1 then one (some { port := some g })
    else if k = 3 then one (endpointTarget c.tables g)
    else .dropTenant
  | 6 => .copies (numbered <| ((List.range 16).map fun v =>
      ({ vport := some (16 * c.tenant + v), sa := c.acts.sa, stream := stream } : Target)).filter (!c.w.isSource ·)) 0
  | _ => match stream with
    | some i => one (some { port := some (s.str i 0x33) })
    | none => .drop

/-! ### Lengths (R95) -/

/-- Length of a frame as a copy will be sent: encapsulated and protected, with FCS, at least 64. -/
def State.sentLen (s : State) (encap : Option Endpoint) (sa : Option Nat) (bs : Bytes) : Nat :=
  let bs := match encap with
    | some e => e.encapsulate (s.ob 0x5000 1) (s.ob 0x5000 2) bs
    | none => bs
  let n := match sa with
    | some r => saLength (s.sa r) bs
    | none => bs.length
  max 64 (n + 4)

/-- Egress delay d of a copy in ps (R135). -/
def State.egressDelay (s : State) (encap sa : Bool) : Nat :=
  1000 * (90 + (if encap then 30 else 0) + (if sa then s.cipherNs else 0))

/-! ### Buffer write (R102, R105, R117) -/

/-- The requester row of a frame (R105). -/
def State.requesterOf (s : State) (w : Waiting) (stream : Option Nat) : Nat :=
  if w.pass2 then 6148
  else match stream with
    | some i => 1024 + s.str i 0x33
    | none => match w.source.kind with
      | 0 => w.source.num
      | 1 => 2048 + w.tenant
      | _ => 6149

/-- The age in ns of the oldest frame of a queue. -/
def State.sojourn (s : State) (row : Nat) : Nat :=
  match s.queue row with
  | c :: _ => s.now - c.enq
  | [] => 0

/-- Classes to request in order: a spill-eligible frame takes HBM first when its queues are older than the threshold (R117).
A frame with a copy that goes to no queue, a recirculating one, is not eligible. -/
def State.classOrder (s : State) (row stored : Nat) (queues : Option (List Nat)) : List Nat :=
  let c := classFor stored
  let own := decide (row < 1024) || (decide (2048 ≤ row) && decide (row < 6144))
  match queues with
  | none => [c]
  | some qs =>
    if s.ob 0x9310 2 = 1 && s.flt.deadHbm.isEmpty && (c == 2 || c == 3) && own && qs.all (fun q => decide (q % 8 < 5)) then
      if s.ob 0x9310 1 < (qs.map s.sojourn).foldl max 0 then [c + 2, c] else [c, c + 2]
    else [c]

/-- Request classes in order until one is granted. -/
def State.allocFirst (s : State) (row : Nat) (stream : Bool) : List Nat → Nat × State
  | [] => (noHandle, s)
  | c :: r =>
    let q := s.allocBuf row c stream
    if q.1 = noHandle then q.2.allocFirst row stream r else q

/-- Write a frame of a pass into a buffer for `n` copies; `none` when both requests are refused (R109). -/
def State.writeFrame (s : State) (c : Ctx) (n : Nat) (queues : Option (List Nat)) (bs : Bytes) : Option Nat × State :=
  let row := s.requesterOf c.w c.stream
  let q := s.allocFirst row c.stream.isSome (s.classOrder row (bs.length + 4) queues)
  if q.1 = noHandle then (none, q.2)
  else
    let same := decide (bs = c.w.bytes) && !c.decrypted && c.w.fcs.isSome
    (some q.1, q.2.setBuf
      { handle := q.1, row := row, length := bs.length + 4, rxTime := c.w.rxTime, source := c.w.source, tenant := c.tenant,
        vport := c.vport, stream := c.stream, replicas := n, unmodified := same, pass2 := c.w.pass2,
        host := decide (c.w.source.kind = 1), hbm := decide (4 ≤ q.1 / 2 ^ 24), decrypted := c.decrypted,
        version := c.version, data := bs, fcs := if same then c.w.fcs else some (crc32 bs) })

/-! ### Copies -/

/-- The queue of a copy: that of its stream's contract, the Queue field, or the PCP of its outer tag up to 4 (R92). -/
def State.copyQueue (s : State) (c : Ctx) (t : Target) (bs : Bytes) : Nat :=
  if t.mirror then 0
  else match t.stream with
    | some i => s.str i 0x30
    | none => match (if c.w.pass2 && c.w.stream.isSome then none else c.acts.queue) with
      | some q => q
      | none => match outerTci bs with
        | some tci => min (tci / 8192) 4
        | none => 0

/-- The queue row of a target. -/
def Target.row (t : Target) (q : Nat) : Nat :=
  match t.port with
  | some p => portRow p q
  | none => vportRow (t.vport.getD 0) q

/-- The frame a copy sends before egress work: the member's VLAN operation in place of the action set's, or an R-tag. -/
def Target.bytes (t : Target) (base edited : Bytes) : Option Bytes :=
  match t.vlan with
  | some (op, tci) => vlanEdit op tci 0 base
  | none => match t.rtag with
    | some n => some (pushRtag edited n)
    | none => some edited

/-- Cipher passes and tunnel operations that a copy makes in all its passes (R165). -/
def Ctx.work (c : Ctx) (t : Target) : Nat × Nat :=
  (c.w.ciphers + c.decrypted.toNat + t.sa.isSome.toNat,
   c.w.tunnels + (decide (c.acts.decap ≠ 0)).toNat + t.encap.isSome.toNat)

/-- The counter of R165 that a copy of a stream violates; 0 when it keeps the contract. A copy for another port than the
contract's egress port is a path violation (log entry 29). -/
def State.streamFault (s : State) (c : Ctx) (t : Target) (i len : Nat) : Nat :=
  let k := s.str i 0x32 / 65536 % 16
  let n := s.str i 0x32 % 65536
  let w := c.work t
  if s.str i 0x36 < len || len < s.str i 0x37 then 0x1C
  else if (if k = 3 then c.recovered ≠ some n else c.w.source.field ≠ s.str i 0x32 % 2 ^ 20) then 0x1D
  else if t.port ≠ some (s.str i 0x33) then 0x1D
  else if s.str i 0x38 < w.1 || s.str i 0x39 < w.2 || (c.w.pass2 && s.str i 0x34 % 2 = 0) then 0x1D
  else if s.str i 0x40 < t.pos then 0x1D
  else 0

/-- Enqueue one copy of a buffer (R134): not of a stream that is not admitted (R92), and after suppression (R310) and the
checks of its stream (R165). A mirror copy's truncation length counts its new FCS, and a short one is padded to 64 bytes
(R93, log entry 73). -/
def State.sendCopy (s : State) (c : Ctx) (h : Nat) (e : Option EgressRow) (base edited : Bytes) (t : Target) : State :=
  let s := match t.member with
    | some r => s.bump 0x4002 r 0x17 1
    | none => s
  match (if t.mirror then some edited else t.bytes base edited) with
  | none => (s.countIn c.w 0x21).dropCopy h
  | some bs =>
    let cut := if c.acts.mirTrunc = 0 then bs.length + 4 else min (bs.length + 4) c.acts.mirTrunc
    let len := if t.mirror then max 64 cut else s.sentLen t.encap t.sa bs
    let rw := rewriteOf c.acts.val
    let q : QCopy :=
      { handle := h, own := if bs = edited then none else some bs, wireLen := len, enq := s.now,
        delay := s.egressDelay t.encap.isSome t.sa.isSome, stream := t.stream,
        trunc := if t.mirror then c.acts.mirTrunc else 0,
        rewrite := if t.mirror then {} else { rw with ttl := rw.ttl && !ttlEnds bs }, encap := t.encap, sa := t.sa,
        eRow := if t.mirror || decide (t.trap ≠ 0) then none else e, fetched := decide (h / 2 ^ 24 < 4), trap := t.trap }
    let row := t.row (s.copyQueue c t bs)
    match t.stream with
    | none => s.enqueue row q
    | some i =>
      let cells := s.suppressors i
      if !s.admitted i then (s.withdrawnDrop c.w).dropCopy h
      else if !cells.isEmpty then (cells.foldl (fun s c => s.inc (cellIx c) 0x15) s).dropCopy h
      else
        let f := s.streamFault c t i len
        if f ≠ 0 then (s.violation i f).dropCopy h
        else (s.bump 0x4000 i 0x1B 1).enqueue row q

/-- Enqueue the copies of a frame in order. -/
def State.sendCopies (s : State) (c : Ctx) (h : Nat) (e : Option EgressRow) (base edited : Bytes) :
    List Target → State
  | [] => s
  | t :: r => (s.sendCopy c h e base edited t).sendCopies c h e base edited r

/-- Write a frame and enqueue its copies; a refused buffer drops the frame (R109). -/
def State.send (s : State) (c : Ctx) (base edited : Bytes) (ts : List Target) : State :=
  if ts.isEmpty then s
  else
    let queues := ts.map fun t => t.row (s.copyQueue c t edited)
    match s.writeFrame c ts.length (some queues) edited with
    | (none, s) => s
    | (some h, s) => s.sendCopies c h (s.stageE c) base edited ts

/-! ### Steps 5 to 8 of R75 -/

/-- The process-data copy (R94); none is made in SAFE_HOLD (R385). A frame that has not entered at a port writes source port
0xFFFF (log entry 74). -/
def State.processData (s : State) (c : Ctx) (bs : Bytes) : State :=
  match c.acts.slot with
  | none => s
  | some slot =>
    if s.inHold then s else
    let off := c.acts.val 0x22
    let len := c.acts.val 0x23
    let port := c.w.ingress.getD 0xFFFF
    if bs.length < off + len then (s.countIn c.w 0x28).eventGap 1000000000 0x0507 0 [slot, port]
    else
      let a := 256 * slot
      let n := (le (NMap.bytes s.loop (a + 8) 4) 0 4 + 1) % 2 ^ 32
      let hdr := toLE 8 c.w.rxTime ++ toLE 4 n ++ toLE 2 len ++ toLE 2 port
      { s with loop := NMap.putBytes s.loop a (hdr ++ slice bs off len) }

/-- The mirror copy of the action set (R93). -/
def Ctx.mirror (c : Ctx) : List Target :=
  if c.acts.mirType = 1 then [{ port := some c.acts.mirTarget, mirror := true }]
  else if c.acts.mirType = 2 then [{ vport := some c.acts.mirTarget, mirror := true }]
  else []

/-- Count mirror copies made. -/
def State.countMirrors (s : State) (c : Ctx) : State := if c.mirror.isEmpty then s else s.countIn c.w 0x23

/-- The vport that receives a trapped frame: its own where that is of the tenant, else the tenant's first (log entry 30). -/
def trapVport (tenant : Nat) (v : Option Nat) : Nat :=
  match v with
  | some n => if n / 16 = tenant then n else 16 * tenant
  | none => 16 * tenant

/-- Trap a frame (R93). -/
def State.trapFrame (s : State) (c : Ctx) (reason : Nat) (base edited : Bytes) : State :=
  let s := (s.countIn c.w 0x22).bump 0x5013 c.tenant 7 1
  (s.countMirrors c).send c base edited
    (c.mirror ++ [{ vport := some (trapVport c.tenant c.vport), trap := reason }])

/-- The frame is forwarded to its own source without a new MAC destination or outer VID (R93). -/
def Ctx.loops (c : Ctx) (t : Target) (edited : Bytes) : Bool :=
  c.w.isSource t && decide (c.acts.val 0x29 = 0)
    && decide ((outerTci c.bs).map (· % 4096) = (outerTci edited).map (· % 4096))

/-- The frame goes no further; mirror copies already resolved are made. -/
def State.dropWith (s : State) (c : Ctx) (edited : Bytes) : State := (s.countMirrors c).send c edited edited c.mirror

/-- The pipeline of a recirculated frame: the octet of its forward port, or its tenant mod 8 (R100). -/
def recircPipe (tenant : Nat) (t : Option Target) : Nat :=
  match t with
  | some { port := some p, .. } => p / 128
  | _ => tenant % 8

/-- A first-pass frame with Recirculate: written to a buffer and handed to its egress pipeline without a queue (R100). -/
def State.toRecirc (s : State) (c : Ctx) (stream : Option Nat) (edited : Bytes) (t : Option Target) : State :=
  match s.writeFrame c 1 none edited with
  | (none, s) => s
  | (some h, s) =>
    let encap := t.bind (·.encap)
    let copy : QCopy := { handle := h, wireLen := s.sentLen encap c.acts.sa edited, enq := s.now,
                          delay := s.egressDelay encap.isSome c.acts.sa.isSome, stream := stream,
                          rewrite := rewriteOf c.acts.val, encap := encap, sa := c.acts.sa, eRow := s.stageE c }
    let k := recircPipe c.tenant t
    let work := c.work { encap := encap, sa := c.acts.sa }
    let w : Waiting := { pipe := k, cls := 0, time := s.now, bytes := [], fcs := none, source := c.w.source,
                         ring := c.w.ring, tenant := c.tenant, vport := c.vport, stream := stream, pass2 := true,
                         ciphers := work.1, tunnels := work.2, recovered := c.recovered, ingress := c.w.ingress,
                         egress := t.bind (·.port), rxTime := c.w.rxTime }
    let s := { s with net := { s.net with recirc := s.net.recirc ++ [(k, copy, w)] } }
    if c.mirror.isEmpty then s
    else ((s.countMirrors c).addCopy h).sendCopies c h none edited edited c.mirror

/-- Forward a frame whose edits are done. -/
def State.deliverFwd (s : State) (c : Ctx) (stream : Option Nat) (f : Fwd) (base edited : Bytes) : State :=
  if c.acts.recirculate && c.w.pass2 then
    ((s.countIn c.w 0x25).eventGap 1000000000 0x0501 0 [c.w.ingress.getD 0xFFFF, c.tenant]).dropWith c edited
  else match f with
    | .dropTenant => (s.bump 0x5013 c.tenant 6 1).dropWith c edited
    | .drop =>
      if c.acts.recirculate && c.acts.fwdType = 0 then s.toRecirc c stream edited none else (s.countIn c.w 0x21).dropWith c edited
    | .copies ts lost =>
      if c.acts.recirculate then s.toRecirc c stream edited (if ts.length = 1 then ts.head? else none)
      else if (c.acts.fwdType ≠ 4 && c.acts.fwdType ≠ 6) && ts.any (fun t => c.loops t edited) then
        (s.countIn c.w 0x21).dropWith c edited
      else
        let s := (List.range lost).foldl (fun s _ => s.countIn c.w 0x21) s
        (s.countMirrors c).send c base edited (c.mirror ++ ts)

/-- Decapsulation and the VLAN operation (R96, R97): the frame without and with the VLAN operation, or the drop. -/
def State.edit (s : State) (c : Ctx) (bs : Bytes) : Option (Bytes × Bytes) × State :=
  let p := s.parse bs
  let f := if c.acts.decap = 0 then 0 else decapFault c.acts.decap p bs
  if f ≠ 0 then
    (none, (s.countIn c.w 0x27).eventLim 0x0506 (c.w.ingress.getD 0xFFFF) [c.w.ingress.getD 0xFFFF, f])
  else
    let base := if c.acts.decap = 0 then bs else decapsulate p bs
    match vlanEdit c.acts.vlanOp (c.acts.val 0x27) (c.acts.val 0x28) base with
    | none => (none, s.countIn c.w 0x21)
    | some e => (some (base, e), s)

/-- The length B of the frame's own action set (R95, R126). -/
def State.ownLen (s : State) (c : Ctx) : Nat :=
  let base := if c.acts.decap = 0 then c.bs else decapsulate (s.parse c.bs) c.bs
  let e := (vlanEdit c.acts.vlanOp (c.acts.val 0x27) (c.acts.val 0x28) base).getD base
  let encap := match s.forward c none with
    | .copies [t] _ => t.encap
    | _ => none
  s.sentLen encap c.acts.sa e

/-- Meter time of a frame in ns of station time (R126): the end of reception of a port frame, the slot grant of any other, and
of every frame on its second pass. -/
def Waiting.meterTime (w : Waiting) : Nat := if w.cls = 3 && !w.pass2 then w.rxTime else w.granted

/-- The meter of a frame decides (R127, R129). -/
def State.meterFrame (s : State) (c : Ctx) (m : Option Nat) : MeterAct × State :=
  match m with
  | none => (.forward, s)
  | some m => s.police m c.w.meterTime (s.ownLen c) c.parsed

/-- A frame that a replicate row numbers: the lowest valid row of its compound, all of them, and the number taken (R174). -/
structure Replica where
  comp  : Nat
  first : Nat
  rows  : List Nat
  seq   : Nat := 0

/-- The copies of a replicate compound: one for each row, in row order, on the row's stream. -/
def State.replicas (s : State) (c : Ctx) (r : Replica) : Fwd :=
  .copies (numbered (r.rows.map fun m =>
    { port := some (s.str (s.frerField m 7) 0x33), sa := c.acts.sa, stream := some (s.frerField m 7),
      rtag := if s.frerField m 8 = 1 then some r.seq else none, member := some r.first })) 0

/-- A frame that its meter passes takes the compound's next sequence number (R174). -/
def State.number (s : State) (r : Option Replica) : Option Replica × State :=
  match r with
  | none => (none, s)
  | some r =>
    let d := s.compound r.comp
    (some { r with seq := d.nextSeq }, s.setCompound r.comp { d with nextSeq := (d.nextSeq + 1) % 65536 })

/-- From the meter on: process data, mirror copies, edits, trap or forward (steps 5 to 8 of R75). A replicated frame that
recirculates keeps no stream (log entry 75). -/
def State.afterStages (s : State) (c : Ctx) (stream meter : Option Nat) (r : Option Replica) : State :=
  match s.meterFrame c meter with
  | (.drop, s) => s.countIn c.w 0x2A
  | (.lost, s) => s.countIn c.w 0x21
  | (a, s) =>
    let (r, s) := s.number r
    let bs := a.edit c.bs
    let s := s.processData c bs
    match s.edit c bs with
    | (none, s) => s.dropWith c bs
    | (some (base, edited), s) =>
      if c.acts.trap ≠ 0 then s.trapFrame c c.acts.trap base edited
      else if c.acts.val 0x2B = 1 && ttlEnds edited then s.trapFrame c 1 base edited
      else s.deliverFwd c stream (match r with
        | some r => s.replicas c r
        | none => s.forward c stream) base edited

/-- The stream that a frame is charged to, where it is admitted. -/
def Ctx.charged (c : Ctx) (s : State) (i : Option Nat) : Ctx := { c with stream := i.filter fun i => s.admitted i }

/-- A frame handed to replicate row `m` (R174): metered once by the lowest valid row of the compound, which it is charged
to. -/
def State.replicate (s : State) (c : Ctx) (m : Nat) : State :=
  let comp := s.frerField m 6
  let rows := s.replicateRows comp
  let first := rows.headD m
  let i := s.frerField first 7
  s.afterStages (c.charged s (some i)) none (some i) (some { comp := comp, first := first, rows := rows })

/-- The stream of a frame: kept on a second pass, of its recover row, or of the Stream field (R92, R166, R175). -/
def Ctx.streamOf (c : Ctx) (row : Option Nat) : Option Nat :=
  if c.w.pass2 && c.w.stream.isSome then c.w.stream else row.or c.acts.stream

/-- A frame with its stream known: dropped when that is not admitted, else metered by its contract, or on a second pass
of the stream by nothing (R92, R166). -/
def State.withStream (s : State) (c : Ctx) (row : Option Nat) : State :=
  match c.streamOf row with
  | none => s.afterStages { c with stream := none } none c.acts.meter none
  | some i =>
    if !s.admitted i then s.withdrawnDrop c.w
    else s.afterStages (c.charged s (some i)) (some i) (if c.w.pass2 && c.w.stream.isSome then none else some i) none

/-- Sequence functions of the FRER field, where it names a valid row (R172). -/
def State.frer (s : State) (c : Ctx) : State :=
  match (if c.w.pass2 && c.w.stream.isSome then none else c.acts.frer) with
  | none => s.withStream c none
  | some m =>
    if s.frerField m 4 = 0 then s.withStream c none
    else if s.frerField m 5 = 1 then s.replicate c m
    else match s.recover c m with
      | (none, s) => s
      | (some c, s) => s.withStream c (some (s.frerField m 7))

/-- Stages X and A and what follows them. -/
def State.runPass (s : State) (c : Ctx) : State :=
  let x := s.stageX c
  let a := x.2.stageA x.1
  let c := a.1.charged a.2 (a.1.streamOf none)
  let s := a.2
  if c.acts.lost || (s.stageE c).any (fun e => s.reloads 0x5011 e.row) then (s.countIn c.w 0x21).dropWith c c.bs
  else if c.acts.drop then ((s.countIn c.w 0x21).bump 0x5013 c.tenant 6 1).dropWith c c.bs
  else s.frer c

/-! ### Inline decryption (R181, R182, R206, R208) -/

/-- Home lane of a decryption (R119). -/
def State.decryptLane (s : State) (c : Ctx) : Nat :=
  s.laneOf <| match c.w.ingress with
    | some p => homeDecrypt (s.leadLane p)
    | none => 4 * c.w.pipe + c.tenant % 2

/-- What an SA miss logs: the SCI or the SPI. -/
def missId (how : Nat) (p : Parsed) : List Nat := if how = 1 then w64 p.sci else [p.outer.spi]

/-- The buffer that a frame has held up to its pass becomes free. -/
def State.freeOwn (s : State) (w : Waiting) : State :=
  match w.handle with
  | some h => s.freeBuf h
  | none => s

/-- Bytes of a lane's churn in use. -/
def State.churnUsed (s : State) (lane : Nat) : Nat :=
  ((s.cip.passes.filter fun x => x.lane == lane && x.start.isSome).map (·.churn.length)).sum

/-- The churn of a lane (R181). -/
abbrev churnSize : Nat := 65536

/-- Start one pass: its plaintext goes into the churn, under the packet number that its frame bears. -/
def State.startPass (s : State) (x : Pass) : State :=
  let p := s.parse x.frame.bytes
  let pn := s.passPn x.sa p x.frame.bytes
  let on := { x with pn := pn, churn := churnBytes x.sa p pn x.frame.bytes, start := some s.ps }
  { s with cip := { s.cip with passes := updFirst (fun y => y.id == x.id) (fun _ => on) s.cip.passes } }

/-- Start the passes that wait for a lane, in the order requested, while its churn has room; a stalled lane starts none. -/
def State.startPasses (s : State) (lane : Nat) : (fuel : Nat) → State
  | 0 => s
  | n + 1 =>
    match s.cip.passes.find? fun x => x.lane == lane && x.start.isNone with
    | none => s
    | some x =>
      if s.laneStalled lane || !s.engineRuns || churnSize < s.churnUsed lane + x.frame.bytes.length then s
      else (s.startPass x).startPasses lane n

/-- Start what a lane can start. -/
def State.wakeLane (s : State) (lane : Nat) : State := s.startPasses lane s.cip.passes.length

/-- A frame that needs a decryption pass: it goes to its lane with the SA it found, or is dropped and its buffer freed. -/
def State.beginDecrypt (s : State) (c : Ctx) (rows : List Nat) : State :=
  let how := c.acts.decrypt
  let lane := s.decryptLane c
  if !s.engineRuns then s.countCipherDrop.freeOwn c.w
  else if how = 1 && secTagBad c.bs then (s.inc 0x6000 0x14).freeOwn c.w
  else match s.findSa c.tenant how c.parsed c.bs with
    | none => ((s.inc 0x6000 0x12).eventGap 1000000000 0x0603 0 (c.tenant :: missId how c.parsed)).freeOwn c.w
    | some r =>
      if (s.slotKey r).isNone then (s.slotFailed r).freeOwn c.w
      else if s.laneStalled lane && decide (256 ≤ (s.cip.passes.filter (fun x => x.lane == lane)).length) then
        s.countCipherDrop.freeOwn c.w
      else
        let stream := ((c.streamOf none).any fun i => s.admitted i)
        let q := s.addWork lane .decrypt stream c.bs.length
        let s := q.2.inc 0x6000 0x10
        let p : Pass := { id := q.1, lane := lane, sa := s.sa r, frame := c.w, tenant := c.tenant, acts := c.acts,
                          tables := c.tables, version := c.version, rows := rows }
        { s with cip := { s.cip with passes := s.cip.passes ++ [p] } }.wakeLane lane

/-- Hits and the classified count of a frame (Tables 4-12, 4-13). -/
def State.countClassified (s : State) (tenant : Nat) (rows : List Nat) : State :=
  (rows.foldl (fun s r => s.hit 0x5011 r) s).bump 0x5013 tenant 4 1

/-- Where an authentication failure is logged: the port, or the tenant's function. -/
def Waiting.place (w : Waiting) : Nat := w.ingress.getD (tenantMaster w.tenant)

/-- The churn copy of a frame is dropped (R182): counted by the SA and, but for a trailer error, where R188 and R190 name a
counter of 0x6000. -/
def State.decryptFault (s : State) (x : Pass) : Receipt → State
  | .replay => ((s.countSa x.sa 0x25).inc 0x6000 0x13).eventLim 0x0602 x.sa.row [x.sa.row]
  | .auth => ((s.countSa x.sa 0x24).inc 0x6000 0x11).eventLim 0x0601 x.sa.row [x.sa.row, x.frame.place]
  | .trailer => s.countSa x.sa 0x26
  | .ok _ _ => s

/-- A verified frame takes effect: the window moves, the rows that won count, and stages X and A run on the plaintext. -/
def State.released (s : State) (x : Pass) (pn : Nat) (bs : Bytes) : State :=
  let s := (s.accept x.sa pn bs.length).countClassified x.tenant x.rows
  s.runPass { w := x.frame, bs := bs, parsed := s.parse bs, tables := x.tables, version := x.version, tenant := x.tenant,
              acts := x.acts, decrypted := true, recovered := x.frame.recovered }

/-- A pass ends (R182): its churn space is zeroed and freed, its ciphertext buffer is freed, and the frame is released or
dropped; then the lane starts what waits for churn. -/
def State.endPass (s : State) (x : Pass) : State :=
  let r := s.openPass x (s.parse x.frame.bytes)
  let s := { s with cip := { s.cip with passes := dropFirst (fun y => y.id == x.id) s.cip.passes } }.freeOwn x.frame
  let s := match r with
    | .ok pn bs => s.released x pn bs
    | r => s.decryptFault x r
  s.dropOlds.wakeLane x.lane

/-- A pass may be released now (R183): its blocks are done, and in Partitioned a whole multiple of 200 ns has passed since its
start. -/
def State.mayRelease (s : State) (x : Pass) : Bool :=
  match x.start with
  | none => false
  | some t => s.workDone x.id && !s.laneStalled x.lane
      && (!s.partitioned || (decide (t < s.ps) && decide ((s.ps - t) % 200000 = 0)))

/-- RELEASE_DECRYPTED (R182, R183): a pass completes. -/
def execReleaseDecrypted (pass : Nat) (s : State) : Host.Outcome State Fault Refusal :=
  .next <| match s.cip.passes.find? (fun x => x.id == pass) with
    | none => s
    | some x => if s.mayRelease x then s.endPass x else s

/-- A pass whose release is not put off any more (R183): at its multiple of 200 ns in Partitioned, 140 ns after its start for a
frame of an admitted stream in Pooled. -/
def State.releaseDue (s : State) (x : Pass) : Bool :=
  s.mayRelease x && (s.partitioned
    || ((x.frame.stream.or x.acts.stream).any (fun i => s.admitted i) && x.start.any fun t => decide (t + 140000 ≤ s.ps)))

/-- Release every pass that is due. -/
def State.releaseAll (s : State) : State :=
  (s.cip.passes.filter s.releaseDue).foldl (fun s x => s.endPass x) s

/-! ### The slot grant (R74) -/

/-- Order of the four classes in a cycle (R74). -/
def classRank (cycle cls : Nat) : Nat := if cycle % 8 = 7 then cls else (cls + 1) % 4

/-- The key of a host ring in the round robin. -/
def ringOrder (last : Nat) (w : Waiting) : Nat := (w.tenant * 64 + w.ring + 262144 - (last + 1)) % 262144

/-- One waiting frame goes before another of the same pipeline: by class, then port frames by end of reception and port,
host frames round robin by ring, recirculated frames of streams first, otherwise the earlier in the list. -/
def before (cycle last : Nat) (a b : Waiting) : Bool :=
  let ra := classRank cycle a.cls
  let rb := classRank cycle b.cls
  if ra ≠ rb then decide (ra < rb)
  else if a.cls = 3 then a.time < b.time || (a.time = b.time && decide (a.source.num < b.source.num))
  else if a.cls = 2 then decide (ringOrder last a < ringOrder last b)
  else if a.cls = 0 then a.stream.isSome && b.stream.isNone
  else false

/-- The frame of a pipeline that its next slot goes to. -/
def pickWaiting (cycle last k : Nat) (ws : List Waiting) : Option Waiting :=
  (ws.filter (fun w => w.pipe == k)).foldl (fun b w => match b with
    | none => some w
    | some x => if before cycle last w x then some w else some x) none

/-- The pass of a device frame: the fixed action set of its originator, no lookup (R73). -/
def State.devicePass (s : State) (w : Waiting) : State :=
  let acts : Actions := match w.egress with
    | some p => [⟨0x16, 1, true⟩, ⟨0x17, p, true⟩, ⟨0x18, w.queue, true⟩]
    | none => match w.vport with
      | some v => [⟨0x16, 2, true⟩, ⟨0x17, v, true⟩, ⟨0x18, w.queue, true⟩]
      | none => []
  s.withStream (s.begins w acts) w.stream

/-- A frame to a link-local address: only Drop of the T0000 row that wins at CS counts; otherwise the station trap ring
gets it with reason 0x02 (R74). -/
def State.linkLocalPass (s : State) (c : Ctx) (row : Option Nat) : State :=
  let drop := match row with
    | some r => decide (tcell c.tables 0x5011 r 0x25 = 1)
    | none => false
  let s := match row with
    | some r => s.hit 0x5011 r
    | none => s
  if drop then s.countIn c.w 0x21 else s.trapFrame { c with acts := [], tenant := 0 } 2 c.bs c.bs

/-- The pass of a frame that reaches the lookups. A frame to be decrypted keeps the buffer it holds until its release (R182). -/
def State.lookupPass (s : State) (c : Ctx) : State :=
  let rows := s.classifyRows c
  let acts := s.classify c rows
  let tenant := if c.w.source.kind = 1 || c.w.pass2 then c.w.tenant else acts.tenant.getD 0
  let found := { c with acts := acts, tenant := tenant }
  if linkLocal c.parsed.outer.dst then
    (s.freeOwn c.w).linkLocalPass c (s.ternary c.tables 0 1 0 ((s.keyCtx c).key classifyIds 76))
  else if rows.isEmpty then
    if c.w.source.kind = 1 then (s.freeOwn c.w).bump 0x5013 c.w.tenant 5 1 else (s.freeOwn c.w).countIn c.w 0x20
  else if acts.decrypt ≠ 0 && !acts.drop then s.beginDecrypt found rows
  else ((s.freeOwn c.w).countClassified tenant rows).runPass found

/-- The pass of a granted frame; in SAFE_HOLD every frame but those of the device is discarded (R385). -/
def State.pass (s : State) (w : Waiting) : State :=
  if w.cls = 1 then (s.freeOwn w).devicePass w
  else
    let c := s.begins w []
    match s.deviceFrame c.parsed.outer w.bytes with
    | some k => (s.freeOwn w).takeOwn k w.source.place c.parsed.outer w.bytes
    | none => if s.inHold then (s.freeOwn w).inc 0xB000 0x12 else s.lookupPass c

/-- A granted host frame is completed with the time of its grant (R260). -/
def State.grantDone (s : State) (w : Waiting) : State :=
  match w.txDone with
  | none => s
  | some t => s.entered t

/-- INGRESS_SLOT_GRANT: pipeline k grants one waiting frame its next slot (R74); host frames wait through SAFE_HOLD (R385). -/
def execIngressSlotGrant (k : Octet) (s : State) : Host.Outcome State Fault Refusal :=
  let cycle := max (NMap.at 0 s.net.cycle k.val) (s.clk.frcQ * 2 / 5)
  let last := NMap.at 0 s.net.ringPtr k.val
  .next <| match pickWaiting cycle last k.val (s.net.waiting.filter fun w => s.cmplReady w && !(s.inHold && w.cls = 2)) with
    | none => s
    | some w =>
      let s := { s with net := { s.net with
        waiting := dropFirst (fun x => decide (x = w)) s.net.waiting
        cycle := NMap.put 0 s.net.cycle k.val (cycle + 1)
        ringPtr := if w.cls = 2 then NMap.put 0 s.net.ringPtr k.val (w.tenant * 64 + w.ring) else s.net.ringPtr } }
      let w := { w with granted := s.tai, rxTime := if w.cls = 3 || w.pass2 then w.rxTime else s.tai }
      (s.grantDone w).pass w

/-- FRER_RECOVERY_RESET: no frame has passed for the reset timeout; the history of the compound resets (R175). -/
def execFrerRecoveryReset (compound : Fin 4096) (s : State) : Host.Outcome State Fault Refusal :=
  let rows := (rowsWith s.dict 0x4002 4).filter fun r =>
    decide (s.frerField r 5 = 2) && decide (s.frerField r 6 = compound.val)
  let d := s.compound compound.val
  .next <|
    if rows.isEmpty || d.take || s.now < d.lastPass + s.frerField (rows.headD 0) 0xB then s
    else
      let s := s.setCompound compound.val { d with take := true, history := [] }
      (rows.foldl (fun s r => s.bump 0x4002 r 0x16 1) s).event 0x0409 [compound.val]

end Sys2Proof.Machine
end

