-- ==== Sys2Proof/Machine/Bound.lean ====
section
/-! DEFINITION. Stream contracts and their bound (R155–R163): the record, windows, demand, the checks of Table 7-2, and
the impairments of R168. Times are in ps; within the computation of one queue every time is scaled by a common
denominator, so that it is exact. -/

namespace Sys2Proof.Machine

/-! ### Contracts -/

/-- A stream contract (Table 7-1), and the bound that it holds once admitted. -/
structure Contract where
  id       : Nat
  cls      : Nat
  owner    : Nat
  ingress  : Nat
  egress   : Nat
  flags    : Nat
  lin      : Nat
  lmax     : Nat
  lmin     : Nat
  cipher   : Nat
  tunnel   : Nat
  rate     : Nat
  burst    : Nat
  deadline : Nat
  upstream : Nat
  link     : Nat
  ceiling  : Nat
  replica  : Nat
  upnode   : Nat
  upid     : Nat
  granted  : Option Nat := none
  deriving DecidableEq, Repr

/-- Kind of the ingress. -/
def Contract.kind (c : Contract) : Nat := c.ingress / 65536

/-- Number of the ingress. -/
def Contract.num (c : Contract) : Nat := c.ingress % 65536

/-- SECOND_PASS. -/
def Contract.second (c : Contract) : Nat := c.flags % 2

/-- The contract that a request record holds (Table 7-1); reserved bits are ignored (R6). -/
def contractOf (b : Bytes) : Contract where
  id := be b 4 4
  cls := be b 1 1
  owner := be b 2 2
  ingress := be b 8 4 % 2 ^ 20
  egress := be b 12 2
  flags := be b 14 1 % 2
  lin := be b 16 2
  lmax := be b 18 2
  lmin := be b 20 2
  cipher := be b 22 1
  tunnel := be b 23 1
  rate := be b 24 4
  burst := be b 28 4
  deadline := be b 32 4
  upstream := be b 36 4
  link := be b 40 4
  ceiling := be b 44 4
  replica := be b 48 2
  upnode := be b 50 2
  upid := be b 52 4

/-- The contract of a row of 0x4000. -/
def State.contract (s : State) (i : Nat) : Contract :=
  let v := s.str i
  { id := i, cls := v 0x30, owner := v 0x31, ingress := v 0x32, egress := v 0x33, flags := v 0x34, lin := v 0x35,
    lmax := v 0x36, lmin := v 0x37, cipher := v 0x38, tunnel := v 0x39, rate := v 0x3A, burst := v 0x3B,
    deadline := v 0x3C, upstream := v 0x3D, link := v 0x3E, ceiling := v 0x3F, replica := v 0x40, upnode := v 0x41,
    upid := v 0x42, granted := some (v 0x15) }

/-- Contract fields with their subindices. -/
def Contract.fields (c : Contract) : List (Nat × Nat) :=
  [ (0x30, c.cls), (0x31, c.owner), (0x32, c.ingress), (0x33, c.egress), (0x34, c.flags), (0x35, c.lin), (0x36, c.lmax)
  , (0x37, c.lmin), (0x38, c.cipher), (0x39, c.tunnel), (0x3A, c.rate), (0x3B, c.burst), (0x3C, c.deadline)
  , (0x3D, c.upstream), (0x3E, c.link), (0x3F, c.ceiling), (0x40, c.replica), (0x41, c.upnode), (0x42, c.upid) ]

/-- Rows of 0x4000 that are not FREE, rising. -/
def State.streamRows (s : State) : List Nat := rowsWith s.dict 0x4000 4

/-- The admitted contracts. -/
def State.contracts (s : State) : List Contract := (s.streamRows.filter s.admitted).map s.contract

/-! ### PHY latency (Table 3-3) -/

/-- Transmit and receive latency of a mode and FEC, ns; 0 for a lane without a mode. -/
def phyLatency (mode fec : Nat) : Nat × Nat :=
  match mode with
  | 1 => (120, 180)
  | 2 => (120, 180)
  | 3 => (56, 80)
  | 4 => if fec = 1 then (60, 290) else (42, 64)
  | 5 => if fec = 2 then (40, 260) else if fec = 1 then (30, 130) else (26, 38)
  | 6 => (48, 210)
  | 7 => (40, 140)
  | 8 => (44, 150)
  | 9 => (48, 160)
  | 10 => (70, 200)
  | _ => (0, 0)

/-- PHY transmit latency of a port, ns. -/
def State.phyTx (s : State) (p : Nat) : Nat :=
  let l := laneIx (s.leadLane p)
  (phyLatency (s.ob l 1) (s.ob l 2)).1

/-! ### Path and burst (R158, R159) -/

/-- The path term in ps. -/
def State.pathPs (s : State) (c : Contract) : Nat :=
  (310 + 30 * c.tunnel + s.cipherNs * c.cipher + 250 * c.second) * 1000 + 625 * (c.replica - 16)

/-- Frames in a burst. -/
def State.burstFrames (s : State) (c : Contract) : Nat :=
  (8000000000 * c.burst + c.rate * (s.pathPs c - 90000)) / (8000000000 * c.lmin)

/-! ### Windows (R160) -/

/-- A window of a queue: its opening, its length, and whether a lower gate is open before and at the opening. -/
structure Win where
  start : Nat
  len   : Nat
  low   : Bool
  deriving Repr

/-- Entry states leave queue q (7 or 6) usable. -/
def usable (q st : Nat) : Bool := bit st q && (q == 7 || !bit st 7)

/-- A gate below q is open in both of two states. -/
def lowerOpen (q a b : Nat) : Bool := (List.range q).any fun k => bit a k && bit b k

/-- Windows of a run of entries (states, length) from time `t`; `prev` are the states before it, `cur` the open window. -/
def windowsOf (q : Nat) : (es : List (Nat × Nat)) → (t prev : Nat) → (cur : Option Win) → List Win
  | [], _, _, cur => cur.toList
  | (st, iv) :: r, t, prev, cur =>
    if usable q st then
      match cur with
      | some w => windowsOf q r (t + iv) st (some { w with len := w.len + iv })
      | none => windowsOf q r (t + iv) st (some { start := t, len := iv, low := lowerOpen q prev st })
    else cur.toList ++ windowsOf q r (t + iv) st none

/-- A list begun at its first entry that is not usable, so that windows that join across the cycle are one. -/
def rotated (q : Nat) (es : List (Nat × Nat)) : List (Nat × Nat) :=
  let n := (es.takeWhile fun e => usable q e.1).length
  es.drop n ++ es.take n

/-- Windows of one cycle of a list; `none` where the queue is usable in every entry and so has no window that ends. -/
def cycleWindows (q : Nat) (es : List (Nat × Nat)) : Option (List Win) :=
  if es.all fun e => usable q e.1 then none
  else
    let r := rotated q es
    some (windowsOf q r 0 ((r.getLast?.map (·.1)).getD 0) none)

/-! ### Covering the demand (R160) -/

/-- The terms of a queue (R159, R160), every time scaled by `den`. -/
structure Demand where
  den   : Nat
  /-- Scaled demand; scaled demand per ns of cycle. -/
  need  : Nat
  phi   : Nat
  tau   : Nat
  blow  : Nat
  deriving Repr

/-- A usable stretch: where it begins and how much time it has, scaled. -/
abbrev Stretch := Nat × Nat

/-- The usable stretches of windows (lengths in ns): those of positive length. -/
def Demand.stretches (d : Demand) (ws : List Win) : List Stretch :=
  ws.filterMap fun w =>
    let b := if w.low then d.blow else 0
    let n := 1000 * w.len * d.den
    if b + d.tau < n then some (1000 * w.start * d.den + b, n - b - d.tau) else none

/-- The longest usable window of a list is below 0: no window, or every one shorter than its b and tau. -/
def Demand.noWindow (d : Demand) (ws : List Win) : Bool :=
  ws.all fun w => decide (1000 * w.len * d.den < (if w.low then d.blow else 0) + d.tau)

/-- Within one stretch, the demand grows at the steps that pass before it is covered. -/
def takeSteps (t u used : Nat) : List Stretch → Nat → Nat × List Stretch
  | [], dem => (dem, [])
  | (x, inc) :: r, dem =>
    if x ≤ t || (x - t ≤ u && x - t + used ≤ dem) then takeSteps t u used r (dem + inc) else (dem, (x, inc) :: r)

/-- Time at which the usable time, consumed in order, first covers the demand; demand steps are (time, increment). -/
def cover : (ws steps : List Stretch) → (used dem : Nat) → Option Nat
  | [], _, _, _ => none
  | (t, u) :: r, steps, used, dem =>
    let q := takeSteps t u used steps dem
    if q.1 ≤ used + u then some (t + (q.1 - used)) else cover r q.2 (used + u) q.1

/-- Whole cycles that can pass before the demand is covered. -/
def Demand.cycles (d : Demand) (sum per : Nat) : Nat := if sum ≤ per then 3 else (d.need + sum) / (sum - per) + 3

/-- Steps of the demand at whole multiples of a cycle after a time. -/
def stepsFrom (t cycle inc n : Nat) : List Stretch := (List.range n).map fun k => (t + (k + 1) * cycle, inc)

/-- The largest of some times; `none` when one of them is infinite. -/
def largest (l : List (Option Nat)) : Option Nat := if l.any Option.isNone then none else some ((l.filterMap id).foldl max 0)

/-- The largest time to cover the demand over the windows of one list with cycle `c` ns; `none` when it is never covered. -/
def Demand.single (d : Demand) (ws : List Stretch) (c : Nat) : Option Nat :=
  let cyc := 1000 * c * d.den
  let n := d.cycles (ws.map (·.2)).sum (d.phi * c)
  let times := (List.range ws.length).map fun j =>
    let before := (ws.drop (j + ws.length - 1 - if j = 0 then 0 else ws.length)).headD (0, 0)
    let org := before.1 + before.2 + (if j = 0 then 0 else cyc)
    let all := (List.range (n + 1)).flatMap fun k => ws.map fun w => (w.1 + (k + 1) * cyc, w.2)
    cover ((all.drop j).map fun w => (w.1 - org, w.2)) (stepsFrom 0 cyc (d.phi * c) n) 0 d.need
  largest times

/-- The largest time to cover the demand from an operative window on across the swap from list `g` to list `h` (R161): `m`
operative cycles, then pending ones; `n` cycles of `h` cover the demand. Every operative window is an origin, so that demand that
spills past the base time is counted. -/
def Demand.swap (d : Demand) (q : Nat) (g h : GateList) (m n : Nat) : Option Nat :=
  let segs := ((List.range m).flatMap fun _ => g.entries) ++ (List.range (n + 2)).flatMap fun _ => h.entries
  let base := 1000 * (m * g.cycle) * d.den
  let ws := d.stretches (windowsOf q segs 0 ((g.entries.getLast?.map (·.1)).getD 0) none)
  let co := 1000 * g.cycle * d.den
  largest <| (ws.filter fun w => decide (w.1 < base)).map fun w =>
    let org := w.1 + w.2
    let later := (ws.filter fun x => decide (org ≤ x.1)).map fun x => (x.1 - org, x.2)
    let early := (stepsFrom 0 co (d.phi * g.cycle) m).filter fun x => decide (org + x.1 ≤ base)
    cover later (early ++ stepsFrom (max base org - org) (1000 * h.cycle * d.den) (d.phi * h.cycle) (n + 2)) 0 d.need

/-- Cycles of a list in which the demand is covered, if at all. -/
def Demand.cyclesOf (d : Demand) (q : Nat) (g : GateList) : Nat :=
  match cycleWindows q g.entries with
  | some ws => d.cycles ((d.stretches ws).map (·.2)).sum (d.phi * g.cycle)
  | none => d.cycles (1000 * g.cycle * d.den) (d.phi * g.cycle)

/-! ### A queue of a port (R159–R161) -/

/-- The terms of queue q of a port that carries the contracts `cs`. -/
def State.demand (s : State) (p q : Nat) (cs : List Contract) : Demand :=
  let r := s.rate p
  let idle := if q = 6 then s.ob (schedIx p) (qSub 6 3) else 1
  let lam := cs.foldl (fun n c => Nat.lcm n (max 1 c.lmin)) 1
  let w := fun (c : Contract) => s.wireBytes p c.lmax
  let e := (cs.map fun c => s.burstFrames c * w c).sum
  let phi := (cs.map fun c => c.rate * w c * (lam / max 1 c.lmin)).sum
  let big := (cs.map w).foldl max 0
  { den := r * idle * lam
    need := if q = 6 then 8000000000 * (e + big) * r * lam else 8000000 * e * lam
    phi := if q = 6 then phi * 1000 * r else phi
    tau := big * 8000000 * idle * lam
    blow := s.wireBytes p (s.ob (portIx p) 5) * 8000000 * idle * lam }

/-- Check 5 without windows: phi above the rate of the port or, for Q6, above the idle slope. -/
def State.phiTooHigh (s : State) (p q : Nat) (cs : List Contract) : Bool :=
  let r := s.rate p
  let lam := cs.foldl (fun n c => Nat.lcm n (max 1 c.lmin)) 1
  let phi := (cs.map fun c => c.rate * s.wireBytes p c.lmax * (lam / max 1 c.lmin)).sum
  decide (1000 * r * lam < phi) || (q == 6 && decide (s.ob (schedIx p) (qSub 6 3) * lam < phi))

/-- Check 4 without windows (Table 7-2, Table 7-3): Q7 with gate control off or with a shaper, Q6 with its shaper off. -/
def State.queueShut (s : State) (p q : Nat) : Bool :=
  if q = 7 then s.ob (gateIx p) 1 = 0 || s.ob (schedIx p) (qSub 7 2) = 1
  else s.ob (schedIx p) (qSub 6 2) = 0 || s.ob (schedIx p) (qSub 6 3) = 0

/-- What the windows of a queue give: failing codes 4 and 5, and dq scaled by the demand's denominator; check 5 fails too where
the demand is never covered, and dq then has no value. -/
def Demand.fit (d : Demand) (q : Nat) (op pend : Option GateList) : List Nat × Option Nat :=
  let lists := op.toList ++ pend.toList
  let wins := lists.map fun g => (g, cycleWindows q g.entries)
  let four := wins.any fun x => match x.2 with
    | none => false
    | some ws => d.noWindow ws
  let five := wins.any fun x => match x.2 with
    | none => false
    | some ws => decide (((d.stretches ws).map (·.2)).sum ≤ d.phi * x.1.cycle)
  if four then (4 :: (if five then [5] else []), none)
  else
    let each := wins.map fun x => match x.2 with
      | none => some (d.blow + d.need)
      | some ws => d.single (d.stretches ws) x.1.cycle
    let across := match op, pend with
      | some g, some h =>
        match cycleWindows q g.entries, cycleWindows q h.entries with
        | none, none => some 0
        | _, _ => d.swap q g h (d.cyclesOf q g) (d.cyclesOf q h)
      | _, _ => some 0
    let dq := largest (across :: each)
    (if five || dq.isNone then [5] else [], dq)

/-- Codes 4 and 5 that fail for queue q of a port with contracts `cs`, and dq with its denominator. -/
def State.queueTerms (s : State) (p q : Nat) (cs : List Contract) : List Nat × Option (Nat × Nat) :=
  let five := if s.phiTooHigh p q cs then [5] else []
  if s.queueShut p q then (4 :: five, none)
  else
    let d := s.demand p q cs
    let plain := (five, some (d.blow + d.need, d.den))
    if s.ob (gateIx p) 1 = 0 then plain
    else match s.operative p, s.pendingList p with
      | none, none =>
        if q = 6 && usable 6 (s.ob (gateIx p) 2 % 128) then plain else (4 :: five, none)
      | op, pend =>
        let x := d.fit q op pend
        (x.1 ++ five, x.2.map fun n => (n, d.den))

/-! ### The checks of Table 7-2 -/

/-- What admission finds for one stream: every failing code of 1–7, and B in ns. -/
structure Finding where
  codes : List Nat
  bound : Option Nat
  deriving Repr

/-- A port reads ABSENT. -/
def State.portAbsent (s : State) (p : Nat) : Bool := s.ob (portIx p) 2 = 0

/-- Checks 1–3 that fail for a contract. -/
def State.portChecks (s : State) (c : Contract) : List Nat :=
  let inPort := c.kind == 0
  if s.portAbsent c.egress || (inPort && s.portAbsent c.num) then [1]
  else
    (if s.ob (portIx c.egress) 6 = 1 then [2] else [])
      ++ (if s.ob (portIx c.egress) 5 < c.lmax || (inPort && decide (s.ob (portIx c.num) 5 < c.lin)) then [3] else [])

/-- Handoff for a granted bound (R163). -/
def State.handoff (s : State) (c : Contract) (g : Nat) : Nat := c.upstream + g + s.phyTx c.egress + c.link

/-- The findings for a contract beside the contracts `cs` (R158–R163). -/
def State.judge (s : State) (cs : List Contract) (c : Contract) : Finding :=
  let first := s.portChecks c
  if first = [1] then { codes := [1], bound := none }
  else
    let q := c.cls
    let t := s.queueTerms c.egress q (cs.filter fun x => x.egress == c.egress && x.cls == q)
    match t.2 with
    | none => { codes := first ++ t.1, bound := none }
    | some (dq, den) =>
      let b := ceilDiv (dq + s.pathPs c * den) (1000 * den)
      let g := c.granted.getD (max b c.ceiling)
      { codes := first ++ t.1 ++ (if c.deadline < s.handoff c g then [6] else [])
                  ++ (if c.granted.any (· < b) then [7] else [])
        bound := some b }

/-- The lowest failing code; 0 when every check passes. -/
def Finding.cause (f : Finding) : Nat := f.codes.foldl (fun n c => if n = 0 then c else min n c) 0

/-- The state as it would be under a profile (R158). -/
def State.under (s : State) (profile : Nat) : State := s.setOb 0x1001 2 profile

/-- The profile that a change is also checked under, while one is pending (R14). -/
def State.pendingProfile (s : State) : Option Nat :=
  if s.ob 0x1001 1 = s.ob 0x1001 2 then none else some (s.ob 0x1001 1)

/-- B of a contract beside the contracts `cs`: the larger under both profiles while one is pending (R158). -/
def State.boundOf (s : State) (cs : List Contract) (c : Contract) : Option Nat :=
  let b := (s.judge cs c).bound
  match s.pendingProfile with
  | none => b
  | some v => match b, ((s.under v).judge cs c).bound with
    | some x, some y => some (max x y)
    | _, _ => none

/-- The B that a refusal reports: 0 where it cannot be computed because check 1 or 4 failed; no value is given where the demand is
never covered. -/
def State.reportedBound (s : State) (cs : List Contract) (c : Contract) : Nat × State :=
  match s.boundOf cs c with
  | some b => (b, s)
  | none =>
    let codes := (s.judge cs c).codes ++ (s.pendingProfile.map fun v => ((s.under v).judge cs c).codes).getD []
    if codes.contains 1 || codes.contains 4 then (0, s) else s.draw

/-- B of an admitted stream under the present configuration (0x4000:14); 0 where it cannot be computed. -/
def State.presentBound (s : State) (i : Nat) : Nat := (s.boundOf s.contracts (s.contract i)).getD 0

/-- Handoff of an admitted stream (0x4000:16), with the PHY latency that its egress port has now. -/
def State.presentHandoff (s : State) (i : Nat) : Nat := s.handoff (s.contract i) (s.str i 0x15)

/-! ### Impairments (R168) -/

/-- The cipher lanes published for a stream. -/
def State.streamLanes (s : State) (i : Nat) : List Nat :=
  [s.cell 0x9312 i 4, s.cell 0x9312 i 5].filter (· != 0xFF)

/-- A failover of the stream's frame unit or cipher lane is in progress, a fabric link of its ports retrains, or its lane
carries two roles (R364, R366, R370). -/
def State.failingOver (s : State) (i : Nat) : Bool :=
  let c := s.contract i
  s.blocked c.egress || (c.kind == 0 && s.blocked c.num)
    || (s.streamLanes i).any fun l => s.flt.shared.contains l || s.flt.taking.any fun e => decide (e.2 = some l)

/-- The cause that impairs an admitted stream; 0 for none. -/
def State.impairment (s : State) (i : Nat) : Nat :=
  let c := s.contract i
  if !s.up c.egress || (c.kind == 0 && !s.up c.num) then 1
  else if c.cls = 7 && (!s.timeValid || (s.sched c.egress).stepped.isSome) then 2
  else if s.ob (gateIx c.egress) 1 = 1 && (s.operative c.egress).isNone then 3
  else if s.failingOver i then 4
  else 0

/-- Bring the impairment of one stream up to date. -/
def State.impairOne (s : State) (i : Nat) : State :=
  let c := s.impairment i
  if c = s.str i 0x19 then s
  else
    let s := s.setCell 0x4000 i 0x19 c
    if c = 0 then s.event 0x0407 [i] else s.eventLim 0x0406 i [i, c]

/-- Bring the impairments of the admitted streams up to date. -/
def State.impair (s : State) : State := (s.streamRows.filter s.admitted).foldl State.impairOne s

end Sys2Proof.Machine
end

