-- ==== Sys2Proof/Machine/Ptp.lean ====
section
/-! DEFINITION. PTP messages that the device sends, and their timestamps (R56, R326, R328). What the manual leaves to IEEE 1588 and
802.1AS is taken from them (PRESUMED, log entry 82). -/

namespace Sys2Proof.Machine

/-! ### Rows, clocks, timestamps -/

/-- State of a row of 0x1220 behind the table. -/
def State.ptpDyn (s : State) (row : Nat) : PtpDyn := NMap.at {} s.clk.ptp row

/-- Set it. -/
def State.setPtpDyn (s : State) (row : Nat) (d : PtpDyn) : State :=
  { s with clk := { s.clk with ptp := NMap.put {} s.clk.ptp row d } }

/-- PHY latencies of a row in ns, transmit and receive (Table 3-3): of a port those of its lead lane, of a management lane those of
1000BASE-X. -/
def State.ptpLatency (s : State) (row : Nat) : Nat × Nat :=
  if row < 1024 then (s.ob (laneIx (s.leadLane row)) 8, s.ob (laneIx (s.leadLane row)) 9) else (120, 180)

/-- The receive timestamp of a message that passes the reference plane now, referred to the balls, in 2⁻¹⁶ ns (R328). -/
def State.rxStamp (s : State) (row : Nat) : Nat := s.clk.tai - (s.ptpLatency row).2 * 65536

/-- The transmit timestamp of a frame whose preamble started at `start` ps of the free-running count: the first bit behind the start
delimiter, referred to the balls. -/
def State.txStamp (s : State) (row start : Nat) : Nat :=
  let sfd := if row < 1024 && s.rate row ≠ 0 then 64000000 / s.rate row else 64000
  s.clk.tai - (s.ps - start) * 65536 / 1000 + sfd * 65536 / 1000 + (s.ptpLatency row).1 * 65536

/-- The instance of a row, and its profile: 1 802.1AS, 2 end to end, 3 peer to peer. -/
def State.ptpInst (s : State) (row : Nat) : Nat := s.cell 0x1220 row 5
def State.ptpProfile (s : State) (row : Nat) : Nat := s.cell 0x1210 (s.ptpInst row) 5

/-- The device's clock identity: from the address of M0. -/
def clockId : Bytes := let m := placeMac (.mgmt .m0); m.take 3 ++ [0xFF, 0xFE] ++ m.drop 3

/-- The place of a row of 0x1220. -/
def rowPlace (row : Nat) : DoluxPlace :=
  if h : row < 1024 then .port ⟨row, h⟩ else if row = 1024 then .mgmt .m0 else .mgmt .m1

/-! ### Messages -/

/-- A timestamp of a message: seconds and nanoseconds; its fraction goes into the correction field. -/
def ptpTime (t : Nat) : Bytes := toBE 6 (t / 65536 / 1000000000) ++ toBE 4 (t / 65536 % 1000000000)

/-- A message of a row: type, sequence number, correction in 2⁻¹⁶ ns, body. -/
def State.ptpBytes (s : State) (row typ seq corr : Nat) (body : Bytes) : Bytes :=
  let twoStep := if typ = 0 || typ = 3 then 2 else 0
  let log := if typ = 0 || typ = 8 then s.cell 0x1220 row 6 else if typ = 2 then s.cell 0x1220 row 7 else 0x7F
  toBE 1 ((if s.ptpProfile row = 1 then 0x10 else 0) + typ) ++ [2] ++ toBE 2 (34 + body.length)
    ++ toBE 1 (s.cell 0x1210 (s.ptpInst row) 6) ++ [0] ++ toBE 1 twoStep ++ [0] ++ toBE 8 corr ++ zeros 4 ++ clockId
    ++ toBE 2 (row + 1) ++ toBE 2 seq ++ [0] ++ toBE 1 log ++ body

/-- The frame that carries a message, by the instance's transport (0x1210:09; the lowest that it names): on Ethernet to the group of
802.1AS and of peer delay or to that of IEEE 1588, or on UDP. -/
def State.ptpFrame (s : State) (row typ : Nat) (msg : Bytes) : Bytes :=
  let via := s.cell 0x1210 (s.ptpInst row) 9
  let mac := placeMac (rowPlace row)
  let port := if typ < 8 then 319 else 320
  let u := toBE 2 port ++ toBE 2 port ++ toBE 2 (8 + msg.length) ++ [0, 0] ++ msg
  let udp := fun (src dst : Bytes) => withSum u 6 (pseudoSum src dst 17 u)
  if s.ptpProfile row = 1 || bit via 0 then
    (if s.ptpProfile row = 1 || typ = 2 || typ = 3 || typ = 0xA then [0x01, 0x80, 0xC2, 0, 0, 0x0E] else [0x01, 0x1B, 0x19, 0, 0, 0])
      ++ mac ++ [0x88, 0xF7] ++ msg
  else if bit via 1 then
    let l : Layer := { parseLayer [] 0 with ip := 4, proto := 17, ipDst := s.ob 0x1101 3, ipSrc := 0xE0000181 }
    [0x01, 0x00, 0x5E, 0x00, 0x01, 0x81] ++ mac ++ [0x08, 0x00] ++ answerIp l 64 (udp (toBE 4 l.ipDst) (toBE 4 l.ipSrc))
  else
    let l : Layer := { parseLayer [] 0 with ip := 6, proto := 17, ipDst := s.ob 0x1101 2, ipSrc := 0xFF0E * 2 ^ 112 + 0x181 }
    [0x33, 0x33, 0x00, 0x00, 0x01, 0x81] ++ mac ++ [0x86, 0xDD] ++ answerIp l 64 (udp (toBE 16 l.ipDst) (toBE 16 l.ipSrc))

/-- Send a frame of a row: through its port's Q5, or on its management lane. -/
def State.ptpOut (s : State) (row : Nat) (frame : Bytes) : State :=
  let s := s.bump 0x1220 row 0xD 1
  match rowPlace row with
  | .port p => s.originate p.val frame
  | .mgmt m => s.sendMgmt m frame
  | .vport _ => s

/-- Send a general message: one that takes no timestamp. -/
def State.ptpGeneral (s : State) (row typ seq corr : Nat) (body : Bytes) : State :=
  s.ptpOut row (s.ptpFrame row typ (s.ptpBytes row typ seq corr body))

/-- The PTP message that a frame of the device's own carries. -/
def ownPtp (frame : Bytes) : Option Bytes :=
  let l := parseLayer frame 0
  if l.etype = 0x88F7 then some (frame.drop l.l3)
  else if l.dport = 319 then l.udpAt.map frame.drop
  else none

/-- A frame of a row starts: of a Sync the Follow_Up brings its transmit timestamp, of a Pdelay response its own Follow_Up; that of a
request is kept (R326, R328). -/
def State.ptpStarts (s : State) (row start : Nat) (frame : Bytes) : State :=
  match ownPtp frame with
  | none => s
  | some m =>
    let typ := be m 0 1 % 16
    let t := s.txStamp row start
    if typ = 0 then s.ptpGeneral row 8 (be m 30 2) (t % 65536) (ptpTime t)
    else if typ = 3 then s.ptpGeneral row 0xA (be m 30 2) (t % 65536) (ptpTime t ++ slice m 44 10)
    else if typ = 1 || typ = 2 then s.setPtpDyn row { s.ptpDyn row with sent := some t }
    else s

/-- Send an event message: on a management lane it starts at once. -/
def State.ptpEvent (s : State) (row typ seq : Nat) (body : Bytes) : State :=
  let frame := s.ptpFrame row typ (s.ptpBytes row typ seq 0 body)
  let s := s.ptpOut row frame
  if row < 1024 then s else s.ptpStarts row s.ps frame

/-- The next sequence number of a row: its count of messages sent. -/
def State.ptpSeq (s : State) (row : Nat) : Nat := s.cell 0x1220 row 0xD % 65536

/-- clockClass as grandmaster: 6 LOCKED on PPS_IN, 7 in HOLDOVER while valid, else 248 (R326). -/
def State.clockClass (s : State) : Nat :=
  if s.ob 0x1200 1 = 2 && s.ob 0x1200 3 = 5 then 6
  else if s.ob 0x1200 1 = 3 && s.ob 0x1200 2 = 1 then 7
  else 248

/-- The body of the Announce that a grandmaster sends. -/
def State.announce (s : State) (row : Nat) : Bytes :=
  let i := s.ptpInst row
  zeros 10 ++ toBE 2 (s.cell 0x1210 i 0xD) ++ [0] ++ toBE 1 (s.cell 0x1210 i 7) ++ toBE 1 s.clockClass ++ [0xFE, 0xFF, 0xFF]
    ++ toBE 1 (s.cell 0x1210 i 8) ++ clockId ++ [0, 0, 0xA0]

/-- The rows of an enabled instance in a state of 0x1220:0A. -/
def State.ptpRows (s : State) (i st : Nat) : List Nat :=
  (s.dict.filterMap fun e =>
    if e.1 / 2 ^ 40 = 0x1220 && e.1 % 256 = 0xA && e.2 = st then some (e.1 / 256 % 2 ^ 32) else none).filter fun r =>
      decide (s.ptpInst r = i)

/-- A row of an instance that follows no other clock announces it; :0A reads MASTER (R326, log entry 12). -/
def State.ptpAnnounce (s : State) (row : Nat) : State :=
  if s.cell 0x1220 row 0xA = 2 && (s.ptpRows (s.ptpInst row) 5).isEmpty then s.ptpGeneral row 0xB (s.ptpSeq row) 0 (s.announce row)
  else s

/-- Every master row announces the device's clock anew: its class has changed. -/
def State.announceAll (s : State) : State := ((List.range 4).flatMap fun i => s.ptpRows i 2).foldl State.ptpAnnounce s

end Sys2Proof.Machine
end

