-- ==== Sys2Proof/Machine/Egress.lean ====
section
/-! DEFINITION. What happens at a port (R63–R69, R134–R137, R143, R184, R185, R194): reception, PAUSE, the choice of the
next frame, its egress work and its time on the wire, discards, and the recirculation path (R100). -/

namespace Sys2Proof.Machine

/-! ### Going back to the queues (R136) -/

/-- The deficits of Q0–Q4. -/
def State.deficits (s : State) (p : Nat) : List Nat := (List.range 5).map fun q => s.ob (schedIx p) (qSub q 8)

/-- Set the deficits of Q0–Q4. -/
def State.setDeficits (s : State) (p : Nat) (ds : List Nat) : State :=
  ((List.range 5).zip ds).foldl (fun s x => s.setOb (schedIx p) (qSub x.1 8) x.2) s

/-- Put selected frames back at the heads of their queues, the last first; a packet number they took is skipped (R185). -/
def State.putBack (s : State) (p : Nat) : List Slot → State
  | [] => s
  | x :: r =>
    let s := s.putBack p r
    let row := portRow p x.queue
    let s := match x.pn, x.copy.sa with
      | some _, some sa => s.bump 0x6010 sa 0x27 1
      | _, _ => s
    s.setQueue row (x.copy :: s.queue row)

/-- Work of a lane that encrypts a frame of a port which has not started. -/
def LaneWork.unstarted (p : Nat) (xs : List Slot) (x : LaneWork) : Bool :=
  match x.kind with
  | .transmit q start => q == p && xs.any fun y => y.start == start
  | _ => false

/-- Every frame of a port that is selected and not started goes back; deficits, flag and pointer return (R136). Its ciphertext
is lost (R185). -/
def State.unselect (s : State) (p : Nat) : State :=
  let d := s.sched p
  match d.selected with
  | [] => s
  | x :: _ =>
    let s := s.endWork (LaneWork.unstarted p d.selected)
    let s := (s.putBack p d.selected).setDeficits p x.defs
    s.setSched p { d with selected := [], ptr := x.ptr, act := x.act, free := (d.wire.map (·.fin)).getD 0 }

/-! ### PAUSE (R68, R69) -/

/-- The port is paused. -/
def State.paused (s : State) (p : Nat) : Bool := decide (s.ps < (s.sched p).pauseEnd)

/-- Add the pause that has run so far to :1D, and restart or end the timer. -/
def State.setPause (s : State) (p fin : Nat) : State :=
  let d := s.sched p
  let ran := min s.ps d.pauseEnd - d.pauseBeg
  let s := s.bump (portIx p) 0 0x1D (ran / 1000)
  let s := (s.setOb (portIx p) 9 (decide (s.ps < fin)).toNat).setOb (portIx p) 0xA ((fin - s.ps) / 1000)
  s.setSched p { s.sched p with pauseEnd := if s.ps < fin then fin else 0, pauseBeg := if s.ps < fin then s.ps else 0 }

/-- A PAUSE of a port (R69): ignored and counted, or it loads the timer; selected frames that cannot start then go back. -/
def State.pauseFrame (s : State) (p quanta : Nat) : State :=
  if s.ob (portIx p) 6 = 0 then s.inc (portIx p) 0x18
  else
    let s := s.inc (portIx p) 0x17
    let fin := s.ps + (if s.rate p = 0 then 0 else quanta * 512 * 1000000 / s.rate p)
    let s := (s.settle p).setPause p fin
    if s.paused p && (s.sched p).selected.any (fun x => decide (x.start < fin)) then s.unselect p else s

/-- PAUSE: a PAUSE frame of a port that is UP (R69). -/
def execPause (p : Port) (quanta : Nat) (s : State) : Host.Outcome State Fault Refusal :=
  .next (if s.up p.val then s.pauseFrame p.val (quanta % 65536) else s)

/-- PAUSE_TIMER_EXPIRY: the timer has run out and the port starts frames again (R69). -/
def execPauseTimerExpiry (p : Port) (s : State) : Host.Outcome State Fault Refusal :=
  let d := s.sched p.val
  .next (if d.pauseEnd = 0 || s.ps < d.pauseEnd then s else s.setPause p.val 0)

/-! ### Reception (R63) -/

/-- A MAC control frame (R68): PAUSE to its address, everything else counted in :19. -/
def State.macControl (s : State) (p : Nat) (f : Bytes) : State :=
  if be f 0 6 = 0x0180C2000001 && be f 14 2 = 1 then s.pauseFrame p (be f 16 2) else s.inc (portIx p) 0x19

/-- A frame passed to its ingress pipeline. -/
def State.portFrame (s : State) (p : Nat) (f : Bytes) : State :=
  let s := (s.inc (portIx p) 0x10).bump (portIx p) 0 0x11 f.length
  let w : Waiting := { pipe := p / 128, cls := 3, time := s.now, bytes := f.take (f.length - 4),
                       fcs := some (le f (f.length - 4) 4), source := ⟨0, p⟩, ingress := some p, rxTime := s.tai }
  { s with net := { s.net with waiting := s.net.waiting ++ [w] } }

/-- The maximum frame that held when a frame of L bytes that ends now started (R63). -/
def State.maxAt (s : State) (p len : Nat) : Nat :=
  let start := s.ps - (if s.rate p = 0 then 0 else len * 8000000 / s.rate p)
  match ((s.sched p).maxWas.filter fun x => decide (start < x.2)).getLast? with
  | some x => x.1
  | none => s.ob (portIx p) 5

/-- The coding report of a frame counts in :10–:12 of the port's lead lane (Table 3-7, log entry 66). -/
def State.countCoding (s : State) (p : Nat) (c : Coding) : State :=
  let ix := laneIx (s.leadLane p)
  ((s.bump ix 0 0x10 c.symbols).bump ix 0 0x11 c.corrected).bump ix 0 0x12 c.uncorrectable

/-- FRAME_RECEIVED: a frame with its FCS ends at a port; `coding` is what PCS and FEC report of it (R63). A port that is
not UP receives nothing (log entry 31); during a failover frames are dropped at the lane die (R364, R370). -/
def execFrameReceived (p : Port) (frame : Bytes) (coding : Coding) (s : State) : Host.Outcome State Fault Refusal :=
  let ix := portIx p.val
  .next <|
    if !s.up p.val then s
    else
    let s := s.countCoding p.val coding
    if s.blocked p.val then s.inc ix 0x30
    else if frame.length < 64 then s.inc ix 0x15
    else if s.maxAt p.val frame.length < frame.length then s.inc ix 0x16
    else if decide (0 < coding.symbols + coding.uncorrectable) || decide (crc32 (frame.take (frame.length - 4)) ≠ le frame (frame.length - 4) 4) then s.inc ix 0x14
    else if be frame 12 2 = 0x8808 then s.macControl p.val frame
    else s.portFrame p.val frame

/-! ### Deficit round robin (R137) -/

/-- What a round robin asks of its members. -/
structure DrrView where
  empty    : Nat → Bool
  eligible : Nat → Bool
  size     : Nat → Nat
  quantum  : Nat → Nat
  single   : Nat → Bool
  next     : Nat → Nat
  members  : Nat

/-- The loop of R137; `fuel` bounds the visits. -/
def drr (v : DrrView) : (fuel visits : Nat) → Drr → Option Nat × Drr
  | 0, _, d => (none, d)
  | n + 1, visits, d =>
    let q := d.ptr
    if v.members ≤ visits then (none, d)
    else if v.empty q then
      drr v n (visits + 1) { ptr := v.next q, act := false, defs := NMap.put 0 d.defs q 0 }
    else if !v.eligible q then drr v n (visits + 1) { d with ptr := v.next q, act := false }
    else
      let have_ := NMap.at 0 d.defs q + (if d.act then 0 else v.quantum q)
      if v.size q ≤ have_ then
        if v.single q then (some q, { ptr := v.next q, act := false, defs := NMap.put 0 d.defs q 0 })
        else (some q, { d with act := true, defs := NMap.put 0 d.defs q (have_ - v.size q) })
      else drr v n 0 { ptr := v.next q, act := false, defs := NMap.put 0 d.defs q have_ }

/-! ### Heads (R64, R134, R143, R184, R194) -/

/-- A head copy is ready: fetched (R118), and for an egress SA everything of R184 holds. -/
def State.ready (s : State) (p : Nat) (c : QCopy) : Bool :=
  c.fetched && c.sa.all fun r => s.saReady r (s.encryptLane (some p) 0)

/-- Why a head copy is discarded before any selection. -/
inductive HeadFault where
  | oversize
  | window
  | exhausted
  | stopped
  | slot
  | memory
  deriving DecidableEq, Repr

/-- The fault of a copy whose egress SA cannot protect it: exhausted, the engine stopped, its key slot failed (R194, R196,
R208). -/
def State.saFault (s : State) (c : QCopy) : Option HeadFault :=
  match c.sa with
  | none => none
  | some r => if s.exhausted r then some .exhausted else if !s.engineRuns then some .stopped
    else if s.saField r 4 = 1 && (s.slotKey r).isNone then some .slot else none

/-- The fault of a head copy of queue q of a port; behind a gate shut in every entry it waits (R143, R147). -/
def State.headFault (s : State) (p q : Nat) (c : QCopy) : Option HeadFault :=
  if c.bad then some .memory
  else if s.ob (portIx p) 5 < c.wireLen then some .oversize
  else if (s.saFault c).isSome then s.saFault c
  else match s.longestWindow p q with
    | none => none
    | some n => if 0 < n && n < s.wirePs p c.wireLen then some .window else none

/-- Count a head fault. -/
def State.countHead (s : State) (p q : Nat) (c : QCopy) : HeadFault → State
  | .oversize =>
    let s := s.inc (portIx p) 0x1C
    match c.sa with
    | some r => if s.saField r 6 = 4 then s.bump 0x6010 r 0x26 1 else s
    | none => s
  | .exhausted => s.bump 0x6010 (c.sa.getD 0) 0x26 1
  | .stopped => s.countCipherDrop
  | .slot => s.slotFailed (c.sa.getD 0)
  | .memory => s.inc (portIx p) 0x31
  | .window => (s.inc (portIx p) 0x2E).eventGap 1000000000 0x0306 0 [p, q]

/-- Discard the heads of a queue that cannot be sent, up to `n` of them. -/
def State.purge (s : State) (p q : Nat) : Nat → State
  | 0 => s
  | n + 1 =>
    match s.queue (portRow p q) with
    | [] => s
    | c :: r =>
      match s.headFault p q c with
      | none => s
      | some f => (((s.countHead p q c f).setQueue (portRow p q) r).discardCopy (portRow p q) c).purge p q n

/-- Discard such heads of every queue. -/
def State.purgeAll (s : State) (p : Nat) : State :=
  (List.range 8).foldl (fun s q => s.purge p q (s.queue (portRow p q)).length) s

/-! ### Selection (R135–R137) -/

/-- The projected start of a copy selected now. -/
def State.projected (s : State) (p : Nat) (c : QCopy) : Nat := max (s.sched p).free (s.ps + c.delay)

/-- Queue q of a port is eligible now (R135). -/
def State.eligible (s : State) (p q : Nat) : Bool :=
  match s.queue (portRow p q) with
  | [] => false
  | c :: _ =>
    let t := s.toSt (s.projected p c)
    s.ready p c && (decide (s.ob (schedIx p) (qSub q 2) = 0) || decide (0 ≤ s.credit p q))
      && s.gateOpen p q t (t + s.wirePs p c.wireLen) && s.up p && !s.paused p

/-- The weighted group of a port. -/
def State.groupView (s : State) (p : Nat) : DrrView where
  empty q := (s.queue (portRow p q)).isEmpty
  eligible q := s.eligible p q
  size q := s.wireBytes p (((s.queue (portRow p q)).head?.map (·.wireLen)).getD 0)
  quantum q := s.ob (schedIx p) (qSub q 1)
  single q := decide ((s.queue (portRow p q)).length = 1)
  next q := if q = 0 then 4 else q - 1
  members := 5

/-- The queue that the next frame comes from, with the round robin behind it. -/
def State.pickQueue (s : State) (p : Nat) : Option Nat × Drr :=
  let d := s.sched p
  let r : Drr := { ptr := d.ptr, act := d.act, defs := ((List.range 5).zip (s.deficits p)).filter (fun x => x.2 != 0) }
  if s.eligible p 7 then (some 7, r)
  else if s.eligible p 6 then (some 6, r)
  else if s.eligible p 5 then (some 5, r)
  else drr (s.groupView p) 2048 0 r

/-! ### Egress work -/

/-- The ingress port of a buffer's frame. -/
def State.bufIngress (s : State) (h : Nat) : Option Nat :=
  match s.buf h with
  | some b => if b.source.kind = 0 then some b.source.num else none
  | none => none

/-- Count in the ingress port of a buffer's frame. -/
def State.countBuf (s : State) (h sub : Nat) : State :=
  match s.bufIngress h with
  | some p => s.inc (portIx p) sub
  | none => s

/-- The mirror of stage E: one further replica of the copy at its dequeue (R82). -/
def State.mirrorE (s : State) (c : QCopy) (e : EgressRow) : State :=
  if e.mirType = 0 then s
  else
    let row := if e.mirType = 1 then portRow e.mirTgt 0 else vportRow e.mirTgt 0
    let n := (c.own.getD (s.bufData c.handle)).length + 4
    let m : QCopy := { handle := c.handle, own := c.own, wireLen := max 64 (if e.trunc = 0 then n else min n e.trunc),
                       enq := s.now, delay := s.egressDelay false false, trunc := e.trunc }
    ((s.addCopy c.handle).countBuf c.handle 0x23).enqueue row m

/-- A copy leaves REPLICAS instead of being sent: as a discard of its queue row, where it has one. -/
def State.discardFrom (s : State) (row : Option Nat) (c : QCopy) : State :=
  match row with
  | some r => s.discardCopy r c
  | none => s.dropCopy c.handle

/-- What stage E leaves of a copy (R82): removed by Drop or Trap, or to be sent. `row` is the queue row it was taken from, none
on the recirculation path; `port` the egress port. -/
def State.applyE (s : State) (row port : Option Nat) (c : QCopy) : Bool × State :=
  match c.eRow with
  | none => (false, s)
  | some e =>
    let s := (s.hit 0x5011 e.row).mirrorE c e
    if e.drop then
      let s := match port with
        | some p => s.inc (portIx p) 0x29
        | none => s
      (true, s.discardFrom row c)
    else if e.trap ≠ 0 then
      let t := ((s.buf c.handle).map (·.tenant)).getD 0
      let v := trapVport t ((s.buf c.handle).bind (·.vport))
      let s := (s.countBuf c.handle 0x22).bump 0x5013 t 7 1
      let q := (row.map (· % 8)).getD 0
      (true, s.enqueue (vportRow v (if q < 6 then q else 0))
        { handle := c.handle, own := c.own, wireLen := c.wireLen, enq := s.now, delay := c.delay, trap := e.trap })
    else (false, s)

/-- The bytes of a copy before it is protected: cut, rewritten, encapsulated. -/
def State.dress (s : State) (c : QCopy) : Bytes :=
  let bs := c.own.getD (s.bufData c.handle)
  let bs := if c.trunc = 0 then bs else bs.take (c.trunc - 4)
  let rw := match c.eRow with
    | some e => c.rewrite.onto e.rewrite
    | none => c.rewrite
  let bs := rw.run bs
  match c.encap with
  | some e => e.encapsulate (s.ob 0x5000 1) (s.ob 0x5000 2) bs
  | none => bs

/-- Protect the bytes of a copy: the packet number it takes, the bytes, or a refusal of R189. -/
def State.encryptCopy (s : State) (c : QCopy) (bs : Bytes) : Option (Option Nat × Bytes) × State :=
  match c.sa with
  | none => (some (none, bs), s)
  | some r =>
    let a := s.sa r
    if a.use = 4 && espRefuses a (parseLayer bs 0) then (none, s.bump 0x6010 r 0x26 1)
    else
      let q := s.assignPn r
      (some (some q.1, protect a q.1 bs), (q.2.bump 0x6010 r 0x23 bs.length).inc 0x6000 0x10)

/-- The bytes on the wire: padded, with FCS. An unmodified frame whose stored FCS differs from the computed one gets the
complement (R65). -/
def State.onWire (s : State) (c : QCopy) (bs : Bytes) : Bytes × Bool :=
  let w := withFcs bs
  match s.buf c.handle with
  | some b =>
    if b.unmodified && decide (bs = b.data) && decide (b.fcs ≠ some (crc32 bs)) then
      (bs ++ toLE 4 (0xFFFFFFFF - crc32 bs), true)
    else (w, false)
  | none => (w, false)

/-- Take the head of a queue for the wire: stage E, egress work, its start and the end of its occupancy. Answers whether
a frame was selected. -/
def State.selectFrom (s : State) (p q : Nat) (r : Drr) : Bool × State :=
  match s.queue (portRow p q) with
  | [] => (false, s)
  | c :: rest =>
    let d := s.sched p
    let start := s.projected p c
    let before := s.deficits p
    let s := (s.setDeficits p ((List.range 5).map fun q => NMap.at 0 r.defs q)).setQueue (portRow p q) rest
    let s := s.setSched p { d with ptr := r.ptr, act := r.act }
    match s.applyE (some (portRow p q)) (some p) c with
    | (true, s) => (false, s)
    | (false, s) =>
      match s.encryptCopy c (s.dress c) with
      | (none, s) => (false, s.discardCopy (portRow p q) c)
      | (some (pn, bs), s) =>
        let s := if pn.isNone then s
          else (s.addWork (s.encryptLane (some p) 0) (.transmit p start) (c.stream.any s.admitted) bs.length).2
        let (w, stomp) := s.onWire c bs
        let x : Slot := { queue := q, copy := c, bytes := w, start := start, fin := start + s.wirePs p c.wireLen,
                          occ := s.wireBytes p c.wireLen, stomp := stomp, pn := pn, ptr := d.ptr, act := d.act,
                          defs := before }
        let d := s.sched p
        (true, s.setSched p { d with selected := d.selected ++ [x], free := x.fin })

/-- Select until a frame is selected or none is eligible; each round takes at most one copy from its queue (R82, R136). -/
def State.selectLoop (s : State) (p : Nat) : Nat → State
  | 0 => s
  | n + 1 =>
    let s := s.purgeAll p
    match s.pickQueue p with
    | (none, r) =>
      (s.setDeficits p ((List.range 5).map fun q => NMap.at 0 r.defs q)).setSched p { s.sched p with ptr := r.ptr, act := r.act }
    | (some q, r) =>
      match s.selectFrom p q r with
      | (true, s) => s
      | (false, s) => s.selectLoop p n

/-- Copies waiting at a port. -/
def State.waitingAt (s : State) (p : Nat) : Nat := ((List.range 8).map fun q => (s.queue (portRow p q)).length).sum

/-- FRAME_SELECTION: the port selects its next frame (R136), at most 90 ns before its occupancy ends. -/
def execFrameSelection (p : Port) (s : State) : Host.Outcome State Fault Refusal :=
  let d := s.sched p.val
  .next <|
    if !s.up p.val || s.paused p.val || s.blocked p.val || s.ps + 90000 < d.free then s
    else (s.settle p.val).selectLoop p.val (s.waitingAt p.val + 1)

/-! ### On the wire -/

/-- The start rule for a selected frame (R64): not paused, no longer than the maximum frame, its gate open throughout. -/
def State.mayStart (s : State) (p : Nat) (x : Slot) : Bool :=
  !s.paused p && !s.blocked p && decide (x.copy.wireLen ≤ s.ob (portIx p) 5)
    && s.gateOpen p x.queue (s.toSt x.start) (s.toSt x.fin)

/-- TRANSMIT_START: the oldest selected frame starts at its projected start; one that may not start then goes back with all
that are selected (R64, R136). -/
def execTransmitStart (p : Port) (s : State) : Host.Outcome State Fault Refusal :=
  let d := s.sched p.val
  .next <| match d.selected with
    | [] => s
    | x :: r =>
      if s.ps < x.start || d.wire.isSome || !s.up p.val then s
      else if !s.mayStart p.val x then (s.settle p.val).unselect p.val
      else
        let s := s.settleTo p.val x.start
        let s := s.setSched p.val { s.sched p.val with selected := r, wire := some x }
        let s := if x.copy.again then s.inc (portIx p.val) 0x32 else s
        let own := (s.buf x.copy.handle).any fun b => b.source.kind == 2 && b.source.num == 0xFFFF
        let s := if own then s.ptpStarts p.val x.start x.bytes else s
        let ix := schedIx p.val
        (s.bump ix 0 (qSub x.queue 11) 1).bump ix 0 (qSub x.queue 12) x.occ

/-- Count a frame sent, and a stomped FCS (R65). -/
def State.countSent (s : State) (p : Nat) (x : Slot) : State :=
  let s := (s.inc (portIx p) 0x12).bump (portIx p) 0 0x13 x.bytes.length
  if x.stomp then (s.inc (portIx p) 0x1A).eventLim 0x020B p [p, x.copy.handle / 2 ^ 24 % 8] else s

/-- FRAME_TRANSMITTED: the frame on the wire ends and its copy leaves REPLICAS (R64). -/
def execFrameTransmitted (p : Port) (s : State) : Host.Outcome State Fault Refusal :=
  let d := s.sched p.val
  .next <| match d.wire with
    | none => s
    | some x =>
      if s.ps < x.fin then s
      else
        let s := s.settle p.val
        let s := s.setSched p.val { s.sched p.val with wire := none }
        ((s.countSent p.val x).emit (.frame p.val x.bytes false)).dropCopy x.copy.handle

/-! ### Discards -/

/-- HEAD_AGE_DISCARD: the head of a queue is older than the limit of its row (R134, R150). -/
def execHeadAgeDiscard (row : Nat) (s : State) : Host.Outcome State Fault Refusal :=
  let lim := s.ageLimit row
  .next <| match s.queue row with
    | [] => s
    | c :: r =>
      if lim = 0 || s.now ≤ c.enq + lim then s
      else
        let s := if row < 8192 then (s.settle (row / 8)).inc (portIx (row / 8)) 0x2D else s
        ((s.setQueue row r).discardCopy row c).eventLim 0x0309 row [row, 1]

/-- Discard every copy of a list from a row. -/
def State.discardAll (s : State) (row : Nat) : List QCopy → State
  | [] => s
  | c :: r => (s.discardCopy row c).discardAll row r

/-- Discard everything that waits in a row. -/
def State.flushRow (s : State) (row : Nat) : State := (s.setQueue row []).discardAll row (s.queue row)

/-- Everything queued or selected for a port. -/
def State.portBacklog (s : State) (p : Nat) : Nat := s.waitingAt p + (s.sched p).selected.length

/-- Discard everything queued for a port, counted in :1B (R67). -/
def State.flushPort (s : State) (p : Nat) : State :=
  let n := s.portBacklog p
  let s := s.unselect p
  let s := (List.range 8).foldl (fun s q => s.flushRow (portRow p q)) s
  (s.bump (portIx p) 0 0x1B n).setSched p { s.sched p with flushing := false }

/-- PORT_DOWN_DISCARD: with no frame of the port left on the wire, what is queued for it is discarded (R67). -/
def execPortDownDiscard (p : Port) (s : State) : Host.Outcome State Fault Refusal :=
  let d := s.sched p.val
  .next (if s.up p.val || !d.flushing || d.wire.isSome then s else s.flushPort p.val)

/-! ### The recirculation path (R100) -/

/-- The encryption lane of a frame on a recirculation path (R119). -/
def State.recircLane (s : State) (w : Waiting) : Nat := s.encryptLane w.egress w.tenant

/-- A frame may pass: it needs no encryption, or its SA is ready (R184), or it is to be discarded. -/
def State.recircReady (s : State) (x : Nat × QCopy × Waiting) : Bool :=
  (s.saFault x.2.1).isSome || x.2.1.sa.all fun r => s.saReady r (s.recircLane x.2.2)

/-- The frame that a pipeline's path takes next: of an admitted stream first, then the oldest. -/
def State.pickRecirc (s : State) (k : Nat) : Option (Nat × QCopy × Waiting) :=
  let mine := s.net.recirc.filter fun x => x.1 == k && s.recircReady x
  (mine.find? (fun x => x.2.1.stream.any s.admitted)).or mine.head?

/-- A frame is refused by the path: :24 of its ingress port and 0x0502, cause 1 path full, 2 reserve empty. -/
def State.refuseRecirc (s : State) (k : Nat) (c : QCopy) (w : Waiting) (cause : Nat) : State :=
  ((s.countIn w 0x24).eventGap 1000000000 0x0502 0 [k, cause]).dropCopy c.handle

/-- A frame enters the path after its egress work: a buffer of row 6148 in the version of its first pass, its first-pass buffer
freed. -/
def State.enterRecirc (s : State) (k : Nat) (c : QCopy) (w : Waiting) : State :=
  match s.encryptCopy c (s.dress c) with
  | (none, s) => s.dropCopy c.handle
  | (some (pn, bs), s) =>
    let s := if pn.isNone then s else (s.addWork (s.recircLane w) .inside (w.stream.any s.admitted) bs.length).2
    let q := s.allocBuf 6148 (classFor (bs.length + 4)) (w.stream.any s.admitted)
    if q.1 = noHandle then q.2.refuseRecirc k c w 2
    else
      let b : Buffer :=
        { handle := q.1, row := 6148, length := bs.length + 4, rxTime := w.rxTime, source := w.source,
          tenant := w.tenant, vport := w.vport, stream := w.stream, replicas := 1, unmodified := false, pass2 := true,
          host := decide (w.source.kind = 1), hbm := false, decrypted := false,
          version := ((s.buf c.handle).map (·.version)).getD 0, data := bs, fcs := none }
      let s := (q.2.setBuf b).dropCopy c.handle
      let fin := max s.ps (NMap.at 0 s.net.recircFree k) + (bs.length + 4) * 20
      let back : Waiting := { w with time := s.now, bytes := bs, handle := some q.1 }
      { s with net := { s.net with
          waiting := s.net.waiting ++ [back]
          recircFree := NMap.put 0 s.net.recircFree k fin } }

/-- RECIRCULATE: egress pipeline k passes a frame with Recirculate to its path, which carries 400 Gb/s (R100): stage E, then the
tests of the path and of its egress SA. -/
def execRecirculate (k : Octet) (s : State) : Host.Outcome State Fault Refusal :=
  .next <| match s.pickRecirc k.val with
    | none => s
    | some (y, c, w) =>
      let s := { s with net := { s.net with recirc := dropFirst (fun z => decide (z = (y, c, w))) s.net.recirc } }
      match s.applyE none w.egress c with
      | (true, s) => s
      | (false, s) =>
        if s.ps < NMap.at 0 s.net.recircFree k.val then s.refuseRecirc k.val c w 1
        else match s.saFault c with
          | some f => (s.countHead 0 0 c f).dropCopy c.handle
          | none => s.enterRecirc k.val c w

end Sys2Proof.Machine
end

