-- ==== Sys2Proof/Machine/Lanes.lean ====
section
/-! DEFINITION. Lanes and ports (R50–R62, R67, R71): what the lane modes and calendars make of the ports, frame units
and their spares, a port going UP and DOWN, and the events of lanes. -/

namespace Sys2Proof.Machine

/-! ### Lane modes (Table 3-1) -/

/-- Lanes of a mode. -/
def modeWidth (m : Nat) : Nat := if m = 8 then 2 else if m = 9 then 4 else 1

/-- Port rate of a mode in Mb/s; 0 for modes 0, 10 and 11. -/
def modeRate (m : Nat) : Nat := [0, 1000, 1000, 2500, 10000, 25000, 50000, 100000, 200000, 400000].getD m 0

/-- FEC values of a mode, default first; a Disabled lane, for which Table 3-1 gives none, takes the 0 that it reads as
(log entry 67). -/
def modeFec (m : Nat) : List Nat :=
  if m = 4 then [0, 1] else if m = 5 then [2, 1, 0] else if 6 ≤ m && m ≤ 10 then [3] else [0]

/-- Mode of a lane. -/
abbrev State.mode (s : State) (l : Nat) : Nat := s.ob (laneIx l) 1

/-- State of a lane: 0 DISABLED, 1 CONFIG, 2 WAIT_SIGNAL, 3 ALIGN, 4 UP, 5 FAULT. -/
abbrev State.laneState (s : State) (l : Nat) : Nat := s.ob (laneIx l) 3

/-- A lane changes state; source 0x721 + l gets an edge (Table 11-8). -/
def State.setLaneState (s : State) (l st : Nat) : State :=
  if s.laneState l = st then s else (s.setOb (laneIx l) 3 st).edge (0x721 + l)

/-- A port changes state; source 0x321 + p gets an edge (Table 11-8). -/
def State.setPortState (s : State) (p st : Nat) : State :=
  if s.ob (portIx p) 2 = st then s else (s.setOb (portIx p) 2 st).edge (0x321 + p)

/-- The lead lane of a lane. -/
def State.leadOf (s : State) (l : Nat) : Nat :=
  if s.mode l ≠ 11 then l else if s.mode (l / 4 * 4) = 9 then l / 4 * 4 else l / 2 * 2

/-- The lanes of the port that a lead lane carries. -/
def State.lanesFrom (s : State) (l : Nat) : List Nat := (List.range (modeWidth (s.mode l))).map (l + ·)

/-! ### Client ports (R58) -/

/-- Byte k of a calendar. -/
def calSlot (cal k : Nat) : Nat := cal / 256 ^ (19 - k) % 256

/-- Slots of a calendar that a channel owns. -/
def calSlots (cal c : Nat) : Nat := ((List.range 20).filter fun k => calSlot cal k == c).length

/-- The active calendar of a lane. -/
def State.calendar (s : State) (l : Nat) : Nat := s.ob (laneIx l) (0x30 + s.ob (laneIx l) 0x32)

/-- The rate that lane and calendar give port 16 l + c; 0 where no such port is present (R60). -/
def State.layoutRate (s : State) (l c : Nat) : Nat :=
  if s.mode l = 10 then
    if s.ob (laneIx l) (0x40 + c) = 0 then 0 else 5000 * calSlots (s.calendar l) c
  else if c = 0 then modeRate (s.mode l) else 0

/-! ### Frame units (R61, R122) -/

/-- Change the port and role of a unit in 0x2500. -/
def State.setUnit (s : State) (u port role : Nat) : State :=
  if s.cell 0x2500 u 4 = port && s.cell 0x2500 u 5 = role then s
  else
    let s := if s.cell 0x2500 u 4 = port then s else s.bump 0x2500 u 8 1
    s.setCells 0x2500 u [(4, port), (5, role), (7, s.tai)]

/-- Health of a unit is good or degraded. -/
def State.unitUsable (s : State) (u : Nat) : Bool := s.cell 0x2500 u 6 = 0 || s.cell 0x2500 u 6 = 3

/-- The lowest-numbered spare whose health is good. -/
def State.freeSpare (s : State) : Option Nat :=
  ((List.range 64).map (1024 + ·)).find? fun u => decide (s.cell 0x2500 u 5 = 4) && decide (s.cell 0x2500 u 6 = 0)

/-- Rows of 0x2500 that serve a port now. -/
def State.unitsOf (s : State) (p : Nat) : List Nat :=
  ([p, p + 16, p + 32, p + 48] ++ (List.range 64).map (1024 + ·)).filter fun u =>
    decide (s.cell 0x2500 u 4 = p) && decide (1 ≤ s.cell 0x2500 u 5) && decide (s.cell 0x2500 u 5 ≤ 3) && s.unitUsable u

/-- A spare takes a place at a port; with none left 0x0386 is logged. Answers whether the place is served. -/
def State.takeSpare (s : State) (p role : Nat) : Bool × State :=
  match s.freeSpare with
  | some u => (true, s.setUnit u p role)
  | none => (false, s.event 0x0386 [p])

/-- A unit serves its port no longer: a unit of a port number is idle there, a spare is a spare again (R61). -/
def State.releaseUnit (s : State) (u : Nat) : State := if u < 1024 then s.setUnit u u 0 else s.setUnit u 0xFFFF 4

/-- Units of a port beyond its width go idle: own units past the width, then spares (R61). -/
def State.releaseUnits (s : State) (p width : Nat) : State :=
  let own := (s.unitsOf p).filter fun u => decide (u < 1024)
  let keep := own.filter fun u => decide (u < p + 16 * width)
  let spares := (s.unitsOf p).filter fun u => decide (1024 ≤ u)
  (own.filter (fun u => !keep.contains u) ++ spares.drop (width - keep.length)).foldl State.releaseUnit s

/-- Fill the places of a present port of a width: its own units, else spares. -/
def State.placeUnits (s : State) (p width : Nat) : State :=
  let s := s.releaseUnits p width
  (List.range width).foldl (fun s i =>
    let role := if width = 1 then 1 else if i = 0 then 2 else 3
    if s.unitUsable (p + 16 * i) then s.setUnit (p + 16 * i) p role
    else if width ≤ (s.unitsOf p).length then s
    else (s.takeSpare p role).2) s

/-- Every place of a port is served. -/
def State.served (s : State) (p : Nat) : Bool := decide (s.ob (portIx p) 8 ≤ (s.unitsOf p).length)

/-! ### Ports going UP and DOWN (R55, R67) -/

/-- A lane counts as UP for its port. -/
def State.laneCounts (s : State) (l : Nat) : Bool :=
  s.laneState l = 4 && (s.lane l).draining.isNone && !(s.lane l).remote

/-- The state that a port has now by its rate, its enable and its lanes. -/
def State.portTarget (s : State) (p : Nat) : Nat :=
  if s.rate p = 0 then 0
  else if s.ob (portIx p) 1 = 0 then 1
  else if s.flt.deadLinks.contains (dieLink p) then 2
  else if (s.lanesFrom (s.leadLane p)).all s.laneCounts && s.served p then 3
  else 2

/-- Cut off the frame on the wire of a port (R67); answers how many were cut. -/
def State.cutWire (s : State) (p : Nat) : Nat × State :=
  let d := s.sched p
  match d.wire with
  | none => (0, s)
  | some x =>
    let s := s.setSched p { d with wire := none }
    (1, ((s.inc (portIx p) 0x1B).emit (.frame p x.bytes true)).dropCopy x.copy.handle)

/-- Credits and deficits of a port that leaves UP return to 0 (R137, R140). -/
def State.zeroSched (s : State) (p : Nat) : State :=
  let s := (List.range 8).foldl (fun s q => s.setCredit p q 0) s
  let s := s.setDeficits p [0, 0, 0, 0, 0]
  s.setSched p { s.sched p with act := false }

/-- A port leaves UP for state `t` with a cause; `cut` unless a mode, FEC or polarity write takes it (R67). -/
def State.portDown (s : State) (p t cause : Nat) (cut : Bool) : State :=
  let s := (s.settle p).unselect p
  let r := if cut then s.cutWire p else (0, s)
  let s := r.2
  let n := s.portBacklog p + r.1
  let s := (s.setPortState p t).setOb (portIx p) 3 cause
  let s := s.zeroSched p
  let s := s.setSched p { s.sched p with flushing := true }
  (s.event 0x020A [p, cause, n]).impair

/-- A port comes UP. -/
def State.portUp (s : State) (p : Nat) : State :=
  let s := if (s.sched p).flushing && (s.sched p).wire.isNone then s.flushPort p else s
  let s := ((s.setPortState p 3).setOb (portIx p) 3 0).inc (portIx p) 0x1E
  let s := s.setSched p { s.sched p with credited := s.ps }
  (s.event 0x0209 [p, s.rate p]).impair

/-- Bring the state of a port up to date; a port that leaves UP does so with `cause`. -/
def State.refreshPort (s : State) (p cause : Nat) (cut : Bool) : State :=
  let t := s.portTarget p
  let now := s.ob (portIx p) 2
  if now = t then s
  else if now = 3 then s.portDown p t cause cut
  else if t = 3 then s.portUp p
  else s.setPortState p t

/-- Bring every port of a lane's lead up to date. -/
def State.refreshLane (s : State) (l cause : Nat) (cut : Bool) : State :=
  let lead := s.leadOf l
  (List.range 16).foldl (fun s c => s.refreshPort (16 * lead + c) cause cut) s

/-- Give port 16 l + c the rate and width that its lane and calendar give it. -/
def State.layoutPort (s : State) (l cause : Nat) (cut : Bool) (c : Nat) : State :=
  let p := 16 * l + c
  let r := s.layoutRate l c
  let w := if r = 0 then 1 else modeWidth (s.mode l)
  let s := if s.rate p = r then s else (s.settle p).setOb (portIx p) 4 r
  let s := s.setOb (portIx p) 8 w
  let s := if r = 0 then s.releaseUnits p 0 else s.placeUnits p w
  s.refreshPort p cause cut

/-- Publish the PHY latency of a lane (Table 3-3). -/
def State.setPhy (s : State) (l : Nat) : State :=
  let x := phyLatency (s.mode (s.leadOf l)) (s.ob (laneIx (s.leadOf l)) 2)
  (s.setOb (laneIx l) 8 x.1).setOb (laneIx l) 9 x.2

/-- Lay out the ports of a lane. -/
def State.layoutLane (s : State) (l cause : Nat) (cut : Bool) : State :=
  (List.range 16).foldl (fun s c => s.layoutPort l cause cut c) (s.setPhy l)

/-! ### A write that makes lanes retrain (R50, R52, R53) -/

/-- The lanes that a mode write occupies before or after it. -/
def State.modeLanes (s : State) (l m : Nat) : List Nat :=
  (List.range (max (modeWidth (s.mode l)) (modeWidth m))).map (l + ·)

/-- A lane stops: its port leaves UP with cause MODE_WRITE, and it waits to enter DISABLED until no port of `lead` has a frame
on the wire. -/
def State.drainLane (lead : Nat) (s : State) (l : Nat) : State :=
  let d := s.lane l
  let s := s.setLane l { d with draining := some (d.draining.getD lead) }
  s.refreshLane l 5 false

/-- A mode lands on a lane: its ports leave UP, its former members return to Disabled, its new ones become Members, it
takes the default FEC. -/
def State.landMode (s : State) (l m : Nat) : State :=
  let old := s.lanesFrom l
  let new := (List.range (modeWidth m)).map (l + ·)
  let all := s.modeLanes l m
  let s := all.foldl (State.drainLane l) s
  let s := old.foldl (fun s k => (s.setOb (laneIx k) 1 0).setOb (laneIx k) 2 0) s
  let s := new.foldl (fun s k => (s.setOb (laneIx k) 1 11).setOb (laneIx k) 2 0) s
  let s := (s.setOb (laneIx l) 1 m).setOb (laneIx l) 2 ((modeFec m).headD 0)
  all.foldl (fun s k => s.layoutLane k 5 false) s

/-- A FEC value lands on a lane. -/
def State.landFec (s : State) (l v : Nat) : State :=
  let s := (s.lanesFrom l).foldl (State.drainLane l) s
  let s := s.setOb (laneIx l) 2 v
  (s.lanesFrom l).foldl State.setPhy s

/-- The reference of a lane's octet is present. -/
def State.refPresent (s : State) (l : Nat) : Bool := !s.net.refLost.contains (l / 8)

/-- A lane leaves DISABLED for CONFIG when it has a mode and its reference. -/
def State.startLane (s : State) (l : Nat) : State :=
  if s.mode l ≠ 0 && s.refPresent l && s.laneState l = 0 then s.setLaneState l 1 else s

/-- A draining lane enters DISABLED with cause MODE_WRITE and retrains. -/
def State.laneDisabled (s : State) (l : Nat) : State :=
  let s := if s.laneState l = 4 then s.event 0x0202 [l, 1] else s
  let s := s.setLane l { s.lane l with draining := none, remote := false, pllFailed := false }
  ((s.setLaneState l 0).setOb (laneIx l) 4 1).startLane l

/-- No port of a lane has a frame on the wire. -/
def State.wireFree (s : State) (l : Nat) : Bool := (List.range 16).all fun c => (s.sched (16 * l + c)).wire.isNone

/-- LANES_ENTER_DISABLED: once the frame in transmission has completed, the lanes that one write concerned enter DISABLED, and
what is queued for their ports is discarded (R53, R67). -/
def execLanesEnterDisabled (l : Lane) (s : State) : Host.Outcome State Fault Refusal :=
  .next <| match (s.lane l.val).draining with
    | none => s
    | some lead =>
      if !s.wireFree lead then s
      else
        let s := ((List.range 64).filter fun k => decide ((s.lane k).draining = some lead)).foldl State.laneDisabled s
        (List.range 16).foldl (fun s c =>
          let p := 16 * lead + c
          if (s.sched p).flushing && !s.up p then s.flushPort p else s) s

/-- POLARITY_WRITE (R53). -/
def polarityRule (l sub : Nat) : WriteRule where
  check s _ v := firstBad [s.startState, require (decide (v ≤ 1)) stRange]
  act s _ v := .done stOk [] (State.drainLane (s.leadOf l) (s.setOb (laneIx l) sub v) l)

/-- POLARITY_WRITE: the lane stops and retrains as after a mode write (R53). -/
def execPolarityWrite (v : Via) (l : Lane) (tx : Bool) (data : Bytes) (s : State) : Host.Outcome State Fault Refusal :=
  let sub := if tx then 6 else 5
  .next (s.writeItem v (laneIx l.val) sub data (polarityRule l.val sub))

/-! ### References (R54) -/

/-- A management lane changes state (0x020D). -/
def State.setMgmt (s : State) (m : MgmtLane) (st : Nat) : State :=
  if s.ob (mgmtIx m) 2 = st then s else (s.setOb (mgmtIx m) 2 st).event 0x020D [mgmtNo m, st]

/-- The management lane that takes its reference from an octet (R71). -/
def mgmtOf (o : Nat) : Option MgmtLane := if o = 0 then some .m0 else if o = 7 then some .m1 else none

/-- A lane loses its reference: DISABLED with cause REFCLK; its port leaves UP. -/
def State.laneNoRef (s : State) (l : Nat) : State :=
  let s := s.setLane l { s.lane l with draining := none, remote := false, pllFailed := false }
  ((s.setLaneState l 0).setOb (laneIx l) 4 2).refreshLane l 1 true

/-- REFCLK_LOST: the reference of an octet has been absent for 1 µs (R54). -/
def execRefclkLost (o : Octet) (s : State) : Host.Outcome State Fault Refusal :=
  .next <|
    if s.net.refLost.contains o.val then s
    else
      let s := { s with net := { s.net with refLost := s.net.refLost ++ [o.val] } }
      let s := ((List.range 8).map (8 * o.val + ·)).foldl State.laneNoRef s
      let s := match mgmtOf o.val with
        | some m => s.setMgmt m 0
        | none => s
      s.event 0x0203 [o.val]

/-- REFCLK_RESTORED: the reference has been present for 1 ms (R54). -/
def execRefclkRestored (o : Octet) (s : State) : Host.Outcome State Fault Refusal :=
  .next <|
    if !s.net.refLost.contains o.val then s
    else
      let s := { s with net := { s.net with refLost := s.net.refLost.filter (· != o.val) } }
      let s := s.event 0x0204 [o.val]
      let s := ((List.range 8).map (8 * o.val + ·)).foldl State.startLane s
      match mgmtOf o.val with
      | some m => s.setMgmt m 1
      | none => s

/-! ### Lane events (Table 3-2) -/

/-- The number of a lane among `Net.lanes`. -/
def anyNo : AnyLane → Nat
  | .lane l => l.val
  | .mgmt m => 64 + mgmtNo m

/-- The state of a lane or management lane. -/
def State.anyState (s : State) : AnyLane → Nat
  | .lane l => s.laneState l.val
  | .mgmt m => s.ob (mgmtIx m) 2

/-- A lane or management lane changes state. -/
def State.setAny (s : State) (l : AnyLane) (st : Nat) : State :=
  match l with
  | .lane l => s.setLaneState l.val st
  | .mgmt m => s.setMgmt m st

/-- The mode that a lane runs in: of a Member, its lead's. -/
def State.runMode (s : State) : AnyLane → Nat
  | .lane l => s.mode (s.leadOf l.val)
  | .mgmt m => s.ob (mgmtIx m) 1

/-- The reference of a lane or management lane is present. -/
def State.anyRef (s : State) : AnyLane → Bool
  | .lane l => s.refPresent l.val
  | .mgmt .m0 => !s.net.refLost.contains 0
  | .mgmt .m1 => !s.net.refLost.contains 7

/-- PLL_LOCKED: the lane transmits idle, or FlexE overhead in mode 10. -/
def execPllLocked (l : AnyLane) (s : State) : Host.Outcome State Fault Refusal :=
  .next <|
    if s.anyState l = 1 then
      (s.setAny l 2).emit (.laneSignal (anyNo l) (if s.runMode l = 10 then "FlexE overhead" else "idle"))
    else s

/-- A lane enters FAULT with a down cause: it transmits remote fault, or in modes 1–3 the Clause 37 break-link sequence. -/
def State.faultAny (s : State) (l : AnyLane) (cause : Nat) (pll : Bool) : State :=
  let s := s.setLane (anyNo l) { s.lane (anyNo l) with pllFailed := pll, remote := false }
  let s := s.emit (.laneSignal (anyNo l) (if s.runMode l ≤ 3 then "break-link" else "remote fault"))
  match l with
  | .lane l =>
    let s := ((s.setLaneState l.val 5).setOb (laneIx l.val) 4 cause).inc (laneIx l.val) 0x13
    (s.event 0x0202 [l.val, cause]).refreshLane l.val 1 true
  | .mgmt m => s.setMgmt m 5

/-- PLL_LOCK_TIMEOUT. -/
def execPllLockTimeout (l : AnyLane) (s : State) : Host.Outcome State Fault Refusal :=
  .next (if s.anyState l = 1 then s.faultAny l 3 true else s)

/-- PLL_RETRY. -/
def execPllRetry (l : AnyLane) (s : State) : Host.Outcome State Fault Refusal :=
  let d := s.lane (anyNo l)
  .next <|
    if s.anyState l = 5 && d.pllFailed && s.anyRef l then (s.setLane (anyNo l) { d with pllFailed := false }).setAny l 1
    else s

/-- Start the link-up hold of a lane. -/
def State.startHold (s : State) (l : Nat) : State := s.setLane l { s.lane l with holdFrom := s.now }

/-- The link-up hold, ns; a management lane, which has no :07, takes its default (log entry 68). -/
def State.holdOf (s : State) : AnyLane → Nat
  | .lane l => s.ob (laneIx l.val) 7 * 1000000
  | .mgmt _ => 10000000

/-- SIGNAL_DETECTED: WAIT_SIGNAL, or FAULT with signal present, goes to ALIGN; a lane in FAULT for want of a PLL lock sees no
signal until it has retried CONFIG (log entry 69). -/
def execSignalDetected (l : AnyLane) (s : State) : Host.Outcome State Fault Refusal :=
  let st := s.anyState l
  let d := s.lane (anyNo l)
  .next <|
    if st = 2 || (st = 5 && !d.pllFailed) then
      (s.setLane (anyNo l) { d with holdFrom := s.now, hold := s.holdOf l, announced := none, overhead := none }).setAny l 3
    else s

/-- ALIGN_CONDITION_LOST: the hold restarts. -/
def execAlignConditionLost (l : AnyLane) (s : State) : Host.Outcome State Fault Refusal :=
  .next (if s.anyState l = 3 then s.startHold (anyNo l) else s)

/-- The conditions of ALIGN that the block sees itself: an SGMII peer announces 1,000 Mb/s (R51); a FlexE lane has a group number
and the peer's overhead agrees (R57). -/
def State.aligned (s : State) (l : Nat) : Bool :=
  let d := s.lane l
  let mine := (s.ob (laneIx l) 0x20, s.ob (laneIx l) 0x21)
  if s.mode l = 2 then decide (d.announced = some 1000)
  else if s.mode l = 10 then decide (mine.1 ≠ 0) && d.overhead.all (fun x => decide (x = mine))
  else true

/-- A lane comes UP. -/
def State.laneRises (s : State) (l : AnyLane) : State :=
  match l with
  | .lane l =>
    let s := (s.setLaneState l.val 4).setOb (laneIx l.val) 4 0
    (s.event 0x0201 [l.val, s.mode l.val, s.ob (laneIx (s.leadOf l.val)) 2]).refreshLane l.val 1 true
  | .mgmt m => s.setMgmt m 4

/-- LANE_UP: the align conditions have held for the link-up hold. -/
def execLaneUp (l : AnyLane) (s : State) : Host.Outcome State Fault Refusal :=
  let d := s.lane (anyNo l)
  let ready := match l with
    | .lane l => s.aligned l.val
    | .mgmt _ => true
  .next <|
    if s.anyState l ≠ 3 || decide (s.now < d.holdFrom + d.hold) || d.draining.isSome || !ready then s else s.laneRises l

/-- Code of a lane's down cause. -/
def laneCauseCode : LaneCause → Nat
  | .signal => 4
  | .lock => 5
  | .highBer => 6
  | .fec => 7
  | .localFault => 8

/-- LANE_FAULT: an UP lane enters FAULT and takes its port DOWN; eight uncorrectable codewords count in :12. -/
def execLaneFault (l : AnyLane) (why : LaneCause) (s : State) : Host.Outcome State Fault Refusal :=
  .next <|
    if s.anyState l ≠ 4 then s
    else
      let s := match l with
        | .lane k => if why = LaneCause.fec then s.bump (laneIx k.val) 0 0x12 8 else s
        | .mgmt _ => s
      s.faultAny l (laneCauseCode why) false

/-- REMOTE_FAULT_RECEIVED: the lane stays UP and its port goes DOWN. -/
def execRemoteFaultReceived (l : Lane) (s : State) : Host.Outcome State Fault Refusal :=
  .next <|
    if s.laneState l.val ≠ 4 then s
    else (s.setLane l.val { s.lane l.val with remote := true }).refreshLane l.val 2 true

/-- REMOTE_FAULT_CLEARED: 10 ms after remote fault ends the port comes UP. -/
def execRemoteFaultCleared (l : Lane) (s : State) : Host.Outcome State Fault Refusal :=
  .next ((s.setLane l.val { s.lane l.val with remote := false }).refreshLane l.val 1 true)

/-- SGMII_CONTROL_WORD: what the peer announces; a rate other than 1,000 Mb/s keeps the lane in ALIGN (R51). -/
def execSgmiiControlWord (l : Lane) (rate : Nat) (s : State) : Host.Outcome State Fault Refusal :=
  let d := s.lane l.val
  .next <|
    if s.mode l.val ≠ 2 || s.laneState l.val ≠ 3 then s
    else if d.announced = some 1000 && decide (rate = 1000) then s
    else
      let s := s.setLane l.val { d with announced := some rate, holdFrom := s.now }
      if rate = 1000 then s else s.event 0x0205 [l.val, rate]

/-- FLEXE_OVERHEAD_MISMATCH: the group and PHY number that the peer's overhead carries; while they differ from the lane's own it
stays in ALIGN (R57). -/
def execFlexeOverheadMismatch (l : Lane) (group phy : Nat) (s : State) : Host.Outcome State Fault Refusal :=
  .next <|
    if s.mode l.val ≠ 10 || s.laneState l.val ≠ 3 then s
    else
      let s := s.setLane l.val { s.lane l.val with overhead := some (group, phy), holdFrom := s.now }
      if decide (group ≠ s.ob (laneIx l.val) 0x20) || decide (phy ≠ s.ob (laneIx l.val) 0x21) then
        s.eventLim 0x0208 l.val [l.val, group, phy]
      else s

/-! ### Calendars (R59) -/

/-- CALENDAR_SWITCHED: the peer has acknowledged and the boundary has come. -/
def execCalendarSwitched (l : Lane) (s : State) : Host.Outcome State Fault Refusal :=
  .next <| match (s.lane l.val).calTarget with
    | none => s
    | some v =>
      let s := s.setLane l.val { s.lane l.val with calTarget := none }
      let s := ((s.setOb (laneIx l.val) 0x32 v).setOb (laneIx l.val) 0x34 2).event 0x0206 [l.val, v]
      s.layoutLane l.val 3 true

/-- CALENDAR_SWITCH_TIMEOUT: the request lapses. -/
def execCalendarSwitchTimeout (l : Lane) (s : State) : Host.Outcome State Fault Refusal :=
  .next <| match (s.lane l.val).calTarget with
    | none => s
    | some _ =>
      let s := s.setLane l.val { s.lane l.val with calTarget := none }
      (s.setOb (laneIx l.val) 0x34 3).event 0x0207 [l.val]

/-! ### Management lanes (R71) -/

/-- The rule of a management lane's mode. -/
def mgmtModeRule (m : MgmtLane) : WriteRule where
  check s _ v := firstBad [s.startState, require (v == 1 || v == 3) stRange]
  act s _ v :=
    let s := (s.setOb (mgmtIx m) 1 v).setMgmt m 0
    let o := match m with
      | .m0 => 0
      | .m1 => 7
    .done stOk [] (if s.net.refLost.contains o then s else s.setMgmt m 1)

/-- MANAGEMENT_MODE_WRITE: the lane retrains. -/
def execManagementModeWrite (v : Via) (m : MgmtLane) (data : Bytes) (s : State) : Host.Outcome State Fault Refusal :=
  .next (s.writeItem v (mgmtIx m) 1 data (mgmtModeRule m))

/-- MANAGEMENT_FRAME_RECEIVED: a frame of an accepted kind is counted and, where the lane answers it, answered; every other
one is discarded (R71). The frame comes without its FCS, and that beside it. -/
def execManagementFrameReceived (m : MgmtLane) (frame : Bytes) (fcs : Nat) (s : State) : Host.Outcome State Fault Refusal :=
  let good := decide (60 ≤ frame.length) && decide (crc32 frame = fcs)
  let l := parseLayer frame 0
  .next <|
    if s.ob (mgmtIx m) 2 ≠ 4 then s
    else if !good then s.inc (mgmtIx m) 4
    else match s.deviceFrame l frame with
      | none => s.inc (mgmtIx m) 4
      | some k => (s.inc (mgmtIx m) 3).takeOwn k (.mgmt m) l frame

/-- ONE_CYCLE_AFTER_STEP: a cycle time after the last step of station time, impairment cause 2 ends while time is valid
(R168). -/
def execOneCycleAfterStep (p : Port) (s : State) : Host.Outcome State Fault Refusal :=
  let d := s.sched p.val
  .next <| match d.stepped with
    | none => s
    | some t => if s.now < t + s.ob (gateIx p.val) 7 then s else (s.setSched p.val { d with stepped := none }).impair

end Sys2Proof.Machine
end

