-- ==== Sys2Proof/Machine/Admission.lean ====
section
/-! DEFINITION. The admission unit (R13, R52, R59, R70, R112, R144–R148, R155–R157, R162–R171): requests, changes that
touch admitted streams, and what lands when one is accepted. -/

namespace Sys2Proof.Machine

/-! ### Verdicts (R155, R171) -/

/-- The outcome that a master reads in 0x4001:02–:09. -/
def State.verdict (s : State) (m : Nat) : Verdict := NMap.at {} s.acc.verdicts m

/-- Record the outcome of an admission-checked write. -/
def State.setVerdict (s : State) (m : Nat) (d : Verdict) : State :=
  { s with acc := { s.acc with verdicts := NMap.put {} s.acc.verdicts m d } }

/-- Record a refusal and log 0x0402 (R171). -/
def State.refuseAdm (s : State) (m cause stream bound : Nat) (conflicts : List Nat) : State :=
  let s := s.setVerdict m { status := stRefused, cause := cause, stream := stream, computed := bound,
                            count := conflicts.length, conflicts := conflicts.take 16 }
  s.event 0x0402 [cause, conflicts.headD 0xFFFFFFFF, conflicts.length, m]

/-- A write waits for the admission unit; the 65th returns BUSY (R157). -/
def State.queueAdm (s : State) (v : Via) (what : Instr) : Ended :=
  let m := masterOf v
  if 64 ≤ s.adm.length then
    .done stBusy [] ((s.setVerdict m { status := stBusy }).event 0x040B [m])
  else
    let w : AdmWait := { via := some v, master := m, what := what }
    let s := { s with adm := s.adm ++ [w] }
    .later (s.level 0x7AC true)

/-- Note the status of an admission-checked write that does not reach the unit. -/
def Ended.noted (e : Ended) (m : Nat) : Ended :=
  match e with
  | .done st data s => .done st data (s.setVerdict m { status := st })
  | .later s => .later s

/-- An admission-checked write of one field as an item of a request. -/
def State.admItem (s : State) (v : Via) (ix sub : Nat) (data : Bytes) (r : WriteRule) : State :=
  s.item v (writeReq ix sub data) fun s _ => (s.tryWrite v ix sub data r).noted (masterOf v)

/-! ### Changes (R170) -/

/-- The checks that a change makes fail for a contract: newly failing codes, and code 7 where its B moved. -/
def newCodes (f g : Finding) : List Nat :=
  g.codes.filter fun c => !f.codes.contains c || (c == 7 && decide (g.bound ≠ f.bound))

/-- The streams that a change from `s` to `t` breaks, with the first check that refuses it. -/
def broken (s t : State) : List (Nat × Nat) :=
  s.contracts.filterMap fun c =>
    let n := newCodes (s.judge s.contracts c) (t.judge s.contracts c)
    if n.isEmpty then none else some (c.id, (Finding.cause { codes := n, bound := none }))

/-- The lowest code of a list of broken streams. -/
def worst (l : List (Nat × Nat)) : Nat := Finding.cause { codes := l.map (·.2), bound := none }

/-- Cause and conflicts that refuse a change from `s` to `t`; `none` when it lands (R14, R170). -/
def refusedChange (s t : State) : Option (Nat × List Nat) :=
  match broken s t with
  | x :: l => some (worst (x :: l), (x :: l).map (·.1))
  | [] =>
    match s.pendingProfile with
    | none => none
    | some v =>
      match broken (s.under v) (t.under v) with
      | [] => none
      | x :: l => some (9, (x :: l).map (·.1))

/-- Decide a change: `land` is applied when no stream refuses what `t` would be. -/
def State.decideChange (s : State) (m : Nat) (t : State) (land : State → State) : Nat × State :=
  match refusedChange s t with
  | some (cause, ids) => (stRefused, s.refuseAdm m cause 0xFFFFFFFF 0 ids)
  | none => (stOk, (land (s.setVerdict m {})).impair)

/-! ### Buffers (R111, R112, R164) -/

/-- Buffers that a stream needs for a granted bound (R164). -/
def Contract.buffers (c : Contract) (g : Nat) : Nat := (8000000 * c.burst + c.rate * g) / (8000000 * c.lmin) + 1

/-- The class of a stream's buffers (R164). -/
def Contract.bufClass (c : Contract) : Nat := classFor (c.lin + 4)

/-- Buffers of a class under the requested carve. -/
def State.requestedTotal (s : State) (c : Nat) : Nat :=
  carveCount (fun i => s.ob 0x9300 (0x10 + i)) (s.ob 0x9300 0x18) (s.ob 0x9300 0x1A) c

/-- Classes whose minima under a profile do not fit the requested carve, with `more c` further buffers. -/
def State.tightClasses (s : State) (profile : Nat) (more : Nat → Nat) : List Nat :=
  (List.range 6).filter fun c => decide (s.requestedTotal c < (s.under profile).sumMinima c + more c)

/-- Admitted streams that hold an admission part in one of the classes (R171). -/
def State.holding (s : State) (cls : List Nat) : List Nat :=
  (s.streamRows.filter s.admitted).filter fun i => cls.contains (s.str i 0x18) && decide (s.str i 0x17 ≠ 0)

/-- Rows that hold a stream's admission part. -/
def Contract.parts (c : Contract) : List Nat := (1024 + c.egress) :: if c.second = 1 then [6148] else []

/-- Give back or take buffers of a stream's admission parts: `old` becomes `new`. -/
def State.setParts (s : State) (c : Contract) (cls old new : Nat) : State :=
  c.parts.foldl (fun s r => s.setCell 0x9301 r (0xB + cls) (s.admPart r cls - old + new)) s

/-! ### Deciding a request (R162–R164) -/

/-- The streams whose bound contract `c` would break beside `others`; `was` is what stood in its place (check 7). -/
def State.pastCeiling (s : State) (others was : List Contract) (c : Contract) : List Nat :=
  (others.filter fun o => (newCodes (s.judge (others ++ was) o) (s.judge (others ++ [c]) o)).contains 7).map (·.id)

/-- Cause and conflicts that refuse contract `c`, whose parts now hold `old` buffers, beside `others`; or its B. -/
def State.decideRequest (s : State) (others : List Contract) (c : Contract) (old : Nat) : (Nat × List Nat) ⊕ Nat :=
  let all := others ++ [c]
  let past := fun (s : State) => s.pastCeiling others (if old = 0 then [] else [s.contract c.id]) c
  let f := s.judge all c
  match f.codes, f.bound with
  | _ :: _, _ => .inl (f.cause, [c.id])
  | [], none => .inl (4, [c.id])
  | [], some b =>
    if !(past s).isEmpty then .inl (7, past s)
    else
      let fv := s.pendingProfile.map fun v => (s.under v).judge all c
      let b := max b ((fv.bind (·.bound)).getD 0)
      let up := c.buffers (max b c.ceiling) - old
      let more := up * c.parts.length
      if !s.raiseFits c.bufClass more then .inl (8, [c.id])
      else match s.pendingProfile with
        | none => .inr b
        | some v =>
          if fv.any (fun f => !f.codes.isEmpty)
              || (s.tightClasses v fun k => if k = c.bufClass then more else 0).contains c.bufClass then .inl (9, [c.id])
          else if !(past (s.under v)).isEmpty then .inl (9, past (s.under v))
          else .inr b

/-- The cipher lanes of a stream (R119, R164): 0xFF where it makes no pass or its ingress names no lane. -/
def State.placeLanes (s : State) (c : Contract) : State :=
  let t := c.num / 16
  let dec := if c.cipher = 0 then 0xFF
    else if c.kind = 0 then s.laneOf (homeDecrypt (s.leadLane c.num))
    else if c.kind = 1 then s.laneOf (4 * (t % 8) + t % 2)
    else 0xFF
  let enc := if c.cipher = 0 then 0xFF else s.laneOf (homeEncrypt (s.leadLane c.egress))
  s.setCells 0x9312 c.id [(4, dec), (5, enc)]

/-- What an accepted contract installs (R131, R164): its row, its meter with full buckets, its buffers, its lanes. -/
def State.install (s : State) (c : Contract) (b g old : Nat) : State :=
  let k := c.buffers g
  let s := s.setCells 0x4000 c.id ((4, 1) :: c.fields ++
    [(0x14, b), (0x15, g), (0x16, s.handoff c g), (0x17, k), (0x18, c.bufClass), (0x19, 0), (0x1A, s.tai)])
  let s := s.setCells 0x3800 c.id
    [ (4, 1), (6, 0), (7, c.rate), (8, c.burst), (9, c.rate), (0xA, c.burst), (0xB, 0), (0xC, 3), (0xD, 3)
    , (0x10, c.burst * 8000000), (0x11, c.burst * 8000000) ]
  let s := { s with net := { s.net with meterTime := NMap.put 0 s.net.meterTime c.id s.tai } }
  ((s.setParts c c.bufClass old k).placeLanes c).impairOne c.id

/-- The other admitted contracts. -/
def State.others (s : State) (i : Nat) : List Contract := s.contracts.filter fun x => x.id != i

/-- The lowest FREE row. -/
def State.freeStream (s : State) : Option Nat := (List.range 16384).find? fun i => decide (s.str i 4 = 0)

/-- The row an ADMIT or CHECK decides. -/
def State.requestRow (s : State) (c : Contract) : Option Nat := if c.id = 0xFFFFFFFF then s.freeStream else some c.id

/-- ADMIT, and CHECK, which changes nothing but the verdict. -/
def State.decideAdmit (s : State) (m : Nat) (c : Contract) (check : Bool) : Nat × State :=
  match s.requestRow c with
  | none => (stResource, s.setVerdict m { status := stResource })
  | some i =>
    if s.str i 4 ≠ 0 then (stState, s.setVerdict m { status := stState, stream := i })
    else
      let c := { c with id := i }
      match s.decideRequest (s.others i) c 0 with
      | .inl (cause, ids) =>
        let (b, s) := s.reportedBound (s.others i ++ [c]) c
        (stRefused, s.refuseAdm m cause i b ids)
      | .inr b =>
        let g := max b c.ceiling
        let s := s.setVerdict m { stream := i, computed := b, granted := g, handoff := s.handoff c g }
        if check then (stOk, s) else (stOk, (s.install c b g 0).event 0x0401 [i, c.egress, g, m])

/-- MODIFY: CEILING, UPSTREAM and LINK, checked as an ADMIT of the same stream (R167). -/
def State.decideModify (s : State) (m : Nat) (c : Contract) : Nat × State :=
  if !s.admitted c.id then (stRange, s.setVerdict m { status := stRange, stream := c.id })
  else
    let was := s.contract c.id
    let c := { was with ceiling := c.ceiling, upstream := c.upstream, link := c.link, granted := none }
    let old := s.str c.id 0x17
    match s.decideRequest (s.others c.id) c old with
    | .inl (cause, ids) =>
      let (b, s) := s.reportedBound (s.others c.id ++ [c]) c
      (stRefused, s.refuseAdm m cause c.id b ids)
    | .inr b =>
      let g := max b c.ceiling
      let s := s.setVerdict m { stream := c.id, computed := b, granted := g, handoff := s.handoff c g }
      let k := c.buffers g
      let s := s.setCells 0x4000 c.id
        [ (0x3D, c.upstream), (0x3E, c.link), (0x3F, c.ceiling), (0x14, b), (0x15, g), (0x16, s.handoff c g), (0x17, k) ]
      (stOk, (s.setParts c (s.str c.id 0x18) old k).event 0x0404 [c.id, was.granted.getD 0, g])

/-- Contract fields and bounds of a row return to their defaults. -/
def State.clearStream (s : State) (i : Nat) : State :=
  s.setCells 0x4000 i ((4, 0) :: ((List.range 0x13).map fun k => (0x30 + k, 0))
    ++ (List.range 7).map fun k => (0x14 + k, 0))

/-- WITHDRAW (R167). -/
def State.decideWithdraw (s : State) (m i : Nat) : Nat × State :=
  if s.str i 4 = 0 then (stRange, s.setVerdict m { status := stRange, stream := i })
  else
    let c := s.contract i
    let s := if s.admitted i then
        let s := s.setParts c (s.str i 0x18) (s.str i 0x17) 0
        ((s.setCell 0x3800 i 4 0).setCells 0x9312 i [(4, 0xFF), (5, 0xFF)]).withdrawnNamed i
      else s
    (stOk, ((s.clearStream i).event 0x0403 [i, m]).setVerdict m { stream := i })

/-! ### Requests (R155, R156) -/

/-- The operation of a request record. -/
inductive AdmOp where
  | admitStream
  | withdraw
  | check
  | modify
  deriving DecidableEq, Repr

/-- Code of an operation. -/
def AdmOp.code : AdmOp → Nat
  | .admitStream => 1
  | .withdraw => 2
  | .check => 3
  | .modify => 4

/-- The ingress of a contract names something that exists, a vport of its owner (R156). -/
def Contract.ingressOk (c : Contract) : Bool :=
  if c.kind = 0 then decide (c.num < 1024)
  else if c.kind = 1 then decide (c.num / 16 = c.owner)
  else (c.kind == 2 || c.kind == 3) && decide (c.num < 4096)

/-- Every field lies inside Table 7-1. -/
def Contract.ok (c : Contract) : Bool :=
  (c.cls == 6 || c.cls == 7) && decide (c.owner < 4096) && (decide (c.id < 16384) || decide (c.id = 0xFFFFFFFF))
    && c.ingressOk && decide (c.egress < 1024) && within 64 16000 c.lin && within 64 16000 c.lmax
    && within 64 c.lmax c.lmin && decide (c.cipher ≤ 4) && decide (c.tunnel ≤ 4)
    && (c.second == 1 || (decide (c.cipher ≤ 2) && decide (c.tunnel ≤ 2)))
    && within 1 400000000 c.rate && within c.lmax 16777216 c.burst && within 1 4000000000 c.deadline
    && within 1 1024 c.replica

/-- RANGE, then STATE and RESOURCE, of a request (R156). -/
def State.requestStatus (s : State) (op : AdmOp) (c : Contract) : Nat :=
  match op with
  | .withdraw => require (decide (c.id < 16384) && decide (s.str c.id 4 ≠ 0)) stRange
  | .modify => require (decide (c.id < 16384) && s.admitted c.id) stRange
  | _ =>
    firstBad
      [ require c.ok stRange
      , require (decide (c.id = 0xFFFFFFFF) || decide (s.str c.id 4 = 0)) stState
      , require (decide (c.id ≠ 0xFFFFFFFF) || s.freeStream.isSome) stResource ]

/-- The command that waits for the unit. -/
def AdmOp.instr (v : Via) (rec : Bytes) : AdmOp → Instr
  | .admitStream => .admitStream v rec
  | .withdraw => .withdraw v rec
  | .check => .check v rec
  | .modify => .modify v rec

/-- The lease a request needs: the device lease, or for WITHDRAW that of the stream's egress port (R156). -/
def State.requestLeased (s : State) (v : Via) (op : AdmOp) (c : Contract) : Bool :=
  s.leased v 0x1303
    || (decide (op = .withdraw) && decide (c.id < 16384) && s.leased v (portIx (s.contract c.id).egress))

/-- A request record of one operation (R155, R156). -/
def State.tryRequest (s : State) (v : Via) (op : AdmOp) (rec : Bytes) : Ended :=
  let c := contractOf rec
  let s := s.lapses (portIx (s.contract c.id).egress)
  let writer := s.principal v = .station || s.principal v = .operator
  let st := firstBad
    [ require writer stAccess
    , require (s.requestLeased v op c) stLeaseHeld
    , require (decide (rec.length = 64)) stType
    , s.startState
    , s.requestStatus op c ]
  if st = stLeaseHeld then .done st [] (s.noteRefused v 0x1303 0x4001 1)
  else if st ≠ stOk then .done st [] s
  else s.queueAdm v (op.instr v rec)

/-- A request as an item. -/
def State.requestItem (s : State) (v : Via) (op : AdmOp) (rec : Bytes) : State :=
  s.item v (writeReq 0x4001 1 rec) fun s _ => (s.tryRequest v op rec).noted (masterOf v)

/-- ADMIT. -/
def execAdmitStream (v : Via) (rec : Bytes) (s : State) : Host.Outcome State Fault Refusal := .next (s.requestItem v .admitStream rec)

/-- WITHDRAW. -/
def execWithdraw (v : Via) (rec : Bytes) (s : State) : Host.Outcome State Fault Refusal :=
  .next (s.requestItem v .withdraw rec)

/-- CHECK. -/
def execCheck (v : Via) (rec : Bytes) (s : State) : Host.Outcome State Fault Refusal := .next (s.requestItem v .check rec)

/-- MODIFY. -/
def execModify (v : Via) (rec : Bytes) (s : State) : Host.Outcome State Fault Refusal := .next (s.requestItem v .modify rec)

/-! ### Lane mode, FEC and calendar (R52, R59) -/

/-- The writer holds every one of the lanes. -/
def State.holdsLanes (s : State) (v : Via) (ls : List Nat) : Bool := ls.all fun l => s.leased v (laneIx l)

/-- RANGE and STATE of a lane mode (R52). -/
def State.laneModeStatus (s : State) (l m : Nat) : Nat :=
  firstBad
    [ require (decide (m ≤ 10) && decide (l % modeWidth m = 0)) stRange
    , require (decide (s.mode l ≠ 11)) stState
    , require (((List.range (modeWidth m)).drop 1).all fun i =>
        let k := l + i
        s.mode k == 0 || (s.mode k == 11 && s.leadOf k == l)) stState ]

/-- RANGE and STATE of a FEC value (R52). -/
def State.fecStatus (s : State) (l x : Nat) : Nat :=
  firstBad
    [ require ((modeFec (s.mode (s.leadOf l))).contains x) stRange
    , require (decide (s.mode l ≠ 11)) stState ]

/-- RANGE, STATE and BUSY of a calendar request (R59). -/
def State.calendarStatus (s : State) (l x : Nat) : Nat :=
  firstBad
    [ require (decide (x ≤ 1)) stRange
    , require (decide (s.ob (laneIx l) 0x32 ≠ x)) stState
    , require ((s.lane l).calTarget.isNone) stBusy ]

/-- LANE_MODE_WRITE: lease, RANGE, STATE, admission (R52). -/
def laneModeRule (l : Lane) : WriteRule where
  check s v m := firstBad [require (s.holdsLanes v (s.modeLanes l.val m)) stLeaseHeld, s.startState, s.laneModeStatus l.val m]
  act s v m := s.queueAdm v (.laneModeWrite v l (toBE 1 m))

/-- FEC_WRITE (R52). -/
def fecRule (l : Lane) : WriteRule where
  check s v x := firstBad
    [require (s.holdsLanes v (s.lanesFrom (s.leadOf l.val))) stLeaseHeld, s.startState, s.fecStatus l.val x]
  act s v x := s.queueAdm v (.fecWrite v l (toBE 1 x))

/-- CALENDAR_SWITCH_REQUEST (R59). -/
def calendarRule (l : Lane) : WriteRule where
  check s _ x := firstBad [s.startState, s.calendarStatus l.val x]
  act s v x := s.queueAdm v (.calendarSwitchRequest v l (toBE 1 x))

/-- LANE_MODE_WRITE. -/
def execLaneModeWrite (v : Via) (l : Lane) (data : Bytes) (s : State) : Host.Outcome State Fault Refusal :=
  .next (s.admItem v (laneIx l.val) 1 data (laneModeRule l))

/-- FEC_WRITE. -/
def execFecWrite (v : Via) (l : Lane) (data : Bytes) (s : State) : Host.Outcome State Fault Refusal :=
  .next (s.admItem v (laneIx l.val) 2 data (fecRule l))

/-- CALENDAR_SWITCH_REQUEST. -/
def execCalendarSwitchRequest (v : Via) (l : Lane) (data : Bytes) (s : State) : Host.Outcome State Fault Refusal :=
  .next (s.admItem v (laneIx l.val) 0x33 data (calendarRule l))

/-- An accepted calendar request: pending, and the FlexE overhead carries it to the peer (R59). -/
def State.askCalendar (s : State) (l x : Nat) : State :=
  ((s.setLane l { s.lane l with calTarget := some x }).setOb (laneIx l) 0x34 1).emit (.calendarRequest l x)

/-- A calendar as the active one of a lane. -/
def State.withCalendar (s : State) (l v : Nat) : State :=
  (s.setOb (laneIx l) 0x32 v).layoutLane l 3 true

/-! ### Maximum frame and PAUSE honouring (R63, R70, R138) -/

/-- The port is present, for a write to its :01, :05 or :06 (R60). -/
def State.portState (s : State) (p : Nat) : Nat := require (!s.portAbsent p) stState

/-- MAXIMUM_FRAME_WRITE. -/
def maximumFrameRule (p : Port) : WriteRule where
  check s _ x := firstBad [s.startState, s.portState p.val, require (within 1518 16000 x) stRange]
  act s v x := s.queueAdm v (.maximumFrameWrite v p (toBE 2 x))

/-- PAUSE_HONOURING_WRITE. -/
def pauseHonouringRule (p : Port) : WriteRule where
  check s _ x := firstBad [s.startState, require (decide (x ≤ 1)) stRange, s.portState p.val]
  act s v x := s.queueAdm v (.pauseHonouringWrite v p (toBE 1 x))

/-- A maximum frame lands: it applies from the next frame start (R63); 0x0305 for each quantum that it comes to exceed (R138).
No frame takes longer than 128 µs to receive. -/
def State.landMaxFrame (s : State) (p x : Nat) : State :=
  let old := s.ob (portIx p) 5
  let d := s.sched p
  let s := s.setSched p { d with maxWas := (old, s.ps) :: d.maxWas.filter fun y => decide (s.ps ≤ y.2 + 200000000) }
  (List.range 5).foldl (fun s q =>
    let n := s.ob (schedIx p) (qSub q 1)
    if old ≤ n && n < x then s.event 0x0305 [p, q, n, x] else s) (s.setOb (portIx p) 5 x)

/-- PAUSE honouring lands; off ends any pause (R69). -/
def State.landPause (s : State) (m p x : Nat) : State :=
  let s := (s.setOb (portIx p) 6 x).event 0x020C [p, x, m]
  if x = 0 then (s.settle p).setPause p 0 else s

/-- MAXIMUM_FRAME_WRITE. -/
def execMaximumFrameWrite (v : Via) (p : Port) (data : Bytes) (s : State) : Host.Outcome State Fault Refusal :=
  .next (s.admItem v (portIx p.val) 5 data (maximumFrameRule p))

/-- PAUSE_HONOURING_WRITE. -/
def execPauseHonouringWrite (v : Via) (p : Port) (data : Bytes) (s : State) : Host.Outcome State Fault Refusal :=
  .next (s.admItem v (portIx p.val) 6 data (pauseHonouringRule p))

/-! ### Scheduler writes (R138, R140, R148) -/

/-- QUANTUM_WRITE. -/
def quantumRule (p : Port) (q : QueueNo) : WriteRule where
  check s _ x := firstBad [s.startState, require (within 64 1048576 x) stRange]
  act s v x := s.queueAdm v (.quantumWrite v p q (toBE 4 x))

/-- RANGE of a shaper enable: a shaper without a slope is not enabled (R140). -/
def State.shaperStatus (s : State) (p q x : Nat) : Nat :=
  require (decide (x ≤ 1) && (x == 0 || decide (s.ob (schedIx p) (qSub q 3) ≠ 0))) stRange

/-- RANGE of an idle slope: 0 only while the shaper is off, at most the port's rate (R140). -/
def State.slopeStatus (s : State) (p q x : Nat) : Nat :=
  require (if x = 0 then s.ob (schedIx p) (qSub q 2) = 0 else within 1 (1000 * s.rate p) x) stRange

/-- SHAPER_ENABLE_WRITE. -/
def shaperEnableRule (p : Port) (q : QueueNo) : WriteRule where
  check s _ x := firstBad [s.startState, s.shaperStatus p.val q.val x]
  act s v x := s.queueAdm v (.shaperEnableWrite v p q (toBE 1 x))

/-- IDLE_SLOPE_WRITE. -/
def idleSlopeRule (p : Port) (q : QueueNo) : WriteRule where
  check s _ x := firstBad [s.startState, s.slopeStatus p.val q.val x]
  act s v x := s.queueAdm v (.idleSlopeWrite v p q (toBE 4 x))

/-- A quantum lands (R138). -/
def State.landQuantum (s : State) (p q x : Nat) : State :=
  let s := s.setOb (schedIx p) (qSub q 1) x
  if x < s.ob (portIx p) 5 then s.event 0x0305 [p, q, x, s.ob (portIx p) 5] else s

/-- A shaper is enabled or disabled: its credit becomes 0 (R140). -/
def State.landShaper (s : State) (p q x : Nat) : State :=
  ((s.settle p).setOb (schedIx p) (qSub q 2) x).setCredit p q 0

/-- An idle slope lands; the credit stays (R140). -/
def State.landSlope (s : State) (p q x : Nat) : State := (s.settle p).setOb (schedIx p) (qSub q 3) x

/-- QUANTUM_WRITE. -/
def execQuantumWrite (v : Via) (p : Port) (q : QueueNo) (data : Bytes) (s : State) : Host.Outcome State Fault Refusal :=
  .next (s.admItem v (schedIx p.val) (qSub q.val 1) data (quantumRule p q))

/-- SHAPER_ENABLE_WRITE. -/
def execShaperEnableWrite (v : Via) (p : Port) (q : QueueNo) (data : Bytes) (s : State) :
    Host.Outcome State Fault Refusal :=
  .next (s.admItem v (schedIx p.val) (qSub q.val 2) data (shaperEnableRule p q))

/-- IDLE_SLOPE_WRITE. -/
def execIdleSlopeWrite (v : Via) (p : Port) (q : QueueNo) (data : Bytes) (s : State) :
    Host.Outcome State Fault Refusal :=
  .next (s.admItem v (schedIx p.val) (qSub q.val 3) data (idleSlopeRule p q))

/-! ### Gates (R141–R147) -/

/-- Bring the present entry and gate states of a port up to date (0x3400+p:09, :0A; 0x3000+p k = 7). -/
def State.refreshGates (s : State) (p : Nat) : State :=
  let t := s.stPs
  let st := s.gateStates p t
  let n := match s.gating p t with
    | .list g => (entryAt g.entries 0 (g.phase t)).1
    | _ => 0
  let s := (s.setOb (gateIx p) 9 n).setOb (gateIx p) 0xA st
  (List.range 8).foldl (fun s q => s.setOb (schedIx p) (qSub q 7) (bit st q).toNat) s

/-- Queues of Q0–Q5 that a list keeps shut for a whole cycle (R147). -/
def GateList.shut (g : GateList) : List Nat :=
  (List.range 6).filter fun q => g.entries.all fun e => !bit e.1 q

/-- Rewrite :0E from a list and log 0x0304 for each queue shut (R147). -/
def State.setShut (s : State) (p : Nat) (g : GateList) : State :=
  let s := s.setOb (gateIx p) 0xE ((g.shut.map fun q => 2 ^ q).sum)
  g.shut.foldl (fun s q => s.event 0x0304 [p, q]) s

/-- GATE_CONTROL_WRITE. -/
def gateControlRule (p : Port) : WriteRule where
  check s _ x := firstBad [s.startState, require (decide (x ≤ 1)) stRange]
  act s v x := s.queueAdm v (.gateControlWrite v p (toBE 1 x))

/-- INITIAL_STATES_WRITE. -/
def initialStatesRule (p : Port) : WriteRule where
  check s _ _ := s.startState
  act s v x := s.queueAdm v (.initialStatesWrite v p (toBE 1 x))

/-- Gate control or the initial states land. -/
def State.landGate (s : State) (p sub x : Nat) : State := ((s.settle p).setOb (gateIx p) sub x).refreshGates p

/-- GATE_CONTROL_WRITE. -/
def execGateControlWrite (v : Via) (p : Port) (data : Bytes) (s : State) : Host.Outcome State Fault Refusal :=
  .next (s.admItem v (gateIx p.val) 1 data (gateControlRule p))

/-- INITIAL_STATES_WRITE. -/
def execInitialStatesWrite (v : Via) (p : Port) (data : Bytes) (s : State) : Host.Outcome State Fault Refusal :=
  .next (s.admItem v (gateIx p.val) 2 data (initialStatesRule p))

/-- The pending list of a port may not change: its base time lies less than 1 ms ahead. -/
def State.listImminent (s : State) (p : Nat) : Bool :=
  decide (s.ob (gateIx p) 5 ≠ 0) && decide (s.ob (gateIx p) 5 < s.tai + 1000000)

/-- CANCEL_PENDING (R146). -/
def cancelRule (p : Port) : WriteRule where
  check s _ x := firstBad
    [ s.startState
    , require (x == 1) stRange
    , require (decide (s.ob (gateIx p.val) 5 ≠ 0) && !s.listImminent p.val) stState ]
  act s v _ :=
    let base := s.ob (gateIx p.val) 5
    let s := (s.settle p.val).setOb (gateIx p.val) 5 0
    let s := s.event 0x0303 (p.val :: w64 base ++ [masterOf v])
    let s := match s.operative p.val with
      | some g => s.setShut p.val g
      | none => s.setOb (gateIx p.val) 0xE 0
    .done stOk [] ((s.refreshGates p.val).impair)

/-- CANCEL_PENDING. -/
def execCancelPending (v : Via) (p : Port) (data : Bytes) (s : State) : Host.Outcome State Fault Refusal :=
  .next (s.writeItem v (gateIx p.val) 0xB data (cancelRule p))

/-- A header or entry breaks Table 6-4 or 6-5, or the intervals do not sum to the cycle time. -/
def gateBlobBad (b : Bytes) : Bool :=
  let n := be b 2 2
  decide (be b 0 2 ≠ 1) || decide (n = 0) || decide (1024 < n) || decide (b.length ≠ 32 + 8 * n)
    || !within 1000 1000000000 (be b 4 4)
    || (List.range n).any (fun i => decide (be b (32 + 8 * i) 1 ≠ 0) || decide (be b (36 + 8 * i) 4 < 20))
    || decide (((gateEntries b n).map (·.2)).sum ≠ be b 4 4)

/-- The checks of a gate list before admission (R144). -/
def State.gateListStatus (s : State) (p : Nat) (b : Bytes) : Nat :=
  let base := be b 8 8
  firstBad
    [ require (s.timeValid && !s.listImminent p) stState
    , require (!gateBlobBad b) stRange
    , require (decide (s.tai + 1000000 ≤ base)) stRange
    , match s.operative p with
      | none => stOk
      | some g => require (decide (((base : Int) - g.base) % g.cycle = 0)) stRange ]

/-- A gate list with its reserved bytes as they read, 0 (R6, Tables 6-4, 6-5). -/
def gateClean (b : Bytes) : Bytes :=
  b.mapIdx fun i x => if within 16 31 i || (decide (32 ≤ i) && within 2 3 (i % 8)) then 0 else x

/-- A list as the pending one. -/
def State.withPending (s : State) (p : Nat) (b : Bytes) : State :=
  (s.setBlob (gateIx p) 3 (gateClean b)).setOb (gateIx p) 5 (be b 8 8)

/-- A gate list becomes the pending list (R144, R147). -/
def State.landGateList (s : State) (m p : Nat) (b : Bytes) : State :=
  let old := s.ob (gateIx p) 5
  let s := s.withPending p b
  let s := if old = 0 then s.event 0x0301 (p :: w64 (be b 8 8) ++ [be b 4 4, m])
    else s.event 0x0303 (p :: w64 old ++ [m])
  s.setShut p (gateList b)

/-- The pending list of a port becomes operative (R145). -/
def State.swapList (s : State) (p : Nat) : State :=
  let b := s.blob (gateIx p) 3
  let base := s.ob (gateIx p) 5
  let s := s.settle p
  let s := (s.setBlob (gateIx p) 4 b).setCells (gateIx p) 0
    [(5, 0), (6, base), (7, be b 4 4), (8, be b 2 2), (0xD, base)]
  let s := (s.inc (gateIx p) 0xC).event 0x0302 (p :: w64 base)
  ((s.setShut p (gateList b)).refreshGates p).impair

/-- The pending list of a port is due. -/
def State.swapDue (s : State) (p : Nat) : Bool :=
  s.clk.wasValid && decide (s.ob (gateIx p) 5 ≠ 0) && decide (s.ob (gateIx p) 5 ≤ s.tai)

/-- GATE_LIST_SWAP: station time reaches the base time of a pending list (R145). -/
def execGateListSwap (p : Port) (s : State) : Host.Outcome State Fault Refusal :=
  .next (if s.swapDue p.val then s.swapList p.val else s)

/-- GATE_ENTRY_CHANGE: an entry's interval ends and the next entry's gate states apply (R142). -/
def execGateEntryChange (p : Port) (s : State) : Host.Outcome State Fault Refusal :=
  .next ((s.settle p.val).refreshGates p.val)

/-! ### Carve and profile (R12, R13, R15, R112) -/

/-- The requested carve with one field replaced. -/
def State.carveField (s : State) (sub x k : Nat) : Nat := if k = sub then x else s.ob 0x9300 k

/-- RANGE of a carve as it would read after a write (R112, log entry 23). -/
def State.carveStatus (s : State) (sub x : Nat) : Nat :=
  let f := s.carveField sub x
  require (decide (f 0x10 + f 0x11 + f 0x12 + f 0x13 = 192) && decide (f 0x11 % 3 = 0) && within 2 16 (f 0x18)
    && decide (1 ≤ f 0x1A) && decide (f 0x1A < f 0x18)) stRange

/-- CARVE_WRITE (R112). -/
def carveRule (sub : Nat) : WriteRule where
  check s _ x := firstBad [s.startState, s.carveStatus sub x]
  act s v x := s.queueAdm v (.carveWrite v sub (toBE (cellLen 0x9300 sub) x))

/-- 0x9300:1B follows the requested and the active carve (R113). -/
def State.carvePending (s : State) : State :=
  let same := (List.range 4).all (fun i => decide (s.ob 0x9300 (0x10 + i) = s.ob 0x9300 (0x14 + i)))
    && decide (s.ob 0x9300 0x18 = s.ob 0x9300 0x19) && decide (s.ob 0x9300 0x1A = s.ob 0x9300 0x1C)
  s.setOb 0x9300 0x1B (!same).toNat

/-- A carve write is decided: every minimum of either profile fits the new counts (R112). -/
def State.decideCarve (s : State) (m sub x : Nat) : Nat × State :=
  let t := s.setOb 0x9300 sub x
  let tight := t.tightClasses 0 (fun _ => 0) ++ t.tightClasses 1 (fun _ => 0)
  if tight.isEmpty then
    let t := (t.setVerdict m {}).carvePending
    (stOk, t.event 0x0382 ((List.range 4).map (fun i => t.ob 0x9300 (0x10 + i)) ++ [t.ob 0x9300 0x18, m]))
  else (stRefused, s.refuseAdm m 8 0xFFFFFFFF 0 (s.holding tight))

/-- CARVE_WRITE. -/
def execCarveWrite (v : Via) (sub : Nat) (data : Bytes) (s : State) : Host.Outcome State Fault Refusal :=
  .next (s.admItem v 0x9300 sub data (carveRule sub))

/-- The first assigned row that Partitioned would give another owner: its table, in the order in which R15 names them
(log entry 53), and its number. -/
def State.layoutConflict (s : State) : Option (Nat × Nat) :=
  [0x5010, 0x5011, 0x5100, 0x3800, 0x6010].findSome? fun ix =>
    (s.dict.find? fun e => decide (e.1 / 2 ^ 40 = ix) && decide (e.1 % 256 = 5) && decide (e.2 < 4096)).map
      fun e => (ix, e.1 / 256 % 2 ^ 32)

/-- A tenant of 1024–4095 is enabled. -/
def State.highTenant (s : State) : Bool :=
  s.dict.any fun e => decide (0x8400 ≤ e.1 / 2 ^ 40) && decide (e.1 / 2 ^ 40 < 0x9000) && decide (e.1 % 2 ^ 40 = 1)

/-- Places 2 to 4 of R12: RANGE, then the two cases of RESOURCE. -/
def State.profileStatus (s : State) (x : Nat) : Nat :=
  firstBad
    [ require (decide (x ≤ 1)) stRange
    , require (x == 1 || !s.highTenant) stResource
    , require (x == 0 || s.partitioned || s.layoutConflict.isNone) stResource ]

/-- PROFILE_WRITE (R12). Every write waits for the unit, that of the value in force too (R14); places 3 and 4 are judged at
arrival and again when the unit decides (log entry 65). -/
def profileRule : WriteRule where
  check s _ x := firstBad [s.startState, s.profileStatus x]
  act s v x := s.queueAdm v (.profileWrite v (toBE 1 x))

/-- A profile write refused for its rows logs 0x012B (R15). -/
def State.noteLayout (s : State) (st x m : Nat) : State :=
  match s.layoutConflict with
  | some (ix, row) => if st = stResource && x = 1 then s.event 0x012B [ix, row, s.cell ix row 5, m] else s
  | none => s

/-- The same of an item's end. -/
def Ended.layoutNoted (e : Ended) (x m : Nat) : Ended :=
  match e with
  | .done st data s => .done st data (s.noteLayout st x m)
  | .later s => .later s

/-- A write of the requested profile. -/
def State.tryProfile (s : State) (v : Via) (data : Bytes) : Ended :=
  ((s.tryWrite v 0x1001 1 data profileRule).layoutNoted (ofBE data) (masterOf v)).noted (masterOf v)

/-- PROFILE_WRITE. -/
def execProfileWrite (v : Via) (data : Bytes) (s : State) : Host.Outcome State Fault Refusal :=
  .next (s.item v (writeReq 0x1001 1 data) fun s _ => s.tryProfile v data)

/-- A profile write is decided (R13): bounds with the target's cipher constant, minima against its carve. -/
def State.decideProfile (s : State) (m x : Nat) : Nat × State :=
  match broken s (s.under x) with
  | y :: l => (stRefused, s.refuseAdm m (worst (y :: l)) 0xFFFFFFFF 0 ((y :: l).map (·.1)))
  | [] =>
    let tight := s.tightClasses x fun _ => 0
    if tight.isEmpty then
      let s := (s.setVerdict m {}).setOb 0x1001 1 x
      (stOk, s.setOb 0x1001 3 (decide (x ≠ s.ob 0x1001 2)).toNat)
    else (stRefused, s.refuseAdm m 8 0xFFFFFFFF 0 (s.holding tight))

/-! ### The unit (R157) -/

/-- A waiting write that the ones before it have made fail its object's own checks is refused for them (R157). -/
def State.recheck (s : State) (m st : Nat) (x : Nat × State) : Nat × State :=
  if st = stOk then x else (st, s.setVerdict m { status := st })

/-- Decide one waiting request or checked write against the state that the ones before it left (R157): where its item stands,
its status, the state after it. -/
def State.decideAdm (s : State) (w : AdmWait) : Nat × Nat × Nat × State :=
  let m := w.master
  let r := fun (ix sub : Nat) (x : Nat × State) => (ix, sub, x.1, x.2)
  match w.what with
  | .admitStream _ rec => r 0x4001 1 (s.decideAdmit m (contractOf rec) false)
  | .check _ rec => r 0x4001 1 (s.decideAdmit m (contractOf rec) true)
  | .modify _ rec => r 0x4001 1 (s.decideModify m (contractOf rec))
  | .withdraw _ rec => r 0x4001 1 (s.decideWithdraw m (be rec 4 4))
  | .laneModeWrite _ l d =>
    r (laneIx l.val) 1 (s.recheck m (s.laneModeStatus l.val (ofBE d))
      (s.decideChange m (s.landMode l.val (ofBE d)) fun s => s.landMode l.val (ofBE d)))
  | .fecWrite _ l d =>
    r (laneIx l.val) 2 (s.recheck m (s.fecStatus l.val (ofBE d))
      (s.decideChange m (s.setOb (laneIx l.val) 2 (ofBE d)) fun s => s.landFec l.val (ofBE d)))
  | .calendarSwitchRequest _ l d =>
    r (laneIx l.val) 0x33 (s.recheck m (s.calendarStatus l.val (ofBE d))
      (s.decideChange m (s.withCalendar l.val (ofBE d)) fun s => s.askCalendar l.val (ofBE d)))
  | .maximumFrameWrite _ p d =>
    r (portIx p.val) 5 (s.recheck m (s.portState p.val)
      (s.decideChange m (s.setOb (portIx p.val) 5 (ofBE d)) fun s => s.landMaxFrame p.val (ofBE d)))
  | .pauseHonouringWrite _ p d =>
    r (portIx p.val) 6 (s.recheck m (s.portState p.val)
      (s.decideChange m (s.setOb (portIx p.val) 6 (ofBE d)) fun s => s.landPause m p.val (ofBE d)))
  | .quantumWrite _ p q d =>
    r (schedIx p.val) (qSub q.val 1) (s.decideChange m s fun s => s.landQuantum p.val q.val (ofBE d))
  | .shaperEnableWrite _ p q d =>
    r (schedIx p.val) (qSub q.val 2) (s.recheck m (s.shaperStatus p.val q.val (ofBE d))
      (s.decideChange m (s.setOb (schedIx p.val) (qSub q.val 2) (ofBE d)) fun s => s.landShaper p.val q.val (ofBE d)))
  | .idleSlopeWrite _ p q d =>
    r (schedIx p.val) (qSub q.val 3) (s.recheck m (s.slopeStatus p.val q.val (ofBE d))
      (s.decideChange m (s.setOb (schedIx p.val) (qSub q.val 3) (ofBE d)) fun s => s.landSlope p.val q.val (ofBE d)))
  | .gateControlWrite _ p d =>
    r (gateIx p.val) 1 (s.decideChange m (s.setOb (gateIx p.val) 1 (ofBE d)) fun s => s.landGate p.val 1 (ofBE d))
  | .initialStatesWrite _ p d =>
    r (gateIx p.val) 2 (s.decideChange m (s.setOb (gateIx p.val) 2 (ofBE d)) fun s => s.landGate p.val 2 (ofBE d))
  | .domainWrite _ ix _ _ _ d =>
    r ix 3 (s.decideChange m (s.withPending (ix - 0x3400) d) fun s => s.landGateList m (ix - 0x3400) d)
  | .carveWrite _ sub d => r 0x9300 sub (s.recheck m (s.carveStatus sub (ofBE d)) (s.decideCarve m sub (ofBE d)))
  | .profileWrite _ d =>
    let (st, s) := s.recheck m (s.profileStatus (ofBE d)) (s.decideProfile m (ofBE d))
    (0x1001, 1, st, s.noteLayout st (ofBE d) m)
  | _ => (0, 0, stOk, s)

/-- ADMISSION_COMPLETE: the unit decides the oldest waiting request and sends its response. -/
def execAdmissionComplete (s : State) : Host.Outcome State Fault Refusal :=
  .next <| match s.adm with
    | [] => s
    | w :: rest =>
      let s := { s with adm := rest }
      let s := s.level 0x7AC (!rest.isEmpty)
      let (ix, sub, st, s) := s.decideAdm w
      s.answerTo w.via ix sub st

/-! ### Re-admission (R169) -/

/-- Re-admit the contract of a row, checked as an ADMIT with its committed bound as the bound to be held; rows that name one that
is refused act as for a withdrawn stream (R30, R92). -/
def State.readmit (s : State) (i : Nat) : State :=
  let c := s.contract i
  let g := c.granted.getD 0
  let f := s.judge (s.others i ++ [c]) c
  let cause := if f.cause ≠ 0 then f.cause
    else if !(s.pastCeiling (s.others i) [] c).isEmpty then 7
    else if s.raiseFits c.bufClass (c.buffers g * c.parts.length) then 0 else 8
  if cause = 0 then s.install c (f.bound.getD 0) g 0
  else
    let (b, s) := s.reportedBound (s.others i ++ [c]) c
    ((s.setCells 0x4000 i [(4, 2), (0x14, b % 2 ^ 32), (0x19, cause)]).event 0x0405 [i, cause]).withdrawnNamed i

/-- Re-admit every committed contract in ascending stream number. -/
def State.readmitAll (s : State) : State := (rowsWith s.dict 0x4000 0x30).foldl State.readmit s

end Sys2Proof.Machine
end

