-- ==== Sys2Proof/Machine/Binary32.lean ====
section
/-! DEFINITION. IEEE 754 binary32 as the cell blocks use it (R300): exact arithmetic on whole multiples of 2⁻¹⁴⁹, rounded
once per operation to nearest, ties to even (log entry 13). -/

namespace Sys2Proof.Machine

/-- A binary32 value: its sign and its magnitude in units of 2⁻¹⁴⁹; `f32Inf` and above stands for infinity. -/
structure F32 where
  neg : Bool
  mag : Nat
  deriving DecidableEq, Repr

/-- 2¹²⁸ in units of 2⁻¹⁴⁹. -/
def f32Inf : Nat := 2 ^ 277

/-- 0.0, 1.0. -/
def F32.zero : F32 := ⟨false, 0⟩
def F32.one : F32 := ⟨false, 2 ^ 149⟩

/-- A Boolean signal. -/
def F32.ofBool (b : Bool) : F32 := if b then .one else .zero

/-- Any nonzero signal reads as true. -/
def F32.truth (x : F32) : Bool := x.mag ≠ 0

/-- A finite value. -/
def F32.finite (x : F32) : Bool := x.mag < f32Inf

/-- The value that 32 bits spell; `none` for NaN and infinity. -/
def F32.ofBits (n : Nat) : Option F32 :=
  let e := bits n 30 23
  let m := bits n 22 0
  if e = 255 then none
  else some ⟨bit n 31, if e = 0 then m else (2 ^ 23 + m) * 2 ^ (e - 1)⟩

/-- The 32 bits of a finite value. -/
def F32.toBits (x : F32) : Nat :=
  let s := x.neg.toNat * 2 ^ 31
  if x.mag < 2 ^ 23 then s + x.mag
  else
    let k := Nat.log2 x.mag - 23
    s + (k + 1) * 2 ^ 23 + x.mag / 2 ^ k % 2 ^ 23

/-- `a / b` to the nearest whole number, ties to even. -/
def nearest (a b : Nat) : Nat :=
  let q := a / b
  let r := 2 * (a % b)
  if r < b then q else if b < r then q + 1 else q + q % 2

/-- Round the magnitude `a / b`, in units of 2⁻¹⁴⁹, to 24 significant bits. -/
def round24 (a b : Nat) : Nat :=
  let k := Nat.log2 (a / b) - 23
  let m := nearest a (b * 2 ^ k) * 2 ^ k
  if f32Inf ≤ m then f32Inf else m

/-- Round a signed magnitude. -/
def F32.round (neg : Bool) (a b : Nat) : F32 := ⟨neg, round24 a b⟩

/-- The exact signed multiple of 2⁻¹⁴⁹. -/
def F32.exact (x : F32) : Int := if x.neg then -(x.mag : Int) else x.mag

/-- Round an exact quotient of integers. -/
def F32.ofRatio (a : Int) (b : Nat) : F32 := F32.round (decide (a < 0)) a.natAbs b

/-- Negation. -/
def F32.negate (x : F32) : F32 := ⟨!x.neg, x.mag⟩

/-- Sum; an exact zero of opposite signs is +0. -/
def F32.add (x y : F32) : F32 :=
  let t := x.exact + y.exact
  if t = 0 then ⟨x.neg && y.neg, 0⟩ else F32.ofRatio t 1

/-- Difference. -/
def F32.sub (x y : F32) : F32 := x.add y.negate

/-- Product. -/
def F32.mul (x y : F32) : F32 := F32.round (x.neg != y.neg) (x.mag * y.mag) (2 ^ 149)

/-- Quotient; by zero it is infinite. -/
def F32.div (x y : F32) : F32 :=
  if y.mag = 0 then ⟨x.neg != y.neg, f32Inf⟩ else F32.round (x.neg != y.neg) (x.mag * 2 ^ 149) y.mag

/-- `x < y`. -/
def F32.lt (x y : F32) : Bool := x.exact < y.exact

/-- `x ≤ y`. -/
def F32.le (x y : F32) : Bool := x.exact ≤ y.exact

/-- The greatest `r` below `2 ^ n` and at least `r₀` with `r² ≤ a`, from the high bit down. -/
def isqrtFrom (a : Nat) : (n r : Nat) → Nat
  | 0, r => r
  | n + 1, r => isqrtFrom a n (if (r + 2 ^ n) ^ 2 ≤ a then r + 2 ^ n else r)

/-- Square root of a value that is not negative. -/
def F32.sqrt (x : F32) : F32 :=
  let a := x.mag * 2 ^ 149
  let r := isqrtFrom a 214 0
  F32.round false (if r ^ 2 = a then 4 * r else 4 * r + 1) 4

/-- A whole number as binary32. -/
def F32.ofInt (i : Int) : F32 := F32.ofRatio (i * 2 ^ 149) 1

/-- The nearest whole number, ties to even. -/
def F32.toInt (x : F32) : Int :=
  let n := nearest x.mag (2 ^ 149)
  if x.neg then -(n : Int) else n

/-- The largest finite value of a sign. -/
def F32.largest (neg : Bool) : F32 := ⟨neg, (2 ^ 24 - 1) * 2 ^ 253⟩

/-- A finite result; `none` stands for NaN or infinity. -/
def F32.fin (x : F32) : Option F32 := if x.finite then some x else none

end Sys2Proof.Machine
end

