-- ==== Sys2Proof/Machine/Ecdsa.lean ====
section
/-! DEFINITION. Verification of ECDSA P-384 signatures (FIPS 186-5, R299, R352, R359), with SHA-384 (FIPS 180-4) as the hash, which the
manual does not name (PRESUMED, log entry 6). -/

namespace Sys2Proof.Machine

/-! ### SHA-384 -/

/-- The round constants of SHA-512, four words a number. -/
def shaKs : List Nat :=
  [ 0x428A2F98D728AE227137449123EF65CDB5C0FBCFEC4D3B2FE9B5DBA58189DBBC
  , 0x3956C25BF348B53859F111F1B605D019923F82A4AF194F9BAB1C5ED5DA6D8118
  , 0xD807AA98A303024212835B0145706FBE243185BE4EE4B28C550C7DC3D5FFB4E2
  , 0x72BE5D74F27B896F80DEB1FE3B1696B19BDC06A725C71235C19BF174CF692694
  , 0xE49B69C19EF14AD2EFBE4786384F25E30FC19DC68B8CD5B5240CA1CC77AC9C65
  , 0x2DE92C6F592B02754A7484AA6EA6E4835CB0A9DCBD41FBD476F988DA831153B5
  , 0x983E5152EE66DFABA831C66D2DB43210B00327C898FB213FBF597FC7BEEF0EE4
  , 0xC6E00BF33DA88FC2D5A79147930AA72506CA6351E003826F142929670A0E6E70
  , 0x27B70A8546D22FFC2E1B21385C26C9264D2C6DFC5AC42AED53380D139D95B3DF
  , 0x650A73548BAF63DE766A0ABB3C77B2A881C2C92E47EDAEE692722C851482353B
  , 0xA2BFE8A14CF10364A81A664BBC423001C24B8B70D0F89791C76C51A30654BE30
  , 0xD192E819D6EF5218D69906245565A910F40E35855771202A106AA07032BBD1B8
  , 0x19A4C116B8D2D0C81E376C085141AB532748774CDF8EEB9934B0BCB5E19B48A8
  , 0x391C0CB3C5C95A634ED8AA4AE3418ACB5B9CCA4F7763E373682E6FF3D6B2B8A3
  , 0x748F82EE5DEFB2FC78A5636F43172F6084C87814A1F0AB728CC702081A6439EC
  , 0x90BEFFFA23631E28A4506CEBDE82BDE9BEF9A3F7B2C67915C67178F2E372532B
  , 0xCA273ECEEA26619CD186B8C721C0C207EADA7DD6CDE0EB1EF57D4F7FEE6ED178
  , 0x06F067AA72176FBA0A637DC5A2C898A6113F9804BEF90DAE1B710B35131C471B
  , 0x28DB77F523047D8432CAAB7B40C724933C9EBE0A15C9BEBC431D67C49C100D4C
  , 0x4CC5D4BECB3E42B6597F299CFC657E2A5FCB6FAB3AD6FAEC6C44198C4A475817 ]

/-- The initial hash value of SHA-384, four words a number. -/
def shaInit : List Nat :=
  [ 0xCBBB9D5DC1059ED8629A292A367CD5079159015A3070DD17152FECD8F70E5939
  , 0x67332667FFC00B318EB44A8768581511DB0C2E0D64F98FA747B5481DBEFA4FA4 ]

/-- A word of a table of four words a number. -/
def wordAt (t : List Nat) (i : Nat) : Nat := t.getD (i / 4) 0 / 2 ^ (64 * (3 - i % 4)) % 2 ^ 64

/-- Rotate a 64-bit word to the right. -/
def ror64 (x n : Nat) : Nat := (x / 2 ^ n) ||| (x * 2 ^ (64 - n) % 2 ^ 64)

/-- The functions of SHA-512. -/
def shaBig0 (x : Nat) : Nat := ror64 x 28 ^^^ ror64 x 34 ^^^ ror64 x 39
def shaBig1 (x : Nat) : Nat := ror64 x 14 ^^^ ror64 x 18 ^^^ ror64 x 41
def shaSmall0 (x : Nat) : Nat := ror64 x 1 ^^^ ror64 x 8 ^^^ x / 2 ^ 7
def shaSmall1 (x : Nat) : Nat := ror64 x 19 ^^^ ror64 x 61 ^^^ x / 2 ^ 6

/-- The message schedule, last word first: `n` words more. -/
def shaSchedule : (n : Nat) → List Nat → List Nat
  | 0, w => w
  | n + 1, w =>
    let v := fun i => w.getD (i - 1) 0
    shaSchedule n ((shaSmall1 (v 2) + v 7 + shaSmall0 (v 15) + v 16) % 2 ^ 64 :: w)

/-- The eight working variables. -/
structure Sha where
  a : Nat
  b : Nat
  c : Nat
  d : Nat
  e : Nat
  f : Nat
  g : Nat
  h : Nat

/-- One round with its constant and word. -/
def Sha.round (s : Sha) (x : Nat × Nat) : Sha :=
  let t1 := s.h + shaBig1 s.e + ((s.e &&& s.f) ^^^ ((2 ^ 64 - 1 - s.e) &&& s.g)) + x.1 + x.2
  let t2 := shaBig0 s.a + ((s.a &&& s.b) ^^^ (s.a &&& s.c) ^^^ (s.b &&& s.c))
  ⟨(t1 + t2) % 2 ^ 64, s.a, s.b, s.c, (s.d + t1) % 2 ^ 64, s.e, s.f, s.g⟩

/-- The sum of two sets of variables. -/
def Sha.add (x y : Sha) : Sha :=
  let m := fun (a b : Nat) => (a + b) % 2 ^ 64
  ⟨m x.a y.a, m x.b y.b, m x.c y.c, m x.d y.d, m x.e y.e, m x.f y.f, m x.g y.g, m x.h y.h⟩

/-- One block of 128 bytes. -/
def Sha.block (s : Sha) (bs : Bytes) : Sha :=
  let w := (shaSchedule 64 ((List.range 16).map fun i => be bs (8 * i) 8).reverse).reverse
  s.add ((((List.range 80).map (wordAt shaKs)).zip w).foldl Sha.round s)

/-- The blocks of a padded message. -/
def Sha.blocks (s : Sha) : (n : Nat) → Bytes → Sha
  | 0, _ => s
  | n + 1, bs => (s.block (bs.take 128)).blocks n (bs.drop 128)

/-- SHA-384 of a message, as a number. -/
def sha384 (m : Bytes) : Nat :=
  let fill := (128 + 111 - m.length % 128) % 128
  let bs := m ++ [0x80] ++ zeros fill ++ toBE 16 (8 * m.length)
  let i := wordAt shaInit
  let s := Sha.blocks ⟨i 0, i 1, i 2, i 3, i 4, i 5, i 6, i 7⟩ (bs.length / 128) bs
  [s.a, s.b, s.c, s.d, s.e, s.f].foldl (fun n x => n * 2 ^ 64 + x) 0

/-! ### The curve P-384 -/

/-- The prime of the field, the order of the group and the coefficient b. -/
abbrev curveP : Nat :=
  0xFFFFFFFFFFFFFFFFFFFFFFFFFFFFFFFFFFFFFFFFFFFFFFFFFFFFFFFFFFFFFFFEFFFFFFFF0000000000000000FFFFFFFF
abbrev curveN : Nat :=
  0xFFFFFFFFFFFFFFFFFFFFFFFFFFFFFFFFFFFFFFFFFFFFFFFFC7634D81F4372DDF581A0DB248B0A77AECEC196ACCC52973
abbrev curveB : Nat :=
  0xB3312FA7E23EE7E4988E056BE3F82D19181D9C6EFE8141120314088F5013875AC656398D8A2ED19D2A85C8EDD3EC2AEF

/-- A point in Jacobian coordinates; z = 0 is the point at infinity. -/
structure JPoint where
  x : Nat
  y : Nat
  z : Nat

/-- The base point. -/
def curveG : JPoint where
  x := 0xAA87CA22BE8B05378EB1C71EF320AD746E1D3B628BA79B9859F741E082542A385502F25DBF55296C3A545E3872760AB7
  y := 0x3617DE4A96262C6F5D9E98BF9292DC29F8F41DBD289A147CE9DA3113B5F0B8C00A60B1CE1D7E819D7A431D7C90EA0E5F
  z := 1

/-- Difference in the field. -/
def subP (a b : Nat) : Nat := (a + curveP - b % curveP) % curveP

/-- Twice a point. -/
def JPoint.double (p : JPoint) : JPoint :=
  let y2 := p.y * p.y % curveP
  let z2 := p.z * p.z % curveP
  let s := 4 * p.x * y2 % curveP
  let m := 3 * (subP p.x z2) * (p.x + z2) % curveP
  let x := subP (m * m) (2 * s)
  ⟨x, subP (m * subP s x) (8 * (y2 * y2)), 2 * p.y * p.z % curveP⟩

/-- Sum of two points. -/
def JPoint.add (p q : JPoint) : JPoint :=
  if p.z = 0 then q
  else if q.z = 0 then p
  else
    let z1 := p.z * p.z % curveP
    let z2 := q.z * q.z % curveP
    let u1 := p.x * z2 % curveP
    let u2 := q.x * z1 % curveP
    let s1 := p.y * z2 % curveP * q.z % curveP
    let s2 := q.y * z1 % curveP * p.z % curveP
    let h := subP u2 u1
    let r := subP s2 s1
    if h = 0 then (if r = 0 then p.double else ⟨1, 1, 0⟩)
    else
      let h2 := h * h % curveP
      let h3 := h2 * h % curveP
      let v := u1 * h2 % curveP
      let x := subP (r * r) (h3 + 2 * v)
      ⟨x, subP (r * subP v x) (s1 * h3), p.z * q.z % curveP * h % curveP⟩

/-- a·G + b·q, from bit `n` − 1 of the factors down; `gq` is G + q. -/
def mulAdd (q gq : JPoint) (a b : Nat) : (n : Nat) → JPoint → JPoint
  | 0, r => r
  | n + 1, r =>
    let r := r.double
    let r := match bit a n, bit b n with
      | true, true => r.add gq
      | true, false => r.add curveG
      | false, true => r.add q
      | false, false => r
    mulAdd q gq a b n r

/-- Power modulo m of an exponent of n bits. -/
def powMod (m x e : Nat) : (n : Nat) → Nat → Nat
  | 0, r => r
  | n + 1, r =>
    let r := r * r % m
    powMod m x e n (if bit e n then r * x % m else r)

/-- Inverse modulo a prime. -/
def invMod (m x : Nat) : Nat := powMod m x (m - 2) 384 1

/-- A public key, 0x04 with X and Y, is a point of the curve. -/
def onCurve (x y : Nat) : Bool :=
  decide (x < curveP) && decide (y < curveP) && decide (y * y % curveP = (x * x % curveP * x + (curveP - 3) * x + curveB) % curveP)

/-- A signature, r then s, of a message verifies under a public key. -/
def ecdsaVerify (publicKey message signature : Bytes) : Bool :=
  let x := be publicKey 1 48
  let y := be publicKey 49 48
  let r := be signature 0 48
  let s := be signature 48 48
  let inRange := fun (k : Nat) => decide (0 < k) && decide (k < curveN)
  publicKey.length == 97 && be publicKey 0 1 == 4 && onCurve x y && signature.length == 96 && inRange r && inRange s &&
    (let w := invMod curveN s
     let q : JPoint := ⟨x, y, 1⟩
     let p := mulAdd q (curveG.add q) (sha384 message * w % curveN) (r * w % curveN) 384 ⟨1, 1, 0⟩
     let zi := invMod curveP p.z
     p.z != 0 && p.x * (zi * zi % curveP) % curveP % curveN == r)

end Sys2Proof.Machine
end

