-- ==== Sys2Proof/Machine/Blocks.lean ====
section
/-! DEFINITION. Cell images and the block library (R298–R302, Tables 12-4 and 12-5): the parts of an image, its checks,
and one run of its blocks. -/

namespace Sys2Proof.Machine

/-! ### Images (Table 12-4) -/

/-- Sections of an image that follow one another. -/
structure ImageParts where
  blocks : Nat
  inputs : Nat
  frames : Nat
  pool   : Nat
  deriving DecidableEq, Repr

/-- The counts in a header. -/
def imageParts (b : Bytes) : ImageParts where
  blocks := be b 6 2
  inputs := be b 16 1
  frames := be b 17 1
  pool := be b 18 2

/-- Offset of the block records. -/
def ImageParts.blocksAt (p : ImageParts) : Nat := 64 + roundUp (2 * p.inputs) 4

/-- Offset of the output templates. -/
def ImageParts.framesAt (p : ImageParts) : Nat := p.blocksAt + 32 * p.blocks

/-- The templates from offset `a`, with the offset behind them. -/
def templatesFrom (b : Bytes) : (k a : Nat) → List Template × Nat
  | 0, a => ([], a)
  | k + 1, a =>
    let t := be b (a + 4) 2
    let r := templatesFrom b k (a + roundUp (8 + t) 4)
    ({ stream := be b a 4, frame := slice b (a + 8) t, counter := be b (a + 6) 2 } :: r.1, r.2)

/-- The block record at an offset. -/
def blockAt (b : Bytes) (a : Nat) : Block where
  typ := be b a 1
  ins := (List.range 4).map fun i => be b (a + 4 + 2 * i) 2
  param := slice b (a + 12) 20

/-- The parts of an image. -/
def parseImage (b : Bytes) : CellImage :=
  let p := imageParts b
  let t := templatesFrom b p.frames p.framesAt
  { period := be b 8 4, wcet := be b 12 4, key := be b 20 1, build := be b 24 8
    inputs := (List.range p.inputs).map fun i => be b (64 + 2 * i) 2
    blocks := (List.range p.blocks).map fun i => blockAt b (p.blocksAt + 32 * i)
    templates := t.1, pool := slice b t.2 p.pool }

/-! ### Block types (Table 12-5) -/

/-- Worst-case cycles of a block type. -/
def blockCycles (t : Nat) : Nat :=
  [0, 40, 32, 36, 28, 24, 4, 8, 6, 20, 8, 18, 48, 60, 18, 16, 12, 10, 8, 6, 14, 8, 22, 30, 6].getD t 0

/-- Output ports of a block type. -/
def blockPorts (t : Nat) : Nat :=
  [0, 1, 1, 3, 0, 0, 1, 1, 1, 1, 2, 1, 1, 2, 1, 1, 1, 1, 1, 1, 1, 1, 1, 0, 4].getD t 0

/-- Places of the F32 PARAM values of a block type. -/
def blockFloats (t : Nat) : List Nat :=
  match t with
  | 1 => [4, 8]
  | 3 => [4]
  | 4 => [4, 8]
  | 6 => [0]
  | 7 => [0, 4, 8, 12]
  | 10 => [0, 4]
  | 13 => [0, 4, 8, 12, 16]
  | 14 => [0, 4]
  | 15 => [0]
  | 16 => [0, 4]
  | 20 => [4]
  | _ => []

/-- Bytes of an IN_NUM format. -/
def formatLen (f : Nat) : Nat := if f ≤ 2 then 2 else 4

/-- An F32 PARAM value. -/
def Block.float (b : Block) (a : Nat) : F32 := (F32.ofBits (be b.param a 4)).getD .zero

/-- A byte of PARAM. -/
def Block.byte (b : Block) (a : Nat) : Nat := be b.param a 1

/-- An input is connected. -/
def Block.linked (b : Block) (i : Nat) : Bool := b.ins.getD i 0xFFFF ≠ 0xFFFF

/-- The points of a CURVE. -/
def curvePoints (pool : Bytes) (b : Block) : List (Option F32 × Option F32) :=
  (List.range (b.byte 2)).map fun i =>
    let a := be b.param 0 2 + 8 * i
    (F32.ofBits (be pool a 4), F32.ofBits (be pool (a + 4) 4))

/-- Points that follow `x0` are numbers with x rising. -/
def risingFrom (x0 : F32) : List (Option F32 × Option F32) → Bool
  | [] => true
  | (some x, some _) :: r => x0.lt x && risingFrom x r
  | _ :: _ => false

/-- The points of a CURVE are numbers with x rising. -/
def risingPoints : List (Option F32 × Option F32) → Bool
  | (some x, some _) :: r => risingFrom x r
  | _ => false

/-- PARAM of a block lies in Table 12-5; a negative time, rate or limit and `lo` above `hi` do not (log entry 43). -/
def blockOk (i : CellImage) (b : Block) : Bool :=
  let m := i.inputs.length
  let pos := fun a => !(b.float a).neg || (b.float a).mag == 0
  let ordered := fun lo hi => (b.float lo).le (b.float hi)
  (blockFloats b.typ).all (fun a => (F32.ofBits (be b.param a 4)).isSome) &&
  match b.typ with
  | 1 => decide (b.byte 0 < m) && decide (16 ≤ b.byte 1) && decide (1 ≤ b.byte 2) && decide (b.byte 2 ≤ 5)
      && decide (b.byte 1 + formatLen (b.byte 2) ≤ 256)
  | 2 => decide (b.byte 0 < m) && decide (16 ≤ b.byte 1) && decide (b.byte 3 ≤ 7)
  | 3 => decide (b.byte 0 < m) && pos 4
  | 4 => decide (1 ≤ b.byte 2) && decide (b.byte 2 ≤ 5)
  | 5 => decide (b.byte 3 ≤ 7)
  | 10 => ordered 0 4
  | 12 => decide (2 ≤ b.byte 2) && decide (b.byte 2 ≤ 16) && decide (be b.param 0 2 + 8 * b.byte 2 ≤ i.pool.length)
      && risingPoints (curvePoints i.pool b)
  | 13 => pos 4 && pos 8 && ordered 12 16
  | 14 => pos 0 && pos 4
  | 15 => pos 0
  | 17 => decide (1 ≤ b.byte 0) && decide (b.byte 0 ≤ 6)
  | 18 => decide (1 ≤ b.byte 0) && decide (b.byte 0 ≤ 4)
  | 20 => decide (1 ≤ b.byte 0) && decide (b.byte 0 ≤ 2) && pos 4
  | 22 => decide (1 ≤ b.byte 0) && decide (b.byte 0 ≤ 4) && decide (2 ≤ ((List.range 4).filter b.linked).length)
  | 23 => decide (1 ≤ be b.param 0 2)
  | t => decide (1 ≤ t) && decide (t ≤ 24)

/-- An input reference names an output port that its block has. -/
def refOk (i : CellImage) (r : Nat) : Bool :=
  r == 0xFFFF || (decide (r < 1024) && (match i.blocks[r / 4]? with
    | some b => decide (r % 4 < blockPorts b.typ)
    | none => false))

/-- An output field lies within its template. -/
def fieldOk (i : CellImage) (b : Block) : Bool :=
  if b.typ = 4 || b.typ = 5 then
    match i.templates[b.byte 0]? with
    | some t => decide (b.byte 1 + (if b.typ = 4 then formatLen (b.byte 2) else 1) ≤ t.frame.length)
    | none => false
  else true

/-- A template is in range. -/
def templateOk (t : Template) : Bool :=
  decide (60 ≤ t.frame.length) && decide (t.frame.length ≤ 252) && decide (t.stream ≤ 16383)
    && (t.counter == 0xFFFF || (decide (14 ≤ t.counter) && decide (t.counter ≤ t.frame.length - 2)))

/-- The worst-case execution time of an image in loop-core cycles (R302). -/
def CellImage.cost (i : CellImage) : Nat :=
  400 + 48 * i.inputs.length + 96 * i.templates.length + (i.blocks.map fun b => blockCycles b.typ).sum

/-- The format of an image: magic, version, ranges and total length (cause 2). -/
def formatOk (b : Bytes) : Bool :=
  let p := imageParts b
  decide (160 ≤ b.length) && decide (be b 0 4 = 0x4958434C) && decide (be b 4 2 = 1)
    && decide (1 ≤ p.blocks) && decide (p.blocks ≤ 256) && decide (250 ≤ be b 8 4) && decide (be b 8 4 ≤ 10000000)
    && decide (p.inputs ≤ 64) && decide (p.frames ≤ 8) && decide (p.pool ≤ 4096) && decide (p.pool % 4 = 0)
    && decide (be b 20 1 ≤ 3)
    && decide (b.length = (templatesFrom b p.frames p.framesAt).2 + p.pool + 96)

/-- Slots are in range and listed once (cause 4). -/
def slotsOk (i : CellImage) : Bool := i.inputs.all (fun x => decide (x ≤ 16383)) && decide i.inputs.Nodup

/-- The first load cause of R299 that an image meets, 0 for none; `key` is the signing key of the header's index. -/
def imageCause (key : Nat → Nat) (b : Bytes) : Nat :=
  let i := parseImage b
  let k := key i.key
  if !formatOk b then 2
  else if k = 0 || !ecdsaVerify (toBE 97 k) (b.take (b.length - 96)) (b.drop (b.length - 96)) then 1
  else if !i.blocks.all (fun x => blockOk i x && x.ins.all (refOk i)) then 3
  else if !slotsOk i then 4
  else if !i.templates.all templateOk || !i.blocks.all (fieldOk i) then 5
  else if i.wcet ≠ i.cost || 19600 < i.cost then 6
  else 0

/-! ### Signals -/

/-- A signal on its way to an output; `none` when it would be NaN or infinite. -/
abbrev Sig := Option F32

/-- Arithmetic on signals. -/
def Sig.add (a b : Sig) : Sig := a.bind fun x => b.bind fun y => (x.add y).fin
def Sig.sub (a b : Sig) : Sig := a.bind fun x => b.bind fun y => (x.sub y).fin
def Sig.mul (a b : Sig) : Sig := a.bind fun x => b.bind fun y => (x.mul y).fin
def Sig.div (a b : Sig) : Sig := a.bind fun x => b.bind fun y => (x.div y).fin

/-- A test of two signals. -/
def Sig.test (f : F32 → F32 → Bool) (a b : Sig) : Bool := f (a.getD .zero) (b.getD .zero)

/-- A signal as bits; what is not finite is 0.0. -/
def Sig.bits (a : Sig) : Nat := (a.getD .zero).toBits

/-! ### One block -/

/-- What a run offers its blocks. -/
structure RunEnv where
  slots   : List Bytes
  pool    : Bytes
  period  : Nat
  release : Nat
  track   : Bool
  active  : Bool
  since   : Nat
  back    : Bool
  deriving DecidableEq, Repr

/-- An output field of a frame (R307): bytes, or one bit. -/
inductive Field where
  | bytes (frame off : Nat) (bs : Bytes)
  | bit (frame off i : Nat) (on : Bool)
  deriving DecidableEq, Repr

/-- What a block gives: outputs, its new state, a NUMERIC fault of its own, an output field, an alarm code. -/
structure BlockOut where
  outs    : List Sig := []
  state   : List Nat := []
  numeric : Bool := false
  field   : Option Field := none
  alarm   : Option Nat := none
  deriving DecidableEq, Repr

/-- The nominal period in seconds. -/
def RunEnv.dt (e : RunEnv) : F32 := F32.ofRatio (e.period * 2 ^ 149) 1000000

/-- `runs` periods last at least `limit` seconds. -/
def RunEnv.lasted (e : RunEnv) (runs : Nat) (limit : F32) : Bool :=
  limit.mag * 1000000 ≤ runs * e.period * 2 ^ 149

/-- The raw value of an input field. -/
def rawIn (slot : Bytes) (off fmt : Nat) : Sig :=
  if fmt = 1 then some (F32.ofInt (decI 16 (be slot off 2)))
  else if fmt = 2 then some (F32.ofInt (be slot off 2))
  else if fmt = 3 then some (F32.ofInt (decI 32 (be slot off 4)))
  else if fmt = 4 then some (F32.ofInt (be slot off 4))
  else F32.ofBits (be slot off 4)

/-- A number clamped to a range. -/
def clampI (lo hi x : Int) : Int := if x < lo then lo else if hi < x then hi else x

/-- The bytes of an output field: rounded to nearest and saturated. -/
def rawOut (fmt : Nat) (x : F32) : Bytes :=
  let sat := fun lo hi => if x.finite then clampI lo hi x.toInt else if x.neg then lo else hi
  if fmt = 1 then toBE 2 (encI 16 (sat (-32768) 32767))
  else if fmt = 2 then toBE 2 (encI 16 (sat 0 65535))
  else if fmt = 3 then toBE 4 (encI 32 (sat (-2147483648) 2147483647))
  else if fmt = 4 then toBE 4 (encI 32 (sat 0 4294967295))
  else toBE 4 (if x.finite then x else F32.largest x.neg).toBits

/-- An input scaled for OUT_NUM; an infinite product keeps its sign. -/
def scaled (x scale off : F32) : F32 :=
  let p := x.mul scale
  if p.finite then p.add off else p

/-- PID (R301): `e`, `i` and `u` rounded once per operation. -/
def pid (e : RunEnv) (b : Block) (sp pv trk : F32) (track : Bool) (i0 e0 : F32) : BlockOut :=
  let f : Nat → Sig := fun a => some (b.float a)
  let kp : Sig := f 0
  let err := Sig.sub (some sp) (some pv)
  let d := ((kp.mul (f 8)).mul (err.sub (some e0))).div (some e.dt)
  let ke := kp.mul err
  let i : Sig := if track then (Sig.sub (some trk) ke).sub d
    else if (b.float 4).mag = 0 then some i0
    else Sig.add (some i0) ((ke.mul (some e.dt)).div (f 4))
  let u := (i.add ke).add d
  let lo : Sig := f 12
  let hi : Sig := f 16
  let above := u.isSome && Sig.test F32.lt hi u
  let i : Sig := if above then i.sub (u.sub hi) else i
  let u : Sig := if above then hi else u
  let under := u.isSome && Sig.test F32.lt u lo
  let i : Sig := if under then i.add (lo.sub u) else i
  let u : Sig := if under then lo else u
  { outs := [u, some (.ofBool (above || under))], state := [i.bits, err.bits] }

/-- The value of a CURVE at `x`, which lies above `x0`. -/
def curveFrom (x : F32) : (x0 y0 : F32) → List (Option F32 × Option F32) → Sig
  | x0, y0, (some x1, some y1) :: r =>
    if x.lt x1 then
      Sig.add (some y0) (Sig.div (Sig.mul (Sig.sub (some x) (some x0)) (Sig.sub (some y1) (some y0)))
        (Sig.sub (some x1) (some x0)))
    else curveFrom x x1 y1 r
  | _, y0, _ => some y0

/-- The value of a CURVE at `x`, held flat beyond its ends. -/
def curveValue (x : F32) : List (Option F32 × Option F32) → Sig
  | (some x0, some y0) :: r => if x.le x0 then some y0 else curveFrom x x0 y0 r
  | _ => some .zero

/-- Insert into a list that rises. -/
def insertF : List F32 → F32 → List F32
  | [], x => [x]
  | y :: r, x => if x.lt y then x :: y :: r else y :: insertF r x

/-- VOTE: median, minimum, maximum, mean of its connected inputs. -/
def vote (op : Nat) (xs : List F32) : Sig :=
  let v := xs.foldl insertF []
  let n := v.length
  let at_ := fun i => (some (v.getD i .zero) : Sig)
  let two := some (F32.ofInt 2)
  if op = 1 then
    if n % 2 = 1 then at_ (n / 2) else Sig.div (Sig.add (at_ (n / 2 - 1)) (at_ (n / 2))) two
  else if op = 2 then at_ 0
  else if op = 3 then at_ (n - 1)
  else Sig.div (xs.foldl (fun s x => Sig.add s (some x)) (some .zero)) (some (F32.ofInt n))

/-- LOGIC on its connected inputs. -/
def logic (op : Nat) (x0 : Bool) (xs : List Bool) : Bool :=
  if op = 1 then !xs.isEmpty && xs.all id
  else if op = 2 then xs.any id
  else if op = 3 then xs.foldl (· != ·) false
  else !x0

/-- COMPARE. -/
def compareF (op : Nat) (a b : F32) : Bool :=
  if op = 1 then b.lt a
  else if op = 2 then b.le a
  else if op = 3 then a.lt b
  else if op = 4 then a.le b
  else if op = 5 then decide (a.exact = b.exact)
  else decide (a.exact ≠ b.exact)

/-- One block (Table 12-5): `x` its inputs, `st` its state. -/
def evalBlock (e : RunEnv) (b : Block) (x : Nat → F32) (st : List Nat) : BlockOut :=
  let s := fun (k : Nat) => (F32.ofBits (st.getD k 0)).getD .zero
  let n := st.getD 0 0
  let f := fun a => b.float a
  let some1 := fun (y : F32) => ({ outs := [some y] } : BlockOut)
  let flag := fun (y : Bool) => some1 (.ofBool y)
  let slot := e.slots.getD (b.byte 0) []
  match b.typ with
  | 1 => { outs := [((rawIn slot (b.byte 1) (b.byte 2)).mul (some (f 4))).add (some (f 8))] }
  | 2 => flag (bit (be slot (b.byte 1) 1) (b.byte 3))
  | 3 =>
    let age := F32.ofRatio (((e.release : Int) - le slot 0 8) * 2 ^ 149) 1000000000
    { outs := [age.fin, some (F32.ofInt (le slot 8 4 % 2 ^ 24)), some (.ofBool ((f 4).lt age))] }
  | 4 => { field := some (.bytes (b.byte 0) (b.byte 1) (rawOut (b.byte 2) (scaled (x 0) (f 4) (f 8)))) }
  | 5 => { field := some (.bit (b.byte 0) (b.byte 1) (b.byte 3) (x 0).truth) }
  | 6 => some1 (f 0)
  | 7 =>
    let p := fun i => Sig.mul (some (f (4 * i))) (some (x i))
    { outs := [(((p 0).add (p 1)).add (p 2)).add (p 3)] }
  | 8 => { outs := [Sig.mul (some (x 0)) (some (x 1))] }
  | 9 => if (x 1).mag = 0 then { outs := [some .zero], numeric := true }
    else { outs := [Sig.div (some (x 0)) (some (x 1))] }
  | 10 =>
    let y := if (x 0).lt (f 0) then f 0 else if (f 4).lt (x 0) then f 4 else x 0
    { outs := [some y, some (.ofBool ((x 0).lt (f 0) || (f 4).lt (x 0)))] }
  | 11 => some1 (if (x 0).neg then .zero else (x 0).sqrt)
  | 12 => { outs := [curveValue (x 0) (curvePoints e.pool b)] }
  | 13 => pid e b (x 0) (x 1) (x 2) (if b.linked 3 then (x 3).truth else e.track) (s 0) (s 1)
  | 14 =>
    let y := s 0
    let up := Sig.mul (some (f 0)) (some e.dt)
    let dn := Sig.mul (some (f 4)) (some e.dt)
    let d := Sig.sub (some (x 0)) (some y)
    let r : Sig := if e.track then some (x 0)
      else if Sig.test F32.lt up d then Sig.add (some y) up
      else if Sig.test F32.lt d (dn.map F32.negate) then Sig.sub (some y) dn
      else some (x 0)
    { outs := [r], state := [r.bits] }
  | 15 =>
    let y := Sig.add (some (s 0)) (Sig.div (Sig.mul (Sig.sub (some (x 0)) (some (s 0))) (some e.dt))
      (Sig.add (some (f 0)) (some e.dt)))
    { outs := [y], state := [y.bits] }
  | 16 =>
    let y := if (f 0).lt (x 0) then 1 else if (x 0).lt (f 4) then 0 else n
    { outs := [some (.ofBool (y = 1))], state := [y] }
  | 17 => flag (compareF (b.byte 0) (x 0) (x 1))
  | 18 => flag (logic (b.byte 0) (x 0).truth (((List.range 4).filter b.linked).map fun i => (x i).truth))
  | 19 => some1 (if (x 2).truth then x 1 else x 0)
  | 20 =>
    if b.byte 0 = 1 then
      if (x 0).truth then { outs := [some (.ofBool (e.lasted n (f 4)))], state := [n + 1] }
      else { outs := [some .zero], state := [0] }
    else if (x 0).truth then { outs := [some .one], state := [1] }
    else if n ≠ 0 && !e.lasted (n - 1) (f 4) then { outs := [some .one], state := [n + 1] }
    else { outs := [some .zero], state := [0] }
  | 21 =>
    let y := if (x 1).truth then 0 else if (x 0).truth then 1 else n
    { outs := [some (.ofBool (y = 1))], state := [y] }
  | 22 => { outs := [vote (b.byte 0) (((List.range 4).filter b.linked).map x)] }
  | 23 =>
    { state := [(x 0).truth.toNat], alarm := if (x 0).truth && n = 0 then some (be b.param 0 2) else none }
  | 24 =>
    let secs := F32.ofRatio (e.since * e.period * 2 ^ 149) 1000000
    { outs := [some (.ofBool e.track), some (.ofBool e.active), secs.fin, some (.ofBool e.back)] }
  | _ => {}

/-! ### One run (R300) -/

/-- What a run has computed so far: outputs, states, frames, NUMERIC faults and alarms by block. -/
structure RunState where
  outs    : NMap Nat
  states  : NMap (List Nat)
  frames  : List Bytes
  numeric : List Nat := []
  alarms  : List Nat := []
  deriving DecidableEq, Repr

/-- Write an output field into its frame. -/
def putField (fs : List Bytes) : Field → List Bytes
  | .bytes fr off bs => fs.set fr (splice (fs.getD fr []) off bs)
  | .bit fr off i on =>
    let b := fs.getD fr []
    fs.set fr (splice b off [BitVec.ofNat 8 (setBit (be b off 1) i on)])

/-- Outputs of block `i`, ports from `p`; what is not finite is 0.0. -/
def putOuts (m : NMap Nat) (i p : Nat) : List Sig → NMap Nat
  | [] => m
  | y :: r => putOuts (NMap.put 0 m (4 * i + p) y.bits) i (p + 1) r

/-- Run block `i`: it reads the outputs of lower blocks from this run and of the others from the previous one. -/
def runBlock (e : RunEnv) (r : RunState) (i : Nat) (b : Block) : RunState :=
  let x := fun k =>
    let j := b.ins.getD k 0xFFFF
    if j = 0xFFFF then F32.zero else (F32.ofBits (NMap.at 0 r.outs j)).getD .zero
  let o := evalBlock e b x (NMap.at [] r.states i)
  { outs := putOuts r.outs i 0 o.outs
    states := NMap.put [] r.states i o.state
    frames := match o.field with
      | some f => putField r.frames f
      | none => r.frames
    numeric := if o.numeric || o.outs.any (·.isNone) then r.numeric ++ [i] else r.numeric
    alarms := match o.alarm with
      | some a => r.alarms ++ [a]
      | none => r.alarms }

/-- Run blocks in index order. -/
def runBlocks (e : RunEnv) (r : RunState) : (i : Nat) → List Block → RunState
  | _, [] => r
  | i, b :: bs => runBlocks e (runBlock e r i b) (i + 1) bs

end Sys2Proof.Machine
end

