-- ==== Sys2Proof/Machine/HostDma.lean ====
section
/-! DEFINITION. Read requests of functions and their tags (R239, R240): quotas, requests that wait for a tag, and the
reads by which queues fetch descriptors (R198, R211, R258) and the data that their work needs. -/

namespace Sys2Proof.Machine

/-- Tags of a host port. -/
def State.tags (s : State) (hp : Nat) : List Tag := NMap.at [] s.hst.tags hp

/-- Minimum, or whole quota in Partitioned, of a function's tags (R240). -/
def State.tagQuota (s : State) (hp m : Nat) : Nat :=
  let n := s.ob (hostIx hp) 0x16
  if s.partitioned then
    let q := if n = 0 then 0 else max 1 (3840 / n)
    if m ≤ 2 then 4096 - n * q else q
  else if m ≤ 2 then 256 else 2

/-- Tags of a function, outstanding or quarantined. -/
def State.tagsUsed (s : State) (hp m : Nat) : Nat := ((s.tags hp).filter fun t => t.master == m).length

/-- Pool tags of a port in Pooled that are free (R240). -/
def State.poolTags (s : State) (hp : Nat) : Nat :=
  let n := s.ob (hostIx hp) 0x16
  let ms := ((s.tags hp).map (·.master)).eraseDups
  4096 - 256 - 2 * n - (ms.map fun m => s.tagsUsed hp m - s.tagQuota hp m).sum

/-- A function may take a further tag (R239, R240). -/
def State.tagFree (s : State) (hp m : Nat) : Bool :=
  let used := s.tagsUsed hp m
  let q := s.tagQuota hp m
  decide ((s.tags hp).length < 4096)
    && (decide (used < q) || (!s.partitioned && decide (used < q + 512) && decide (0 < s.poolTags hp)))

/-- The tenant that a function's tags are shown under: its own, T0000 for the station PF0 (0x8000+t:09, :0A). -/
def State.tagTenant (s : State) (m : Nat) : Option Nat :=
  if 2 < m then some (m - 0x1000) else if m = s.stationMaster then some 0 else none

/-- Show the tags of a function in its tenant object. -/
def State.showTags (s : State) (hp m : Nat) : State :=
  match s.tagTenant m with
  | none => s
  | some t =>
    let mine := (s.tags hp).filter fun x => x.master == m
    let out := (mine.filter fun x => x.quarantine.isNone).length
    s.setCells (tenantIx t) 0 [(9, out), (0xA, mine.length - out)]

/-- Set the tags of a host port; x:18–:1A and the tenant objects follow. -/
def State.setTags (s : State) (hp : Nat) (ts : List Tag) : State :=
  let ms := ((s.tags hp ++ ts).map (·.master)).eraseDups
  let s := { s with hst := { s.hst with tags := NMap.put [] s.hst.tags hp ts } }
  let out := (ts.filter fun t => t.quarantine.isNone).length
  let s := s.setCells (hostIx hp) 0 [(0x18, out), (0x19, ts.length - out)]
  let s := s.setOb (hostIx hp) 0x1A (if s.partitioned then 0 else s.poolTags hp)
  ms.foldl (fun s m => s.showTags hp m) s

/-! ### Reads (R239) -/

/-- Max_Read_Request_Size of a function: that of its PF0's Device Control. -/
def State.maxRead (s : State) (m : Nat) : Nat :=
  128 * 2 ^ min 5 (bits (s.config (s.hpOf m + 1) (capPcie + 8)) 14 12)

/-- Reads that satisfy a test, on function and purpose, have ended: what arrives for them is discarded, and what waits is not
sent. -/
def State.endReads (s : State) (mine : Nat → Purpose → Bool) : State :=
  let rs := s.hst.reads.filter fun r => !mine r.master r.why
  let ws := s.hst.waits.map fun e => (e.1, e.2.filter fun w => rs.any fun r => r.id == w.id)
  { s with hst := { s.hst with reads := rs, waits := ws.filter fun e => !e.2.isEmpty } }

/-- Reads of a cipher page, of a storage queue, of a ring. -/
def ofCipher (o : Nat) : Purpose → Bool
  | .cipherDesc w _ _ => w == o
  | .jobData w _ => w == o
  | _ => false
def ofStorage (o : Nat) : Purpose → Bool
  | .storDesc w _ _ => w == o
  | .storList w _ => w == o
  | .storData w _ _ => w == o
  | .segData w _ _ => w == o
  | _ => false
def ofRing (o : Nat) (tx : Bool) (r : Nat) : Purpose → Bool
  | .ringDesc w x n _ _ => w == o && x == tx && n == r
  | .txData w n _ => tx && w == o && n == r
  | _ => false
/-- Fetches of descriptors of a ring. -/
def fetchOf (o : Nat) (tx : Bool) (r : Nat) : Purpose → Bool
  | .ringDesc w x n _ _ => w == o && x == tx && n == r
  | _ => false

/-- Reads of a channel of the DMA engine. -/
def ofDma (ch : Nat) : Purpose → Bool
  | .dmaRead c _ _ => c == ch
  | _ => false

/-- End the reads of a queue of an owner. -/
def State.endQueue (s : State) (mine : Purpose → Bool) : State := s.endReads fun _ w => mine w

/-- A read with a purpose is in progress. -/
def State.reading (s : State) (mine : Purpose → Bool) : Bool := s.hst.reads.any fun r => mine r.why

/-- The first number from `n` that no tag of the port has. -/
def freshTag (ts : List Tag) : (fuel n : Nat) → Nat
  | 0, n => n
  | k + 1, n => if ts.any (fun t => t.tag == n) then freshTag ts k ((n + 1) % 16384) else n

/-- Send a request with a tag. -/
def State.sendRead (s : State) (hp : Nat) (r : ReadWait) : State :=
  let ts := s.tags hp
  let n := freshTag ts (ts.length + 1) (NMap.at 0 s.hst.nextTag hp)
  let s := { s with hst := { s.hst with nextTag := NMap.put 0 s.hst.nextTag hp ((n + 1) % 16384) } }
  let s := s.setTags hp (ts ++ [{ tag := n, master := r.master, id := r.id, len := r.len, off := r.off, sent := s.now }])
  s.emit (.hostRead r.master n r.addr r.len)

/-- Put a request behind those that wait for a tag. -/
def State.waitRead (s : State) (hp : Nat) (r : ReadWait) : State :=
  { s with hst := { s.hst with waits := NMap.put [] s.hst.waits hp (NMap.at [] s.hst.waits hp ++ [r]) } }

/-- A read that SAFE_HOLD pauses: any but that of a DMA channel (R385). -/
def Purpose.pauses : Purpose → Bool
  | .dmaRead _ _ _ => false
  | _ => true

/-- The request belongs to a read that SAFE_HOLD pauses. -/
def State.readPaused (s : State) (r : ReadWait) : Bool := s.inHold && s.hst.reads.any fun x => x.id == r.id && x.why.pauses

/-- A request of a function: sent with a tag, or waiting for one or for the end of SAFE_HOLD; a function that may not issue sends
none (R245). -/
def State.issueOne (s : State) (r : ReadWait) : State :=
  let hp := s.hpOf r.master
  if !s.mayIssue r.master then s
  else if s.readPaused r then s.waitRead hp r
  else if s.tagFree hp r.master then s.sendRead hp r
  else s.waitRead hp r

/-- Start a DMA read of a function for a purpose: requests of at most Max_Read_Request_Size (R239). -/
def State.issueRead (s : State) (m : Nat) (why : Purpose) (addr len : Nat) : State :=
  let size := s.maxRead m
  let n := ceilDiv len size
  let id := s.hst.nextRead
  if !s.mayIssue m then s
  else
    let s := { s with hst := { s.hst with
      reads := s.hst.reads ++ [{ id := id, master := m, why := why, left := n }], nextRead := id + 1 } }
    (List.range n).foldl (fun s i =>
      s.issueOne { master := m, id := id, addr := addr + size * i, len := min size (len - size * i), off := size * i }) s

/-- Send what waits and now finds a tag. -/
def State.drainReads (s : State) (hp : Nat) : State :=
  let ws := NMap.at [] s.hst.waits hp
  let s := { s with hst := { s.hst with waits := NMap.put [] s.hst.waits hp [] } }
  ws.foldl State.issueOne s

/-- A tag becomes free. -/
def State.freeTag (s : State) (hp tag : Nat) : State :=
  (s.setTags hp ((s.tags hp).filter fun t => t.tag != tag)).drainReads hp

/-- Put data before the first piece with a higher offset. -/
def insertPiece (x : Nat × Bytes) : List (Nat × Bytes) → List (Nat × Bytes)
  | [] => [x]
  | y :: r => if x.1 < y.1 then x :: y :: r else y :: insertPiece x r

/-- The data of a request arrives; the read with its data when it was the last one. -/
def State.takePiece (s : State) (t : Tag) (data : Bytes) : Option (HostRead × Bytes) × State :=
  match s.hst.reads.find? fun r => r.id == t.id with
  | none => (none, s)
  | some r =>
    let got := insertPiece (t.off, fit t.len data) r.got
    if r.left ≤ 1 then
      (some (r, (got.map (·.2)).flatten), { s with hst := { s.hst with reads := dropFirst (fun x => x.id == t.id) s.hst.reads } })
    else
      let r' : HostRead := { r with left := r.left - 1, got := got }
      (none, { s with hst := { s.hst with reads := updFirst (fun x => x.id == t.id) (fun _ => r') s.hst.reads } })

/-- The read of a request fails; what else is asked for it is discarded. -/
def State.dropRead (s : State) (t : Tag) : Option HostRead × State :=
  match s.hst.reads.find? fun r => r.id == t.id with
  | none => (none, s)
  | some r =>
    let ws := s.hst.waits.map fun e => (e.1, e.2.filter fun w => w.id != t.id)
    (some r, { s with hst := { s.hst with
      reads := dropFirst (fun x => x.id == t.id) s.hst.reads, waits := ws.filter fun e => !e.2.isEmpty } })

/-! ### Host data and lane work that an operation needs -/

/-- The reads have been asked for, and all have arrived or failed. -/
def Prep.ready (p : Prep) : Bool := decide (p.reads.length ≤ p.got.length + p.failed.length)

/-- What the i-th read gave; `none` where it failed. -/
def Prep.data (p : Prep) (i : Nat) : Option Bytes := (p.got.find? fun e => e.1 == i).map (·.2)

/-- All data in the order of the reads. -/
def Prep.all (p : Prep) : List (Option Bytes) := (List.range p.reads.length).map p.data

/-- The i-th read has arrived, or has failed. -/
def Prep.take (p : Prep) (i : Nat) (data : Option Bytes) : Prep :=
  match data with
  | some b => { p with got := (i, b) :: p.got }
  | none => { p with failed := i :: p.failed }

/-- Issue the reads of a piece of work. -/
def State.issueAll (s : State) (m : Nat) (reads : List (Nat × Nat)) (why : Nat → Purpose) : State :=
  (List.range reads.length).foldl (fun s i => let r := reads.getD i (0, 0); s.issueRead m (why i) r.1 r.2) s

/-- Fetch descriptors `from` up to `to` of a ring of `size` entries of `bytes` bytes: one request, two at a wrap. -/
def State.fetchRun (s : State) (owner base size bytes start stop : Nat) (why : Nat → Nat → Purpose) : State :=
  let m := s.funcMaster owner
  let one := fun (s : State) (a n : Nat) =>
    if n = 0 then s else s.issueRead m (why a n) (base + bytes * a) (bytes * n)
  if start ≤ stop then one s start (stop - start) else one (one s start (size - start)) 0 stop

/-- A queue of a tenant's region is halted: a ring, the cipher page, the storage queue or the telemetry ring (R245). -/
def State.anyHalted (s : State) (owner : Nat) : Bool :=
  (List.range 64).any (fun r => s.ringHalted owner true r || s.ringHalted owner false r)
    || s.regBits owner 0x6020 1 1 = 1 || s.regBits owner 0xA030 1 1 = 1 || s.rng.tlmHalted.contains owner

/-- The Function state of a tenant (0x8000+t:0C). -/
def State.noteFunction (s : State) (t : Nat) : State :=
  let port := if t = 0 then s.ob 0x1303 1 else s.ob (tenantIx t) 3
  let link := s.ob (hostIx (port - 1)) 0x10
  let f := s.func (s.funcMaster (tenantMaster t))
  let st :=
    if port = 0 then 0
    else if link = 0 || link = 5 then 7
    else if t ≠ 0 && s.ob (tenantIx t) 4 = 0 then 0
    else if f.inFlr then 3
    else match f.dstate with
      | .d0 => if f.halted then 2 else 1
      | .d1 => 4
      | .d2 => 5
      | .d3hot => 6
      | .d3cold => 7
  s.setOb (tenantIx t) 0xC st

/-- QUEUES_HALTED of a function follows its queues (Table 10-5). -/
def State.noteHalted (s : State) (owner : Nat) : State :=
  let m := s.funcMaster owner
  (s.setFunc m { s.func m with halted := s.anyHalted owner }).noteFunction (owner - 0x1000)

end Sys2Proof.Machine
end

