-- ==== Sys2Proof/Machine/Segments.lean ====
section
/-! DEFINITION. Which delivered frames belong to a storage connection (R215), and the completion ring of a storage queue
pair as delivery sees it (R211). -/

namespace Sys2Proof.Machine

/-! ### Connections -/

/-- A connection. -/
def State.conn (s : State) (row : Nat) : Option Conn := NMap.at none s.sto.conns row

/-- Set a connection. -/
def State.setConn (s : State) (row : Nat) (c : Option Conn) : State :=
  { s with sto := { s.sto with conns := NMap.put none s.sto.conns row c } }

/-- A TCP segment: its sequence number, where its payload starts, its payload, whether its checksum is right. -/
structure Segment where
  seq  : Nat
  at_  : Nat
  data : Bytes
  good : Bool

/-- Where the IP packet of a layer ends. -/
def Layer.ipEnd (l : Layer) : Nat := if l.ip = 4 then l.l3 + l.ipLen else l.l3 + 40 + l.ipLen

/-- The TCP segment of a frame whose parser flags show none of FRAG, EXT_LIMIT, DEPTH and L3_ERR (R215). -/
def segmentOf (p : Parsed) (bs : Bytes) : Option Segment :=
  let l := p.outer
  match l.l4 with
  | none => none
  | some a =>
    if l.proto ≠ 6 || l.frag || l.limit || p.depth || l.err then none
    else
      let stop := l.ipEnd
      let start := a + 4 * (be bs (a + 12) 1 / 16)
      let w := if l.ip = 4 then 4 else 16
      let sum := onesSum (toBE w l.ipSrc ++ toBE w l.ipDst ++ toBE 4 (stop - a) ++ [0, 0, 0, 6] ++ slice bs a (stop - a))
      some { seq := be bs (a + 4) 4, at_ := start, data := slice bs start (stop - start), good := decide (sum = 65535) }

/-- A connection and a frame agree (R215). -/
def Conn.takes (c : Conn) (n : Nat) (l : Layer) : Bool :=
  decide (c.vport = n) && decide (c.version = l.ip) && decide (c.raddr = l.ipSrc) && decide (c.laddr = l.ipDst)
    && decide (c.rport = l.sport) && decide (c.lport = l.dport)

/-- The connection that a frame delivered from vport n belongs to. -/
def State.connOf (s : State) (n : Nat) (bs : Bytes) : Option (Nat × Conn × Segment) :=
  let p := parseFrame (s.ob 0x5000 1) (s.ob 0x5000 2) bs
  match segmentOf p bs with
  | none => none
  | some g => s.sto.conns.findSome? fun e => match e.2 with
    | some c => if c.takes n p.outer then some (e.1, c, g) else none
    | none => none

/-! ### The completion ring (R211) -/

/-- A storage queue register in a tenant's region. -/
abbrev sq (o : Nat) : Nat := 0xA000 + o

/-- Records of a storage completion ring. -/
def State.cqSize (s : State) (o : Nat) : Nat := sizeOf2 6 20 8 (s.regBits o (sq 0x1C) 4 0)

/-- Records that a storage completion ring can still take; none while the queue pair is not enabled (log entry 35). -/
def State.cqRoom (s : State) (o : Nat) : Nat :=
  let size := s.cqSize o
  if s.regBits o (sq 0x28) 0 0 = 0 then 0
  else size - 1 - (s.regN o (sq 0x20) % size + size - s.regN o (sq 0x24) % size) % size

/-- A consumed segment of an owner whose records have not all been posted. -/
def State.segHeld (s : State) (o : Nat) : Option SegHeld := NMap.at none s.sto.held o

/-- A frame of a vport is held while its connection's function cannot get a record, and behind a segment whose records wait
(R211). -/
def State.cqHolds (s : State) (n : Nat) (bs : Bytes) : Bool :=
  let o := tenantMaster (n / 16)
  (s.connOf n bs).isSome && (decide (s.cqRoom o = 0) || (s.segHeld o).isSome)

/-- Queue q of a vport waits for the completion of a frame before it (R218). -/
def State.rowHeld (s : State) (n q : Nat) : Bool :=
  (s.segHeld (tenantMaster (n / 16))).any fun h => h.vport == n && h.queue == q

end Sys2Proof.Machine
end

