-- ==== Sys2Proof/Machine/Delivery.lean ====
section
/-! DEFINITION. Delivery of vport queues to receive rings (R149, R150, R262, R263) and queue telemetry (R151–R154). -/

namespace Sys2Proof.Machine

/-! ### Ring selection (R262) -/

/-- The vports, by number, that hold copies for a host port. -/
def State.busyVports (s : State) (code : Nat) : List Nat :=
  ((s.net.queues.filter fun e => decide (8192 ≤ e.1) && !e.2.isEmpty).map fun e => (e.1 - 8192) / 8).eraseDups.filter
    fun n => s.portOf (n / 16) = code

/-- The tenants that hold copies for a host port, rising. -/
def State.busyTenants (s : State) (code : Nat) : List Nat := ((s.busyVports code).map (· / 16)).eraseDups

/-- The bytes of a copy as a vport gets them, without FCS. -/
def State.deliveredBytes (s : State) (c : QCopy) : Bytes :=
  match c.sa with
  | none => s.dress c
  | some r => protect (s.sa r) (s.nextPn r) (s.dress c)

/-- The receive ring of a copy in vport n: 63 for a trapped copy, else as VP_MAP and the hash select. -/
def State.rxRing (s : State) (n : Nat) (c : QCopy) : Nat :=
  if c.trap ≠ 0 then 63
  else
    let off := 0x3000 + 4 * (n % 16)
    let owner := tenantMaster (n / 16)
    let f := s.regBits owner off 5 0
    let first := if f ≤ 62 then f else 0
    let count := max 1 (min (s.regBits owner off 13 8) (63 - first))
    first + ringHash (s.deliveredBytes c) % count

/-- A receive ring can take a frame: enabled, not halted, a descriptor and a completion free (R150, R262, R265). -/
def State.rxReady (s : State) (owner r : Nat) : Bool :=
  let b := ringBase false r
  let size := s.ringSize owner false r
  s.ringEnabled owner false r && !s.ringHalted owner false r && s.mayIssue (s.funcMaster owner)
    && decide (s.regN owner (b + 0x10) % size ≠ s.regN owner (b + 0x0C) % size) && !s.ringFull owner false r
    && !(s.descBytes owner false r (s.regN owner (b + 0x10) % size)).isEmpty

/-! ### The three levels (R149) -/

/-- The copy at the head of a vport queue may be delivered. -/
def State.vEligible (s : State) (n q : Nat) : Bool :=
  match s.queue (vportRow n q) with
  | [] => false
  | c :: _ =>
    c.fetched && c.sa.all (fun r => s.saReady r (s.encryptLane none (n / 16)))
    && s.rxReady (tenantMaster (n / 16)) (s.rxRing n c) && !s.cqHolds n (s.deliveredBytes c) && !s.rowHeld n q

/-- Length of the head of a vport queue. -/
def State.vHead (s : State) (n q : Nat) : Nat := ((s.queue (vportRow n q)).head?.map (·.wireLen)).getD 0

/-- The member at or after `x` in a rising list, cyclically. -/
def memberAt (l : List Nat) (x : Nat) : Nat := ((l.find? (x ≤ ·)).or l.head?).getD 0

/-- The members that a visit changes or serves: the busy ones and those that keep a deficit. -/
def Drr.members (d : Drr) (busy : List Nat) : List Nat := (d.defs.map (·.1)).foldl insertId busy

/-- The loop of R137 over numbered members (R149): the pointer steps through every number, and only the listed members make a
visit matter. -/
def drrOver (v : List Nat → DrrView) (busy : List Nat) (d : Drr) : Option Nat × Drr :=
  let l := d.members busy
  let p := memberAt l d.ptr
  match drr (v l) (4 * l.length + 8) 0 { d with ptr := p, act := d.act && p == d.ptr } with
  | (none, r) => (none, { r with ptr := d.ptr, act := false })
  | (some q, r) => (some q, if r.act then r else { r with ptr := q + 1 })

/-- Q4–Q0 of a vport. -/
def State.vGroup (s : State) (n : Nat) : DrrView where
  empty q := (s.queue (vportRow n q)).isEmpty
  eligible q := s.vEligible n q
  size q := s.vHead n q
  quantum _ := 16384
  single q := decide ((s.queue (vportRow n q)).length = 1)
  next q := if q = 0 then 4 else q - 1
  members := 5

/-- Host delivery of a port (0 A, 1 B). -/
def State.delivery (s : State) (p : Nat) : Delivery := NMap.at {} s.net.delivery p

/-- The queue that vport n delivers from, and its round robin behind it. -/
def State.vPick (s : State) (d : Delivery) (n : Nat) : Option Nat × Drr :=
  let r := NMap.at { ptr := 4 } d.queues n
  if s.vEligible n 7 then (some 7, r)
  else if s.vEligible n 6 then (some 6, r)
  else if s.vEligible n 5 then (some 5, r)
  else drr (s.vGroup n) 64 0 r

/-- Copies that wait in a vport. -/
def State.vCount (s : State) (n : Nat) : Nat := ((List.range 8).map fun q => (s.queue (vportRow n q)).length).sum

/-- The vports of a tenant. -/
def State.tGroup (s : State) (d : Delivery) (vs l : List Nat) : DrrView where
  empty n := !vs.contains n
  eligible n := (s.vPick d n).1.isSome
  size n := match (s.vPick d n).1 with
    | some q => s.vHead n q
    | none => 0
  quantum _ := 16384
  single n := decide (s.vCount n = 1)
  next n := memberAt l (n + 1)
  members := l.length

/-- The vport that tenant t delivers from, and its round robin behind it. -/
def State.tPick (s : State) (d : Delivery) (vs : List Nat) (t : Nat) : Option Nat × Drr :=
  let mine := vs.filter (· / 16 == t)
  drrOver (s.tGroup d mine) mine (NMap.at {} d.vports t)

/-- The tenants of a host port. -/
def State.hGroup (s : State) (d : Delivery) (ts vs l : List Nat) : DrrView where
  empty t := !ts.contains t
  eligible t := (s.tPick d vs t).1.isSome
  size t := match (s.tPick d vs t).1 with
    | some n => match (s.vPick d n).1 with
      | some q => s.vHead n q
      | none => 0
    | none => 0
  quantum _ := 16384
  single t := decide (((vs.filter (· / 16 == t)).map s.vCount).sum = 1)
  next t := memberAt l (t + 1)
  members := l.length

/-- The vport and queue that a host port delivers from next, with the round robins behind them. -/
def State.hPick (s : State) (p : Nat) : Option (Nat × Nat × Delivery) :=
  let vs := s.busyVports (p + 1)
  let ts := s.busyTenants (p + 1)
  let d := s.delivery p
  match drrOver (s.hGroup d ts vs) ts d.tenants with
  | (none, _) => none
  | (some t, rt) =>
    match s.tPick d vs t with
    | (none, _) => none
    | (some n, rv) =>
      match s.vPick d n with
      | (none, _) => none
      | (some q, rq) =>
        some (n, q, { tenants := rt, vports := NMap.put {} d.vports t rv, queues := NMap.put { ptr := 4 } d.queues n rq })

/-! ### Delivery -/

/-- A head of a vport queue that its SA cannot protect is discarded (R194, R196, R206), and one with an uncorrectable error
(Table 16-1). -/
def State.vFault (s : State) (c : QCopy) : Option HeadFault := if c.bad then some .memory else s.saFault c

/-- Discard such heads of a row, up to `n` of them. -/
def State.vPurge (s : State) (row : Nat) : Nat → State
  | 0 => s
  | n + 1 =>
    match s.queue row with
    | [] => s
    | c :: r =>
      match s.vFault c with
      | none => s
      | some f =>
        let s := if f = .memory then s else s.countHead 0 0 c f
        ((s.setQueue row r).discardCopy row c).vPurge row n

/-- Discard such heads of every vport queue. -/
def State.vPurgeAll (s : State) : State :=
  (s.net.queues.filter fun e => decide (8192 ≤ e.1)).foldl (fun s e => s.vPurge e.1 e.2.length) s

/-- The storage field of a frame of no connection: kind 0 with CONN 0xFFFF as Table 9-6 has it while the function's storage queue
is enabled, else 0 as Table 11-5 has it (log entry 34). -/
def State.noConn (s : State) (n : Nat) : Nat := if s.regBits (tenantMaster (n / 16)) (sq 0x28) 0 0 = 1 then 0xFFFF * 2 ^ 48 else 0

/-- The receive completion of a copy (Table 11-5); `stor` is its storage field. -/
def rxCompletion (b : Option Buffer) (desc : RingDesc) (n q len stor : Nat) (c : QCopy) (phase : Nat) : Bytes :=
  toLE 8 desc.cookie ++ toLE 8 ((b.map (·.rxTime)).getD 0) ++ toLE 2 len ++ toLE 1 (decide (desc.len < len)).toNat
    ++ toLE 1 (phase + (if c.trap ≠ 0 then 0x40 else 0) + (if b.any (·.decrypted) then 0x20 else 0)
        + (if b.any (·.stream.isSome) then 0x10 else 0))
    ++ toLE 1 (q * 16 + n % 16) ++ toLE 1 c.trap ++ zeros 2 ++ toLE 8 stor

/-- Write a frame to the buffer of the descriptor at the head of its ring, then its completion (R263). -/
def State.rxWrite (s : State) (n q r stor : Nat) (c : QCopy) (bs : Bytes) : State :=
  let owner := tenantMaster (n / 16)
  let base := ringBase false r
  let head := s.regN owner (base + 0x10) % s.ringSize owner false r
  let desc := s.descAt owner false r head
  let b := s.buf c.handle
  let s := s.dropDesc owner false r head
  let s := s.dmaWrite owner desc.addr (bs.take desc.len)
  let s := s.setReg owner (base + 0x10)
    (BitVec.ofNat 32 ((s.regN owner (base + 0x10) + 1) % s.ringSize owner false r))
  let s := if desc.len < bs.length then s.bumpReg owner (base + 0x30) 1 else s
  s.ringComplete owner false r (rxCompletion b desc n q bs.length stor c) false

/-- Take the head of a vport queue: stage E, egress work, its delivery. Answers whether a frame was delivered. -/
def State.deliverFrom (s : State) (n q : Nat) : Bool × State :=
  let row := vportRow n q
  match s.queue row with
  | [] => (false, s)
  | c :: rest =>
    match (s.setQueue row rest).applyE (some row) none c with
    | (true, s) => (false, s)
    | (false, s) =>
      let r := s.rxRing n c
      match s.encryptCopy c (s.dress c) with
      | (none, s') => (false, s'.discardCopy row c)
      | (some (pn, bs), s') =>
        let s' := if pn.isNone then s'
          else (s'.addWork (s'.encryptLane none (n / 16)) .inside (c.stream.any s'.admitted) bs.length).2
        (true, (s'.rxWrite n q r (s'.noConn n) c bs).dropCopy c.handle)

/-- The head of a vport queue is a frame of a storage connection, which STORAGE_SEGMENT takes (R215). -/
def State.headStored (s : State) (n q : Nat) : Bool :=
  match s.queue (vportRow n q) with
  | [] => false
  | c :: _ => (s.connOf n (s.deliveredBytes c)).isSome

/-- Deliver until a frame is delivered or none is eligible; a frame of a storage connection stays at its head. -/
def State.deliverLoop (s : State) (p : Nat) : Nat → State
  | 0 => s
  | k + 1 =>
    match s.hPick p with
    | none => s
    | some (n, q, d) =>
      if s.headStored n q then s
      else
        let s := { s with net := { s.net with delivery := NMap.put {} s.net.delivery p d } }
        match s.deliverFrom n q with
        | (true, s) => s
        | (false, s) => s.deliverLoop p k

/-- The descriptor at the head of the receive ring that a copy for vport n goes to. -/
def State.rxDesc (s : State) (n : Nat) (c : QCopy) : RingDesc :=
  let o := tenantMaster (n / 16)
  let r := s.rxRing n c
  s.descAt o false r (s.regN o (ringBase false r + 0x10) % s.ringSize o false r)

/-- The descriptor at the head of the receive ring of the frame that a host port delivers next. -/
def State.nextDesc (s : State) (p : Nat) : Option RingDesc :=
  match s.hPick p with
  | some (n, q, _) => ((s.queue (vportRow n q)).head?).map (s.rxDesc n)
  | none => none

/-- VPORT_DELIVERY: a host port delivers one frame with the descriptor at the head of its ring, which the command names (R149, R150,
R262, R263). -/
def execVportDelivery (hp : HostPort) (desc : RingDesc) (s : State) : Host.Outcome State Fault Refusal :=
  let p := portMaster hp - 1
  .next <| if s.inHold then s else
  let s := s.vPurgeAll
  if s.nextDesc p = some desc then s.deliverLoop p (((s.busyVports (p + 1)).map s.vCount).sum + 1) else s

/-! ### Telemetry (R151–R154) -/

/-- The head copy of a queue row, which may be selected and not started. -/
def State.headOf (s : State) (row : Nat) : Option QCopy :=
  (((s.sched (row / 8)).selected.find? fun x => decide (row < 8192) && x.queue == row % 8).map (·.copy)).or
    (s.queue row).head?

/-- Age of the head copy, saturating; 0 when the queue is empty. -/
def State.headAge (s : State) (row : Nat) : Nat :=
  match s.headOf row with
  | some c => min 0xFFFFFFFF (s.now - c.enq)
  | none => 0

/-- The histogram bin of a sojourn (R152). -/
def histBin (base sojourn : Nat) : Nat :=
  if sojourn < base then 0 else ((List.range 14).find? fun i => decide (sojourn < base * 2 ^ (i + 1))).elim 15 (· + 1)

/-- The histogram with one bin incremented; bin 0 first, each a U32. -/
def bumpBin (hist i : Nat) : Nat :=
  let sh := 32 * (15 - i)
  setBits hist (sh + 31) sh (bits hist (sh + 31) sh + 1)

/-- Min, max and last of a value in three subindices. -/
def State.track (s : State) (row sub : Nat) (first : Bool) (v : Nat) : State :=
  s.setCells 0x3801 row
    [ (sub, if first then v else min (s.cell 0x3801 row sub) v)
    , (sub + 1, if first then v else max (s.cell 0x3801 row (sub + 1)) v)
    , (sub + 2, v) ]

/-- A telemetry record (Table 6-6). -/
def tlmRecord (time row frames bytes sojourn : Nat) (notReady : Bool) : Bytes :=
  toLE 8 time ++ toLE 4 row ++ toLE 4 frames ++ toLE 8 bytes ++ toLE 4 sojourn ++ toLE 1 notReady.toNat ++ zeros 3

/-- Offset of the telemetry registers in a tenant's region. -/
abbrev tlm (o : Nat) : Nat := 0xC000 + o

/-- Records of a telemetry ring. -/
def State.tlmSize (s : State) (owner : Nat) : Nat := sizeOf2 6 20 6 (s.regBits owner (tlm 8) 4 0)

/-- Write a record to the telemetry ring of an owner (R153); a ring that is not enabled or halted discards it, and none is
written in SAFE_HOLD (R385). -/
def State.exportTlm (s : State) (owner : Nat) (record : Bytes) : State :=
  if s.inHold || s.regBits owner (tlm 0x14) 0 0 = 0 || s.rng.tlmHalted.contains owner then s
  else
    let size := s.tlmSize owner
    let prod := s.regN owner (tlm 0xC)
    let cons := s.regN owner (tlm 0x10)
    let next := (prod + 1) % size
    if next = cons % size then (s.bumpReg owner (tlm 0x1C) 1).eventLim 0x030A owner [s.funcMaster owner]
    else
      let s := s.dmaWrite owner (s.regAddr owner (tlm 0) + 32 * prod) record
      let s := s.setReg owner (tlm 0xC) (BitVec.ofNat 32 next)
      if s.regBits owner (tlm 0x14) 1 1 = 1 && decide ((next + size - cons % size) % size = s.regN owner (tlm 0x18)) then
        s.queueMsg owner (tlm 0x14)
      else s

/-- The number of the multiple of a row's interval at which it was last sampled, or behind which its interval was set. -/
def State.sampledAt (s : State) (row : Nat) : Nat := NMap.at 0 s.net.sampled row

/-- Note the multiple of its interval that station time has reached as sampled. -/
def State.noteSample (s : State) (row : Nat) : State :=
  { s with net := { s.net with sampled := NMap.put 0 s.net.sampled row (s.tai / s.cell 0x3801 row 4) } }

/-- TELEMETRY_SAMPLE: a queue row is sampled when station time has reached a new multiple of its interval (R151–R153). -/
def execTelemetrySample (row : Nat) (s : State) : Host.Outcome State Fault Refusal :=
  let iv := s.cell 0x3801 row 4
  .next <|
    if iv = 0 || 532480 ≤ row || s.tai / iv = s.sampledAt row then s
    else
      let s := s.noteSample row
      let frames := s.framesQueued row
      let bytes := s.bytesQueued row
      let soj := s.headAge row
      let first := decide (s.cell 0x3801 row 0x11 = 0)
      let bin := histBin (s.cell 0x3801 row 5) soj
      let s := ((s.setCell 0x3801 row 0xA frames).track row 0xB first bytes).track row 0xE first soj
      let s := (s.bump 0x3801 row 0x11 1).setCell 0x3801 row 0x12 (bumpBin (s.cell 0x3801 row 0x12) bin)
      if s.cell 0x3801 row 6 = 1 then
        let notReady := match s.headOf row with
          | none => false
          | some c => if row < 8192 then !s.ready (row / 8) c else !c.fetched
        s.exportTlm (tenantMaster ((s.rowOwner 0x3801 row).getD 0))
          (tlmRecord (s.tai / iv * iv) row frames bytes soj notReady)
      else s

/-- A write of TLM_CTRL: ENABLE from 0 to 1 zeroes the indexes (R154). -/
def State.writeTlmCtrl (s : State) (owner : Nat) (ctrl : Word) : State :=
  let was := s.regBits owner (tlm 0x14) 0 0
  let s := s.writeReg owner (tlm 0x14) ctrl
  if was = 0 && s.regBits owner (tlm 0x14) 0 0 = 1 then
    let s := (s.setReg owner (tlm 0xC) 0).setReg owner (tlm 0x10) 0
    { s with rng := { s.rng with tlmHalted := s.rng.tlmHalted.filter (· != owner) } }
  else s

/-- TELEMETRY_RING_ENABLE. -/
def execTelemetryRingEnable (f : Func) (ctrl : Word) (s : State) : Host.Outcome State Fault Refusal :=
  .next <| match s.regionOf f with
    | none => s
    | some owner => s.writeTlmCtrl owner ctrl

end Sys2Proof.Machine
end

