-- ==== Sys2Proof/Machine/Lookaside.lean ====
section
/-! DEFINITION. Cipher pages and lookaside jobs (R196–R203), masking and randomness (R204–R208). -/

namespace Sys2Proof.Machine

/-! ### Pages (R198, R199) -/

/-- A cipher page register in a tenant's region. -/
abbrev cp (o : Nat) : Nat := 0x6000 + o

/-- Descriptors of a page's ring. -/
def State.pageSize (s : State) (o : Nat) : Nat := sizeOf2 6 16 6 (s.regBits o (cp 8) 4 0)

/-- Set the jobs; BUSY of a page follows its jobs. -/
def State.setJobs (s : State) (o : Nat) (js : List Job) : State :=
  let s := { s with cip := { s.cip with jobs := js } }
  s.setRegBits o (cp 0x20) 0 0 (js.any fun j => j.owner == o && !j.done).toNat

/-- Fetch descriptors of a page while fewer than 64 of its jobs execute. -/
def State.fetchJobs (s : State) (o : Nat) : State :=
  let size := s.pageSize o
  let head := s.regN o (cp 0x10) % size
  let avail := (s.regN o (cp 0xC) % size + size - head) % size
  let busy := (s.cip.jobs.filter fun j => j.owner == o && !j.done).length
  let n := min avail (64 - busy)
  if n = 0 || s.regBits o (cp 0x18) 0 0 = 0 || s.regBits o (cp 0x20) 1 1 = 1 || !s.mayIssue (s.funcMaster o) then s
  else
    let stop := (head + n) % size
    let s := s.setJobs o (s.cip.jobs ++ (List.range n).map fun i => { owner := o, slot := (head + i) % size })
    let s := s.setReg o (cp 0x10) (BitVec.ofNat 32 stop)
    s.fetchRun o (s.regAddr o (cp 0)) size 64 head stop fun a k => .cipherDesc o a k

/-- CP_DONE advances past every descriptor that has completed with all before it; answers how many. -/
def State.advanceDone (s : State) (o : Nat) : Nat → Nat × State
  | 0 => (0, s)
  | k + 1 =>
    let d := s.regN o (cp 0x14)
    if s.cip.jobs.any (fun j => j.owner == o && j.slot == d && j.done) then
      let s := s.setJobs o (dropFirst (fun j => j.owner == o && j.slot == d && j.done) s.cip.jobs)
      let q := (s.setReg o (cp 0x14) (BitVec.ofNat 32 ((d + 1) % s.pageSize o))).advanceDone o k
      (q.1 + 1, q.2)
    else (0, s)

/-- A tenant's cipher page sends a message (R199). -/
def State.pageMsg (s : State) (o : Nat) : State :=
  let s := { s with cip := { s.cip with sinceMsg := NMap.put 0 s.cip.sinceMsg o 0 } }
  s.queueMsg o (cp 0x18)

/-- Complete the job of a slot: bytes 56–63 of its descriptor, CP_DONE, counters and message (R199, R202). -/
def State.finishJob (s : State) (o slot lane status result : Nat) (irq : Bool) : State :=
  let s := s.dmaWrite o (s.regAddr o (cp 0) + 64 * slot + 56) (toLE 4 (lane * 65536 + status) ++ toLE 4 result)
  let s := s.setJobs o (updFirst (fun j => j.owner == o && j.slot == slot) (fun j => { j with done := true }) s.cip.jobs)
  let s := if status = 0 then s.inc 0x6000 0x16
    else ((s.inc 0x6000 0x17).bumpReg o (cp 0x28) 1).eventLim 0x060D o [s.funcMaster o, status]
  let q := s.advanceDone o s.cip.jobs.length
  let s := q.2
  let n := NMap.at 0 s.cip.sinceMsg o + q.1
  let s := { s with cip := { s.cip with sinceMsg := NMap.put 0 s.cip.sinceMsg o n } }
  let s := if s.regBits o (cp 0x18) 1 1 = 1 && (irq || decide (max 1 (s.regBits o (cp 0x1C) 15 0) ≤ n)) then s.pageMsg o
    else s
  s.fetchJobs o

/-- A job has not started. -/
def Job.idle (j : Job) : Bool := !j.done && j.lane.isNone

/-- The churn buffers of jobs are zeroed and freed, and their lanes take no more of their blocks (R203). -/
def State.freeJobs (s : State) (p : Job → Bool) : State :=
  let js := s.cip.jobs.filter p
  let s := (js.flatMap (·.churn)).foldl State.freeBuf s
  s.endWork fun x => js.any fun j => !j.done && j.lane.isSome && j.work == x.id

/-- End jobs of a page with a status, in ring order: those that satisfy the test, and the descriptors that stand exposed and
have not been fetched (R198, R208). -/
def State.endJobs (s : State) (o status : Nat) (p : Job → Bool) : State :=
  let size := s.pageSize o
  let head := s.regN o (cp 0x10) % size
  let avail := (s.regN o (cp 0xC) % size + size - head) % size
  let fetched := s.cip.jobs.filter fun j => j.owner == o && !j.done && p j
  let more : List Job := (List.range avail).map fun i => { owner := o, slot := (head + i) % size }
  let s := s.freeJobs fun j => j.owner == o && p j
  let s := s.setReg o (cp 0x10) (BitVec.ofNat 32 (s.regN o (cp 0xC) % size))
  let s := s.setJobs o (s.cip.jobs ++ more)
  (fetched ++ more).foldl (fun s j => s.finishJob o j.slot (j.lane.getD 0) status 0 (j.desc.any (·.irq))) s

/-- The jobs of a page vanish without completion; its reads end (R203). -/
def State.dropJobs (s : State) (o : Nat) : State :=
  let s := s.freeJobs fun j => j.owner == o
  (s.setJobs o (s.cip.jobs.filter fun j => j.owner != o)).endQueue (ofCipher o)

/-- A write of CP_CTRL (R198). -/
def State.writePageCtrl (s : State) (o : Nat) (ctrl : Word) : State :=
  let was := s.regBits o (cp 0x18) 0 0
  let s := s.writeReg o (cp 0x18) ctrl
  let now := s.regBits o (cp 0x18) 0 0
  if was = 0 && now = 1 then
    let s := ((s.setReg o (cp 0xC) 0).setReg o (cp 0x10) 0).setReg o (cp 0x14) 0
    let s := (s.dropJobs o).setRegBits o (cp 0x20) 1 1 0
    let s := { s with cip := { s.cip with sinceMsg := NMap.put 0 s.cip.sinceMsg o 0 } }
    s.noteHalted o
  else if was = 1 && now = 0 then s.endJobs o 7 Job.idle
  else s

/-- A write of CP_TAIL is a doorbell (R198). -/
def State.ringPage (s : State) (o : Nat) (tail : Word) : State := (s.writeReg o (cp 0xC) tail).fetchJobs o

/-- A function's tenant region takes a write. -/
def State.onRegion (s : State) (f : Func) (act : Nat → State) : State :=
  match s.regionOf f with
  | some o => act o
  | none => s

/-- CIPHER_PAGE_DOORBELL. -/
def execCipherPageDoorbell (f : Func) (tail : Word) (s : State) : Host.Outcome State Fault Refusal :=
  .next (s.onRegion f fun o => s.ringPage o tail)

/-- CIPHER_PAGE_ENABLE. -/
def execCipherPageEnable (f : Func) (ctrl : Word) (s : State) : Host.Outcome State Fault Refusal :=
  .next (s.onRegion f fun o => s.writePageCtrl o ctrl)

/-- CIPHER_PAGE_DISABLE. -/
def execCipherPageDisable (f : Func) (ctrl : Word) (s : State) : Host.Outcome State Fault Refusal :=
  .next (s.onRegion f fun o => s.writePageCtrl o ctrl)

/-- Halt a cipher page: no descriptor is fetched (R203). -/
def State.haltPage (s : State) (o : Nat) : State := (s.setRegBits o (cp 0x20) 1 1 1).noteHalted o

/-- A descriptor fetch fails: the page halts; jobs whose descriptors have arrived go on (R203). -/
def State.failDescs (s : State) (o slot n : Nat) : State :=
  (s.setJobs o (s.cip.jobs.filter fun j => !(j.owner == o && j.desc.isNone && decide (slot ≤ j.slot) && decide (j.slot < slot + n))))
    |>.haltPage o

/-! ### Descriptors (Table 8-5a) -/

/-- The descriptor that 64 bytes spell. -/
def jobDesc (b : Bytes) : JobDesc where
  opcode := le b 0 1
  irq := bit (le b 1 1) 0
  fence := bit (le b 1 1) 1
  tagLen := le b 2 1
  param := le b 3 1
  key := le b 4 4
  aux := le b 8 4
  aadLen := le b 12 4
  src := le b 16 8
  dst := le b 24 8
  len := le b 32 4
  iv := slice b 40 16

/-- Limit of LENGTH. -/
abbrev jobMax : Nat := 16777216

/-- Size of an XTS data unit. -/
def xtsSize (param : Nat) : Nat := 512 * 2 ^ (param % 4)

/-- Use and key length that PARAM names; `none` outside Table 8-5a or where the length does not suit the use (R192). -/
def paramKey (p : Nat) : Option (Nat × Nat) :=
  let use := p / 16
  let len := if p % 16 = 1 then 16 else if p % 16 = 2 then 32 else if p % 16 = 3 then 64 else 0
  if (use = 5 || use = 6) && (len = 16 || len = 32) then some (use, len)
  else if use = 7 && (len = 32 || len = 64) then some (use, len) else none

/-- LENGTH, AAD_LENGTH, TAG_LENGTH and the data unit of PARAM are within the limits of Table 8-5. -/
def jobLimits (d : JobDesc) : Bool :=
  match d.opcode with
  | 1 => decide (d.len ≤ jobMax) && within 12 16 d.tagLen && decide (d.aadLen ≤ 65535)
  | 2 => decide (d.len ≤ 65536) && within 12 16 d.tagLen && decide (d.aadLen ≤ 65535)
  | 3 | 4 => decide (d.len ≤ jobMax) && within 12 16 d.tagLen && decide (d.aadLen = 0)
  | 5 => within 1 jobMax d.len
  | 6 | 7 =>
    within 16 jobMax d.len && decide (d.param ≤ 3)
      && (decide (d.len % xtsSize d.param = 0) || decide (16 ≤ d.len % xtsSize d.param))
  | 8 | 9 => decide (d.len ≤ jobMax) && within 8 16 d.tagLen
  | 10 => true
  | 11 => (paramKey d.param).any fun x => decide (d.len = x.2 + 8)
  | 12 => within 1 256 d.len
  | 13 => within 1 4096 d.len
  | _ => false

/-- Bytes that a job reads at SRC: none outside its limits. -/
def srcLen (d : JobDesc) : Nat :=
  if !jobLimits d then 0
  else if d.opcode = 1 then d.aadLen + d.len
  else if d.opcode = 2 then d.aadLen + d.len + d.tagLen
  else if d.opcode = 4 || d.opcode = 9 then d.len + d.tagLen
  else if d.opcode = 10 || d.opcode = 13 then 0
  else d.len

/-- Change the job of a slot. -/
def State.updJob (s : State) (o slot : Nat) (f : Job → Job) : State :=
  { s with cip := { s.cip with jobs := updFirst (fun j => j.owner == o && j.slot == slot && !j.done) f s.cip.jobs } }

/-- Descriptors arrive: each job that reads at SRC sends its read. -/
def State.descsArrived (s : State) (o slot n : Nat) (data : Bytes) : State :=
  (List.range n).foldl (fun s i =>
    let d := jobDesc (slice data (64 * i) 64)
    let s := s.updJob o (slot + i) fun j => { j with desc := some d }
    if srcLen d = 0 then s.updJob o (slot + i) fun j => { j with src := some [] }
    else s.issueRead (s.funcMaster o) (.jobData o (slot + i)) d.src (srcLen d)) s

/-- What a job reads at SRC has arrived. -/
def State.srcArrived (s : State) (o slot : Nat) (data : Bytes) : State :=
  s.updJob o slot fun j => { j with src := some (fit ((j.desc.map srcLen).getD 0) data) }

/-- The read of a job fails (R202). -/
def State.failJob (s : State) (o slot : Nat) : State :=
  match s.cip.jobs.find? fun j => j.owner == o && j.slot == slot && !j.done with
  | some j => s.finishJob o slot 0 4 0 (j.desc.any (·.irq))
  | none => s

/-! ### Starting a job (R120, R193, R199) -/

/-- Bytes of lookaside work that a lane has not done. -/
def State.laneLoad (s : State) (lane : Nat) : Nat :=
  (s.cip.work.map fun x => match x.kind with
    | .lookaside _ => if x.lane = lane then x.bytes - 128 * (workBlocks x.bytes - x.left) else 0
    | _ => 0).sum

/-- The lane that takes a tenant's job (R120): in Pooled the one of roles CL00–CL31 with the least work outstanding. -/
def State.jobLane (s : State) (t : Nat) : Nat :=
  if s.partitioned then s.laneOf (t % 32)
  else (List.range 32).foldl (fun l r => if s.laneLoad (s.laneOf r) < s.laneLoad l then s.laneOf r else l) (s.laneOf 0)

/-- The use that the KEY row of an opcode has (Table 8-5); 0 where none is used. -/
def keyUse (opcode : Nat) : Nat :=
  if opcode = 6 || opcode = 7 then 7 else if 10 ≤ opcode && opcode ≤ 12 then 6 else if opcode = 13 then 0 else 5

/-- A KEY or AUX row is usable: valid, owned by the tenant, of the use (R200). -/
def State.keyUsable (s : State) (t row use : Nat) : Bool :=
  decide (row < 131072) && decide (s.saField row 4 = 1) && decide (s.rowOwner 0x6010 row = some t)
    && decide (s.saField row 6 = use)

/-- Take the key of a row (R193): `none` where the row is not usable or its slot fails its check (R196). -/
def State.takeKey (s : State) (t row use : Nat) : Option Bytes × State :=
  if !s.keyUsable t row use then (none, s)
  else match s.slotKey row with
    | some k => (some k, s)
    | none => (none, s.event 0x060C [row])

/-- The keys that a job takes at its start: that of KEY, and for WRAP that of AUX, whose row must be exportable (R197). -/
def State.jobKeys (s : State) (t : Nat) (d : JobDesc) : Option Bytes × Option Bytes × State :=
  let (k, s) := if keyUse d.opcode = 0 then (some [], s) else s.takeKey t d.key (keyUse d.opcode)
  let (x, s) := if d.opcode ≠ 10 then (some [], s)
    else if s.saField d.aux 0x1C = 0 then (none, s) else s.takeKey t d.aux (s.saField d.aux 6)
  (k, x, s)

/-- Pieces of churn buffers of row 6144 that hold `n` bytes, by class. -/
def churnPieces (n : Nat) : List Nat :=
  List.replicate (n / 16320) 3 ++ if n % 16320 = 0 then [] else [classFor (n % 16320)]

/-- Take churn buffers for a decryption (R201): `none` when one is refused. -/
def State.takeChurn (s : State) : List Nat → List Nat → Option (List Nat) × State
  | [], hs => (some hs, s)
  | c :: r, hs =>
    match s.takeBuf 6144 c with
    | (none, s) => (none, hs.foldl State.freeBuf s)
    | (some h, s) => s.takeChurn r (hs ++ [h])

/-- A job may start: its descriptor and data are there and a fence has been met (R199); in SAFE_HOLD none does (R385). -/
def State.jobReady (s : State) (j : Job) : Bool :=
  j.idle && j.src.isSome && !s.inHold && j.desc.any fun d => !d.fence || decide (s.regN j.owner (cp 0x14) = j.slot)

/-- Start a job: an undefined opcode ends it with OPCODE, a stopped engine with STOPPED; a decryption that finds no churn
buffers waits (log entry 78). -/
def State.startJob (s : State) (j : Job) (d : JobDesc) : State :=
  let t := j.owner - 0x1000
  let lane := s.jobLane t
  if d.opcode = 0 || 13 < d.opcode then s.finishJob j.owner j.slot lane 6 0 d.irq
  else if !s.engineRuns then s.finishJob j.owner j.slot lane 5 0 d.irq
  else
    let (k, x, s') := s.jobKeys t d
    match if d.opcode = 2 && k.isSome && jobLimits d then s'.takeChurn (churnPieces d.len) [] else (some [], s') with
    | (none, _) => s
    | (some hs, s) =>
      let q := s.addWork lane (.lookaside t) false (d.aadLen + d.len)
      q.2.updJob j.owner j.slot fun j => { j with lane := some lane, work := q.1, key := k, aux := x, churn := hs }

/-- Start, in the order fetched, every job that may start. -/
def State.startJobs (s : State) : State :=
  s.cip.jobs.foldl (fun s j => match j.desc with
    | some d => if s.jobReady j then s.startJob j d else s
    | none => s) s

/-! ### Completing a job (R200) -/

/-- What a job comes to: its status, the bytes for DST, the state. -/
structure JobEnd where
  status : Nat
  out    : Bytes
  state  : State

/-- Complete the job of a slot, of an opcode `code`, whose descriptor and data (`named`) are those that the command names, once its
lane has done its blocks; its churn buffers become free. -/
def State.runJob (s : State) (f : Func) (slot code : Nat) (d : JobDesc) (named : (src : Bytes) → Bool)
    (body : State → (t : Nat) → Job → JobDesc → Bytes → Option JobEnd) : State :=
  s.onRegion f fun o =>
    match s.cip.jobs.find? fun j => j.owner == o && j.slot == slot && !j.done && j.lane.isSome && j.desc == some d
        && named (j.src.getD []) with
    | none => s
    | some j =>
      if d.opcode ≠ code || !s.workDone j.work || s.inHold then s
      else match body s (o - 0x1000) j d (j.src.getD []) with
        | none => s
        | some e =>
          let s := j.churn.foldl State.freeBuf e.state
          let s := if e.out.isEmpty then s else s.dmaWrite o d.dst e.out
          s.finishJob o slot (j.lane.getD 0) e.status e.out.length d.irq

/-- A job that fails with a status. -/
def jobFail (s : State) (status : Nat) : Option JobEnd := some { status := status, out := [], state := s }

/-- A job that ends well with bytes for DST. -/
def jobOk (s : State) (out : Bytes) : Option JobEnd := some { status := 0, out := out, state := s }

/-- A job under a key: KEY, RANGE, then the work. -/
def State.keyed (s : State) (j : Job) (d : JobDesc) (work : Bytes → Option JobEnd) : Option JobEnd :=
  match j.key with
  | none => jobFail s 3
  | some k => if jobLimits d then work k else jobFail s 2

/-- GCM_ENCRYPT. -/
def execGcmEncrypt (f : Func) (job : Nat) (d : JobDesc) (src : Bytes) (s : State) : Host.Outcome State Fault Refusal :=
  .next <| s.runJob f job 1 d (· == src) fun s _ j d b =>
    s.keyed j d fun k =>
      let ct := gcmCrypt k (d.iv.take 12) (b.drop d.aadLen)
      jobOk s (ct ++ (gcmTag k (d.iv.take 12) (b.take d.aadLen) ct).take d.tagLen)

/-- GCM_DECRYPT: plaintext leaves the churn only after the tag verifies (R201). -/
def execGcmDecrypt (f : Func) (job : Nat) (d : JobDesc) (src : Bytes) (s : State) : Host.Outcome State Fault Refusal :=
  .next <| s.runJob f job 2 d (· == src) fun s _ j d b =>
    s.keyed j d fun k =>
      let ct := slice b d.aadLen d.len
      let tag := (gcmTag k (d.iv.take 12) (b.take d.aadLen) ct).take d.tagLen
      if tag = b.drop (d.aadLen + d.len) then jobOk s (gcmCrypt k (d.iv.take 12) ct) else jobFail s 1

/-- GMAC_GENERATE. -/
def execGmacGenerate (f : Func) (job : Nat) (d : JobDesc) (src : Bytes) (s : State) : Host.Outcome State Fault Refusal :=
  .next <| s.runJob f job 3 d (· == src) fun s _ j d b =>
    s.keyed j d fun k => jobOk s ((gcmTag k (d.iv.take 12) b []).take d.tagLen)

/-- GMAC_VERIFY. -/
def execGmacVerify (f : Func) (job : Nat) (d : JobDesc) (src : Bytes) (s : State) : Host.Outcome State Fault Refusal :=
  .next <| s.runJob f job 4 d (· == src) fun s _ j d b =>
    s.keyed j d fun k =>
      if (gcmTag k (d.iv.take 12) (b.take d.len) []).take d.tagLen = b.drop d.len then jobOk s [] else jobFail s 1

/-- CTR. -/
def execCtr (f : Func) (job : Nat) (d : JobDesc) (src : Bytes) (s : State) : Host.Outcome State Fault Refusal :=
  .next <| s.runJob f job 5 d (· == src) fun s _ j d b =>
    s.keyed j d fun k => jobOk s (ctrMode k 128 (ofBE d.iv) b)

/-- XTS_ENCRYPT. -/
def execXtsEncrypt (f : Func) (job : Nat) (d : JobDesc) (src : Bytes) (s : State) : Host.Outcome State Fault Refusal :=
  .next <| s.runJob f job 6 d (· == src) fun s _ j d b =>
    s.keyed j d fun k => jobOk s (xts true k (xtsSize d.param) (ofLE d.iv) b)

/-- XTS_DECRYPT. -/
def execXtsDecrypt (f : Func) (job : Nat) (d : JobDesc) (src : Bytes) (s : State) : Host.Outcome State Fault Refusal :=
  .next <| s.runJob f job 7 d (· == src) fun s _ j d b =>
    s.keyed j d fun k => jobOk s (xts false k (xtsSize d.param) (ofLE d.iv) b)

/-- CMAC_GENERATE. -/
def execCmacGenerate (f : Func) (job : Nat) (d : JobDesc) (src : Bytes) (s : State) : Host.Outcome State Fault Refusal :=
  .next <| s.runJob f job 8 d (· == src) fun s _ j d b =>
    s.keyed j d fun k => jobOk s ((cmac k b).take d.tagLen)

/-- CMAC_VERIFY. -/
def execCmacVerify (f : Func) (job : Nat) (d : JobDesc) (src : Bytes) (s : State) : Host.Outcome State Fault Refusal :=
  .next <| s.runJob f job 9 d (· == src) fun s _ j d b =>
    s.keyed j d fun k =>
      if (cmac k (b.take d.len)).take d.tagLen = b.drop d.len then jobOk s [] else jobFail s 1

/-- WRAP: an exportable key of the same owner leaves wrapped (R197). -/
def execWrap (f : Func) (job : Nat) (d : JobDesc) (s : State) : Host.Outcome State Fault Refusal :=
  .next <| s.runJob f job 10 d (fun _ => true) fun s _ j _ _ =>
    match j.key, j.aux with
    | some k, some x => jobOk s (keyWrap k x)
    | _, _ => jobFail s 3

/-- A target row of UNWRAP or DERIVE: of the tenant and not valid. -/
def State.targetFree (s : State) (t row : Nat) : Bool :=
  decide (row < 131072) && decide (s.rowOwner 0x6010 row = some t) && decide (s.saField row 4 = 0)

/-- A key is installed in a row, which becomes valid with its use and length. -/
def State.installKey (s : State) (row use : Nat) (key : Bytes) : State :=
  ((s.retireSa row).setCells 0x6010 row [(4, 1), (6, use), (7, key.length), (0x20, 4)]).setSlot row key

/-- A job that installs a key in the AUX row: KEY, RANGE, then the key. -/
def State.keyInto (s : State) (t : Nat) (j : Job) (d : JobDesc)
    (make : (k : Bytes) → (len : Nat) → Option Bytes) : Option JobEnd :=
  match j.key with
  | none => jobFail s 3
  | some k =>
    if !s.targetFree t d.aux then jobFail s 3
    else match paramKey d.param with
      | none => jobFail s 2
      | some (use, len) =>
        if !jobLimits d then jobFail s 2
        else match make k len with
          | none => jobFail s 1
          | some key => jobOk (s.installKey d.aux use key) []

/-- UNWRAP. -/
def execUnwrap (f : Func) (job : Nat) (d : JobDesc) (src : Bytes) (s : State) : Host.Outcome State Fault Refusal :=
  .next <| s.runJob f job 11 d (· == src) fun s t j d b => s.keyInto t j d fun k _ => keyUnwrap k b

/-- DERIVE. -/
def execDerive (f : Func) (job : Nat) (d : JobDesc) (src : Bytes) (s : State) : Host.Outcome State Fault Refusal :=
  .next <| s.runJob f job 12 d (· == src) fun s t j d b => s.keyInto t j d fun k len => some (kdf k b len)

/-- Generate requests of an instance since its reseed. -/
def State.drbgCount (s : State) (i : Nat) : Nat := NMap.at 0 s.cip.drbg i

/-- One generate request of an instance. -/
def State.drbgUse (s : State) (i : Nat) : State :=
  { s with cip := { s.cip with drbg := NMap.put 0 s.cip.drbg i (s.drbgCount i + 1) } }

/-- An instance has served 2^20 requests and waits for its reseed (R205). -/
def State.drbgWaits (s : State) (i : Nat) : Bool := decide (1048576 ≤ s.drbgCount i)

/-- RANDOM: output of the instance that serves the lane (R205); one that waits for its reseed serves nothing. -/
def execRandom (f : Func) (job : Nat) (d : JobDesc) (s : State) : Host.Outcome State Fault Refusal :=
  .next <| s.runJob f job 13 d (fun _ => true) fun s _ j d _ =>
    let i := j.lane.getD 0 % 4
    if !jobLimits d then jobFail s 2
    else if s.drbgWaits i then none
    else jobOk ({ s with free := s.free + 1 }.drbgUse i) (toBE d.len (Config.drbg i s.free d.len))

/-! ### Masks (R205, R206) -/

/-- MASK_REFRESH: 16,384 cycles after its load a lane's generator takes a new key from its instance, unless that waits for
its reseed. -/
def execMaskRefresh (l : CipherLane) (s : State) : Host.Outcome State Fault Refusal :=
  let d := s.clane l.val
  .next <|
    if s.drbgWaits (l.val % 4) || !s.engineRuns || s.laneCycle < d.keyLoaded + 16384 then s
    else (s.drbgUse (l.val % 4)).setClane l.val { d with keyLoaded := s.laneCycle, expired := false }

/-- MASK_KEY_EXPIRY: 32,768 cycles after its load a key that has not been refreshed expires. -/
def execMaskKeyExpiry (l : CipherLane) (s : State) : Host.Outcome State Fault Refusal :=
  let d := s.clane l.val
  .next (if s.laneCycle < d.keyLoaded + 32768 then s else s.setClane l.val { d with expired := true })

/-- LANE_STALL: the 256 cycles of masks that the buffer holds have been used since the key expired, and the instance waits for
its reseed (R206). -/
def execLaneStall (l : CipherLane) (s : State) : Host.Outcome State Fault Refusal :=
  let d := s.clane l.val
  .next <|
    if d.stalled.isSome || !d.expired || s.laneCycle < d.keyLoaded + 33024 || !s.drbgWaits (l.val % 4) then s
    else
      let s := s.setClane l.val { d with stalled := some s.now }
      let s := s.setOb 0x6020 8 (setBit (s.ob 0x6020 8) l.val true)
      (s.inc 0x6020 9).event 0x0606 [l.val]

/-- LANE_STALL_END: masks arrive under a key that has not expired; the lane takes up the passes that wait (R206). -/
def execLaneStallEnd (l : CipherLane) (s : State) : Host.Outcome State Fault Refusal :=
  let d := s.clane l.val
  .next <| match d.stalled with
    | none => s
    | some t =>
      if d.expired then s
      else
        let s := s.setClane l.val { d with stalled := none }
        let s := s.setOb 0x6020 8 (setBit (s.ob 0x6020 8) l.val false)
        ((s.bump 0x6000 0 0x18 (s.now - t)).event 0x0607 [l.val, s.now - t]).wakeLane l.val

/-- DRBG_RESEED: after 2^20 generate requests, from a source that is healthy. -/
def execDrbgReseed (i : Fin 4) (s : State) : Host.Outcome State Fault Refusal :=
  .next <|
    if !s.drbgWaits i.val || s.ob 0x6020 1 ≠ 1 then s
    else { s with cip := { s.cip with drbg := NMap.put 0 s.cip.drbg i.val 0 } }.inc 0x6020 7

/-! ### Stopping and restarting (R207, R208) -/

/-- Code of a test (0x6000:02). -/
def testCode : EntropyTest → Nat
  | .repetition => 1
  | .proportion => 2
  | .startup => 3
  | .drbg => 4
  | .knownAnswer => 5

/-- Pages that are enabled, by owner. -/
def State.enabledPages (s : State) : List Nat :=
  (s.regs.filter fun e => decide (e.1 % 2 ^ 26 = 0x6018) && bit e.2.toNat 0).map fun e => e.1 / 2 ^ 26

/-- Samples of the entropy source tested so far, an open value: the manual gives no sampling rate (log entry 5). -/
def State.samples (s : State) : Nat × State := let (f, s) := s.draw; (f % 2 ^ 64, s)

/-- A failed test is counted and logged, and the engine stands stopped (R208). -/
def State.failTest (s : State) (t : EntropyTest) : State :=
  let s := s.setCells 0x6000 0 [(1, if t = .knownAnswer then 3 else 2), (2, testCode t)]
  let s := s.setOb 0x6020 1 2
  let s := if t = .repetition then s.inc 0x6020 5 else if t = .proportion then s.inc 0x6020 6 else s
  let (n, s) := s.samples
  s.event 0x0608 (testCode t :: w64 n)

/-- Every lane stops: churns are zeroed and their frames dropped, jobs end with STOPPED (R208); storage XTS begins again once the
engine runs (log entry 81). -/
def State.stopLanes (s : State) : State :=
  let ps := s.cip.passes
  let s := ps.foldl (fun s x => s.freeOwn x.frame) s
  let s := { s with cip := { s.cip with passes := [], olds := [] } }
  let s := s.bump 0x6000 0 0x15 ps.length
  let owners := (s.cip.jobs.map (·.owner)).eraseDups
  let s := owners.foldl (fun s o => s.endJobs o 5 fun _ => true) s
  let again := fun (p : Prep) => { p with work := none }
  { s with
    cip := { s.cip with work := [] }
    sto := { s.sto with
      queues := s.sto.queues.map fun e => (e.1, e.2.map fun x => { x with prep := x.prep.map again })
      preps := s.sto.preps.map fun e => (e.1, e.2.map fun p => (p.1, again p.2)) } }

/-- Stop the engine: every enabled page is told. -/
def State.stopEngine (s : State) (t : EntropyTest) : State :=
  let s := ((s.failTest t).event 0x0609 [testCode t]).stopLanes
  let s := s.enabledPages.foldl (fun s o => s.cpEvent (o - 0x1000) 2) s
  s.level 0x7A9 true

/-- ENTROPY_TEST_FAILURE: of a running engine, or of one in its self-test after a reset (R207). -/
def execEntropyTestFailure (t : EntropyTest) (s : State) : Host.Outcome State Fault Refusal :=
  .next (if s.ob 0x6000 1 ≤ 1 && !s.pwr.inReset then s.stopEngine t else s)

/-- Restart the engine: the checks of R207 run again and `failing` is the one that fails. -/
def restartRule (failing : Option EntropyTest) : WriteRule where
  check s _ x := firstBad [s.startState, require (x == 1) stRange, require (!s.engineRuns) stState]
  act s v _ :=
    match failing with
    | some t => .done stOk [] (s.failTest t)
    | none =>
      let s := { s with cip := { s.cip with drbg := [] } }
      let s := (s.setOb 0x6000 1 1).setOb 0x6020 1 1
      .done stOk [] ((s.event 0x060A [masterOf v]).level 0x7A9 false)

/-- ENGINE_RESTART. -/
def execEngineRestart (v : Via) (data : Bytes) (failing : Option EntropyTest) (s : State) :
    Host.Outcome State Fault Refusal :=
  .next (s.writeItem v 0x6000 3 data (restartRule failing))

end Sys2Proof.Machine
end

