-- ==== Sys2Proof/Machine/Storage.lean ====
section
/-! DEFINITION. Storage assist for NVMe over TCP (R210–R225): the storage queue pair, connections and commands, receive
handling of PDUs, records, retirement and quarantine. Field places inside PDUs are those of NVMe/TCP (log entry 36). -/

namespace Sys2Proof.Machine

/-! ### Queues and records (R211, R219) -/

/-- Descriptors in execution of an owner. -/
def State.storQ (s : State) (o : Nat) : List StorSlot := NMap.at [] s.sto.queues o

/-- Set the descriptors in execution; BUSY follows. -/
def State.setStorQ (s : State) (o : Nat) (q : List StorSlot) : State :=
  let s := { s with sto := { s.sto with queues := NMap.put [] s.sto.queues o q } }
  s.setRegBits o (sq 0x30) 0 0 (!q.isEmpty).toNat

/-- Descriptors of a submission ring. -/
def State.sqSize (s : State) (o : Nat) : Nat := sizeOf2 6 16 6 (s.regBits o (sq 8) 4 0)

/-- CQ_FULL follows the completion ring. -/
def State.noteCq (s : State) (o : Nat) : State :=
  let size := s.cqSize o
  s.setRegBits o (sq 0x30) 2 2 (decide ((s.regN o (sq 0x20) + 1) % size = s.regN o (sq 0x24) % size)).toNat

/-- Write a completion record (R211, R219), its status in byte 1; `irq` asks for a message besides the threshold. -/
def State.postRecord (s : State) (o : Nat) (record : Bytes) (irq : Bool) : State :=
  let size := s.cqSize o
  let prod := s.regN o (sq 0x20)
  let next := (prod + 1) % size
  let s := s.dmaWrite o (s.regAddr o (sq 0x14) + 32 * prod) record
  let s := s.setReg o (sq 0x20) (BitVec.ofNat 32 next)
  let s := if be record 1 1 = 0 then s else s.bumpReg o (sq 0x34) 1
  let s := s.noteCq o
  let fill := (next + size - s.regN o (sq 0x24) % size) % size
  let s := if s.regBits o (sq 0x28) 1 1 = 1 && (irq || decide (fill = s.regN o (sq 0x2C))) then s.queueMsg o (sq 0x28) else s
  s.pmeTenant (o - 0x1000) 1

/-- A record (Table 9-7): type, status, connection, CID, AUX, 16 bytes of data, cookie. -/
def storRecord (type status conn cid aux : Nat) (data : Bytes) (cookie : Nat) : Bytes :=
  toLE 1 type ++ toLE 1 status ++ toLE 2 conn ++ toLE 2 cid ++ toLE 2 aux ++ fit 16 data ++ toLE 8 cookie

/-- End the descriptor at the head with its OP_DONE record. -/
def State.opDone (s : State) (o : Nat) (d : StorDesc) (status conn : Nat) : State :=
  (s.setStorQ o ((s.storQ o).drop 1)).postRecord o (storRecord 1 status conn d.cid d.opcode [] d.cookie) d.irq

/-- Fetch every exposed descriptor. -/
def State.fetchStor (s : State) (o : Nat) : State :=
  let size := s.sqSize o
  let head := s.regN o (sq 0x10) % size
  let stop := s.regN o (sq 0xC) % size
  if head = stop || s.regBits o (sq 0x28) 0 0 = 0 || s.regBits o (sq 0x30) 1 1 = 1 || !s.mayIssue (s.funcMaster o) then s
  else
    let n := (stop + size - head) % size
    let s := s.setStorQ o (s.storQ o ++ (List.range n).map fun i => { slot := (head + i) % size })
    let s := s.setReg o (sq 0x10) (BitVec.ofNat 32 stop)
    s.fetchRun o (s.regAddr o (sq 0)) size 64 head stop fun a k => .storDesc o a k

/-- The descriptor that 64 bytes spell (Table 9-2). -/
def storDesc (b : Bytes) : StorDesc where
  opcode := le b 0 1
  irq := bit (le b 1 1) 0
  noXts := bit (le b 1 1) 1
  conn := le b 2 2
  cid := le b 4 2
  len := le b 8 4
  inCapsule := le b 12 4
  list := le b 16 8
  segments := le b 24 4
  stage := le b 32 8
  capsule := le b 40 8
  dun := le b 48 8
  cookie := le b 56 8

/-- Bytes that a descriptor reads at LIST. -/
def storListLen (d : StorDesc) : Nat :=
  if d.opcode = 1 then 64
  else if (d.opcode = 3 || d.opcode = 4) && 1 ≤ d.segments && d.segments ≤ 256 then 16 * d.segments else 0

/-- Change the descriptor in a slot. -/
def State.updStor (s : State) (o slot : Nat) (f : StorSlot → StorSlot) : State :=
  s.setStorQ o (updFirst (fun e => e.slot == slot) f (s.storQ o))

/-- Descriptors arrive: each that reads at LIST sends its read; an undefined opcode is decided. -/
def State.storArrived (s : State) (o slot n : Nat) (data : Bytes) : State :=
  (List.range n).foldl (fun s i =>
    let d := storDesc (slice data (64 * i) 64)
    let fail := if 1 ≤ d.opcode && d.opcode ≤ 6 then 0 else 1
    let none_ := decide (storListLen d = 0)
    let s := s.updStor o (slot + i) fun e => { e with desc := some d, fail := fail, list := if none_ then some [] else none }
    if none_ then s else s.issueRead (s.funcMaster o) (.storList o (slot + i)) d.list (storListLen d)) s

/-- What a descriptor reads at LIST arrives. -/
def State.listArrived (s : State) (o slot : Nat) (data : Bytes) : State := s.updStor o slot fun e => { e with list := some data }

/-- Command data for a descriptor arrives, or its read fails. -/
def State.storData (s : State) (o slot i : Nat) (data : Option Bytes) : State :=
  s.updStor o slot fun e => { e with prep := e.prep.map fun p => p.take i data }

/-- The read of a descriptor at LIST failed: it ends with DMA. -/
def State.failStor (s : State) (o slot : Nat) : State := s.updStor o slot fun e => { e with fail := 8, list := some [] }

/-- What the segments at the head of a tenant's vport queues need has ended. -/
def State.dropPreps (s : State) (o : Nat) : State :=
  { s with sto := { s.sto with preps := s.sto.preps.filter fun e => decide ((e.1 - 8192) / 128 ≠ o - 0x1000) } }

/-- Drop the descriptors in execution and their reads. -/
def State.dropStor (s : State) (o : Nat) : State := ((s.setStorQ o []).endQueue (ofStorage o)).dropPreps o

/-- Halt a storage queue: no descriptor is fetched (R211). -/
def State.haltStor (s : State) (o : Nat) : State := (s.setRegBits o (sq 0x30) 1 1 1).noteHalted o

/-- A descriptor fetch fails: the queue halts; descriptors that have arrived go on (R212). -/
def State.failStorDescs (s : State) (o slot n : Nat) : State :=
  (s.setStorQ o ((s.storQ o).filter fun e => !(e.desc.isNone && decide (slot ≤ e.slot) && decide (e.slot < slot + n)))).haltStor o

/-- A write of ST_CTRL (R211); clearing ENABLE drops the descriptors that have not completed (log entry 35). -/
def State.writeStorCtrl (s : State) (o : Nat) (ctrl : Word) : State :=
  let was := s.regBits o (sq 0x28) 0 0
  let s := s.writeReg o (sq 0x28) ctrl
  let now := s.regBits o (sq 0x28) 0 0
  if was = 0 && now = 1 then
    let s := (((s.setReg o (sq 0xC) 0).setReg o (sq 0x10) 0).setReg o (sq 0x20) 0).setReg o (sq 0x24) 0
    (((s.setRegBits o (sq 0x30) 1 1 0).dropStor o).noteCq o).noteHalted o
  else if was = 1 && now = 0 then s.dropStor o
  else s

/-- STORAGE_QUEUE_ENABLE. -/
def execStorageQueueEnable (f : Func) (ctrl : Word) (s : State) : Host.Outcome State Fault Refusal :=
  .next (s.onRegion f fun o => s.writeStorCtrl o ctrl)

/-- A write of SQ_TAIL is a doorbell (R211). -/
def State.ringStor (s : State) (o : Nat) (tail : Word) : State := (s.writeReg o (sq 0xC) tail).fetchStor o

/-- STORAGE_DOORBELL. -/
def execStorageDoorbell (f : Func) (tail : Word) (s : State) : Host.Outcome State Fault Refusal :=
  .next (s.onRegion f fun o => s.ringStor o tail)

/-- Request the lane work of a preparation whose data has arrived, while the engine runs (R120, R208, R210). -/
def State.prepWork (s : State) (t xts : Nat) (p : Prep) : Prep × State :=
  if xts = 0 || !p.ready || p.work.isSome || !s.engineRuns then (p, s)
  else
    let q := s.addWork (s.jobLane t) (.lookaside t) false xts
    ({ p with work := some q.1 }, q.2)

/-- A preparation is complete: its data has arrived and its lane has done its XTS work. -/
def State.prepDone (s : State) (xts : Nat) (p : Prep) : Bool := p.ready && (xts == 0 || p.work.any s.workDone)

/-! ### Connections (R213, R225) -/

/-- Add to a counter of a connection and of the device totals. -/
def State.countConn (s : State) (row sub n : Nat) : State := (s.bump 0x7000 row sub n).bump 0x7000 65536 sub n

/-- Set a published figure of a connection; the totals follow. -/
def State.figureConn (s : State) (row sub v : Nat) : State :=
  let old := s.cell 0x7000 row sub
  (s.setCell 0x7000 row sub v).setCell 0x7000 65536 sub (s.cell 0x7000 65536 sub + v - old)

/-- Set the commands of a connection, with :08 and :09. -/
def State.setCmds (s : State) (row : Nat) (c : Conn) (cmds : List StorCmd) : State :=
  let s := s.setConn row (some { c with cmds := cmds })
  let q := (cmds.filter fun x => x.quarantine.isSome).length
  (s.figureConn row 8 (cmds.length - q)).figureConn row 9 q

/-- The connections. -/
def State.connections (s : State) : List (Nat × Conn) := s.sto.conns.filterMap fun e => e.2.map fun c => (e.1, c)

/-- The connections of a tenant. -/
def State.connsOf (s : State) (t : Nat) : List (Nat × Conn) := s.connections.filter fun e => e.2.tenant == t

/-- A use-7 row that a connection needs cannot be cleared (R194, R224). -/
def State.keyHeld (s : State) (row : Nat) : Bool := s.connections.any fun e => e.2.key == row

/-- The connection of a function that a descriptor names. -/
def State.connFor (s : State) (o : Nat) (d : StorDesc) : Option Conn :=
  match s.conn d.conn with
  | some c => if tenantMaster c.tenant = o then some c else none
  | none => none

/-- Draws on what lies beyond the minima of tenants, given what each tenant uses (Table 9-10). -/
def beyond (base : Nat) (uses : List Nat) : Nat := (uses.map fun n => n - base).sum

/-- The tenants that have connections or quarantined slots. -/
def State.storTenants (s : State) : List Nat :=
  (s.connections.map (·.2.tenant) ++ s.sto.orphans.map (·.tenant)).eraseDups

/-- Command slots of a tenant, quarantined ones included. -/
def State.slotsOf (s : State) (t : Nat) : Nat :=
  ((s.connsOf t).map fun e => e.2.cmds.length).sum + (s.sto.orphans.filter fun x => x.tenant == t).length

/-- A tenant may take a further command slot (R225). -/
def State.slotFree (s : State) (t : Nat) : Bool :=
  let n := s.slotsOf t
  if s.partitioned then decide (n < 256)
  else decide (n < 256) || (decide (n < 65536) && decide (beyond 256 (s.storTenants.map s.slotsOf) < 1048576 - 1024 * 256))

/-- The lowest free connection row that a tenant may take (R212, R225). -/
def State.connRow (s : State) (t : Nat) : Option Nat :=
  if s.partitioned then ((List.range 16).map (16 * t + ·)).find? fun r => (s.conn r).isNone
  else
    let n := (s.connsOf t).length
    let pool := 65536 - 1024 * 16
    if n < 16 || (n < 1024 && beyond 16 (s.storTenants.map fun t => (s.connsOf t).length) < pool) then
      (List.range (s.connections.length + 1)).find? fun r => (s.conn r).isNone
    else none

/-- The connection that a record spells (Table 9-4). -/
def connRecord (t : Nat) (b : Bytes) : Conn :=
  let v := le b 0 1
  let ad := fun a => if v = 4 then be b (a + 12) 4 else be b a 16
  { tenant := t, version := v, digests := le b 1 1 % 4, hpda := le b 2 1, cpda := le b 3 1, lport := le b 4 2,
    rport := le b 6 2, laddr := ad 8, raddr := ad 24, key := le b 44 4, unit := le b 48 1, vport := le b 50 2,
    quar := le b 52 4, maxH2c := le b 56 4 }

/-- Check of a connection record (R213). -/
def State.connCheck (s : State) (t : Nat) (c : Conn) : Nat :=
  let same := s.connections.any fun e => e.2.version == c.version && e.2.laddr == c.laddr && e.2.raddr == c.raddr
    && e.2.lport == c.lport && e.2.rport == c.rport
  firstBad
    [ require ((c.version = 4 || c.version = 6) && c.hpda ≤ 31 && c.cpda ≤ 31 && c.unit ≤ 3 && c.vport / 16 = t
        && c.quar ≤ 60000 && within 4096 16777216 c.maxH2c && !same) 1
    , require (c.key = 0xFFFFFFFF || s.keyUsable t c.key 7) 4
    , require (s.connRow t).isSome 5 ]

/-! ### What a registration needs (R212, R214) -/

/-- Bytes of a data unit of a connection. -/
def Conn.unitSize (c : Conn) : Nat := 512 * 2 ^ c.unit

/-- HDGST and DDGST of a connection. -/
def Conn.hdgst (c : Conn) : Bool := bit c.digests 0
def Conn.ddgst (c : Conn) : Bool := bit c.digests 1

/-- PDO of the PDUs that the device prepares: header of `n` bytes, digest, padded under CPDA (R214, R217). -/
def Conn.pdo (c : Conn) (n : Nat) : Nat := roundUp (n + 4 * c.hdgst.toNat) (4 * (c.cpda + 1))

/-- XTS is in use for a command. -/
def Conn.xtsFor (c : Conn) (d : StorDesc) : Bool := decide (c.key ≠ 0xFFFFFFFF) && !d.noXts

/-- The entries that the bytes of a segment list spell (R212). -/
def segList (n : Nat) (b : Bytes) : List Seg := (List.range n).map fun i => { addr := le b (16 * i) 8, len := le b (16 * i + 8) 4 }

/-- The host memory behind a part of a command buffer. -/
def bufRanges : List Seg → (off len : Nat) → List (Nat × Nat)
  | [], _, _ => []
  | g :: r, off, len =>
    if len = 0 then []
    else if g.len ≤ off then bufRanges r (off - g.len) len
    else
      let n := min len (g.len - off)
      (g.addr + off, n) :: bufRanges r 0 (len - n)

/-- A length rounded up to whole data units, within a command. -/
def unitEnd (unit len n : Nat) : Nat := min len (roundUp n unit)

/-- Check of a registration, in the order of R212. -/
def State.cmdCheck (s : State) (d : StorDesc) (c : Option Conn) (segs : List Seg) : Nat :=
  let odd := match c with
    | some c => c.xtsFor d && within 1 15 (d.len % c.unitSize)
    | none => false
  firstBad
    [ require (within 1 16777216 d.len && d.inCapsule ≤ d.len && within 1 256 d.segments
        && segs.all (fun g => within 1 16777216 g.len) && (segs.map (·.len)).sum = d.len && !odd) 1
    , require c.isSome 2
    , require (s.cell 0x7000 d.conn 4 ≠ 3) 3
    , require (c.all fun c => !c.xtsFor d || s.keyUsable c.tenant c.key 7) 4
    , require (c.all fun c => s.slotFree c.tenant) 5
    , require (c.all fun c => !(c.cmds.any fun x => x.cid == d.cid)) 6 ]

/-- The in-capsule data that the device prepares, in whole data units where XTS is in use. -/
def Conn.inCapsule (c : Conn) (d : StorDesc) : Nat :=
  if d.opcode ≠ 4 || d.capsule = 0 then 0 else if c.xtsFor d then unitEnd c.unitSize d.len d.inCapsule else d.inCapsule

/-- The host memory that a descriptor reads besides LIST, and the bytes that it encrypts: the capsule header for its HDGST, then
the command data for what stands in the capsule. -/
def State.descNeeds (s : State) (o : Nat) (d : StorDesc) (list : Bytes) : List (Nat × Nat) × Nat :=
  let segs := segList d.segments list
  match s.connFor o d with
  | none => ([], 0)
  | some c =>
    if (d.opcode ≠ 3 && d.opcode ≠ 4) || s.cmdCheck d (some c) segs ≠ 0 then ([], 0)
    else
      let n := c.inCapsule d
      ((if d.capsule ≠ 0 && c.hdgst then [(d.capsule, 72)] else []) ++ bufRanges segs 0 n, if c.xtsFor d then n else 0)

/-! ### Running descriptors (R211) -/

/-- One step at the head of a queue: a descriptor decided by a failed read ends, while a record can be written; one whose list
has arrived asks for what it needs, then for its lane work. -/
def State.stepHead (s : State) (o : Nat) : State :=
  match s.storQ o with
  | ⟨slot, some d, some list, fail, prep⟩ :: _ =>
    if fail ≠ 0 then (if s.cqRoom o = 0 then s else s.opDone o d fail d.conn)
    else
      let n := s.descNeeds o d list
      match prep with
      | none =>
        let s := s.updStor o slot fun e => { e with prep := some { reads := n.1 } }
        s.issueAll (s.funcMaster o) n.1 fun i => .storData o slot i
      | some p =>
        let (p, s) := s.prepWork (o - 0x1000) n.2 p
        s.updStor o slot fun e => { e with prep := some p }
  | _ => s

/-- Step until nothing more happens: each descriptor in execution takes at most three steps. -/
def State.stepStor (s : State) (o : Nat) : State :=
  (List.range (3 * (s.storQ o).length)).foldl (fun s _ => s.stepHead o) s

/-- Run the descriptor at the head of a queue, which is the one that the command names, as is what it has read (`named`): it has
arrived with what it needs, and a record can be written. -/
def State.runStor (s : State) (f : Func) (code : Nat) (want : StorDesc) (named : (list : Bytes) → (data : List ReadBytes) → Bool)
    (body : State → (o : Nat) → StorDesc → (list : Bytes) → (data : List ReadBytes) → State) : State :=
  if s.inHold then s else s.onRegion f fun o =>
    let s := s.stepStor o
    match s.storQ o with
    | ⟨_, some d, some list, 0, some p⟩ :: _ =>
      if d = want && d.opcode = code && named list p.all && s.prepDone (s.descNeeds o d list).2 p && 0 < s.cqRoom o && s.mayIssue (s.funcMaster o) then
        (body s o d list p.all).stepStor o
      else s
    | _ => s

/-- CONN_ADD. -/
def execConnAdd (f : Func) (d : StorDesc) (rec : Bytes) (s : State) : Host.Outcome State Fault Refusal :=
  .next <| s.runStor f 1 d (fun list _ => fit 64 list == rec) fun s o d list _ =>
    let t := o - 0x1000
    let b := fit 64 list
    let c := connRecord t b
    let st := s.connCheck t c
    if st ≠ 0 then s.opDone o d st d.conn
    else
      let row := (s.connRow t).getD 0
      let s := s.setConn row (some { c with quar := if c.quar = 0 then 1000 else c.quar })
      let s := s.setCells 0x7000 row [(4, 1), (5, t), (6, c.unit * 16 + c.digests), (7, le b 40 4)]
      s.opDone o d 0 row

/-! ### Retirement (R222) -/

/-- Free the staging buffer of a command. -/
def State.dropStaging (s : State) (x : StorCmd) : State :=
  match x.staging with
  | some h => s.freeBuf h
  | none => s

/-- A retired command: nothing of it is left but its CID. -/
def StorCmd.retired (x : StorCmd) (fin : Nat) : StorCmd :=
  { x with segs := [], part := [], staging := none, quarantine := some fin }

/-- Remove a connection after its commands have been retired; its quarantined slots stay until their time (R222). -/
def State.dropConn (s : State) (row : Nat) (c : Conn) : State :=
  let s := c.cmds.foldl State.dropStaging s
  let fin := s.now + c.quar * 1000000
  let left := c.cmds.map fun x => { tenant := c.tenant, conn := row, cid := x.cid, fin := x.quarantine.getD fin : Orphan }
  let s := (s.figureConn row 8 0).figureConn row 9 0
  let s := (s.setConn row none).setCells 0x7000 row ((List.range 13).map fun i => (4 + i, 0))
  { s with sto := { s.sto with orphans := s.sto.orphans ++ left } }

/-- A consumed segment whose records wait is given up. -/
def State.dropHeld (s : State) (o : Nat) : State :=
  match s.segHeld o with
  | none => s
  | some h => ({ s with sto := { s.sto with held := NMap.put none s.sto.held o none } } : State).dropCopy h.copy.handle

/-- An FLR ends the storage work of a function: commands retired, connections removed, its queue emptied (R224). -/
def State.dropStorage (s : State) (o : Nat) : State :=
  (((s.connsOf (o - 0x1000)).foldl (fun s e => s.dropConn e.1 e.2) s).dropStor o).dropHeld o

/-- CONN_DEL. -/
def execConnDel (f : Func) (d : StorDesc) (s : State) : Host.Outcome State Fault Refusal :=
  .next <| s.runStor f 2 d (fun _ _ => true) fun s o d _ _ =>
    match s.connFor o d with
    | none => s.opDone o d 2 d.conn
    | some c => (s.dropConn d.conn c).opDone o d 0 d.conn

/-- CMD_RETIRE: the CID is quarantined whether it was registered or not (Table 9-8). -/
def execCmdRetire (f : Func) (d : StorDesc) (s : State) : Host.Outcome State Fault Refusal :=
  .next <| s.runStor f 5 d (fun _ _ => true) fun s o d _ _ =>
    match s.connFor o d with
    | none => s.opDone o d 2 d.conn
    | some c =>
      let fin := s.now + c.quar * 1000000
      match c.cmds.find? fun x => x.cid == d.cid with
      | some x =>
        let s := (s.dropStaging x).setCmds d.conn c (updFirst (fun y => y.cid == d.cid) (·.retired fin) c.cmds)
        s.opDone o d (if x.quarantine.isNone then 0 else 7) d.conn
      | none =>
        if !s.slotFree c.tenant then s.opDone o d 5 d.conn
        else
          let x : StorCmd := { cid := d.cid, write := false, len := 0, segs := [], stage := 0, dun := 0, xts := false,
                               cookie := 0, quarantine := some fin }
          (s.setCmds d.conn c (c.cmds ++ [x])).opDone o d 7 d.conn

/-- QUARANTINE_END: the command slot of a CID is freed. -/
def execQuarantineEnd (conn cid : Nat) (s : State) : Host.Outcome State Fault Refusal :=
  let lapsed := fun (x : StorCmd) => x.cid == cid && x.quarantine.any (· ≤ s.now)
  let gone := fun (x : Orphan) => x.conn == conn && x.cid == cid && decide (x.fin ≤ s.now)
  let s := { s with sto := { s.sto with orphans := dropFirst gone s.sto.orphans } }
  .next <| match s.conn conn with
    | none => s
    | some c => if c.cmds.any lapsed then s.setCmds conn c (c.cmds.filter fun x => !lapsed x) else s

/-- RESYNC (R220). -/
def execResync (f : Func) (d : StorDesc) (s : State) : Host.Outcome State Fault Refusal :=
  .next <| s.runStor f 6 d (fun _ _ => true) fun s o d _ _ =>
    match s.connFor o d with
    | none => s.opDone o d 2 d.conn
    | some c =>
      if s.cell 0x7000 d.conn 4 ≠ 2 then s.opDone o d 3 d.conn
      else (s.setConn d.conn (some { c with target := some d.len })).opDone o d 0 d.conn

/-! ### Registration (R214) -/

/-- HDGST and in-capsule data of the CapsuleCmd PDU at CAPSULE (R214). -/
def State.prepareCapsule (s : State) (o : Nat) (d : StorDesc) (c : Conn) (data : List Bytes) : State :=
  if d.capsule = 0 then s
  else
    let s := if c.hdgst then s.dmaWrite o (d.capsule + 72) (toLE 4 (crc32c (data.headD []))) else s
    if d.inCapsule = 0 || d.opcode ≠ 4 then s
    else
      let plain := (if c.hdgst then data.drop 1 else data).flatten
      let ct := if c.xtsFor d then xts true (s.saKey c.key) c.unitSize d.dun plain else plain
      let out := ct.take d.inCapsule
      s.dmaWrite o (d.capsule + c.pdo 72) (out ++ if c.ddgst then toLE 4 (crc32c out) else [])

/-- Register a command with the segments and reads that it names; with a read that failed it ends with DMA. -/
def State.register (s : State) (f : Func) (code : Nat) (want : StorDesc) (wantSegs : List Seg) (reads : List ReadBytes) : State :=
  s.runStor f code want (fun list data => segList want.segments list == wantSegs && data == reads) fun s o d list data =>
    let segs := segList d.segments list
    let c := s.connFor o d
    let st := s.cmdCheck d c segs
    match c with
    | none => s.opDone o d st d.conn
    | some c =>
      if st ≠ 0 then s.opDone o d st d.conn
      else if data.any (·.isNone) then s.opDone o d 8 d.conn
      else
        let x : StorCmd := { cid := d.cid, write := decide (code = 4), len := d.len, segs := segs, stage := d.stage,
                             dun := d.dun, xts := c.xtsFor d, cookie := d.cookie,
                             gap := decide (s.cell 0x7000 d.conn 4 = 2) }
        ((s.setCmds d.conn c (c.cmds ++ [x])).prepareCapsule o d c (data.filterMap id)).opDone o d 0 d.conn

/-- CMD_READ. -/
def execCmdRead (f : Func) (d : StorDesc) (segs : List Seg) (capsule : List ReadBytes) (s : State) :
    Host.Outcome State Fault Refusal := .next (s.register f 3 d segs capsule)

/-- CMD_WRITE. -/
def execCmdWrite (f : Func) (d : StorDesc) (segs : List Seg) (capsule data : List ReadBytes) (s : State) :
    Host.Outcome State Fault Refusal := .next (s.register f 4 d segs (capsule ++ data))

/-! ### PDUs (R216, R217) -/

/-- The PDU types that are handled. -/
abbrev pduTerm : Nat := 3
abbrev pduResp : Nat := 5
abbrev pduData : Nat := 7
abbrev pduR2t : Nat := 9

/-- Type, header length, PDO and PLEN of a PDU header. -/
def pduType (h : Bytes) : Nat := le h 0 1
def pduHlen (h : Bytes) : Nat := le h 2 1
def pduPdo (h : Bytes) : Nat := le h 3 1
def pduPlen (h : Bytes) : Nat := le h 4 4

/-- CID of C2HData and ready-to-transfer; offset and length of their data. -/
def pduCid (h : Bytes) : Nat := le h 8 2
def pduOff (h : Bytes) : Nat := le h 12 4
def pduLen (h : Bytes) : Nat := le h 16 4

/-- A segment in work: the state so far, the connection's row, the records to post, the command data that has been read and not
used (none where a read failed), the reads that it needs, the bytes that pass XTS. -/
structure SegWork where
  st    : State
  row   : Nat
  recs  : List Bytes := []
  host  : List (Option Bytes)
  needs : List (Nat × Nat) := []
  ciphered : Nat := 0

/-- How a segment ends: taken, failed with a cause of R216 and a PDU type, or refused a staging buffer. -/
inductive SegEnd where
  | taken (w : SegWork)
  | failed (cause type : Nat)
  | refused

/-- The command of a CID that is registered and not quarantined. -/
def Conn.cmd (c : Conn) (cid : Nat) : Option StorCmd := c.cmds.find? fun x => x.cid == cid && x.quarantine.isNone

/-- The connection in work. -/
def SegWork.conn (w : SegWork) : Option Conn := w.st.conn w.row

/-- Change the connection in work. -/
def SegWork.upd (w : SegWork) (f : Conn → Conn) : SegWork :=
  match w.conn with
  | some c => { w with st := w.st.setConn w.row (some (f c)) }
  | none => w

/-- Change a command of the connection in work. -/
def SegWork.updCmd (w : SegWork) (cid : Nat) (f : StorCmd → StorCmd) : SegWork :=
  w.upd fun c => { c with cmds := updFirst (fun x => x.cid == cid && x.quarantine.isNone) f c.cmds }

/-- Free the slot of a command. -/
def SegWork.freeCmd (w : SegWork) (cid : Nat) : SegWork :=
  match w.conn with
  | none => w
  | some c =>
    match c.cmd cid with
    | none => w
    | some x =>
      let s := (w.st.dropStaging x).setCmds w.row c (c.cmds.filter fun y => !(y.cid == cid && y.quarantine.isNone))
      { w with st := s }

/-- Post a record later, in order. -/
def SegWork.post (w : SegWork) (r : Bytes) : SegWork := { w with recs := w.recs ++ [r] }

/-- Write data into a command buffer at an offset (R212). -/
def State.place (s : State) (o : Nat) : List Seg → (off : Nat) → Bytes → State
  | [], _, _ => s
  | g :: r, off, data =>
    if data.isEmpty then s
    else if g.len ≤ off then s.place o r (off - g.len) data
    else
      let n := g.len - off
      (s.dmaWrite o (g.addr + off) (data.take n)).place o r 0 (data.drop n)

/-- The length that a PDU's header says it has (R216). -/
def Conn.plen (c : Conn) (h : Bytes) : Nat :=
  if pduType h = pduData then pduPdo h + pduLen h + 4 * c.ddgst.toNat else 24 + 4 * c.hdgst.toNat

/-- The check of a whole PDU header: 0, or a cause of R216. Where the end of a command's previous C2HData may have passed
unassisted it is not known, and DATAO stands (log entry 79). -/
def Conn.pduCheck (c : Conn) (h dig : Bytes) : Nat :=
  let t := pduType h
  let x := c.cmd (pduCid h)
  let moves := decide (t = pduData) || decide (t = pduR2t)
  if c.hdgst && decide (t ≠ pduTerm) && decide (le dig 0 4 ≠ crc32c h) then 1
  else if !([pduTerm, pduResp, pduData, pduR2t].contains t) || decide (pduHlen h ≠ 24) then 2
  else if t = pduTerm then 3
  else if t = pduData && pduPdo h < 24 + 4 * c.hdgst.toNat then 2
  else if pduPlen h ≠ c.plen h then 2
  else if moves && !(c.cmds.any fun y => y.cid == pduCid h) then 2
  else match x with
    | none => 0
    | some x =>
      if !moves then 0
      else if (t = pduData && x.write) || (t = pduR2t && !x.write) then 2
      else if t = pduData && pduOff h ≠ x.nextOff && !x.gap then 2
      else if x.len < pduOff h + pduLen h then 2 else 0

/-- A PDU has taken effect, or went to the discard sink (R222). -/
def SegWork.countPdu (w : SegWork) (cid : Nat) (live : Bool) : SegWork :=
  if live then { w with st := w.st.countConn w.row 0xA 1 }
  else { w with st := (w.st.countConn w.row 0xC 1).eventLim 0x0704 w.row [w.row, cid] }

/-- CapsuleResp: a RESPONSE record, and the slot is free; a quarantined CID's goes to the sink. A command that gets no further
record keeps its slot until it is retired (R220, log entry 79). -/
def SegWork.response (w : SegWork) (c : Conn) (h : Bytes) : SegWork :=
  let cid := le h 20 2
  if c.cmds.any (fun x => x.cid == cid && x.quarantine.isSome) then w.countPdu cid false
  else
    let x := c.cmd cid
    if x.any (·.cut) then w.countPdu cid true
    else ((w.post (storRecord 2 0 w.row cid 0 (slice h 8 16) ((x.map (·.cookie)).getD 0))).freeCmd cid).countPdu cid true

/-- The H2CData header of R217. -/
def Conn.h2cHeader (c : Conn) (cid ttag off len : Nat) (last : Bool) : Bytes :=
  toLE 1 6 ++ toLE 1 (c.hdgst.toNat + 2 * c.ddgst.toNat + 4 * last.toNat) ++ toLE 1 24 ++ toLE 1 (c.pdo 24)
    ++ toLE 4 (c.pdo 24 + len + 4 * c.ddgst.toNat) ++ toLE 2 cid ++ toLE 2 ttag ++ toLE 4 off ++ toLE 4 len ++ zeros 4

/-- The XFER_READY records of a range, one for each PDU, over the staged bytes, or with status DMA and no digests where the command
data could not be read; `fuel` bounds their number. -/
def Conn.xferReady (c : Conn) (row : Nat) (x : StorCmd) (ttag : Nat) (bs : Option Bytes) : (fuel off len : Nat) → List Bytes
  | 0, _, _ => []
  | k + 1, off, len =>
    if len = 0 then []
    else
      let n := min len c.maxH2c
      let hd := if c.hdgst && bs.isSome then crc32c (c.h2cHeader x.cid ttag off n (decide (len ≤ c.maxH2c))) else 0
      let dd := match bs with
        | some b => if c.ddgst then crc32c (b.take n) else 0
        | none => 0
      storRecord 4 (if bs.isSome then 0 else 8) row x.cid ttag (toLE 4 off ++ toLE 4 n ++ toLE 4 hd ++ toLE 4 dd) x.cookie
        :: c.xferReady row x ttag (bs.map (·.drop n)) k (off + n) (len - n)

/-- Ready-to-transfer (R217): command data is read in whole data units where XTS is in use, encrypted and staged. -/
def SegWork.transfer (w : SegWork) (c : Conn) (x : StorCmd) (h : Bytes) : SegWork :=
  let o := pduOff h
  let m := pduLen h
  let u := c.unitSize
  let from_ := if x.xts then o / u * u else o
  let to_ := if x.xts then unitEnd u x.len (o + m) else o + m
  let reads := bufRanges x.segs from_ (to_ - from_)
  let parts := w.host.take reads.length
  let plain := if parts.length < reads.length || parts.any (·.isNone) then none else some (parts.filterMap id).flatten
  let out := plain.map fun b =>
    slice (if x.xts then xts true (w.st.saKey c.key) u (x.dun + from_ / u) b else b) (o - from_) m
  let s := match out with
    | some b => if b.isEmpty then w.st else w.st.dmaWrite (tenantMaster c.tenant) (x.stage + o) b
    | none => w.st
  { w with st := s, host := w.host.drop reads.length, needs := w.needs ++ reads,
           ciphered := w.ciphered + (if x.xts then to_ - from_ else 0),
           recs := w.recs ++ if x.cut then [] else c.xferReady w.row x (le h 10 2) out (m / c.maxH2c + 1) o m }

/-- Data of a C2HData for a command, from a command offset on: decrypted in whole units and placed; what is not whole is staged
(R216). Of a unit whose beginning was lost nothing is placed (R220, log entry 79). -/
def SegWork.takeData (w : SegWork) (c : Conn) (x : StorCmd) (off : Nat) (data : Bytes) : Option SegWork :=
  let o := tenantMaster c.tenant
  let s := w.st.dropStaging x
  let u := c.unitSize
  let lost := if x.xts then (u - (off - x.part.length) % u) % u else 0
  let start := off - x.part.length + lost
  let buf := (x.part ++ data).drop lost
  let whole := if x.xts && decide (start + buf.length < x.len) then buf.length / u * u else buf.length
  let ready := buf.take whole
  let plain := if x.xts then xts false (s.saKey c.key) u (x.dun + start / u) ready else ready
  let s := (s.place o x.segs start plain).countConn w.row 0xB whole
  let part := buf.drop whole
  let x' := { x with placed := x.placed + whole, part := part, staging := none }
  let done := fun (s : State) (x : StorCmd) =>
    ({ w with st := s, ciphered := w.ciphered + (if x.xts then whole else 0) } : SegWork).updCmd x.cid fun _ => x
  if part.isEmpty then some (done s x')
  else match s.takeBuf 6145 (classFor part.length) with
    | (some b, s) => some (done s { x' with staging := some b })
    | (none, _) => none

/-- A C2HData ends: its digest, and with LAST_PDU the DATA_DONE record (R216). -/
def SegWork.endData (w : SegWork) (c : Conn) (b : PduBody) : SegWork :=
  let cid := pduCid b.hdr
  match c.cmd cid with
  | none => w.countPdu cid false
  | some x =>
    let fails := c.ddgst && decide (le b.dig 0 4 ≠ b.crc ^^^ 0xFFFFFFFF)
    let w := if fails then
        { w with st := (w.st.countConn w.row 0xD 1).eventLim 0x0702 w.row [w.row, cid] } else w
    let bad := x.bad || fails
    let w := (w.updCmd cid fun x => { x with bad := bad }).countPdu cid true
    let flags := le b.hdr 1 1
    if !bit flags 2 then w
    else
      let done := bit flags 3
      if x.cut then w
      else
        let w := w.post (storRecord 3 (if bad then 0xA else 0) w.row cid done.toNat (toLE 4 x.placed) x.cookie)
        if done && !bad then w.freeCmd cid else w

/-- A whole PDU header is taken: its check, its effect, or the body that follows. -/
def SegWork.header (w : SegWork) (c : Conn) (h dig : Bytes) : SegEnd :=
  let cause := c.pduCheck h dig
  if cause ≠ 0 then .failed cause (pduType h)
  else if pduType h = pduResp then .taken (w.response c h)
  else if pduType h = pduR2t then
    match c.cmd (pduCid h) with
    | none => .taken (w.countPdu (pduCid h) false)
    | some x => .taken ((w.transfer c x h).countPdu x.cid true)
  else
    let w := w.updCmd (pduCid h) fun x =>
      { x with nextOff := pduOff h + pduLen h, cut := x.cut || decide (pduOff h ≠ x.nextOff) }
    .taken (w.upd fun c => { c with body := some { hdr := h, pos := 24 + 4 * c.hdgst.toNat } })

/-- Bytes of a PDU body: padding, data, digest; the PDU ends when all have come. -/
def SegWork.bodyBytes (w : SegWork) (c : Conn) (b : PduBody) (bs : Bytes) : SegEnd :=
  let stop := pduPdo b.hdr + pduLen b.hdr
  let data := (bs.take (stop - b.pos)).drop (pduPdo b.hdr - b.pos)
  let dig := bs.drop (stop - b.pos)
  let at_ := b.pos
  let b := { b with pos := b.pos + bs.length, crc := data.foldl (crcByte 0x82F63B78) b.crc, dig := b.dig ++ dig }
  let w' := match c.cmd (pduCid b.hdr) with
    | some x => if data.isEmpty then some w else w.takeData c x (pduOff b.hdr + (at_ - pduPdo b.hdr)) data
    | none => some w
  match w' with
  | none => .refused
  | some w =>
    if b.pos < c.plen b.hdr then .taken (w.upd fun c => { c with body := some b })
    else
      let w := w.upd fun c => { c with body := none }
      match w.conn with
      | some c => .taken (w.endData c b)
      | none => .taken w

/-- The bytes of a connection, PDU by PDU; `fuel` bounds the pieces. -/
def SegWork.run (w : SegWork) : (fuel : Nat) → Bytes → SegEnd
  | 0, _ => .taken w
  | k + 1, bs =>
    match w.conn with
    | none => .taken w
    | some c =>
      match c.body with
      | some b =>
        let n := c.plen b.hdr - b.pos
        if bs.isEmpty && decide (0 < n) then .taken w
        else match w.bodyBytes c b (bs.take n) with
          | .taken w => w.run k (bs.drop n)
          | e => e
      | none =>
        let all := c.tail ++ bs
        let need := if all.length < 8 then 8
          else pduHlen all + (if pduType all = pduTerm then 0 else 4 * c.hdgst.toNat)
        if all.length < max 8 need then .taken (w.upd fun c => { c with tail := all })
        else
          let w := w.upd fun c => { c with tail := [] }
          match w.header { c with tail := [] } (all.take (pduHlen all)) (slice all (pduHlen all) 4) with
          | .taken w => w.run k (all.drop (max 8 need))
          | e => e

/-! ### Receive handling (R215, R216, R220, R221) -/

/-- A connection enters RESYNC: partial data units are discarded; a command whose C2HData the gap cuts, or that loses a partial
unit, gets no further record; the entry is counted and logged (R220, R221). -/
def State.enterResync (s : State) (row : Nat) (c : Conn) (seq : Nat) : State :=
  let e := s.cell 0x7000 row 7
  let s := c.cmds.foldl State.dropStaging s
  let hit := fun (x : StorCmd) => !x.part.isEmpty || c.body.any fun b => pduType b.hdr == pduData && pduCid b.hdr == x.cid
  let cmds := c.cmds.map fun x => { x with part := [], staging := none, gap := true, cut := x.cut || hit x }
  let s := s.setConn row (some { c with cmds := cmds, tail := [], body := none, target := none })
  ((s.setCell 0x7000 row 4 2).countConn row 0xE 1).eventLim 0x0703 row [row, e, seq]

/-- A connection enters FAILED: a CONN_STATE record and an event (R216, R221). -/
def State.failConn (s : State) (o row cause type seq : Nat) : State :=
  let s := s.setCell 0x7000 row 4 3
  let s := s.postRecord o (storRecord 5 (if cause = 1 then 9 else if cause = 2 then 0xB else 0xC) row 0 (cause * 256 + 3)
    (toLE 4 seq) 0) false
  if cause = 1 then (s.countConn row 0xD 1).event 0x0701 [row, seq]
  else if cause = 2 then s.event 0x0705 [row, type, seq]
  else s.event 0x0706 [row]

/-- How a segment of a connection is taken (Table 9-5): a kind of frame that is delivered whole or omitted, the entry into
RESYNC, or the bytes that are processed, from the given place on. -/
inductive SegWay where
  | kind (k : Nat)
  | resync
  | work (behind : Nat)

/-- The way of a segment by its sequence number. -/
def State.segWay (s : State) (row : Nat) (c : Conn) (g : Segment) : SegWay :=
  let state := s.cell 0x7000 row 4
  let resumes := decide (state = 2) && decide (c.target = some g.seq)
  let e := if resumes then g.seq else s.cell 0x7000 row 7
  let ahead := (g.seq + 2 ^ 32 - e) % 2 ^ 32
  let behind := (e + 2 ^ 32 - g.seq) % 2 ^ 32
  if !g.good then .kind 4
  else if state = 3 then .kind 3
  else if state = 2 && !resumes then .kind 2
  else if ahead ≠ 0 && ahead < 2 ^ 31 then .resync
  else if ahead ≠ 0 && g.data.length ≤ behind then .kind 5
  else .work behind

/-- Process the bytes of a segment; a RESYNC target brings the connection back to ASSISTED. -/
def State.segRun (s : State) (row : Nat) (c : Conn) (g : Segment) (behind : Nat) (host : List (Option Bytes)) : SegEnd :=
  let s := if s.cell 0x7000 row 4 = 2 then (s.setConn row (some { c with target := none })).setCell 0x7000 row 4 1 else s
  { st := s, row := row, host := host : SegWork }.run (2 * g.data.length + 4) (g.data.drop behind)

/-- The command data that a segment needs and the bytes that pass XTS for it. -/
def State.segNeeds (s : State) (row : Nat) (c : Conn) (g : Segment) : List (Nat × Nat) × Nat :=
  match s.segWay row c g with
  | .work behind => match s.segRun row c g behind [] with
    | .taken w => (w.needs, w.ciphered)
    | _ => ([], 0)
  | _ => ([], 0)

/-- What a segment comes to: the kind of Table 9-5, the records to post, the state. -/
def State.takeSegment (s : State) (o row : Nat) (c : Conn) (g : Segment) (host : List (Option Bytes)) :
    Nat × List Bytes × State :=
  match s.segWay row c g with
  | .kind 4 => (4, [], s.countConn row 0x10 1)
  | .kind k => (k, [], s)
  | .resync => (2, [], s.enterResync row c g.seq)
  | .work behind =>
    match s.segRun row c g behind host with
    | .failed cause type => (3, [], s.failConn o row cause type g.seq)
    | .refused => (2, [], ((s.enterResync row c g.seq).countConn row 0xF 1).event 0x0707 [row])
    | .taken w => (1, w.recs, w.st.setCell 0x7000 row 7 ((g.seq + g.data.length) % 2 ^ 32))

/-- Post the records of the segment that an owner has consumed, while there is room; then its frame is completed (R211,
R218). -/
def State.settleHeld (s : State) (o : Nat) : (fuel : Nat) → State
  | 0 => s
  | k + 1 =>
    match s.segHeld o with
    | none => s
    | some h =>
      match h.recs with
      | r :: rest =>
        if s.cqRoom o = 0 then s
        else
          let h' : SegHeld := { h with recs := rest }
          (({ s with sto := { s.sto with held := NMap.put none s.sto.held o (some h') } } : State).postRecord o r false).settleHeld o k
      | [] =>
        if !s.rxReady o h.ring then s
        else
          let s := { s with sto := { s.sto with held := NMap.put none s.sto.held o none } }
          (s.rxWrite h.vport h.queue h.ring h.field h.copy h.bytes).dropCopy h.copy.handle

/-- Post what waits, as far as there is room. -/
def State.resumeHeld (s : State) (o : Nat) : State := s.settleHeld o (((s.segHeld o).map (·.recs.length)).getD 0 + 1)

/-- Take the head of a vport queue, which belongs to a connection: its effects, then its receive completion (R218). -/
def State.deliverStored (s : State) (n q : Nat) (host : List (Option Bytes)) : State :=
  let row := vportRow n q
  let o := tenantMaster (n / 16)
  match s.queue row with
  | [] => s
  | c :: rest =>
    match (s.setQueue row rest).applyE (some row) none c with
    | (true, s) => s
    | (false, s) =>
      let r := s.rxRing n c
      match s.encryptCopy c (s.dress c) with
      | (none, s) => s.discardCopy row c
      | (some (_, bs), s) =>
        match s.connOf n bs with
        | none => (s.rxWrite n q r (s.noConn n) c bs).dropCopy c.handle
        | some (cr, conn, g) =>
          let (kind, recs, s) := s.takeSegment o cr conn g host
          let eaten := kind = 1 || kind = 5
          let h : SegHeld := { recs := recs, vport := n, queue := q, ring := r, copy := c,
                               field := cr * 2 ^ 48 + kind * 2 ^ 44 + if eaten then g.data.length else 0,
                               bytes := if eaten then bs.take g.at_ else bs }
          ({ s with sto := { s.sto with held := NMap.put none s.sto.held o (some h) } } : State).resumeHeld o

/-- Set what the segment at the head of a vport queue needs. -/
def State.setPrep (s : State) (row : Nat) (p : Option (Nat × Prep)) : State :=
  { s with sto := { s.sto with preps := NMap.put none s.sto.preps row p } }

/-- Command data for the segment at the head of a vport queue arrives, or its read fails. -/
def State.segData (s : State) (row i : Nat) (data : Option Bytes) : State :=
  match NMap.at none s.sto.preps row with
  | some (h, p) => s.setPrep row (some (h, p.take i data))
  | none => s

/-- The preparation of the segment at the head of a vport queue, begun where it has not been: whether it is complete, and the
state. -/
def State.prepSegment (s : State) (o vq handle : Nat) (needs : List (Nat × Nat)) (xts : Nat) : Option Prep × State :=
  let t := o - 0x1000
  match NMap.at none s.sto.preps vq with
  | some (h, p) =>
    if h = handle && p.reads = needs then
      let (p, s) := s.prepWork t xts p
      if s.prepDone xts p then (some p, s.setPrep vq none) else (none, s.setPrep vq (some (h, p)))
    else (none, s.setPrep vq none)
  | none =>
    let p : Prep := { reads := needs }
    let (p, s) := s.prepWork t xts p
    if s.prepDone xts p then (some p, s)
    else (none, (s.setPrep vq (some (handle, p))).issueAll (s.funcMaster o) needs fun i => .segData o vq i)

/-- STORAGE_SEGMENT: the vport queue in row `vq` of 0x3801 delivers the frame of a connection at its head, once the command data
that its ready-to-transfer PDUs need has been read and a lane has done its XTS work; `desc` is the descriptor at the head of its
receive ring, `host` the command data. -/
def execStorageSegment (f : Func) (vq : Nat) (desc : RingDesc) (host : List ReadBytes) (s : State) : Host.Outcome State Fault Refusal :=
  .next <| if s.inHold then s else s.onRegion f fun o =>
    let t := o - 0x1000
    let n := (vq - 8192) / 8
    let p := s.portOf t - 1
    let s' := s.vPurgeAll
    match s'.hPick p, s'.queue vq with
    | some (n', q, d), c :: _ =>
      if vq < 8192 || n / 16 ≠ t || n' ≠ n || q ≠ vq % 8 then s
      else match s'.connOf n (s'.deliveredBytes c) with
        | none => s
        | some (cr, conn, g) =>
          let needs := s'.segNeeds cr conn g
          match s'.prepSegment o vq c.handle needs.1 needs.2 with
          | (none, s) => s
          | (some pr, s₁) =>
            if s'.rxDesc n c ≠ desc || pr.all ≠ host then s
            else ({ s₁ with net := { s₁.net with delivery := NMap.put {} s₁.net.delivery p d } } : State).deliverStored n q pr.all
    | _, _ => s

end Sys2Proof.Machine
end

