-- ==== Sys2Proof/Machine/Channels.lean ====
section
/-! DEFINITION. Mailbox channels (R266–R273) and the event controller's commands (R275–R280). -/

namespace Sys2Proof.Machine

/-! ### Ends of a channel -/

/-- The register file owner of an endpoint (Table 11-12): a function's tenant region, or the thread that now carries the
role named (R367). -/
def State.endOwner (s : State) (kind id : Nat) : Nat := if kind = 2 then threadMaster (s.moved id) else tenantMaster id

/-- Owner and slot of the sender and of the receiver of a channel. -/
def State.sender (s : State) (ch : Nat) : Nat × Nat :=
  (s.endOwner (s.cell 0x9000 ch 5) (s.cell 0x9000 ch 6), s.cell 0x9000 ch 7)
def State.receiver (s : State) (ch : Nat) : Nat × Nat :=
  (s.endOwner (s.cell 0x9000 ch 8) (s.cell 0x9000 ch 9), s.cell 0x9000 ch 0xA)

/-- The valid rows of the binding table. -/
def State.bound (s : State) : List Nat := rowsWith s.dict 0x9000 4

/-- The channel whose sender, or whose receiver, has a slot. -/
def State.sendChannel (s : State) (owner slot : Nat) : Option Nat := s.bound.find? fun c => s.sender c == (owner, slot)
def State.recvChannel (s : State) (owner slot : Nat) : Option Nat := s.bound.find? fun c => s.receiver c == (owner, slot)

/-- A channel's notices and sequence number. -/
def State.channel (s : State) (ch : Nat) : Mailbox := NMap.at {} s.rng.channels ch

/-- The register of a slot (Table 11-7). -/
def slotOff (slot o : Nat) : Nat := 0x4000 + 128 * slot + o

/-- The owner whose slots an access reaches (R268). -/
def State.slotOwner (s : State) (f : Func) : Option Nat :=
  match f with
  | .thread n => some (threadMaster n.val)
  | f => s.regionOf f

/-- An endpoint's epoch (R271). -/
def State.epoch (s : State) (owner : Nat) : Nat := NMap.at 0 s.rng.epochs owner

/-- A message of a slot to a function; threads have none. -/
def State.slotMsg (s : State) (e : Nat × Nat) (ctrl irq : Nat) : State :=
  if e.1 < 0x2000 && s.regBits e.1 (slotOff e.2 ctrl) irq irq = 1 then s.queueMsg e.1 (slotOff e.2 ctrl) else s

/-- Drive the level sources of a thread's receive and send sides (Table 11-8). -/
def State.slotLevels (s : State) (owner : Nat) : State :=
  if owner < 0x2000 then s
  else
    let n := owner - 0x2000
    let recv := s.bound.any fun c => (s.receiver c).1 == owner
      && (!(s.channel c).notices.isEmpty || s.regN owner (slotOff (s.receiver c).2 0x64) != 0)
    let send := s.bound.any fun c => (s.sender c).1 == owner
      && (let v := s.regN owner (slotOff (s.sender c).2 0x14)
          bit v 10 || (bits v 1 0 == 1 && decide (0 < bits v 20 16)))
    (s.level (1 + n) recv).level (0x101 + n) send

/-- Set a channel: SPACE, COUNT and :0B follow, a rise of SPACE from 0 sends its message, and the sources follow. -/
def State.setChannel (s : State) (ch : Nat) (m : Mailbox) : State :=
  let x := s.sender ch
  let r := s.receiver ch
  let full := decide ((s.channel ch).notices.length = 16)
  let s := { s with rng := { s.rng with channels := NMap.put {} s.rng.channels ch m } }
  let n := m.notices.length
  let s := s.setCell 0x9000 ch 0xB n
  let s := s.setRegBits x.1 (slotOff x.2 0x14) 20 16 (16 - n)
  let s := s.setRegBits r.1 (slotOff r.2 0x5C) 20 16 n
  let s := if full && n < 16 then s.slotMsg x 0x18 0 else s
  (s.slotLevels x.1).slotLevels r.1

/-! ### Sending and receiving (R269, R270) -/

/-- A write of SEND_COMMIT: 1 appends the stage to the channel, or LAST reads UNBOUND or FULL. -/
def State.sendCommit (s : State) (o slot : Nat) (val : Word) : State :=
  let st := slotOff slot 0x14
  if !bit val.toNat 0 then s
  else match s.sendChannel o slot with
    | none => s.setRegBits o st 1 0 2
    | some ch =>
      let m := s.channel ch
      if 16 ≤ m.notices.length then
        (((s.setRegBits o st 1 0 1).bump 0x9000 ch 0xD 1).eventLim 0x0804 ch [ch]).slotLevels o
      else
        let w := fun i => s.reg o (slotOff slot (4 * i))
        let r := s.receiver ch
        let x : Notice := { w0 := w 0, w1 := w 1, w2 := w 2, w3 := w 3, asid := s.funcMaster o, seq := m.nextSeq,
                            epoch := s.epoch r.1 }
        let s := (s.setRegBits o st 1 0 0).bump 0x9000 ch 0xC 1
        let s := s.setChannel ch { notices := m.notices ++ [x], nextSeq := (m.nextSeq + 1) % 65536 }
        s.slotMsg r 0x60 0

/-- Work a slot that a function or thread reaches. -/
def State.onSlot (s : State) (f : Func) (act : Nat → State) : State :=
  match s.slotOwner f with
  | none => s
  | some o => act o

/-- SEND_COMMIT. -/
def execSendCommit (f : Func) (slot : RingNo) (val : Word) (s : State) : Host.Outcome State Fault Refusal :=
  .next (s.onSlot f fun o => s.sendCommit o slot.val val)

/-- Set the words of a slot's latch. -/
def State.latch (s : State) (o slot : Nat) (x : Notice) : State :=
  let r := fun (s : State) (i : Nat) (v : Word) => s.setReg o (slotOff slot (0x40 + 4 * i)) v
  let s := r (r (r (r s 0 x.w0) 1 x.w1) 2 x.w2) 3 x.w3
  let s := r s 4 (BitVec.ofNat 32 (x.asid * 65536 + x.seq))
  r s 5 (BitVec.ofNat 32 ((if x.epoch = s.epoch o then 0 else 65536) + x.epoch))

/-- A read of RECV_R0: the latch takes the head notice, or VALID clears (R270). -/
def State.latchHead (s : State) (o slot : Nat) : State :=
  match s.recvChannel o slot with
  | none => s
  | some ch =>
    let st := slotOff slot 0x5C
    match (s.channel ch).notices with
    | [] => s.setRegBits o st 0 0 0
    | x :: _ => (s.latch o slot x).setRegBits o st 0 0 1

/-- A register of a slot as it reads (R268): where the slot is not an end of a valid row 0, but SEND_STATUS UNBOUND. -/
def State.slotReg (s : State) (o off : Nat) : Word :=
  let slot := (off - 0x4000) / 128
  let k := off % 128
  if k < 0x40 then if (s.sendChannel o slot).isSome then s.reg o off else if k = 0x14 then 2 else 0
  else if (s.recvChannel o slot).isSome then s.reg o off else 0

/-- RECEIVE_LATCH: a read of RECV_R0 (R270). -/
def execReceiveLatch (f : Func) (slot : RingNo) (s : State) : Host.Outcome State Fault Refusal :=
  .next <| s.onSlot f fun o =>
    let off := slotOff slot.val 0x40
    let s := s.latchHead o slot.val
    s.emit (.regRead (ownerOf f) off (s.slotReg o off).toNat)

/-- A write of RECV_POP removes the head notice if its sequence number matches (R270). -/
def State.popHead (s : State) (o slot : Nat) (val : Word) : State :=
  match s.recvChannel o slot with
  | none => s
  | some ch =>
    let m := s.channel ch
    let st := slotOff slot 0x5C
    match m.notices with
    | x :: r =>
      if x.seq = val.toNat % 65536 then (s.setRegBits o st 1 1 0).setChannel ch { m with notices := r }
      else s.setRegBits o st 1 1 1
    | [] => s.setRegBits o st 1 1 1

/-- POP. -/
def execPop (f : Func) (slot : RingNo) (val : Word) (s : State) : Host.Outcome State Fault Refusal :=
  .next (s.onSlot f fun o => s.popHead o slot.val val)

/-- A write of 1 to RECV_FLUSH removes every STALE notice (R271). -/
def State.flushStale (s : State) (o slot : Nat) (val : Word) : State :=
  match s.recvChannel o slot with
  | none => s
  | some ch =>
    let m := s.channel ch
    if bit val.toNat 0 then s.setChannel ch { m with notices := m.notices.filter fun x => x.epoch == s.epoch o } else s

/-- FLUSH. -/
def execFlush (f : Func) (slot : RingNo) (val : Word) (s : State) : Host.Outcome State Fault Refusal :=
  .next (s.onSlot f fun o => s.flushStale o slot.val val)

/-! ### Resets of endpoints (R271, R272) -/

/-- Purge the unread notices of a channel at a reset of its sender. -/
def State.purgeChannel (s : State) (ch : Nat) : State :=
  let m := s.channel ch
  let n := m.notices.length
  if n = 0 then s
  else
    let r := s.receiver ch
    let s := (s.bumpReg r.1 (slotOff r.2 0x64) n).bump 0x9000 ch 0xE n
    let s := (s.setChannel ch { m with notices := [] }).event 0x0803 [ch, n]
    s.slotMsg r 0x60 1

/-- Set the stages of a sender to 0. -/
def State.zeroStages (s : State) (o : Nat) : State :=
  (s.bound.filter fun c => (s.sender c).1 == o).foldl (fun s c =>
    [0, 4, 8, 12].foldl (fun s i => s.setReg o (slotOff (s.sender c).2 i) 0) s) s

/-- The sender of a channel learns that its receiver was reset. -/
def State.noteReset (s : State) (ch n : Nat) : State :=
  let x := s.sender ch
  let s := s.setRegBits x.1 (slotOff x.2 0x14) 10 10 1
  ((s.event 0x0802 [ch, n]).slotMsg x 0x18 1).slotLevels x.1

/-- Endpoints reset in one slot: purges first, then epochs, then RECEIVER_RESET for the senders of channels that held
unread notices (R271, R272). -/
def State.resetEnds (s : State) (owners : List Nat) : State :=
  let held := (s.bound.filter fun c => owners.contains (s.receiver c).1 && !(s.channel c).notices.isEmpty).map
    fun c => (c, (s.channel c).notices.length)
  let s := (s.bound.filter fun c => owners.contains (s.sender c).1).foldl State.purgeChannel s
  let s := owners.foldl State.zeroStages s
  let s := owners.foldl (fun s o =>
    { s with rng := { s.rng with epochs := NMap.put 0 s.rng.epochs o ((s.epoch o + 1) % 65536) } }) s
  held.foldl (fun s x => s.noteReset x.1 x.2) s

/-! ### The binding lock (R267) -/

/-- Lock the binding table. -/
def State.lockBinding (s : State) (master : Nat) : State :=
  if s.ob 0x9001 1 = 1 then s else ((s.setOb 0x9001 1 1).setOb 0x9001 3 s.tai).event 0x0801 [master]

/-- The rule of 0x9001:01. -/
def bindingLockRule : WriteRule where
  check s _ x := firstBad [s.startState, require (decide (x < 2)) stRange,
    require (decide (x = 1) || decide (s.ob 0x9001 1 = 0)) stState]
  act s v x := .done stOk [] (if x = 1 then s.lockBinding (masterOf v) else s)

/-- BINDING_LOCK. -/
def execBindingLock (v : Via) (data : Bytes) (s : State) : Host.Outcome State Fault Refusal :=
  .next (s.writeItem v 0x9001 1 data bindingLockRule)

/-! ### The event controller -/

/-- SOURCE_ASSERT: an edge at an edge source, or a level source's input asserted (R276). Software sources become pending
by EC_SETPEND alone (R279). -/
def execSourceAssert (id : Fin 4096) (s : State) : Host.Outcome State Fault Refusal :=
  let k := s.cell 0x9100 id.val 4
  .next (if k = 1 then s.levelOn id.val else if k = 2 then s.edge id.val else s)

/-- LEVEL_WITHDRAWN: a level source's input is withdrawn (R276). -/
def execLevelWithdrawn (id : Fin 4096) (s : State) : Host.Outcome State Fault Refusal :=
  .next (if s.cell 0x9100 id.val 4 = 1 then s.levelOff id.val else s)

/-- Number of a context. -/
def ctxNo : EvCtx → Nat
  | .thread n => n.val
  | .pf0 p => 255 + portMaster p

/-- The floor of a claim (R278): for a thread its running priority, at least 1; for a PF0 its threshold and one more. -/
def State.claimFloor (s : State) (ctx : Nat) : Nat :=
  if ctx < 256 then max 1 (s.cell 0x93F0 ctx 6) else s.threshold ctx + 1

/-- The view of a context answers. -/
def State.ctxLive (s : State) (c : EvCtx) : Bool :=
  match c with
  | .thread _ => true
  | .pf0 p => s.funcLive (portMaster p)

/-- A claim: the id that it returns, and the state after it (R278). -/
def State.claimOf (s : State) (ctx : Nat) : Nat × State :=
  let was := s.rng.delivered.contains ctx
  let s := { s with rng := { s.rng with delivered := s.rng.delivered.filter (· != ctx) } }
  match s.select ctx (s.claimFloor ctx) with
  | some id =>
    let s := (s.setSrc id 2).inc 0x9101 1
    (id, { s with rng := { s.rng with claimed := NMap.put 0 s.rng.claimed id (ctx + 1) } }.deliver ctx)
  | none => if was then (0xFFF, (s.inc 0x9101 1).inc 0x9101 2) else (0, s.inc 0x9101 1)

/-- CLAIM: what it returns goes to the thread, or is the value of the read of EC_CLAIM. -/
def execClaim (c : EvCtx) (s : State) : Host.Outcome State Fault Refusal :=
  .next <|
    if !s.ctxLive c then s
    else
      let (id, s) := s.claimOf (ctxNo c)
      match c with
      | .thread n => s.emit (.thread n.val id 0)
      | .pf0 p => s.emit (.regRead (portMaster p) 0x800000 id)

/-- The state that a source takes when the handler of its claim is done (Table 11-9). -/
def State.afterActive (s : State) (id : Nat) : Nat :=
  if s.srcState id = 3 || s.rng.levels.contains id then 1 else 0

/-- An ACTIVE source ends: its claim is forgotten, and a new entry into PENDING counts. -/
def State.endActive (s : State) (id st : Nat) : State :=
  let s := s.setSrc id st
  let s := { s with rng := { s.rng with claimed := NMap.put 0 s.rng.claimed id 0 } }
  if st = 1 then s.bump 0x9100 id 0xB 1 else s

/-- A COMPLETE of a source by a context (Table 11-9). -/
def State.completeBy (s : State) (ctx id : Nat) : State :=
  if id < 4096 && 2 ≤ s.srcState id && NMap.at 0 s.rng.claimed id = ctx + 1 then
    (s.endActive id (s.afterActive id)).deliverFor id
  else (s.inc 0x9101 5).eventLim 0x0807 0 [ctx, id]

/-- COMPLETE. -/
def execComplete (c : EvCtx) (id : Nat) (s : State) : Host.Outcome State Fault Refusal :=
  .next (if s.ctxLive c then s.completeBy (ctxNo c) id else s)

/-- A write of EC_SETPEND by a master that may or may not (R279). -/
def State.setPend (s : State) (master id : Nat) (may : Bool) : State :=
  if may && within 0xE00 0xFFE id then s.edge id else (s.inc 0x9101 6).eventLim 0x080A 0 [master, id]

/-- A PF0 may set software sources pending: it is the station PF0 and holds the station lease (R279). -/
def State.maySetPend (s : State) (m : Nat) : Bool := decide (s.explicitHolder 0x1303 = m) && decide (s.stationMaster = m)

/-- SET_PENDING. -/
def execSetPending (f : Func) (id : Nat) (s : State) : Host.Outcome State Fault Refusal :=
  .next <| match f with
    | .thread n => s.setPend (threadMaster n.val) id true
    | .pf0 p => let m := portMaster p; if s.funcLive m then s.setPend m id (s.maySetPend m) else s
    | .vf _ => s

/-- Empty a PF0 context (R280): what it holds ACTIVE is PENDING again, or IDLE where a level input is withdrawn; sources
are selected again. -/
def State.emptyContext (s : State) (ctx : Nat) : State :=
  let mine := s.rng.retained.filter fun id => decide (2 ≤ s.srcState id) && NMap.at 0 s.rng.claimed id == ctx + 1
  let s := mine.foldl (fun s id =>
    s.endActive id (if s.cell 0x9100 id 4 = 1 && !s.rng.levels.contains id then 0 else 1)) s
  let pend := s.rng.retained.filter fun id => decide (s.srcState id = 1) && decide (s.ctxOf id = some ctx)
  let s := { s with rng := { s.rng with
    delivered := s.rng.delivered.filter (· != ctx)
    messaged := s.rng.messaged.filter fun id => !pend.contains id } }
  s.deliver ctx

end Sys2Proof.Machine
end

