-- ==== Sys2Proof/Machine/DmaEngine.lean ====
section
/-! DEFINITION. The DMA engine (R312–R320): channels and their holders, checks, the three modes over host memory, SRAM and
pool buffers with their accesses in each packet-clock cycle, and how an operation ends. -/

namespace Sys2Proof.Machine

/-! ### Channels -/

/-- A register of a channel; the channels' register file has owner 0. -/
abbrev dmaOff (ch o : Nat) : Nat := 64 * ch + o

/-- A channel is a station channel (R312). -/
def State.stationCh (s : State) (ch : Nat) : Bool := decide (32 ≤ ch + s.ob 0x9200 1)

/-- A channel is busy. -/
def State.dmaBusy (s : State) (ch : Nat) : Bool := s.regBits 0 (dmaOff ch 0x20) 0 0 = 1

/-- The operation that runs on a channel. -/
def State.dmaOp (s : State) (ch : Nat) : Option Dma := NMap.at none s.dma.ops ch

/-- Set the operation of a channel. -/
def State.setDma (s : State) (ch : Nat) (d : Option Dma) : State := { s with dma := { s.dma with ops := NMap.put none s.dma.ops ch d } }

/-- A write to a channel's registers is permitted (R313); else it is discarded, counted and logged. -/
def State.dmaMay (s : State) (master ch off : Nat) : Bool × State :=
  if s.stationCh ch then
    let s := s.lapse 0x1303
    let holder := s.slotHolder (0x402 + 4 * master) 0x1303
    if decide (master ≤ 2) && decide (holder = master) && decide (0 < master) then (true, s)
    else (false, (s.inc 0x1303 0xF4).event 0x0125 [0x1400000 + dmaOff ch off, master, holder])
  else if decide (s.ob 0x9200 (0x10 + ch) = master) && decide (0 < master) then (true, s)
  else (false, (s.inc 0x9200 5).eventLim 0x0132 0 [ch, master])

/-- An operation ends (R320): status and result, DONE, its source, counters and log; `cause` is that of an abort
(1 write, 2 thread, 3 station move). -/
def State.endDma (s : State) (ch status result cause : Nat) : State :=
  let o := dmaOff ch 0x20
  let s := s.setDma ch none
  let s := ((s.setRegBits 0 o 15 8 status).setRegBits 0 o 1 0 2).setReg 0 (dmaOff ch 0x24) (BitVec.ofNat 32 result)
  let s := if status = 0 || status = 4 then s.inc 0x9200 2
    else if status = 6 then (s.inc 0x9200 3).eventLim 0x0131 ch [ch, cause, result]
    else (s.inc 0x9200 3).eventLim 0x0130 ch [ch, status, s.regBits 0 (dmaOff ch 0x2C) 15 0]
  if s.regBits 0 (dmaOff ch 0) 31 31 = 1 then s.edge (0x301 + ch) else s

/-! ### Setup fields (Table 13-1) -/

/-- Mode, widths, spaces and fixed sides of an operation. -/
def dmaMode (d : Dma) : Nat := bits d.op 1 0
def dmaSw (d : Dma) : Nat := bits d.op 8 2
def dmaDw (d : Dma) : Nat := bits d.op 15 9
def dmaSs (d : Dma) : Nat := bits d.op 19 16
def dmaDs (d : Dma) : Nat := bits d.op 23 20
def dmaSf (d : Dma) : Bool := bit d.op 29
def dmaDf (d : Dma) : Bool := bit d.op 30

/-! ### Checks (R314) -/

/-- Size of a space as an address of it sees it; offsets of pool buffers are their low 32 bits. -/
def spaceSize (space addr : Nat) : Nat :=
  if space = 2 then 16777216
  else if space = 3 then 1048576
  else if space = 4 then classSize (addr / 2 ^ 32 / 2 ^ 24 % 8)
  else if space = 5 then 16384
  else 2 ^ 64

/-- Offset of an address in its space. -/
def spaceOff (space addr : Nat) : Nat := if space = 4 || space = 5 then addr % 2 ^ 32 else addr

/-- A region lies in its space. -/
def regionOk (space addr len width : Nat) (isFixed : Bool) : Bool :=
  decide (spaceOff space addr + (if isFixed then width else len) ≤ spaceSize space addr)

/-- A COPY within one SRAM space overlaps forwards. -/
def dmaOverlap (d : Dma) : Bool :=
  dmaMode d == 1 && dmaSs d == dmaDs d && (dmaSs d == 2 || dmaSs d == 3) && !dmaSf d && !dmaDf d
    && decide (d.src < d.dst) && decide (d.dst < d.src + d.len)

/-- RANGE of R314. -/
def dmaRange (d : Dma) : Bool :=
  let w := fun n => within 1 64 n
  let reads := dmaMode d ≠ 2
  decide (dmaMode d ≠ 0) && w (dmaDw d) && (!reads || w (dmaSw d)) && within 1 16777216 d.len
    && decide (d.len % dmaDw d = 0) && (!reads || decide (d.len % dmaSw d = 0))
    && (!reads || regionOk (dmaSs d) d.src d.len (dmaSw d) (dmaSf d))
    && regionOk (dmaDs d) d.dst d.len (dmaDw d) (dmaDf d) && !dmaOverlap d

/-- The highest and lowest byte that the destination of an operation covers. -/
def dmaDstEnd (d : Dma) : Nat := d.dst + if dmaDf d then dmaDw d else d.len

/-- A channel may read a space (Table 13-2); `thread` is the thread of a firmware channel. -/
def State.maySpaceRead (s : State) (thread : Option Nat) (space : Nat) : Bool :=
  match thread with
  | some n => decide (space ≤ 3) || (decide (space = 4) && s.privileged n)
  | none => decide (space = 2) || (decide (space ≤ 1) && decide (s.ob 0x1303 1 = space + 1))

/-- A channel may write the destination of an operation (Table 13-2). -/
def State.maySpaceWrite (s : State) (thread : Option Nat) (d : Dma) : Bool :=
  let sp := dmaDs d
  match thread with
  | some n => decide (sp ≤ 1) || decide (sp = 3) || (decide (sp = 2) && decide (0x400000 ≤ d.dst))
      || ((decide (sp = 4) || decide (sp = 5)) && s.privileged n)
  | none => (decide (sp ≤ 1) && decide (s.ob 0x1303 1 = sp + 1))
      || (decide (sp = 2) && decide (0xF00000 ≤ d.dst) && decide (dmaDstEnd d ≤ 0x1000000))

/-- SPACE of R314. -/
def State.dmaSpaces (s : State) (thread : Option Nat) (d : Dma) : Bool :=
  (dmaMode d == 2 || s.maySpaceRead thread (dmaSs d))
    && (if dmaMode d = 3 then s.maySpaceRead thread (dmaDs d) else s.maySpaceWrite thread d)

/-- The host ports (0 A, 1 B) that an operation uses. -/
def dmaHosts (d : Dma) : List Nat :=
  (if dmaMode d ≠ 2 && dmaSs d ≤ 1 then [dmaSs d] else []) ++ (if dmaDs d ≤ 1 then [dmaDs d] else [])

/-! ### Buffers as bytes (Table 5-2) -/

/-- The header of a buffer. -/
def headerBytes (b : Buffer) : Bytes :=
  let flags := [b.unmodified, b.pass2, b.host, b.hbm, b.decrypted, b.vport.isSome, false, false].foldl
    (fun n x => 2 * n + x.toNat) 0
  toLE 4 b.handle ++ toLE 2 b.row ++ toLE 2 b.length ++ toLE 8 b.rxTime ++ toLE 4 (b.source.kind * 65536 + b.source.num)
    ++ toLE 2 b.tenant ++ toLE 2 (b.vport.getD 0) ++ toLE 4 (b.stream.getD 0xFFFFFFFF) ++ toLE 2 b.replicas ++ toLE 1 flags
    ++ [0] ++ toLE 4 b.version ++ toLE 28 (Config.headerActions b.handle).toNat

/-- A buffer as memory holds it. -/
def bufferBytes (b : Buffer) : Bytes :=
  headerBytes b ++ b.data ++ (match b.fcs with
    | some f => toLE 4 f
    | none => [])

/-- The buffer that bytes spell; its handle stays, and what a frame of hardware does not cover is not kept. -/
def bufferOf (b : Buffer) (bs : Bytes) : Buffer :=
  let fl := le bs 30 1
  let st := le bs 24 4
  let src := le bs 16 4 % 2 ^ 20
  let data := bs.drop 64
  let n := b.data.length
  { b with row := le bs 4 2, length := le bs 6 2, rxTime := le bs 8 8, source := ⟨src / 65536, src % 65536⟩,
           tenant := le bs 20 2, vport := if bit fl 2 then some (le bs 22 2) else none,
           stream := if st = 0xFFFFFFFF then none else some st, replicas := le bs 28 2, unmodified := bit fl 7,
           pass2 := bit fl 6, host := bit fl 5, hbm := bit fl 4, decrypted := bit fl 3, version := le bs 32 4,
           data := if b.fcs.isSome then data.take n else data,
           fcs := b.fcs.map fun _ => le data n 4 }

/-- Read bytes of a buffer; what no one has written reads 0 (log entry 7). -/
def State.readBuf (s : State) (h off len : Nat) : Bytes :=
  fit len ((bufferBytes ((s.buf h).getD (blankBuf h 0))).drop off)

/-- Write bytes of a buffer. -/
def State.writeBuf (s : State) (h off : Nat) (bs : Bytes) : State :=
  let b := (s.buf h).getD (blankBuf h 0)
  let old := bufferBytes b
  s.setBuf (bufferOf b (splice (old ++ zeros (off + bs.length - old.length)) off bs))

/-! ### Moving bytes (R316) -/

/-- The thread of a firmware channel. -/
def State.dmaThread (s : State) (ch : Nat) : Option Nat :=
  if s.stationCh ch then none else some (s.ob 0x9200 (0x10 + ch) - 0x2000)

/-- Base of the local SRAM of a channel's core. -/
def State.dmaLocal (s : State) (ch : Nat) : Nat := (s.dmaThread ch).getD 0 / 16 * 1048576

/-- Bytes of an SRAM or buffer space. -/
def State.readSpace (s : State) (ch space addr len : Nat) : Bytes :=
  if space = 2 then NMap.bytes s.loop addr len
  else if space = 3 then NMap.bytes s.coreMem (s.dmaLocal ch + addr) len
  else s.readBuf (addr / 2 ^ 32) (addr % 2 ^ 32) len

/-- Write a run of bytes to a space. -/
def State.writeSpace (s : State) (ch space addr : Nat) (bs : Bytes) : State :=
  if space ≤ 1 then s.dmaWrite (space + 1) addr bs
  else if space = 2 then { s with loop := NMap.putBytes s.loop addr bs }
  else if space = 3 then { s with coreMem := NMap.putBytes s.coreMem (s.dmaLocal ch + addr) bs }
  else s.writeBuf (if space = 5 then s.regN 0 (dmaOff ch 0x28) else addr / 2 ^ 32) (addr % 2 ^ 32) bs

/-! ### Accesses (R316, R317, R319) -/

/-- The place of a side's access: its space, address, width, and whether the address stays (R316). -/
structure DmaPlace where
  space   : Nat
  addr    : Nat
  width   : Nat
  isFixed : Bool

/-- The place of the source, or of the destination. -/
def Dma.place (d : Dma) (dst : Bool) : DmaPlace :=
  if dst then ⟨dmaDs d, d.dst, dmaDw d, dmaDf d⟩ else ⟨dmaSs d, d.src, dmaSw d, dmaSf d⟩

/-- A side of an operation. -/
def Dma.side (d : Dma) (dst : Bool) : DmaSide := if dst then d.target else d.source

/-- Set a side. -/
def Dma.setSide (d : Dma) (dst : Bool) (x : DmaSide) : Dma := if dst then { d with target := x } else { d with source := x }

/-- Bytes of the holding register that a side fills: all 128, or half for each block of a COMPARE (log entry 37). -/
def Dma.room (d : Dma) : Nat := if dmaMode d = 3 then 64 else 128

/-- Address of an access `n` bytes into a side. -/
def DmaPlace.at_ (p : DmaPlace) (n : Nat) : Nat := if p.isFixed then p.addr else p.addr + n

/-- Host reads of a channel that are outstanding. -/
def State.dmaOut (s : State) (ch : Nat) : Nat := (s.hst.reads.filter fun r => ofDma ch r.why).length

/-- A read access of a side can be issued: 128 − H takes it and bytes remain; one to the host joins a request or finds fewer than
128 outstanding (R317). -/
def State.canRead (s : State) (ch : Nat) (d : Dma) (dst : Bool) : Bool :=
  let x := d.side dst
  let p := d.place dst
  decide (x.asked < d.len) && decide (x.hold.length + p.width ≤ d.room)
    && (decide (2 ≤ p.space) || decide (0 < x.forming) || decide (s.dmaOut ch < 128))

/-- The side whose read access a channel issues: for COMPARE the block with fewer bytes asked for, where it can (log entry 37). -/
def State.readSide (s : State) (ch : Nat) (d : Dma) : Option Bool :=
  if dmaMode d = 1 then (if s.canRead ch d false then some false else none)
  else if dmaMode d ≠ 3 || d.differs.isSome then none
  else
    let first := decide (d.target.asked < d.source.asked)
    if s.canRead ch d first then some first else if s.canRead ch d !first then some !first else none

/-- A write access of a channel can be made: H ≥ DST_WIDTH; FILL has its bytes always. -/
def dmaWrites (d : Dma) : Bool :=
  if dmaMode d = 1 then decide (dmaDw d ≤ d.source.hold.length) else dmaMode d == 2 && decide (d.made < d.len)

/-- A read access. Of SRAM its bytes join the register; of the host it joins the request that forms, which is sent when the next
would not fit Max_Read_Request_Size, at the end of the block, and at once for a fixed address. -/
def State.readAccess (s : State) (ch : Nat) (d : Dma) (dst : Bool) : State :=
  let x := d.side dst
  let p := d.place dst
  if 2 ≤ p.space then
    let bs := s.readSpace ch p.space (p.at_ x.asked) p.width
    s.setDma ch (some (d.setSide dst { x with asked := x.asked + p.width, joined := x.joined + p.width, hold := x.hold ++ bs }))
  else
    let n := x.forming + p.width
    let asked := x.asked + p.width
    if p.isFixed || decide (asked = d.len) || decide (s.maxRead (p.space + 1) < n + p.width) then
      let s := s.setDma ch (some (d.setSide dst { x with asked := asked, forming := 0 }))
      s.issueRead (p.space + 1) (.dmaRead ch dst (asked - n)) (p.at_ (asked - n)) n
    else s.setDma ch (some (d.setSide dst { x with asked := asked, forming := n }))

/-- Send the host write that an operation forms. -/
def State.sendWrite (s : State) (ch : Nat) (d : Dma) : State :=
  let s := s.setDma ch (some { d with writing := [] })
  if d.writing.isEmpty then s else s.writeSpace ch (dmaDs d) ((d.place true).at_ (d.made - d.writing.length)) d.writing

/-- A write access: the first bytes of the register, or of the constant of FILL. Of the host it joins the write that forms, which
is sent when the next would not fit Max_Payload_Size, at the end of the block, and at once for a fixed address. -/
def State.writeAccess (s : State) (ch : Nat) (d : Dma) : State :=
  let w := dmaDw d
  let bs := if dmaMode d = 2 then (List.range w).map fun i => (toLE 8 d.src).getD ((d.made + i) % 8) 0 else d.source.hold.take w
  let s := s.bump 0x9200 0 4 w
  let d' := { d with made := d.made + w, source := { d.source with hold := d.source.hold.drop w } }
  if 2 ≤ dmaDs d then (s.setDma ch (some d')).writeSpace ch (dmaDs d) ((d.place true).at_ d.made) bs
  else
    let d' := { d' with writing := d.writing ++ bs }
    if dmaDf d || decide (d'.made = d.len) || decide (s.maxPayload (dmaDs d + 1) < d'.writing.length + w) then s.sendWrite ch d'
    else s.setDma ch (some d')

/-- Host data that has arrived joins the register in order, as far as there is room. -/
def joinPieces (room joined : Nat) (hold : Bytes) : List (Nat × Bytes) → Nat × Bytes × List (Nat × Bytes)
  | [] => (joined, hold, [])
  | (o, b) :: r =>
    if o ≠ joined || room ≤ hold.length then (joined, hold, (o, b) :: r)
    else
      let n := room - hold.length
      if b.length ≤ n then joinPieces room (joined + b.length) (hold ++ b) r
      else (joined + n, hold ++ b.take n, (o + n, b.drop n) :: r)

/-- A side at the end of a cycle. -/
def DmaSide.join (room : Nat) (x : DmaSide) : DmaSide :=
  let r := joinPieces room x.joined x.hold x.arrived
  { x with joined := r.1, hold := r.2.1, arrived := r.2.2 }

/-- The first offset at which two blocks differ. -/
def firstDiff : (i : Nat) → Bytes → Bytes → Option Nat
  | i, a :: x, b :: y => if a = b then firstDiff (i + 1) x y else some i
  | _, _, _ => none

/-- An operation at the end of a cycle: host data has joined, and COMPARE has compared what both blocks have given; `made` is what
it has compared. -/
def Dma.settle (d : Dma) : Dma :=
  let d := { d with source := d.source.join d.room, target := d.target.join d.room }
  if dmaMode d ≠ 3 then d
  else
    let n := min d.source.hold.length d.target.hold.length
    let diff := firstDiff d.made d.source.hold d.target.hold
    { d with made := d.made + n, differs := d.differs.or diff,
             source := { d.source with hold := d.source.hold.drop n }, target := { d.target with hold := d.target.hold.drop n } }

/-- The channel after `last` in the order of numbers that satisfies a test (R319). -/
def nextChannel (last : Nat) (p : Nat → Bool) : Option Nat := ((List.range 32).map fun i => (last + 1 + i) % 32).find? p

/-- Run a step of the operation of a channel, if it has one. -/
def State.onDma (s : State) (ch : Nat) (f : State → Dma → State) : State :=
  match s.dmaOp ch with
  | some d => f s d
  | none => s

/-- A packet-clock cycle of the engine (R317, R319): one read access and one write access in all, each round robin over the channels
that can make it as they stand at the start. -/
def State.dmaCycle (s : State) : State :=
  if s.dma.ops.isEmpty then s
  else
    let w := nextChannel s.dma.lastWrite fun ch => (s.dmaOp ch).any dmaWrites
    let r := nextChannel s.dma.lastRead fun ch => (s.dmaOp ch).any fun d => (s.readSide ch d).isSome
    let s := match w with
      | some ch =>
        ({ s with dma := { s.dma with lastWrite := ch } }).onDma ch fun s d => s.writeAccess ch d
      | none => s
    let s := match r with
      | some ch =>
        ({ s with dma := { s.dma with lastRead := ch } }).onDma ch fun s d =>
          match s.readSide ch d with
          | some dst => s.readAccess ch d dst
          | none => s
      | none => s
    (List.range 32).foldl (fun s ch => s.onDma ch fun s d => s.setDma ch (some d.settle)) s

/-- Data of a host read of a channel arrives. -/
def State.dmaData (s : State) (ch : Nat) (dst : Bool) (off : Nat) (data : Bytes) : State :=
  s.onDma ch fun s d =>
    let x := d.side dst
    s.setDma ch (some (d.setSide dst { x with arrived := insertPiece (off, data) x.arrived }))

/-- End a running operation before its end; what its write accesses have made stands (R320). -/
def State.cutDma (s : State) (ch status cause : Nat) : State :=
  s.onDma ch fun s d =>
    let s := (s.sendWrite ch d).endQueue (ofDma ch)
    s.endDma ch status (if dmaMode d = 3 then 0 else d.made) cause

/-! ### Start, end, abort -/

/-- The setup registers of a channel. -/
def State.dmaSetup (s : State) (ch : Nat) : Dma where
  op := s.regN 0 (dmaOff ch 0)
  len := s.regN 0 (dmaOff ch 4)
  src := s.regAddr 0 (dmaOff ch 8)
  dst := s.regAddr 0 (dmaOff ch 0x10)

/-- Take the buffer of a new-buffer destination (R318): `none` when it is refused. -/
def State.dmaBuffer (s : State) (ch : Nat) (d : Dma) : Option State :=
  if dmaMode d = 3 || dmaDs d ≠ 5 then some s
  else
    let n := d.dst % 2 ^ 32 + (if dmaDf d then dmaDw d else d.len)
    match s.takeBuf 6147 (if n ≤ 256 then 0 else if n ≤ 768 then 1 else if n ≤ 2048 then 2 else 3) with
    | (some h, s) => some ((s.setReg 0 (dmaOff ch 0x28) (BitVec.ofNat 32 h)).noteHolder h (s.dmaThread ch))
    | (none, _) => none

/-- An accepted START (R314). -/
def State.dmaAccept (s : State) (master ch : Nat) (d : Dma) : State :=
  let s := (s.setRegBits 0 (dmaOff ch 0x20) 1 0 1).setReg 0 (dmaOff ch 0x2C) (BitVec.ofNat 32 master)
  if !dmaRange d then s.endDma ch 1 0 0
  else if !s.dmaSpaces (s.dmaThread ch) d then s.endDma ch 2 0 0
  else match s.dmaBuffer ch d with
    | none => (s.bump 0x9301 6147 0x1F 1).endDma ch 5 0 0
    | some s => if (dmaHosts d).any fun p => !s.mayIssue (p + 1) then s.endDma ch 3 0 0 else s.setDma ch (some d)

/-- The setup of a channel reads its source, and for COMPARE its destination, in host memory. -/
def State.hostSource (s : State) (ch : Nat) : Bool := decide (dmaSs (s.dmaSetup ch) ≤ 1)
def State.hostTarget (s : State) (ch : Nat) : Bool := decide (dmaDs (s.dmaSetup ch) ≤ 1)

/-- A write of START: it runs the command whose mode the setup names; mode 0 ends with RANGE. -/
def State.dmaStart (s : State) (master ch mode : Nat) : State :=
  let d := s.dmaSetup ch
  if dmaMode d ≠ mode && dmaMode d ≠ 0 then s
  else match s.dmaMay master ch 0x18 with
    | (false, s) => s
    | (true, s) => if s.dmaBusy ch then s.setRegBits 0 (dmaOff ch 0x20) 2 2 1 else s.dmaAccept master ch d

/-- COPY; `host` says whether its source is host memory. -/
def execCopy (master : Nat) (ch : Channel) (host : Bool) (s : State) : Host.Outcome State Fault Refusal :=
  .next (if s.hostSource ch.val = host then s.dmaStart master ch.val 1 else s)

/-- FILL. -/
def execFill (master : Nat) (ch : Channel) (s : State) : Host.Outcome State Fault Refusal := .next (s.dmaStart master ch.val 2)

/-- COMPARE; `hostSrc` and `hostDst` say which of its sides are host memory. -/
def execCompare (master : Nat) (ch : Channel) (hostSrc hostDst : Bool) (s : State) : Host.Outcome State Fault Refusal :=
  .next (if s.hostSource ch.val = hostSrc && s.hostTarget ch.val = hostDst then s.dmaStart master ch.val 3 else s)

/-- A write of ABORT. -/
def State.dmaAbort (s : State) (master ch : Nat) : State :=
  match s.dmaMay master ch 0x1C with
  | (false, s) => s
  | (true, s) => s.cutDma ch 6 1

/-- DMA_ABORT. -/
def execDmaAbort (master : Nat) (ch : Channel) (s : State) : Host.Outcome State Fault Refusal := .next (s.dmaAbort master ch.val)

/-- DMA_DONE: the operation of a channel that has made its last access, or has found a difference, ends. -/
def execDmaDone (ch : Channel) (s : State) : Host.Outcome State Fault Refusal :=
  .next <| s.onDma ch.val fun s d =>
    match d.differs with
    | some i => (s.endQueue (ofDma ch.val)).endDma ch.val 4 i 0
    | none => if d.made < d.len then s else s.endDma ch.val 0 d.len 0

/-- End every operation that satisfies a test. -/
def State.cutAll (s : State) (status cause : Nat) (p : Nat → Dma → Bool) : State :=
  (List.range 32).foldl (fun s ch => match s.dmaOp ch with
    | some d => if p ch d then s.cutDma ch status cause else s
    | none => s) s

/-- Operations that use a host port end with HOST (R315). -/
def State.dmaHostLost (s : State) (hp : Nat) : State := s.cutAll 3 0 fun _ d => (dmaHosts d).contains hp

/-- Operations of a thread's channels are aborted (R320). -/
def State.dmaThreadGone (s : State) (n : Nat) : State := s.cutAll 6 2 fun ch _ => s.dmaThread ch == some n

/-- Operations of station channels are aborted when the station moves (R315). -/
def State.dmaStationMoved (s : State) : State := s.cutAll 6 3 fun ch _ => s.stationCh ch

/-- The place of an uncorrectable error that the next read access of a channel finds (Table 13-3): in its thread's local SRAM, in a
slot of the process image or elsewhere in the shared SRAM, or in a pool buffer; none where it reads no SRAM. -/
def State.dmaSource (s : State) (ch : Nat) : Option MemUnit :=
  match s.dmaOp ch with
  | none => none
  | some d =>
    let dst := dmaMode d == 3 && decide (d.target.asked < d.source.asked)
    let a := (d.place dst).at_ (d.side dst).asked
    let sp := (d.place dst).space
    if dmaMode d = 2 || sp < 2 then none
    else if sp = 2 then (if h : a / 256 < 16384 then some (.imageSlot ⟨a / 256, h⟩) else some .loopSram)
    else if sp = 3 then (s.dmaThread ch).bind fun n => if h : n < 256 then some (.coreSram ⟨n, h⟩) else none
    else some (.packetData (a / 2 ^ 32) (((List.finRange 1024).find? fun (p : Port) =>
      (s.sched p.val).wire.any fun x => x.copy.handle == a / 2 ^ 32).getD 0))

/-- The rule of 0x9200:01 (R312). -/
def stationChannelsRule : WriteRule where
  check s _ n := firstBad
    [ s.startState, require (decide (n ≤ 32)) stRange
    , require (!((List.range 32).any fun ch => s.dmaBusy ch && (s.stationCh ch != decide (32 ≤ ch + n)))) stBusy ]
  act s _ n :=
    let s := (List.range 32).foldl (fun s ch => if 32 ≤ ch + n then s.setOb 0x9200 (0x10 + ch) 0 else s) s
    .done stOk [] (s.setOb 0x9200 1 n)

/-- STATION_CHANNELS_WRITE. -/
def execStationChannelsWrite (v : Via) (data : Bytes) (s : State) : Host.Outcome State Fault Refusal :=
  .next (s.writeItem v 0x9200 1 data stationChannelsRule)

end Sys2Proof.Machine
end

