-- ==== Sys2Proof/Machine/Rings.lean ====
section
/-! DEFINITION. Ring commands (R257–R265): control, doorbells, the reading of transmit frames, inline pushes, the
moderation timer. -/

namespace Sys2Proof.Machine

/-- The descriptors of a frame have been read; completions and pushes behind them move up. -/
def State.readDone (s : State) (o r n : Nat) (waits : Bool) : State := (s.descsRead o r n waits).settleRing o r

/-- Descriptors fetched and not used are forgotten, and their fetches end; only the frame whose reads have begun holds back a push
(R258). -/
def State.dropDescs (s : State) (o : Nat) (tx : Bool) (r : Nat) : State :=
  let s := s.endQueue (fetchOf o tx r)
  let d := s.ring o tx r
  let keep := (d.reading.map fun x => x.descs.length).getD 0
  let s := s.setRing o tx r { d with descs := [], owed := d.owed.map fun x => { x with descs := min x.descs keep } }
  if !tx then s
  else
    let ws := s.net.waiting.map fun w => if w.ofRing o r then { w with ahead := min w.ahead keep } else w
    ({ s with net := { s.net with waiting := ws } } : State).settleRing o r

/-- A write of RING_CTRL (R258): ENABLE from 0 to 1 restarts the ring; from 1 to 0 ends descriptor fetch. -/
def State.writeRingCtrl (s : State) (o : Nat) (tx : Bool) (r : Nat) (ctrl : Word) : State :=
  let b := ringBase tx r
  let was := s.ringEnabled o tx r
  let s := s.writeReg o (b + 0x24) ctrl
  let now := s.ringEnabled o tx r
  if !was && now then
    let s := (((s.setReg o (b + 0xC) 0).setReg o (b + 0x10) 0).setReg o (b + 0x1C) 0).setReg o (b + 0x20) 0
    let d := s.ring o tx r
    let s := s.setRing o tx r { d with phase := true, sinceMsg := 0, oldest := none }
    (((s.setRegBits o (b + 0x2C) 1 1 0).noteFull o tx r).dropDescs o tx r).noteHalted o
  else if was && !now then s.dropDescs o tx r
  else s

/-- RING_ENABLE. -/
def execRingEnable (f : Func) (tx : Bool) (r : RingNo) (ctrl : Word) (s : State) : Host.Outcome State Fault Refusal :=
  .next (s.onRegion f fun o => s.writeRingCtrl o tx r.val ctrl)

/-- RING_DISABLE. -/
def execRingDisable (f : Func) (tx : Bool) (r : RingNo) (ctrl : Word) (s : State) : Host.Outcome State Fault Refusal :=
  .next (s.onRegion f fun o => s.writeRingCtrl o tx r.val ctrl)

/-- A write of RING_TAIL exposes descriptors, which the ring fetches unless it is disabled or halted (R258, R265). -/
def State.ringTail (s : State) (o : Nat) (tx : Bool) (r : Nat) (tail : Word) : State :=
  let b := ringBase tx r
  let size := s.ringSize o tx r
  let old := s.regN o (b + 0xC) % size
  let new := tail.toNat % size
  let s := s.setReg o (b + 0xC) (BitVec.ofNat 32 new)
  if old = new || !s.ringEnabled o tx r || s.ringHalted o tx r then s
  else s.fetchRun o (s.regAddr o b) size 32 old new fun a n => .ringDesc o tx r a n

/-- RING_DOORBELL. -/
def execRingDoorbell (f : Func) (tx : Bool) (r : RingNo) (tail : Word) (s : State) : Host.Outcome State Fault Refusal :=
  .next (s.onRegion f fun o => s.ringTail o tx r.val tail)

/-! ### Transmit (R259, R260) -/

/-- FIRST, LAST and IRQ of a descriptor's FLAGS. -/
def descFirst (d : RingDesc) : Bool := bit d.flags.toNat 7
def descLast (d : RingDesc) : Bool := bit d.flags.toNat 6
def descIrq (d : RingDesc) : Bool := bit d.flags.toNat 5

/-- The descriptors that the frame at the head of a ring consumes: through the first LAST, or eight; `none` while its
last descriptor is not exposed. -/
def frameDescs (avail : Nat) (ds : List RingDesc) : Option (List RingDesc) :=
  let ds := ds.take (min 8 avail)
  match ds.findIdx? descLast with
  | some i => some (ds.take (i + 1))
  | none => if ds.length = 8 then some ds else none

/-- A frame is malformed (R259). -/
def formatBad (ds : List RingDesc) : Bool :=
  !(ds.head?.any descFirst) || !(ds.any descLast) || !within 14 15996 (ds.map (·.len)).sum
    || ds.any fun d => decide (d.flags.toNat % 32 ≠ 0) || decide (16 ≤ d.vport.toNat)

/-- Put a waiting frame before the first of its ring that still waits for descriptors. -/
def insertWaiting (o r : Nat) (x : Waiting) : List Waiting → List Waiting
  | [] => [x]
  | w :: ws => if w.ofRing o r && decide (w.ahead ≠ 0) then x :: w :: ws else w :: insertWaiting o r x ws

/-- A host frame as it waits for the slots of its pipeline (R259). -/
def State.hostWaiting (s : State) (t : TxDone) (v : Nat) (bytes : Bytes) (handle : Option Nat) (ahead : Nat) : Waiting :=
  let n := 16 * t.tenant + v
  { pipe := (t.tenant + t.ring) % 8, cls := 2, time := s.now, bytes := bytes, fcs := none, source := ⟨1, n⟩,
    ring := t.ring, tenant := t.tenant, vport := some n, txDone := some t, handle := handle, ahead := ahead }

/-- A host frame joins those that wait. -/
def State.hostFrame (s : State) (o r : Nat) (w : Waiting) : State :=
  let s := { s with net := { s.net with waiting := insertWaiting o r w s.net.waiting } }
  s.noteBusy o r

/-- The descriptors that have arrived in order from the head of a transmit ring on. -/
def State.headDescs (s : State) (o r : Nat) : List RingDesc :=
  let size := s.ringSize o true r
  let head := s.regN o (ringBase true r + 0x10) % size
  let got := ((List.range 8).map fun i => (head + i) % size).takeWhile fun k => !(s.descBytes o true r k).isEmpty
  got.map fun k => s.descAt o true r k

/-- Begin to read the next frame of a transmit ring, once its descriptors have arrived; while the completion ring is full it waits
unread (R259, R264). The frame uses up its descriptors; of a malformed one nothing is read. -/
def State.beginRead (s : State) (o r : Nat) : State :=
  let b := ringBase true r
  let size := s.ringSize o true r
  let head := s.regN o (b + 0x10) % size
  let avail := (s.regN o (b + 0xC) % size + size - head) % size
  match frameDescs avail (s.headDescs o r) with
  | none => s
  | some ds =>
    if (s.ring o true r).reading.isSome || !s.ringEnabled o true r || s.ringHalted o true r || s.ringFull o true r
      || !s.mayIssue (s.funcMaster o) then s
    else
      let next := (head + ds.length) % size
      let reads := if formatBad ds then [] else (ds.map fun d => (d.addr, d.len)).filter fun x => x.2 ≠ 0
      let s := (List.range ds.length).foldl (fun s i => s.dropDesc o true r ((head + i) % size)) s
      let s := s.setReg o (b + 0x10) (BitVec.ofNat 32 next)
      let s := s.setRing o true r { s.ring o true r with reading := some { descs := ds, next := next, prep := { reads := reads } } }
      s.issueAll (s.funcMaster o) reads fun i => .txData o r i

/-- Data of the frame in reading arrives, or its read fails. -/
def State.txArrived (s : State) (o r i : Nat) (data : Option Bytes) : State :=
  let d := s.ring o true r
  match d.reading with
  | some x => s.setRing o true r { d with reading := some { x with prep := x.prep.take i data } }
  | none => s

/-- How the reading of a frame ends. -/
def TxRead.how (x : TxRead) : FrameRead :=
  if formatBad x.descs then .malformed else if x.prep.all.any (·.isNone) then .failed else .whole

/-- The frame in reading ends: one that fails is completed behind those before it; else it waits for a slot. -/
def State.endRead (s : State) (o r : Nat) (x : TxRead) : State :=
  let last := x.descs.getLast?
  let n := x.descs.length
  let t : TxDone := { tenant := o - 0x1000, ring := r, cookie := (last.map (·.cookie)).getD 0, len := (x.descs.map (·.len)).sum,
                      descs := n, head := x.next, irq := last.any descIrq, push := false }
  let s := s.setRing o true r { s.ring o true r with reading := none }
  match x.how with
  | .malformed => (s.oweFrame t 1).readDone o r n false
  | .failed => (s.oweFrame t 2).readDone o r n false
  | .whole =>
    let w := s.hostWaiting t ((x.descs.head?.map (·.vport.toNat)).getD 0) ((x.prep.all.filterMap id).flatten) none 0
    (s.hostFrame o r w).readDone o r n true

/-- HOST_FRAME_READ: the next frame of a transmit ring, with the descriptors and data that the command names, has been read whole,
or fails; the device reads on behind it. -/
def execHostFrameRead (f : Func) (r : RingNo) (descs : List RingDesc) (data : List ReadBytes) (how : FrameRead) (s : State) :
    Host.Outcome State Fault Refusal :=
  .next <| s.onRegion f fun o =>
    let s := s.beginRead o r.val
    match (s.ring o true r.val).reading with
    | none => s
    | some x => if x.prep.ready && x.descs = descs && x.prep.all = data && x.how = how then (s.endRead o r.val x).beginRead o r.val else s

/-! ### Inline pushes (R261) -/

/-- Pushes that a function holds. -/
def State.pushesHeld (s : State) (o : Nat) : Nat := ((List.range 64).map fun r => (s.ring o true r).pushes).sum

/-- A push is discarded: RING_DROPS, and 0x0805 with the cause's place in the list of R261 (log entry 38). -/
def State.dropPush (s : State) (o r cause : Nat) : State :=
  (s.bumpReg o (ringBase true (if r < 64 then r else 0) + 0x30) 1).eventLim 0x0805 o [s.funcMaster o, r, cause]

/-- A push of the right alignment. -/
def State.push (s : State) (o : Nat) (data : Bytes) : State :=
  let r := le data 0 2
  let len := le data 8 2
  let flags := le data 10 1
  let v := le data 11 1
  let size := s.ringSize o true r
  let tail := s.regN o (ringBase true r + 0xC) % size
  let inWork := ((s.ring o true r).reading.map fun x => x.descs.length).getD 0
  let avail := (tail + size - s.regN o (ringBase true r + 0x10) % size) % size + inWork
  let t : TxDone := { tenant := o - 0x1000, ring := r, cookie := le data 16 8, len := len, descs := 0,
                      head := tail, irq := bit flags 5, push := true }
  if 64 ≤ r || !within 14 256 len || flags % 32 ≠ 0 || !bit flags 7 || !bit flags 6 || 16 ≤ v
    || data.length ≠ roundUp (32 + len) 4 then s.dropPush o r 1
  else if !s.ringEnabled o true r then s.dropPush o r 3
  else if 8 ≤ s.pushesHeld o then (s.dropPush o r 2).owePush t 3 avail
  else match s.takeBuf (2048 + (o - 0x1000)) (classFor (len + 4)) with
    | (none, s) => (s.dropPush o r 4).owePush t 3 avail
    | (some h, s) =>
      let d := s.ring o true r
      let s := s.setRing o true r { d with pushes := d.pushes + 1 }
      let w := s.hostWaiting t v (slice data 32 len) (some h) avail
      { s with net := { s.net with waiting := s.net.waiting ++ [w] } }.noteBusy o r

/-- INLINE_PUSH: one posted write to the push window; one that does not begin at a slot boundary is discarded. -/
def execInlinePush (f : Func) (off : Nat) (data : Bytes) (s : State) : Host.Outcome State Fault Refusal :=
  .next <| s.onRegion f fun o => if within 0x3800 0x3FFF off && off % 512 = 0 then s.push o data else s

/-! ### The moderation timer (R264) -/

/-- RING_MOD_TIMER: TIMER has passed since the oldest completion written without a message. -/
def execRingModTimer (f : Func) (tx : Bool) (r : RingNo) (s : State) : Host.Outcome State Fault Refusal :=
  .next <| s.onRegion f fun o =>
    let b := ringBase tx r.val
    let timer := s.regBits o (b + 0x28) 31 16
    match (s.ring o tx r.val).oldest with
    | none => s
    | some t =>
      if timer ≠ 0 && s.regBits o (b + 0x24) 1 1 = 1 && t + 1000 * timer ≤ s.now then s.ringMsg o tx r.val else s

end Sys2Proof.Machine
end

