-- ==== Sys2Proof/Machine/Host.lean ====
section
/-! DEFINITION. The host face (R226–R256): ports and links, the tenant map and functions, completions, timeouts and tags,
Bus Master Enable, function-level reset, D-states, host-face reset and the station's move between ports. -/

namespace Sys2Proof.Machine

/-! ### Functions of a port -/

/-- Number of a host port (0 A, 1 B). -/
def hpNo (hp : HostPort) : Nat := portMaster hp - 1

/-- The register file that carries a function's queues: a VF's own; for the station PF0 that of T0000. -/
def State.queueOwner (s : State) (m : Nat) : Option Nat :=
  if 2 < m then some m else if m = s.stationMaster then some 0x1000 else none

/-- The tenants whose functions a port carries now. -/
def State.vfsOf (s : State) (hp : Nat) : List Nat :=
  (s.hport hp).mapped.filter fun t => decide (s.portOf t = hp + 1)

/-- The functions of a port, by master id. -/
def State.functions (s : State) (hp : Nat) : List Nat := (hp + 1) :: (s.vfsOf hp).map tenantMaster

/-- Function state of every tenant of a port, and of T0000. -/
def State.noteFunctions (s : State) (hp : Nat) : State :=
  (0 :: (s.hport hp).mapped).foldl State.noteFunction s

/-- Link state of a host port (x:10). -/
def State.link (s : State) (hp : Nat) : Nat := s.ob (hostIx hp) 0x10

/-- Set the link state. -/
def State.setLink (s : State) (hp st : Nat) : State := (s.setOb (hostIx hp) 0x10 st).noteFunctions hp

/-- A function that exists, by master id. -/
def State.funcAt (s : State) (f : Func) : Option Nat :=
  match f with
  | .pf0 p => some (portMaster p)
  | .vf t => if t.val ≠ 0 && s.portOf t.val ≠ 0 then some (tenantMaster t.val) else none
  | .thread _ => none

/-- A function that exists and is not in an FLR. -/
def State.funcThere (s : State) (f : Func) : Option Nat := (s.funcAt f).filter fun m => !(s.func m).inFlr

/-! ### The tenant map (R230) -/

/-- The tenants that are enabled, rising. -/
def State.enabledTenants (s : State) : List Nat :=
  s.dict.filterMap fun e =>
    let ix := e.1 / 2 ^ 40
    if 0x8000 < ix && ix < 0x9000 && e.1 % 2 ^ 40 = 1 then some (ix - 0x8000) else none

/-- Map change pending (0x8000+t:05). -/
def State.notePending (s : State) (t : Nat) : State :=
  let want := if s.ob (tenantIx t) 1 = 0 then 0 else s.ob (tenantIx t) 2
  s.setOb (tenantIx t) 5 (decide (t ≠ 0) && decide (want ≠ s.ob (tenantIx t) 3)).toNat

/-- Apply the map of a port: TotalVFs, tenants and tag quotas (R230, R240). -/
def State.applyMap (s : State) (hp : Nat) : State :=
  let old := (s.hport hp).mapped.filter fun t => decide (s.ob (tenantIx t) 3 = hp + 1)
  let new := s.enabledTenants.filter fun t => decide (s.ob (tenantIx t) 2 = hp + 1)
  let s := old.foldl (fun s t => s.setCells (tenantIx t) 0 [(3, 0), (4, 0), (8, 0)]) s
  let s := s.setHport hp { s.hport hp with mapped := new }
  let s := (s.setOb (hostIx hp) 0x16 new.length).setOb (hostIx hp) 0x17 0
  let s := new.foldl (fun s t =>
    s.setCells (tenantIx t) 0 [(3, hp + 1), (4, 0), (8, s.tagQuota hp (tenantMaster t))]) s
  let s := if s.stationMaster = hp + 1 then s.setOb 0x8000 8 (s.tagQuota hp (hp + 1)) else s
  let s := (old ++ new).foldl State.notePending s
  ((s.setOb (hostIx hp) 0x1A (if s.partitioned then 0 else s.poolTags hp)).noteFunctions hp).event 0x071D [hp + 1, new.length]

/-- The rule of a write of 0x8000+t:01 or :02 (R230, R14). -/
def tenantRule (t sub : Nat) : WriteRule where
  check s _ x := firstBad
    [ require (rangeOk (tenantIx t) sub x) stRange
    , s.startState
    , require (decide (t ≠ 0)) stState
    , require (decide (sub ≠ 1) || decide (x = 0) || decide (t < 1024) || decide (s.ob 0x1001 1 ≠ 0)) stResource ]
  act s _ x := .done stOk [] ((s.setOb (tenantIx t) sub x).notePending t)

/-- TENANT_ENABLE_WRITE. -/
def execTenantEnableWrite (v : Via) (t : Tenant) (data : Bytes) (s : State) : Host.Outcome State Fault Refusal :=
  .next (s.writeItem v (tenantIx t.val) 1 data (tenantRule t.val 1))

/-- TENANT_HOST_PORT_WRITE. -/
def execTenantHostPortWrite (v : Via) (t : Tenant) (data : Bytes) (s : State) : Host.Outcome State Fault Refusal :=
  .next (s.writeItem v (tenantIx t.val) 2 data (tenantRule t.val 2))

/-- An uplink is usable (R232). -/
def State.uplinkOk (s : State) (t kind target : Nat) : Bool :=
  if kind = 1 then decide (target < 1024)
  else if kind = 3 then
    decide (target < 262144) && decide (s.cell 0x5100 target 4 = 1)
      && (decide (s.owner 0x5100 target = 0) || decide (s.owner 0x5100 target = t))
  else true

/-- The rule of a write of 0x8000+t:06 or :07: the uplink that results is checked (R232, log entry 39). -/
def uplinkRule (t sub : Nat) : WriteRule where
  check s _ x :=
    let kind := if sub = 6 then x else s.ob (tenantIx t) 6
    let target := if sub = 7 then x else s.ob (tenantIx t) 7
    firstBad [ s.startState, require (decide (kind = 0 || kind = 1 || kind = 3) && s.uplinkOk t kind target) stRange ]
  act s _ x := .done stOk [] (s.setOb (tenantIx t) sub x)

/-- UPLINK_WRITE. -/
def execUplinkWrite (v : Via) (t : Tenant) (target : Bool) (data : Bytes) (s : State) :
    Host.Outcome State Fault Refusal :=
  let sub := if target then 7 else 6
  .next (s.writeItem v (tenantIx t.val) sub data (uplinkRule t.val sub))

/-- A tenant's function is enabled: frames for it are queued again (R252). -/
def State.accepts (s : State) (t : Nat) : State :=
  { s with hst := { s.hst with discard := s.hst.discard.filter (· != t) } }

/-! ### Reads that fail (R242, R244) -/

/-- Completion timeout of an encoding in ns (Table 10-8). -/
def timeoutNs (code : Nat) : Nat :=
  match code with
  | 1 => 80000
  | 2 => 8000000
  | 6 => 150000000
  | 9 => 600000000
  | 10 => 2500000000
  | 13 => 10000000000
  | 14 => 40000000000
  | _ => 40000000

/-- The completion timeout of a function: that of its Device Control 2 (R241). -/
def State.timeoutOf (s : State) (m : Nat) : Nat := timeoutNs (s.config m (capPcie + 0x28) % 16)

/-- Tenant object and counter of a function's tags. -/
def State.countTenant (s : State) (m sub : Nat) : State :=
  match s.tagTenant m with
  | some t => s.inc (tenantIx t) sub
  | none => s

/-- The operation that a read belongs to fails (R242). -/
def State.failRead (s : State) (why : Purpose) : State :=
  match why with
  | .cipherDesc o slot n => s.failDescs o slot n
  | .jobData o slot => s.failJob o slot
  | .storDesc o slot n => s.failStorDescs o slot n
  | .storList o slot => (s.failStor o slot).stepStor o
  | .storData o slot i => (s.storData o slot i none).stepStor o
  | .segData _ row i => s.segData row i none
  | .ringDesc o tx r _ _ => ((s.haltRing o tx r 1).endQueue (fetchOf o tx r)).noteHalted o
  | .txData o r i => s.txArrived o r i none
  | .dmaRead ch _ _ => s.cutDma ch 3 0

/-- The data of a read has arrived whole. -/
def State.takeRead (s : State) (why : Purpose) (data : Bytes) : State :=
  match why with
  | .cipherDesc o slot n => s.descsArrived o slot n data
  | .jobData o slot => s.srcArrived o slot data
  | .storDesc o slot n => (s.storArrived o slot n data).stepStor o
  | .storList o slot => (s.listArrived o slot data).stepStor o
  | .storData o slot i => (s.storData o slot i (some data)).stepStor o
  | .segData _ row i => s.segData row i (some data)
  | .ringDesc o tx r slot n =>
    let s := s.ringDescs o tx r slot n data
    if tx then s.beginRead o r else s
  | .txData o r i => s.txArrived o r i (some data)
  | .dmaRead ch dst off => s.dmaData ch dst off data

/-- The data of a request arrives: the read that it completes has arrived whole. -/
def State.takeCompletion (s : State) (t : Tag) (data : Bytes) : State :=
  match s.takePiece t data with
  | (some (r, all), s) => s.takeRead r.why all
  | (none, s) => s

/-- The request of a tag fails: with it the read, and the operation that it belongs to. -/
def State.failTag (s : State) (t : Tag) : State :=
  match s.dropRead t with
  | (some r, s) => s.failRead r.why
  | (none, s) => s

/-- Code of a completion status: 1 UR, 2 CA, 3 poisoned (0x071B). -/
def cplCode : CplStatus → Nat
  | .success => 0
  | .ur => 1
  | .ca => 2
  | .poisoned => 3

/-- A completion that nothing waits for is discarded, counted and reported (R243). -/
def State.lateCompletion (s : State) (p m tag : Nat) : State :=
  (((s.inc (hostIx p) 0x1C).countTenant m 0xF).aer m 16 "Unexpected Completion" true).eventLim 0x0715 m [m, tag]

/-- COMPLETION_RECEIVED: on an outstanding tag it ends the request; on any other it is discarded (R243, R244), for PF0 where no
function has the tag. -/
def execCompletionReceived (hp : HostPort) (tag : Nat) (st : CplStatus) (data : Bytes) (s : State) :
    Host.Outcome State Fault Refusal :=
  let p := hpNo hp
  .next <|
    match (s.tags p).find? fun t => t.tag == tag with
    | some t =>
      if t.quarantine.isSome then s.lateCompletion p t.master tag
      else
        let s := s.freeTag p tag
        if st = .success then (s.bump (hostIx p) 0 0x1E t.len).takeCompletion t data
        else
          let s := (s.inc (hostIx p) 0x1D).eventLim 0x071B t.master [t.master, cplCode st]
          let s := if st = .poisoned then s.aer t.master 12 "Poisoned TLP Received" true else s
          s.failTag t
    | none => s.lateCompletion p (p + 1) tag

/-- An outstanding read times out: its tag is quarantined and its operation fails (R242). -/
def State.timeoutTag (s : State) (p : Nat) (t : Tag) : State :=
  let ts := (s.tags p).map fun x => if x.tag = t.tag then { x with quarantine := some (s.now + 2 * s.timeoutOf t.master) } else x
  let s := ((s.setTags p ts).inc (hostIx p) 0x1B).countTenant t.master 0xE
  ((s.aer t.master 14 "Completion Timeout" false).eventLim 0x0714 t.master [t.master, t.tag]).failTag t

/-- COMPLETION_TIMEOUT: T has passed since the request was sent (R242). -/
def execCompletionTimeout (hp : HostPort) (tag : Nat) (s : State) : Host.Outcome State Fault Refusal :=
  let p := hpNo hp
  .next <|
    match (s.tags p).find? fun t => t.tag == tag && t.quarantine.isNone with
    | none => s
    | some t => if s.now < t.sent + s.timeoutOf t.master then s else s.timeoutTag p t

/-- TAG_QUARANTINE_END: a tag returns to its function's quota (R243). -/
def execTagQuarantineEnd (hp : HostPort) (tag : Nat) (s : State) : Host.Outcome State Fault Refusal :=
  let p := hpNo hp
  .next <|
    if (s.tags p).any (fun t => t.tag == tag && t.quarantine.any (· ≤ s.now)) then s.freeTag p tag else s

/-! ### Halting (R245, R248) -/

/-- Reads of a function that are outstanding. -/
def State.readsOut (s : State) (m : Nat) : Nat :=
  ((s.tags (s.hpOf m)).filter fun t => t.master == m && t.quarantine.isNone).length

/-- Halt one ring; an enabled one is logged (R265). -/
def State.haltOne (s : State) (o cause : Nat) (tx : Bool) (r : Nat) : State :=
  if s.ringHalted o tx r then s
  else if s.ringEnabled o tx r then s.haltRing o tx r cause
  else s.setRegBits o (ringBase tx r + 0x2C) 1 1 1

/-- A frame that has been read in part is discarded (R245). -/
def State.dropTx (s : State) (o r : Nat) : State :=
  match (s.ring o true r).reading with
  | none => s
  | some x => (s.setRing o true r { s.ring o true r with reading := none }).readDone o r x.descs.length false

/-- Every queue of a function enters the halted state; its reads fail, and what arrives for them is discarded; its jobs and storage
operations end (R203, R224, R245). `cause` is that of 0x0806: 1 fetch, 2 Bus Master Enable, 3 D-state. -/
def State.haltQueues (s : State) (m cause : Nat) : State :=
  let s := s.endReads fun x _ => x == m
  let s := if m ≤ 2 then s.dmaHostLost (m - 1) else s
  let s := match s.queueOwner m with
    | none => s
    | some o =>
      let s := (List.range 64).foldl (fun (s : State) r => ((s.haltOne o cause true r).haltOne o cause false r).dropTx o r) s
      let s := (((s.haltPage o).dropJobs o).haltStor o).dropStor o
      { s with rng := { s.rng with tlmHalted := addOnce s.rng.tlmHalted o } }
  let s := s.setFunc m { s.func m with halted := true }
  match s.queueOwner m with
  | some o => s.noteFunction (o - 0x1000)
  | none => s

/-- The host clears Bus Master Enable of a function (R245). -/
def State.clearMaster (s : State) (m : Nat) : State :=
  if !(s.func m).busMaster then s
  else
    let n := s.readsOut m
    let s := s.setFunc m { s.func m with busMaster := false }
    (s.haltQueues m 2).event 0x0716 [m, n]

/-- The host sets Bus Master Enable: messages that wait are sent (R248). -/
def State.setMaster (s : State) (m : Nat) : State := (s.setFunc m { s.func m with busMaster := true }).flushPba m

/-- BUS_MASTER_ENABLE_CLEAR. -/
def execBusMasterEnableClear (f : Func) (s : State) : Host.Outcome State Fault Refusal :=
  .next <| match s.funcThere f with
    | none => s
    | some m => s.clearMaster m

/-- Number of a D-state. -/
def dNo : DState → Nat
  | .d0 => 0
  | .d1 => 1
  | .d2 => 2
  | .d3hot => 3
  | .d3cold => 4

/-- A function changes its D-state (R248): leaving D0 acts as under R245; back in D0 pending messages are sent. D3hot and D3cold
end the leases of a PF0 (R36). -/
def State.setDState (s : State) (m : Nat) (d : DState) : State :=
  let old := (s.func m).dstate
  if old = d then s
  else
    let s := s.setFunc m { s.func m with dstate := d }
    let s := if old = .d0 then s.haltQueues m 3 else s
    let s := if m ≤ 2 && (d = .d3hot || d = .d3cold) then s.endLeasesOf m 4 else s
    let s := if d = .d0 then s.flushPba m else s
    let s := match s.queueOwner m with
      | some o => s.noteFunction (o - 0x1000)
      | none => s
    s.event 0x0717 [m, dNo old, dNo d]

/-- D_STATE_CHANGE; D3cold belongs to ports (R251). -/
def execDStateChange (f : Func) (d : DState) (s : State) : Host.Outcome State Fault Refusal :=
  .next <| match s.funcThere f with
    | none => s
    | some m => if d = .d3cold && 2 < m then s else s.setDState m d

/-! ### Function-level reset (R246, R247) -/

/-- Registers of an owner at their reset values; SPACE and COUNT follow the channels of its slots. -/
def State.resetRegs (s : State) (o : Nat) : State :=
  let s := { s with regs := s.regs.filter fun e => decide (e.1 / 2 ^ 26 ≠ o) }
  s.bound.foldl (fun s c =>
    let x := s.sender c
    let r := s.receiver c
    let n := (s.channel c).notices.length
    let s := if x.1 = o then s.setRegBits o (slotOff x.2 0x14) 20 16 (16 - n) else s
    if r.1 = o then s.setRegBits o (slotOff r.2 0x5C) 20 16 n else s) s

/-- The rings of an owner at reset; frames already read are forwarded and have no completion (log entry 41). -/
def State.resetRings (s : State) (o : Nat) : State :=
  let mine := fun (t : TxDone) => tenantMaster t.tenant == o
  { s with
    rng := { s.rng with
      rings := s.rng.rings.filter fun e => decide (e.1 / 128 ≠ o)
      tlmHalted := s.rng.tlmHalted.filter (· != o) }
    cip := { s.cip with sinceMsg := NMap.put 0 s.cip.sinceMsg o 0 }
    net := { s.net with
      waiting := s.net.waiting.map (fun w => if w.txDone.any mine then { w with txDone := none, ahead := 0 } else w) } }

/-- The queue rows of a tenant's vports that hold frames. -/
def State.vportRows (s : State) (t : Nat) : List Nat :=
  (s.net.queues.filter fun e => decide (8192 ≤ e.1) && decide ((e.1 - 8192) / 128 = t)).map (·.1)

/-- Frames in the vport queues of a tenant. -/
def State.vportFrames (s : State) (t : Nat) : Nat := ((s.vportRows t).map fun r => (s.queue r).length).sum

/-- Discard the frames in the vport queues of a tenant, each counted in 0x3801:13. -/
def State.flushVports (s : State) (t : Nat) : State := (s.vportRows t).foldl State.flushRow s

/-- The queues of an owner end: storage commands retired and connections removed, jobs ended, registers reset. -/
def State.resetRegion (s : State) (o : Nat) : State :=
  (((s.dropStorage o).dropJobs o).resetRings o).resetRegs o

/-- One function enters its reset (Table 10-9). With `keep` its tags are quarantined and the frames of its vports
discarded, as at an FLR; else its tags are freed, as at a host-face reset (R252). -/
def State.resetFunction (s : State) (m : Nat) (keep : Bool) : State :=
  let hp := s.hpOf m
  let n := s.readsOut m
  let owner := s.queueOwner m
  let s := s.endReads fun x _ => x == m
  let s := if m ≤ 2 then s.dmaHostLost (m - 1) else s
  let ts := s.tags hp
  let s := s.setTags hp <|
    if keep then (ts.map fun t => if t.master = m && t.quarantine.isNone then
        { t with quarantine := some (s.now + 2 * s.timeoutOf m) } else t)
    else ts.filter fun t => t.master != m
  let s := match owner with
    | none => s
    | some o =>
      let s := if keep then s.flushVports (o - 0x1000) else s
      s.resetRegion o
  let s := if m ≤ 2 then
      let s := (s.resetRegs m).endWindow (if m = 2 then .b else .a)
      (s.level 0x7AB (s.dwBusy .a || s.dwBusy .b)).emptyContext (255 + m)
    else s
  s.setFunc m { inFlr := true, flrTags := if keep then n else 0 }

/-- The endpoints of functions: their own regions. -/
def State.endsOf (s : State) (ms : List Nat) : List Nat := ms.filterMap s.queueOwner

/-- Configuration space of a function at its reset values. -/
def State.resetConfig (s : State) (m : Nat) : State :=
  { s with regs := s.regs.filter fun e => decide (e.1 / 2 ^ 26 ≠ configOwner m) }

/-- VF Enable of a port is cleared: its VFs are gone. -/
def State.clearVfs (s : State) (hp : Nat) : State :=
  let s := (s.setHport hp { s.hport hp with vfOn := false }).setOb (hostIx hp) 0x17 0
  ((s.hport hp).mapped.filter fun t => decide (s.ob (tenantIx t) 3 = hp + 1)).foldl (fun s t => s.setOb (tenantIx t) 4 0) s

/-- Reset functions of a port in one slot; their leases end with a cause (R36). -/
def State.resetFunctions (s : State) (hp : Nat) (ms : List Nat) (keep : Bool) (cause : Nat) : State :=
  let ends := s.endsOf ms
  let s := ms.foldl (fun s m => s.resetFunction m keep) s
  let s := s.resetEnds ends
  let s := ms.foldl (fun s m => if m ≤ 2 then s.endLeasesOf m cause else s) s
  let s := if ms.contains (hp + 1) then s.clearVfs hp else s
  (s.noteFunctions hp).drainReads hp

/-- A function-level reset begins: of a VF alone, of a PF0 with every VF of its port (R246, R247). -/
def State.beginFlr (s : State) (m : Nat) : State :=
  if m ≤ 2 then s.resetFunctions (m - 1) (s.functions (m - 1)) true 3 else s.resetFunctions (s.hpOf m) [m] true 3

/-- FLR. -/
def execFlr (f : Func) (s : State) : Host.Outcome State Fault Refusal :=
  .next <| match s.funcThere f with
    | none => s
    | some m => s.beginFlr m

/-- One function completes its reset: configuration space at reset values, :0D, 0x0713. -/
def State.endFlr (s : State) (m : Nat) : State :=
  let n := (s.func m).flrTags
  let s := (s.setFunc m {}).resetConfig m
  let s := match s.queueOwner m with
    | some o => (s.inc (tenantIx (o - 0x1000)) 0xD).noteFunction (o - 0x1000)
    | none => s
  s.event 0x0713 [m, n]

/-- FLR_COMPLETE: a PF0 completes with the VFs of its port. -/
def execFlrComplete (f : Func) (s : State) : Host.Outcome State Fault Refusal :=
  let m := ownerOf f
  .next <|
    if 0x2000 ≤ m || !(s.func m).inFlr then s
    else if 2 < m then s.endFlr m
    else
      let vfs := ((s.hport (m - 1)).mapped.map tenantMaster).filter fun v => (s.func v).inFlr
      (vfs ++ [m]).foldl State.endFlr s

/-! ### VF Enable (R229) -/

/-- VFs with numbers above `n` are gone: each is reset, and its tenant has no function (R231, log entry 40). -/
def State.endVfs (s : State) (hp n : Nat) : State :=
  let gone := (s.vfsOf hp).filter fun t => decide (n < s.ob (tenantIx t) 4)
  let s := s.resetFunctions hp (gone.map tenantMaster) true 3
  gone.foldl (fun s t => ((s.setFunc (tenantMaster t) {}).resetConfig (tenantMaster t)).setOb (tenantIx t) 4 0) s

/-- VF Enable is set with NumVFs: VFs 1 to NumVFs exist, and :04 names them; without ARI Capable Hierarchy none is enabled. -/
def State.enableVfs (s : State) (hp numVFs : Nat) : State :=
  let map := (s.hport hp).mapped
  let n := min numVFs map.length
  if !bit (s.config (hp + 1) (capSriov + 8)) 4 then s.event 0x0712 [hp + 1]
  else
    let s := ((s.endVfs hp n).setHport hp { s.hport hp with vfOn := true }).setOb (hostIx hp) 0x17 n
    let s := ((List.range n).zip map).foldl (fun s x =>
      let m := tenantMaster x.2
      if s.ob (tenantIx x.2) 3 = hp + 1 && s.ob (tenantIx x.2) 4 = 0 then
        (((s.setOb (tenantIx x.2) 4 (x.1 + 1)).setFunc m {}).resetConfig m).accepts x.2
      else s) s
    s.noteFunctions hp

/-- VF Enable is cleared. -/
def State.disableVfs (s : State) (hp : Nat) : State := ((s.endVfs hp 0).clearVfs hp).noteFunctions hp

/-- A port answers configuration accesses: its link is up (R254). -/
def State.configLive (s : State) (hp : Nat) : Bool := decide (1 ≤ s.link hp) && decide (s.link hp ≤ 4)

/-- VF_ENABLE: the host sets VF Enable with NumVFs. -/
def execVfEnable (hp : HostPort) (numVFs : Nat) (s : State) : Host.Outcome State Fault Refusal :=
  let p := hpNo hp
  .next <|
    if !s.configLive p || (s.func (p + 1)).inFlr then s
    else (s.setReg (configOwner (p + 1)) (capSriov + 0x10) (BitVec.ofNat 32 (numVFs % 65536))).enableVfs p numVFs

/-! ### Configuration space (R228, R229, R241, R390) -/

/-- A dword of configuration space, of a function `m` of a port. -/
def State.configWord (s : State) (m o : Nat) : Nat :=
  let hp := s.hpOf m
  let f := s.func m
  let v := s.config m o
  if o = 0x04 then setBit v 2 f.busMaster
  else if o = capPm + 4 then setBit (v + dNo f.dstate % 4) 15 f.pmeStatus
  else if o = capPcie + 8 then setBit v 21 (decide (0 < s.readsOut m))
  else if m ≤ 2 && o = capPcie + 0x10 then
    v + s.ob (hostIx hp) 0x12 * 2 ^ 16 + s.ob (hostIx hp) 0x11 * 2 ^ 20 + (if (s.hport hp).inForce.clock = 0 then 2 ^ 28 else 0)
  else if m ≤ 2 && o = capSriov + 8 then setBit v 0 (s.hport hp).vfOn
  else if m ≤ 2 && o = capSriov + 0xC then v + s.ob (hostIx hp) 0x16 * 0x10001
  else v

/-- A D-state that PowerState names. -/
def dOf (n : Nat) : DState :=
  match n with
  | 0 => .d0
  | 1 => .d1
  | 2 => .d2
  | _ => .d3hot

/-- A write of a dword of configuration space, in the bits of `mask`: the RW bits that the register file holds, then what the
write brings about: Bus Master Enable, the D-state and PME_Status, Initiate FLR, VF Enable. NumVFs stands while VF Enable is set;
MSI-X Control may let messages leave. -/
def State.writeConfig (s : State) (m o : Nat) (val mask : Word) : State :=
  let hp := s.hpOf m
  let c := configOwner m
  let old := s.configWord m o
  let v := val.toNat
  let sets := fun i => bit mask.toNat i
  let held := m ≤ 2 && o = capSriov + 0x10 && (s.hport hp).vfOn
  let s := match regAt c o with
    | some r =>
      if held then s
      else s.setReg c o ({ r with rw := r.rw &&& mask.toNat, w1c := r.w1c &&& mask.toNat : Reg }.write (s.reg c o) val)
    | none => s
  if o = 0x04 && sets 2 then
    if bit v 2 then (if bit old 2 then s else s.setMaster m) else s.clearMaster m
  else if o = capPm + 4 then
    let s := if sets 15 && bit v 15 then s.setFunc m { s.func m with pmeStatus := false } else s
    if sets 0 then s.setDState m (dOf (v % 4)) else s
  else if o = capPcie + 8 && sets 15 && bit v 15 then s.beginFlr m
  else if m ≤ 2 && o = capSriov + 8 && sets 0 then
    if bit v 0 && !bit old 0 then s.enableVfs hp (s.config m (capSriov + 0x10))
    else if !bit v 0 && bit old 0 then s.disableVfs hp else s
  else if o = capMsix then s.flushPba m
  else s

/-- A write of one, two or four bytes within a dword of a function's configuration space. -/
def State.configWrite (s : State) (f : Func) (off : Nat) (data : Bytes) : State :=
  match s.funcAt f with
  | none => s
  | some m =>
    let sh := 8 * (off % 4)
    if (data.length = 1 || data.length = 2 || data.length = 4) && off % 4 + data.length ≤ 4 && s.configLive (s.hpOf m) then
      s.writeConfig m (off - off % 4) (BitVec.ofNat 32 (le data 0 data.length * 2 ^ sh))
        (BitVec.ofNat 32 ((2 ^ (8 * data.length) - 1) * 2 ^ sh))
    else s

/-! ### Links (R226, R227, R252–R254) -/

/-- Cells bound to tenants: ride-through is armed (R309). -/
def State.armCells (s : State) (ts : List Nat) : State :=
  (s.dict.filterMap fun e =>
    let ix := e.1 / 2 ^ 40
    if 0xA000 ≤ ix && ix < 0xB000 && e.1 % 2 ^ 40 = 6 && ts.contains e.2 then some (ix - 0xA000) else none).foldl
      (fun s c => s.setOb (cellIx c) 0x14 (setBit (s.ob (cellIx c) 0x14) 0 true)) s

/-- Link-loss policy 0: frames of the port's tenants are discarded, now and at enqueue (R252). -/
def State.loseFrames (s : State) (hp : Nat) (ts : List Nat) : State :=
  if s.ob (hostIx hp) 5 ≠ 0 then s
  else
    let n := (ts.map s.vportFrames).sum
    let s := ts.foldl State.flushVports s
    let s := { s with hst := { s.hst with discard := s.hst.discard ++ ts.filter fun t => !s.hst.discard.contains t } }
    s.event 0x071C [hp + 1, n]

/-- A link begins its training, with the settings that its port object holds now (R226). -/
def State.train (s : State) (hp : Nat) : State :=
  let v := fun k => s.ob (hostIx hp) k
  (s.setHport hp { s.hport hp with inForce := { width := v 2, rate := v 3, clock := v 4, l0p := v 6 } }).setLink hp 5

/-- The host-face reset of a port with a cause of 0x0711 (R252). -/
def State.hostReset (s : State) (hp cause : Nat) : State :=
  let ts := (if s.stationMaster = hp + 1 then [0] else [])
    ++ (s.hport hp).mapped.filter fun t => decide (s.ob (tenantIx t) 3 = hp + 1)
  let out := ((s.tags hp).filter fun t => t.quarantine.isNone).length
  let surprise := cause = 4 && !(s.hport hp).perst
  let s := s.resetFunctions hp (s.functions hp) false 2
  let s := (s.setTags hp []).setCells (hostIx hp) 0 [(0x10, 0), (0x11, 0), (0x12, 0)]
  let s := (s.inc (hostIx hp) 0x14).event 0x0711 [hp + 1, cause]
  let s := if surprise then (s.inc (hostIx hp) 0x15).event 0x0719 [hp + 1, out] else s
  ((s.loseFrames hp ts).armCells ts).noteFunctions hp

/-- Code of a cause (Table 10-10). -/
def hostCauseCode : HostCause → Nat
  | .perst => 1
  | .hotReset => 2
  | .linkDisable => 3
  | .dlDown => 4

/-- HOST_FACE_RESET. -/
def execHostFaceReset (hp : HostPort) (why : HostCause) (s : State) : Host.Outcome State Fault Refusal :=
  let p := hpNo hp
  .next <|
    let s := s.hostReset p (hostCauseCode why)
    if why = .perst then s.setHport p { s.hport p with perst := true }
    else if (why = .hotReset || why = .dlDown) && !(s.hport p).perst && s.ob (hostIx p) 1 = 1 then s.train p
    else s

/-- The rule of a write of x:01 (R226). -/
def hostPortRule (hp : Nat) : WriteRule where
  check s _ x := firstBad [s.startState, require (decide (x < 2)) stRange]
  act s _ x :=
    let was := s.ob (hostIx hp) 1
    let s := s.setOb (hostIx hp) 1 x
    .done stOk [] <|
      if was = 1 && x = 0 then s.hostReset hp 6
      else if was = 0 && x = 1 && !(s.hport hp).perst then s.train hp
      else s

/-- HOST_PORT_DISABLE: a write of 0 to x:01. -/
def execHostPortDisable (v : Via) (hp : HostPort) (s : State) : Host.Outcome State Fault Refusal :=
  .next (s.writeItem v (hostIx (hpNo hp)) 1 [0] (hostPortRule (hpNo hp)))

/-- HOST_PORT_ENABLE: a write of 1 to x:01. -/
def execHostPortEnable (v : Via) (hp : HostPort) (s : State) : Host.Outcome State Fault Refusal :=
  .next (s.writeItem v (hostIx (hpNo hp)) 1 [1] (hostPortRule (hpNo hp)))

/-- PERST_DEASSERT: the port begins training (R254). -/
def execPerstDeassert (hp : HostPort) (s : State) : Host.Outcome State Fault Refusal :=
  let p := hpNo hp
  .next <|
    if !(s.hport p).perst then s
    else
      let s := s.setHport p { s.hport p with perst := false }
      if s.ob (hostIx p) 1 = 1 then s.train p else s

/-- WAKE_N is released with PERST_N deasserted and the link in L0, and the PM_PME message follows (R250). -/
def State.releaseWake (s : State) (hp : Nat) : State :=
  let d := s.hport hp
  if d.wake && !d.perst then
    (((s.setHport hp { d with wake := false }).emit (.pin (wakePin hp) true)).emit (.pme d.wakeFn))
  else s

/-- HOST_LINK_UP: a training link forms; below x4 it stays in Detect. The port is ready: its map is applied (R226, R230,
R254). -/
def execHostLinkUp (hp : HostPort) (width rate : Nat) (s : State) : Host.Outcome State Fault Refusal :=
  let p := hpNo hp
  .next <|
    if (s.hport p).perst || s.ob (hostIx p) 1 = 0 || (s.link p ≠ 0 && s.link p ≠ 5) || s.devState = 0
      || s.flt.deadLinks.contains 0 then s
    else
      let s := if s.link p = 0 then s.train p else s
      let set_ := (s.hport p).inForce
      if width < 4 then (s.setLink p 0).event 0x0711 [p + 1, 5]
      else if !(width = 4 || width = 8 || width = 16) || set_.width < width || !within 1 set_.rate rate then s
      else
        let s := s.setHport p { s.hport p with trained := width }
        let s := s.setCells (hostIx p) 0 [(0x10, 1), (0x11, width), (0x12, rate)]
        let s := (s.inc (hostIx p) 0x13).releaseWake p
        let s := if s.stationMaster = p + 1 then s.accepts 0 else s
        (s.applyMap p).event 0x0710 [p + 1, width, rate]

/-- LINK_STATE_CHANGE (R227): L0p, at x8 or x4, only while the setting in force permits it; L2 only with VAUX_3V3. The width is
that of training but in L0p. -/
def execLinkStateChange (hp : HostPort) (st : LinkState) (s : State) : Host.Outcome State Fault Refusal :=
  let p := hpNo hp
  let full := fun (s : State) => s.setOb (hostIx p) 0x11 (s.hport p).trained
  .next <|
    if !s.configLive p then s
    else match st with
      | .l0 => ((full s).setLink p 1).releaseWake p
      | .l0p n =>
        if (s.hport p).inForce.l0p = 1 && (n = 8 || n = 4) && n < (s.hport p).trained then (s.setOb (hostIx p) 0x11 n).setLink p 2
        else s
      | .l1 => (full s).setLink p 3
      | .l2 => if s.pwr.vaux then (full s).setLink p 4 else s

/-! ### The station moves (R255) -/

/-- The station's functions move from the PF0 `old` to the port now named in 0x1303:01. -/
def State.stationMoved (s : State) (old : Nat) : State :=
  let new := s.stationMaster
  if old = 0 || new = old then s
  else
    let s := s.endReads fun m w => m == old && w.pauses
    let s := s.dmaStationMoved
    let s := (((s.dropStor 0x1000).dropJobs 0x1000).resetRings 0x1000).resetRegs 0x1000
    let s := s.setFunc old { s.func old with halted := true }
    let s := (s.emptyContext (255 + old)).setOb 0x8000 8 (s.tagQuota (new - 1) new)
    (s.noteFunction 0).event 0x071A [old, new]

end Sys2Proof.Machine
end

