-- ==== Sys2Proof/Machine/Cores.lean ====
section
/-! DEFINITION. Loop cores and threads (R281, R282, R285–R297): the thread operations, interrupt entry and exit, faults,
the stall detector, the debugger, and the supervisor's takeover (R368). -/

namespace Sys2Proof.Machine

/-! ### Answers and switches -/

/-- What an operation returns to its thread. -/
def State.returns (s : State) (n value status : Nat) : State := s.emit (.thread n value status)

/-- Role of a thread (Table 12-1). -/
def State.role (s : State) (n : Nat) : Nat := s.cell 0x93F0 n 4

/-- A core switches away from a thread, which takes a state (R287). -/
def State.switchTo (s : State) (n st : Nat) : State := ((s.setThSt n st).bump 0x93F0 n 0xE 1).dispatch (n / 16)

/-- A thread leaves the processor if it has it: a switch; else only its state changes. -/
def State.leave (s : State) (n st : Nat) : State := if s.thSt n = 2 then s.switchTo n st else s.setThSt n st

/-! ### The stall detector's view (R294) -/

/-- A thread is watched. -/
def State.watched (s : State) (n : Nat) : Bool :=
  within 3 5 (s.role n) && !(s.thSt n = 0 || s.thSt n = 5 || s.thSt n = 6)

/-- The detector re-arms, and its window is that of 0x9400:02 from then on. -/
def State.rearm (s : State) : State :=
  { s with thr := { s.thr with armed := true, quietFrom := s.now, window := s.ob 0x9400 2 } }

/-- A watched thread received an event bit or an interrupt entry. -/
def State.stir (s : State) (n : Nat) : State := if s.watched n then s.rearm else s

/-- A thread that begins to wait: a run at thread level of more than 1 µs re-arms the detector, and only a thread that
returned TIMEOUT within 1 µs counts as waiting throughout. -/
def State.noteRun (s : State) (n : Nat) : State :=
  let d := s.thread n
  if !s.watched n then s
  else if d.ranFrom + 1000 < s.now then s.rearm
  else if d.timedOut then s
  else { s with thr := { s.thr with quietFrom := s.now } }

/-! ### WAIT and JOIN (R289, R290) -/

/-- The deadline of a wait as an instant of the free-running counter: `none` is RANGE, `some none` is no deadline. -/
def State.deadlineOf (s : State) (n deadline : Nat) : Option (Option Nat) :=
  if deadline = 0xFFFFFFFFFFFFFFFF then if n = 0 || n = 128 then some none else none
  else if s.tai + 60000000000 < deadline then none
  else some (some (s.now + deadline - s.tai))

/-- A thread begins a wait whose condition does not hold: it waits and the core switches, or returns TIMEOUT at once where
the deadline has passed. -/
def State.block (s : State) (n kind what : Nat) (deadline : Option Nat) : State :=
  if deadline.any (· ≤ s.now) then s.returns n 0 1
  else
    let s := s.noteRun n
    let s := s.setThread n { s.thread n with waits := kind, deadline := deadline, waitFrom := s.now }
    (s.setCell 0x93F0 n 7 what).switchTo n 4

/-- WAIT. -/
def execWait (n : Thread) (mask : Word) (deadline : Nat) (s : State) : Host.Outcome State Fault Refusal :=
  let n := n.val
  .next <|
    if s.thSt n ≠ 2 then s
    else match s.deadlineOf n deadline with
      | none => s.returns n 0 6
      | some dl =>
        let d := s.thread n
        let got := d.events &&& mask.toNat
        if got ≠ 0 then (s.setThread n { d with events := d.events ^^^ got }).returns n got 0
        else s.block n 1 mask.toNat dl

/-- JOIN. -/
def execJoin (n : Thread) (child deadline : Nat) (s : State) : Host.Outcome State Fault Refusal :=
  let n := n.val
  .next <|
    if s.thSt n ≠ 2 then s
    else if 256 ≤ child || s.cell 0x93F0 child 9 ≠ n then s.returns n 0 5
    else match s.deadlineOf n deadline with
      | none => s.returns n 0 6
      | some dl =>
        let c := s.thread child
        if s.thSt child = 5 then (s.vacate child).returns n c.exitCode 0
        else if c.killed then
          ((s.setThread child { c with killed := false }).setCell 0x93F0 child 9 0xFFFF).returns n 0xFFFFFFFF 0
        else s.block n 2 child dl

/-- WAIT_DEADLINE. -/
def execWaitDeadline (n : Thread) (s : State) : Host.Outcome State Fault Refusal :=
  .next (if s.thSt n.val = 4 && (s.thread n.val).deadline.any (· ≤ s.now) then s.makeReady n.val else s)

/-- Set event bits of a thread, from which its silence counts anew (R295); one that waits for a bit of them becomes READY. -/
def State.setEvents (s : State) (n bits : Nat) : State :=
  let d := s.thread n
  let s := (s.setThread n { d with events := d.events ||| bits, waitFrom := s.now }).stir n
  if s.thSt n = 4 && d.waits = 1 && (d.events ||| bits) &&& s.cell 0x93F0 n 7 ≠ 0 then s.makeReady n else s

/-- SIGNAL: bits 0 to 30. -/
def execSignal (n : Thread) (target : Nat) (bits : Word) (s : State) : Host.Outcome State Fault Refusal :=
  .next <|
    if s.thSt n.val ≠ 2 then s
    else if 256 ≤ target || s.thSt target = 0 || s.thSt target = 5 then s.returns n.val 0 4
    else (s.setEvents target (bits.toNat % 2 ^ 31)).returns n.val 0 0

/-! ### FORK and EXIT (R288, R289) -/

/-- A thread may be taken by FORK: FREE, on a good core, and not an executor that waits for its restart. -/
def State.forkable (s : State) (n : Nat) : Bool :=
  s.thSt n = 0 && s.ob 0x9400 (0x10 + n / 16) = 0 && s.role n = 0

/-- The thread that FORK chooses for a thread of core `c`. -/
def State.freeThread (s : State) (c : Nat) : Option Nat :=
  ((List.range 256).map fun i => (16 * c + i) % 256).find? s.forkable

/-- FORK. -/
def execFork (n : Thread) (entry arg : Nat) (privileged : Bool) (s : State) : Host.Outcome State Fault Refusal :=
  let n := n.val
  .next <|
    if s.thSt n ≠ 2 then s
    else match s.freeThread (n / 16) with
      | none => ((s.inc 0x9400 7).eventLim 0x090F 0 [n]).returns n 0 3
      | some k =>
        let s := s.setThread k { entry := entry, arg := arg, privilege := privileged && s.privileged n, ranFrom := s.now }
        let s := (s.setCells 0x93F0 k [(4, 5), (6, 0), (7, 0), (9, n), (0xA, 0), (0xB, 0)]).setOb 0x9400 6 (s.ob 0x9400 6 - 1)
        (s.makeReady k).returns n k 0

/-- A parent runs its role. -/
def State.parentRuns (s : State) (p : Nat) : Bool :=
  decide (p < 256) && !(s.thSt p = 0 || s.thSt p = 5 || s.thSt p = 7)

/-- A parent no longer runs its role: its exited children are free, the others have no parent. -/
def State.orphan (s : State) (p : Nat) : State :=
  (List.range 256).foldl (fun s k =>
    if s.cell 0x93F0 k 9 ≠ p then s
    else if s.thSt k = 5 then s.vacate k
    else (s.setThread k { s.thread k with killed := false }).setCell 0x93F0 k 9 0xFFFF) s

/-- The parent of a thread that has ended wakes from its JOIN. -/
def State.wakeParent (s : State) (k : Nat) : State :=
  let p := s.cell 0x93F0 k 9
  if p < 256 && s.thSt p = 4 && (s.thread p).waits = 2 && s.cell 0x93F0 p 7 = k then s.makeReady p else s

/-- EXIT: the leases of the thread end, its parent wakes, and without one the thread is free; a parent that the core runs
now has freed it by its JOIN. -/
def execExit (n : Thread) (code : Word) (s : State) : Host.Outcome State Fault Refusal :=
  let n := n.val
  .next <|
    if s.thSt n ≠ 2 then s
    else
      let s := s.endLeasesOf (threadMaster n) 7
      let s := (s.setThread n { exitCode := code.toNat }).setCells 0x93F0 n [(6, 0), (7, 0)]
      let s := s.switchTo n 5
      let s := s.orphan n
      if s.thSt n ≠ 5 then s
      else if s.parentRuns (s.cell 0x93F0 n 9) then s.wakeParent n else s.vacate n

/-! ### Long accesses -/

/-- ACCESS_STALL. -/
def execAccessStall (n : Thread) (s : State) : Host.Outcome State Fault Refusal :=
  .next (if s.thSt n.val = 2 then s.switchTo n.val 3 else s)

/-- A debugger stop takes effect: the prior state is kept, 0x0904 with action 1 (R296). -/
def State.stopThread (s : State) (n : Nat) : State :=
  let st := s.thSt n
  let s := s.setThread n { s.thread n with prior := if st = 2 || st = 3 then 1 else st, stopAsked := false }
  ((s.leave n 6).inc 0x9400 8).event 0x0904 [n, 1]

/-- ACCESS_COMPLETE; a stop that was asked for meanwhile takes effect now. -/
def execAccessComplete (n : Thread) (s : State) : Host.Outcome State Fault Refusal :=
  .next <|
    if s.thSt n.val ≠ 3 then s
    else if (s.thread n.val).stopAsked then s.stopThread n.val
    else s.makeReady n.val

/-! ### Interrupt entry and exit (R281, R282) -/

/-- An entry or exit of a thread is in progress. -/
def State.inPhase (s : State) (n ph : Nat) : Bool := (s.thread n).phase = ph && decide (s.ps < (s.thread n).phaseEnd)

/-- Enter a source: running priority, DELIVERED, 0x93F0:0F; `saved` is the save area and `until_` when the handler starts. -/
def State.enter (s : State) (n id : Nat) (saved : List Nat) (until_ : Nat) : State :=
  let s := s.setThread n { s.thread n with saved := saved, phase := 1, phaseEnd := until_ }
  let s := { s with rng := { s.rng with delivered := insertId s.rng.delivered n } }
  ((s.setCell 0x93F0 n 6 (s.cell 0x9100 id 6)).bump 0x93F0 n 0xF 1).stir n

/-- INTERRUPT_ENTRY: a running thread enters its deliverable source: a redirect while an entry is in progress, a chain
while an exit is, else a new or nested entry of 16 cycles. -/
def execInterruptEntry (n : Thread) (s : State) : Host.Outcome State Fault Refusal :=
  let n := n.val
  .next <|
    if s.thSt n ≠ 2 then s
    else match s.deliverable n with
      | none => s
      | some id =>
        let d := s.thread n
        let prio := s.cell 0x93F0 n 6
        if s.inPhase n 1 then
          let late := if d.phaseEnd ≤ s.ps + 3200 then 3200 else 0
          (s.inc 0x9101 3).enter n id d.saved (d.phaseEnd + late)
        else if s.inPhase n 2 then (s.inc 0x9101 4).enter n id (prio :: d.saved) (s.ps + 3200)
        else s.enter n id (prio :: d.saved) (s.ps + 12800)

/-- INTERRUPT_EXIT: a pending source above the saved priority is chained into; else the context is restored, and at thread
level a wait that the entry interrupted ends (R290). -/
def execInterruptExit (n : Thread) (s : State) : Host.Outcome State Fault Refusal :=
  let n := n.val
  .next <|
    if s.thSt n ≠ 2 then s
    else
      let d := s.thread n
      match d.saved with
      | [] => s
      | p :: r =>
        match s.select n (p + 1) with
        | some id => (s.inc 0x9101 4).enter n id d.saved (s.ps + 3200)
        | none =>
          let s := (s.setThread n { d with saved := r, phase := 2, phaseEnd := s.ps + 9600 }).setCell 0x93F0 n 6 p
          if r.isEmpty && d.waits ≠ 0 then s.finishWait n else s

/-! ### Faults, restart, release (R288, R293) -/

/-- A run in progress on a thread is lost: its cells stand where their last completed run left them (R311). -/
def State.dropRuns (s : State) (n : Nat) : State :=
  { s with cells := s.cells.map fun e =>
      if s.cell 0x9313 e.1 4 = n / 16 && s.cell 0x9313 e.1 5 = n % 16 then (e.1, { e.2 with running := false }) else e }

/-- A thread faults with a cause. -/
def State.faultThread (s : State) (n cause : Nat) : State :=
  if !within 1 4 (s.thSt n) then s
  else
    let d := s.thread n
    let s := (s.setThread n { d with waits := 0, deadline := none, saved := [], phase := 0, stopAsked := false }).dropRuns n
    let s := s.setCells 0x93F0 n [(6, 0), (7, 0), (0xA, cause), (0xB, s.tai)]
    let s := s.leave n 7
    let s := (s.dmaThreadGone n).orphan n
    (s.edge (0x201 + n)).event 0x0901 [n, cause]

/-- THREAD_FAULT, with a cause of R293. -/
def execThreadFault (n : Thread) (cause : Nat) (s : State) : Host.Outcome State Fault Refusal :=
  .next (if within 1 5 cause then s.faultThread n.val cause else s)

/-- A thread's sender endpoint resets (R272). -/
def State.resetSender (s : State) (o : Nat) : State :=
  ((s.bound.filter fun c => (s.sender c).1 == o).foldl State.purgeChannel s).zeroStages o

/-- Restart a thread at its role's entry: endpoint reset, leases ended, 0x93F0:0C, 0x0902. -/
def State.restartThread (s : State) (n : Nat) : State :=
  let d := s.thread n
  let s := ((s.resetEnds [threadMaster n]).endLeasesOf (threadMaster n) 8).dmaThreadGone n
  let s := s.setThread n { entry := d.entry, arg := d.arg, privilege := d.privilege, ranFrom := s.now }
  let s := (s.setCells 0x93F0 n [(6, 0), (7, 0)]).bump 0x93F0 n 0xC 1
  (s.makeReady n).event 0x0902 [n, s.role n]

/-- THREAD_RESTART: the supervisor restarts a faulted thread. -/
def execThreadRestart (n : Thread) (s : State) : Host.Outcome State Fault Refusal :=
  .next (if s.thSt n.val = 7 then s.restartThread n.val else s)

/-- A thread ends without EXIT: FREE; to its parent it appears as exited with code 0xFFFF_FFFF. An executor keeps its role
for its restart. -/
def State.endThread (s : State) (n : Nat) : State :=
  let s := s.orphan n
  let p := s.cell 0x93F0 n 9
  let kept := s.parentRuns p
  let s := if s.role n = 4 then s else (s.setCell 0x93F0 n 4 0).inc 0x9400 6
  let s := s.setCells 0x93F0 n [(5, 0), (6, 0), (7, 0), (9, if kept then p else 0xFFFF)]
  let s := (s.setThread n { killed := kept }).dropRuns n
  s.wakeParent n

/-- THREAD_RELEASE: the supervisor releases a faulted thread. -/
def execThreadRelease (n : Thread) (s : State) : Host.Outcome State Fault Refusal :=
  .next (if s.thSt n.val = 7 then (s.resetSender (threadMaster n.val)).endThread n.val else s)

/-! ### The debugger (R296, R297) -/

/-- Debug is unlocked, and the thread is not the active supervisor. -/
def State.mayDebug (s : State) (n : Nat) : Bool := s.ob 0x1300 0x12 = 1 && s.ob 0x9400 1 ≠ n

/-- THREAD_STOP; on a STALLED thread it takes effect once the access completes. -/
def execThreadStop (n : Thread) (s : State) : Host.Outcome State Fault Refusal :=
  let n := n.val
  let st := s.thSt n
  .next <|
    if !s.mayDebug n || st = 0 || st = 5 || st = 6 then s
    else if st = 3 then s.setThread n { s.thread n with stopAsked := true }
    else s.stopThread n

/-- THREAD_RESUME: the prior state; a thread that was WAITING decides its status at once. -/
def execThreadResume (n : Thread) (s : State) : Host.Outcome State Fault Refusal :=
  let n := n.val
  .next <|
    if !s.mayDebug n || s.thSt n ≠ 6 then s
    else
      let p := (s.thread n).prior
      let s := (s.inc 0x9400 8).event 0x0904 [n, 2]
      if p = 4 then (s.finishWait n).makeReady n else if p = 1 then s.makeReady n else s.setThSt n p

/-- Sources that a thread holds ACTIVE become PENDING, or IDLE where a level input is withdrawn. -/
def State.dropActive (s : State) (n : Nat) : State :=
  let mine := s.rng.retained.filter fun id => decide (2 ≤ s.srcState id) && NMap.at 0 s.rng.claimed id == n + 1
  let s := { s with rng := { s.rng with delivered := s.rng.delivered.filter (· != n) } }
  mine.foldl (fun s id =>
    (s.endActive id (if s.cell 0x9100 id 4 = 1 && !s.rng.levels.contains id then 0 else 1)).deliverFor id) s

/-- THREAD_KILL: a stopped thread becomes FREE. -/
def execThreadKill (n : Thread) (s : State) : Host.Outcome State Fault Refusal :=
  let n := n.val
  .next <|
    if !s.mayDebug n || s.thSt n ≠ 6 then s
    else
      let s := (s.resetEnds [threadMaster n]).endLeasesOf (threadMaster n) 8
      let s := ((s.dmaThreadGone n).endThread n).dropActive n
      (s.inc 0x9400 9).event 0x0903 [n]

/-- EXECUTOR_RESTART: the supervisor restarts the executor role of a killed thread. -/
def execExecutorRestart (n : Thread) (s : State) : Host.Outcome State Fault Refusal :=
  .next (if s.thSt n.val = 0 && s.role n.val = 4 then s.restartThread n.val else s)

/-! ### Stalls and the supervisor (R294, R295, R368) -/

/-- The bitmap of the watched threads that wait: bit n mod 8 of byte n div 8. -/
def waiterBits (ns : List Nat) : Nat := ofBE ((List.range 32).map fun b =>
  BitVec.ofNat 8 ((ns.filter fun n => decide (n / 8 = b)).foldl (fun x n => x + 2 ^ (n % 8)) 0))

/-- QUIESCENT_STALL. -/
def execQuiescentStall (s : State) : Host.Outcome State Fault Refusal :=
  let ns := (List.range 256).filter s.watched
  .next <|
    if !s.thr.armed || ns.isEmpty || ns.any (fun n => s.thSt n ≠ 4) || s.now < s.thr.quietFrom + s.thr.window * 1000000 then s
    else
      let s := { s with thr := { s.thr with armed := false } }
      let s := (s.setOb 0x9400 4 (waiterBits ns)).inc 0x9400 3
      (s.edge 0x7AD).event 0x0905 [ns.length]

/-- SUPERVISOR_SILENT. -/
def execSupervisorSilent (s : State) : Host.Outcome State Fault Refusal :=
  let n := s.ob 0x9400 1
  let d := s.thread n
  .next <|
    if s.thSt n ≠ 4 || d.deadline.isSome || s.ob 0x9400 5 = 1 || s.now < d.waitFrom + 10 * (s.thr.window * 1000000) then s
    else
      let s := s.setOb 0x9400 5 1
      let s := if s.thr.backup then s.setEvents 128 (2 ^ 31) else s
      s.event 0x0906 [n]

/-- Record in 0x1401:0C that a thread now carries the role of another (R367). -/
def State.mapThread (s : State) (old new : Nat) : State :=
  let row := 1122 + old / 16
  let m := toBE 16 (s.cell 0x1401 row 0xC)
  let s := s.setCell 0x1401 row 0xC (ofBE (splice m (old % 16) [BitVec.ofNat 8 new]))
  { s with thr := { s.thr with moved := NMap.set (fun k => k) s.thr.moved old new } }

/-- SUPERVISOR_TAKEOVER: C08.T00 becomes the active supervisor when LC00 is failed (cause 1), on bit 31 (cause 2), or when
the active supervisor has faulted (cause 3, log entry 42). The supervisor's sources are delivered to it (R292); those that the
old one held ACTIVE are PENDING again. -/
def execSupervisorTakeover (s : State) : Host.Outcome State Fault Refusal :=
  let old := s.ob 0x9400 1
  let cause := if s.ob 0x9400 0x10 = 1 then 1
    else if bit (s.thread 128).events 31 then 2
    else if s.thSt old = 7 then 3 else 0
  .next <|
    if !s.thr.backup || old = 128 || cause = 0 then s
    else
      let d := s.thread 128
      let s := s.setThread 128 { d with events := d.events % 2 ^ 31 }
      let s := (s.setOb 0x9400 1 128).setCell 0x93F0 128 4 1
      let s := { s with thr := { s.thr with backup := false } }
      let s := (s.mapThread old 128).inc 0x1402 8
      ((s.dropActive old).deliver 128).event 0x0B06 [cause]

/-- IMAGE_BACKUP: the supervisor copies the process image to HBM (R298). -/
def execImageBackup (s : State) : Host.Outcome State Fault Refusal :=
  .next (if s.devState = 0 || s.devState = 4 then s
    else { s with backup := some (s.loop.filter fun e => decide (e.1 < 4194304)) })

end Sys2Proof.Machine
end

