-- ==== Sys2Proof/Machine/Cells.lean ====
section
/-! DEFINITION. Station cells (R123, R124, R299, R303–R311, R385): loading, placement, release, run, modes. -/

namespace Sys2Proof.Machine

/-- A cell in execution. -/
def State.cellDyn (s : State) (c : Nat) : CellDyn := NMap.at {} s.cells c

/-- Set a cell in execution. -/
def State.setCellDyn (s : State) (c : Nat) (d : CellDyn) : State := { s with cells := NMap.put {} s.cells c d }

/-- Core and thread of a cell; `none` while it is not placed. -/
def State.placeOf (s : State) (c : Nat) : Option (Nat × Nat) :=
  if s.cell 0x9313 c 4 = 0xFF then none else some (s.cell 0x9313 c 4, s.cell 0x9313 c 5)

/-- The source of a cell's core (0x793 + core). -/
def State.cellEvent (s : State) (c : Nat) : State :=
  match s.placeOf c with
  | some (k, _) => s.edge (0x793 + k)
  | none => s

/-- Set or clear a flag of :14. -/
def State.cellFlag (s : State) (c i : Nat) (on : Bool) : State :=
  s.setOb (cellIx c) 0x14 (setBit (s.ob (cellIx c) 0x14) i on)

/-! ### Placement (R123, R124) -/

/-- Utilisation of a cell in ppm. -/
def utilisation (wcet period : Nat) : Nat := (wcet * 800000 + period * 1000 - 1) / (period * 1000)

/-- Candidate cores: good, with executor threads. -/
def State.candidateCores (s : State) : List Nat :=
  [1, 2, 3, 4, 5, 6, 7, 9, 10, 11, 12, 13, 14, 15].filter fun k => decide (s.ob 0x9400 (0x10 + k) = 0)

/-- The core and thread where a utilisation goes under a limit. -/
def State.findPlace (s : State) (u limit : Nat) : Option (Nat × Nat) :=
  let load := fun k => s.ob 0x9310 (0x10 + k)
  match leastBy load (s.candidateCores.filter fun k => decide (load k + u ≤ limit)) with
  | none => none
  | some k =>
    (leastBy (fun t => s.cell 0x93F0 (16 * k + t) 0xD) ((List.range 8).map (8 + ·))).map fun t => (k, t)

/-- Take a cell off its core. -/
def State.unplace (s : State) (c : Nat) : State :=
  match s.placeOf c with
  | none => s
  | some (k, t) =>
    let s := s.setOb 0x9310 (0x10 + k) (s.ob 0x9310 (0x10 + k) - s.cell 0x9313 c 6)
    let n := 16 * k + t
    let s := s.setCell 0x93F0 n 0xD (s.cell 0x93F0 n 0xD - 1)
    s.setCells 0x9313 c [(4, 0xFF), (5, 0xFF), (6, 0), (7, s.tai)]

/-- Put a cell on an executor. -/
def State.placeCell (s : State) (c u k t : Nat) : State :=
  let s := s.setOb 0x9310 (0x10 + k) (s.ob 0x9310 (0x10 + k) + u)
  let n := 16 * k + t
  let s := s.setCell 0x93F0 n 0xD (s.cell 0x93F0 n 0xD + 1)
  s.setCells 0x9313 c [(4, k), (5, t), (6, u), (7, s.tai)]

/-- Place again a cell of a failed core; one that does not fit stays unplaced (R124, Table 12-6). -/
def State.replaceCell (s : State) (core limit c : Nat) : State :=
  match (s.cellDyn c).image with
  | none => s
  | some i =>
    let u := utilisation i.wcet i.period
    let s := (s.unplace c).setCellDyn c { s.cellDyn c with running := false }
    match s.findPlace u limit with
    | some (k, t) => (s.placeCell c u k t).cellFlag c 1 false
    | none => (s.cellFlag c 1 true).event 0x0387 [c, core]

/-- The cells of a core, rising. -/
def State.cellsOf (s : State) (core : Nat) : List Nat :=
  (s.cells.map (·.1)).filter fun c => decide (s.cell 0x9313 c 4 = core)

/-- Place again the cells of a failed core in rising order. -/
def State.replaceCells (s : State) (core : Nat) : State :=
  (s.cellsOf core).foldl (fun s c => s.replaceCell core 1000000 c) s

/-! ### Loading and unloading (R299) -/

/-- The signing keys of 0x9400:20–:23. -/
def State.cellKey (s : State) (k : Nat) : Nat := s.ob 0x9400 (0x20 + k)

/-- Refuse an image: 0x0908, and :02 and :03 report it. -/
def State.refuseImage (s : State) (c cause master : Nat) : State :=
  (s.setCells (cellIx c) 0 [(2, 2), (3, cause)]).event 0x0908 [c, cause, master]

/-- The bytes of an image as they are kept: reserved bytes of the header and of the block records read 0 (R6). -/
def cleanImage (b : Bytes) : Bytes :=
  let p := imageParts b
  b.zipIdx.map fun x =>
    let o := x.2
    let inBlocks := decide (p.blocksAt ≤ o) && decide (o < p.blocksAt + 32 * p.blocks)
    if within 21 23 o || within 32 63 o || (inBlocks && within 1 3 ((o - p.blocksAt) % 32)) then 0 else x.1

/-- Install an image that has passed its checks. -/
def State.installImage (s : State) (c : Nat) (i : CellImage) (b : Bytes) (k t : Nat) : State :=
  let s := s.placeCell c (utilisation i.wcet i.period) k t
  let s := (s.setBlob (cellIx c) 1 (cleanImage b)).setCellDyn c { image := some i, releaseF := s.now }
  let s := s.setCells (cellIx c) 0 [(2, 1), (3, 0), (0xB, i.period), (0xC, i.wcet), (0x14, s.ob (cellIx c) 0x14 % 2)]
  s.event 0x0907 ([c] ++ w64 i.build ++ [i.wcet, k, t])

/-- The check, placement and load of an image at its last segment: status and state (R299). -/
def State.loadImage (s : State) (c master : Nat) (b : Bytes) : Nat × State :=
  if (s.cellDyn c).image.isSome && s.ob (cellIx c) 5 ≠ 1 then (stState, s)
  else
    let cause := imageCause s.cellKey b
    if cause ≠ 0 then (stRange, s.refuseImage c cause master)
    else
      let i := parseImage b
      match (s.unplace c).findPlace (utilisation i.wcet i.period) (s.ob 0x9310 3) with
      | none => (stResource, s.refuseImage c 7 master)
      | some (k, t) => (stOk, (s.unplace c).installImage c i b k t)

/-- Unload the image of a cell. -/
def State.unloadImage (s : State) (c : Nat) : State :=
  let old := s.ob (cellIx c) 5
  let s := s.cellEvent c
  let s := ((s.unplace c).setCellDyn c {}).setBlob (cellIx c) 1 []
  let s := s.setCells (cellIx c) 0 [(2, 0), (3, 0), (4, 1), (5, 1), (0xB, 0), (0xC, 0), (0x14, s.ob (cellIx c) 0x14 % 2)]
  s.event 0x0909 [c, old, 0, 3]

/-- The rule of :1A. -/
def unloadRule (c : Nat) : WriteRule where
  check s _ x := firstBad [s.startState, require (x == 1) stRange, require (decide (s.ob (cellIx c) 5 = 1)) stState]
  act s _ _ := .done stOk [] (if (s.cellDyn c).image.isSome then s.unloadImage c else s)

/-- UNLOAD. -/
def execUnload (v : Via) (c : Cell) (data : Bytes) (s : State) : Host.Outcome State Fault Refusal :=
  .next (s.writeItem v (cellIx c.val) 0x1A data (unloadRule c.val))

/-! ### Modes (R308) -/

/-- The streams of a cell are admitted with ingress kind 2 and its number, and its controller stream is admitted. -/
def State.cellStreams (s : State) (c : Nat) : Bool :=
  (((s.cellDyn c).image.map (·.templates)).getD []).all (fun t =>
      s.admitted t.stream && decide (s.str t.stream 0x32 % 2 ^ 20 = 2 * 65536 + c))
    && (s.ob (cellIx c) 9 == 0xFFFFFFFF || s.admitted (s.ob (cellIx c) 9))

/-- The rule of :04: STATE comes before RANGE. -/
def cellModeRule (c : Nat) : WriteRule where
  check s _ x := firstBad
    [ s.startState
    , require (s.cellDyn c).image.isSome stState
    , require (!(x == 2 || x == 3) || s.cellStreams c) stState
    , require (within 1 3 x) stRange ]
  act s _ x := .done stOk [] (s.setOb (cellIx c) 4 x)

/-- CELL_MODE_WRITE. -/
def execCellModeWrite (v : Via) (c : Cell) (data : Bytes) (s : State) : Host.Outcome State Fault Refusal :=
  .next (s.writeItem v (cellIx c.val) 4 data (cellModeRule c.val))

/-- The mode in force changes: 0x0909 and the source of the core. -/
def State.changeMode (s : State) (c new cause : Nat) : State :=
  let old := s.ob (cellIx c) 5
  if old = new then s else ((s.setOb (cellIx c) 5 new).cellEvent c).event 0x0909 [c, old, new, cause]

/-! ### Releases (R303, R304, R306, R309) -/

/-- A slot of the process image. -/
def State.slot (s : State) (n : Nat) : Bytes := NMap.bytes s.loop (256 * n) 256

/-- The release that is due: its station time; `none` where half a period has not passed since the last one, or off valid
time a whole period (R303). -/
def State.dueRelease (s : State) (c : Nat) (d : CellDyn) (i : CellImage) : Option Nat :=
  let p := i.period * 1000
  let phase := s.ob (cellIx c) 0xA % i.period * 1000
  if s.timeValid then
    let t := s.tai - (s.tai + p - phase) % p
    if d.released && s.now < d.releaseF + (s.tai - t) + p / 2 then none else some t
  else if !d.released then some s.tai
  else if s.now < d.releaseF + p then none
  else some (s.asTai (d.releaseF + p))

/-- The heartbeat of a run: z, the update count, and whether the count changed (R309). -/
def State.heartbeat (s : State) (c : Nat) (d : CellDyn) : CellDyn × Bool :=
  let slot := s.ob (cellIx c) 7
  if 16383 < slot then ({ d with z := 0, lastCount := none }, false)
  else
    let n := le (s.slot slot) 8 4
    match d.lastCount with
    | none => ({ d with z := 0, lastCount := some n }, false)
    | some m => if n = m then ({ d with z := d.z + 1 }, false) else ({ d with z := 0, lastCount := some n }, true)

/-- The cause of a lapse at a run, 0 for none: 1 heartbeat, 2 host port, 3 an overrun after a lapse. -/
def State.lapseCause (s : State) (c : Nat) (d : CellDyn) : Nat :=
  if s.ob (cellIx c) 7 ≤ 16383 && d.z = s.ob (cellIx c) 8 then 1
  else if bit (s.ob (cellIx c) 0x14) 0 then 2
  else if s.ob (cellIx c) 5 = 2 && d.lapsed && d.overran then 3
  else 0

/-- What a lapse does in the mode in force (Table 12-6). -/
def State.lapseAct (s : State) (c cause : Nat) (d : CellDyn) : State × CellDyn :=
  let mode := s.ob (cellIx c) 5
  let d := { d with lapsed := decide (cause ≠ 0) }
  if cause = 0 then (s, d)
  else
    let s := s.cellFlag c 0 false
    if mode = 1 then ((s.inc (cellIx c) 0xF).event 0x090A [c, cause, 1], d)
    else if mode = 2 then
      let s := (s.inc (cellIx c) 0x10).event 0x090A [c, cause, 2]
      (((s.setOb (cellIx c) 4 3).cellFlag c 3 false).changeMode c 3 2,
        { d with taken := true, sinceTake := 0, backLogged := false })
    else (s, d)

/-- An Active cell sees its heartbeat slot change: CONTROLLER_BACK, logged once per takeover. -/
def State.controllerBack (s : State) (c : Nat) (d : CellDyn) (changed : Bool) : State × CellDyn :=
  if changed && s.ob (cellIx c) 5 = 3 then
    let s := s.cellFlag c 3 true
    if d.backLogged then (s, d) else (s.event 0x090C [c], { d with backLogged := true })
  else (s, d)

/-- Start the run of a release (R304, steps 1 to 3). STATUS counts from the run in which the cell became Active, by a
takeover or by a write (log entry 57). -/
def State.startRun (s : State) (c : Nat) (d : CellDyn) (i : CellImage) (t n : Nat) : State :=
  let old := s.ob (cellIx c) 5
  let want := s.ob (cellIx c) 4
  let s := s.changeMode c want 1
  let d := if want ≠ old then { d with taken := decide (want = 3), sinceTake := 0, backLogged := false } else d
  let h := s.heartbeat c d
  let b := s.controllerBack c h.1 h.2
  let l := b.1.lapseAct c (b.1.lapseCause c b.2) b.2
  let s := l.1
  let d := { l.2 with
    running := true, runMode := s.ob (cellIx c) 5, inputs := i.inputs.map s.slot, released := true, release := t,
    releaseF := s.now - (s.tai - t), overran := false }
  let s := s.setCellDyn c d
  if s.thSt n = 4 then s.makeReady n else s

/-- An overrun (R306). -/
def State.overrun (s : State) (c : Nat) (d : CellDyn) (t : Nat) : State :=
  let d := { d with overran := true, released := true, release := t, releaseF := s.now - (s.tai - t) }
  (((s.setCellDyn c d).inc (cellIx c) 0xE).cellEvent c).eventLim 0x090B c [c]

/-! ### Output frames (R307) -/

/-- The frame of a template with its send counter. -/
def counted (t : Template) (n : Nat) (f : Bytes) : Bytes := if t.counter = 0xFFFF then f else splice f t.counter (toBE 2 n)

/-- Hand one output frame to the ingress pipeline of its egress port. -/
def State.sendOutput (s : State) (c j : Nat) (t : Template) (f : Bytes) : State :=
  let d := s.cellDyn c
  let n := NMap.at 0 d.sends j
  let s := s.setCellDyn c { d with sends := NMap.put 0 d.sends j ((n + 1) % 65536) }
  let port := s.str t.stream 0x33
  let w : Waiting := { pipe := port / 128, cls := 1, time := s.now, bytes := counted t n f, fcs := none, source := ⟨2, c⟩,
                       stream := some t.stream, egress := some port, rxTime := s.tai }
  if s.admitted t.stream then { s with net := { s.net with waiting := s.net.waiting ++ [w] } }
  else s.withdrawnDrop w

/-- Hand on the output frames in template order. -/
def State.sendOutputs (s : State) (c : Nat) (ts : List Template) (fs : List Bytes) : State :=
  ((List.range ts.length).zip (ts.zip fs)).foldl (fun s x => s.sendOutput c x.1 x.2.1 x.2.2) s

/-- In SAFE_HOLD a release of an Active cell sends the frames of its last completed run again (R385). -/
def State.holdOutputs (s : State) (c : Nat) (d : CellDyn) (i : CellImage) (t : Nat) : State :=
  let s := s.setCellDyn c { d with released := true, release := t, releaseF := s.now - (s.tai - t) }
  if s.ob (cellIx c) 5 = 3 then s.sendOutputs c i.templates (d.lastFrames.map (·.2)) else s

/-- The executor of a cell can run it: neither stopped nor restarting, on a good core. -/
def State.executorUp (s : State) (n : Nat) : Bool :=
  within 1 4 (s.thSt n) && s.ob 0x9400 (0x10 + n / 16) = 0

/-- CELL_RELEASE: a due release of a placed cell starts a run or is an overrun. -/
def execCellRelease (c : Cell) (s : State) : Host.Outcome State Fault Refusal :=
  let c := c.val
  let d := s.cellDyn c
  .next <|
    match d.image, s.placeOf c with
    | some i, some (k, t) =>
      if s.devState = 0 || s.devState = 4 then s
      else match s.dueRelease c d i with
        | none => s
        | some at_ =>
          if s.devState = 3 then s.holdOutputs c d i at_
          else if d.running || !s.executorUp (16 * k + t) then s.overrun c d at_
          else s.startRun c d i at_ (16 * k + t)
    | _, _ => s

/-! ### The run (R300, R304, R307) -/

/-- An alarm: 0x090E, latched in :16 if that reads 0. -/
def State.alarm (s : State) (c code : Nat) : State :=
  let s := if s.ob (cellIx c) 0x16 = 0 then s.setOb (cellIx c) 0x16 code else s
  s.event 0x090E [c, code]

/-- A numeric fault of a block. -/
def State.numericFault (s : State) (c b : Nat) : State := (s.cellFlag c 2 true).eventLim 0x090D c [c, b]

/-- The run of the blocks of a cell. -/
def State.computeRun (s : State) (c : Nat) (d : CellDyn) (i : CellImage) : RunState :=
  let e : RunEnv :=
    { slots := d.inputs, pool := i.pool, period := i.period, release := d.release, track := decide (d.runMode ≠ 3),
      active := decide (d.runMode = 3), since := if d.taken then d.sinceTake else 0, back := bit (s.ob (cellIx c) 0x14) 3 }
  runBlocks e { outs := d.outs, states := d.states, frames := i.templates.map (·.frame) } 0 i.blocks

/-- A run completes: state committed, faults and alarms reported, frames handed on in Active, :0D and :11 to :13. -/
def State.completeRun (s : State) (c : Nat) (d : CellDyn) (i : CellImage) : State :=
  let r := s.computeRun c d i
  let off := (s.now - d.releaseF) % 2 ^ 32
  let s := s.setCellDyn c { d with
    running := false, outs := r.outs, states := r.states, sinceTake := d.sinceTake + 1,
    lastFrames := (i.templates.map (·.stream)).zip r.frames }
  let s := r.numeric.foldl (fun s b => s.numericFault c b) s
  let s := r.alarms.foldl (fun s a => s.alarm c a) s
  let s := if d.runMode = 3 then s.sendOutputs c i.templates r.frames else s
  (s.inc (cellIx c) 0xD).setCells (cellIx c) 0
    [(0x11, d.release), (0x12, off), (0x13, max off (s.ob (cellIx c) 0x13))]

/-- An executor that has completed a run waits for the next one, or is READY for one that is ready. -/
def State.afterRun (s : State) (n : Nat) : State :=
  if (s.thread n).waits ≠ 0 || !(s.thSt n = 1 || s.thSt n = 2) then s
  else if (s.runDeadline n).isSome then s
  else
    let s := s.setThread n { s.thread n with waitFrom := s.now }
    if s.thSt n = 2 then s.switchTo n 4 else s.setThSt n 4

/-- CELL_RUN: the executor runs the blocks of a run that is ready. -/
def execCellRun (c : Cell) (s : State) : Host.Outcome State Fault Refusal :=
  let c := c.val
  let d := s.cellDyn c
  .next <|
    match d.image, s.placeOf c with
    | some i, some (k, t) =>
      let n := 16 * k + t
      if !d.running || !s.executorUp n || s.devState = 3 then s else (s.completeRun c d i).afterRun n
    | _, _ => s

end Sys2Proof.Machine
end

