-- ==== Sys2Proof/Machine/TimeUnit.lean ====
section
/-! DEFINITION. Station time and its sources (R321–R331), temperature and SAFE_HOLD (R332, R333, R385–R387). -/

namespace Sys2Proof.Machine

/-! ### Validity, steps and slew (R323, R324, R346) -/

/-- Change the servo. -/
def State.withClk (s : State) (f : Clock → Clock) : State := { s with clk := f s.clk }

/-- Ports of which a gate subindex differs from its default. -/
def State.gatePorts (s : State) (sub : Nat) : List Nat :=
  s.dict.filterMap fun e =>
    let ix := e.1 / 2 ^ 40
    if within 0x3400 0x37FF ix && decide (e.1 % 2 ^ 40 = sub) then some (ix - 0x3400) else none

/-- The base time of R346: the first boundary at least 1 ms after `v`. -/
def rebased (b c v : Nat) : Nat :=
  if v + 1000000 ≤ b || c = 0 then b else b + c * ((v + 1000000 - b + c - 1) / c)

/-- Recompute the base time of a port's pending list against station time (R346). -/
def State.rebase (s : State) (p : Nat) : State :=
  if s.ob (gateIx p) 5 = 0 then s
  else s.setOb (gateIx p) 5 (rebased (s.ob (gateIx p) 5) (be (s.blob (gateIx p) 3) 4 4) s.tai)

/-- Validity changes: source 0x7A6, at the first validity since reset the pending base times (R346), impairments (R168). -/
def State.setValid (s : State) (v : Bool) : State :=
  if s.timeValid = v then s
  else
    let s := s.setOb 0x1200 2 v.toNat
    let s := if v && !s.clk.wasValid then
        (s.gatePorts 5).foldl State.rebase (s.withClk fun c => { c with wasValid := true })
      else s
    (s.edge 0x7A6).impair

/-- Enter a state of Table 14-1. -/
def State.setTimeState (s : State) (n : Nat) : State :=
  let old := s.ob 0x1200 1
  if old = n then s
  else
    let s := (s.setOb 0x1200 1 n).withClk fun c =>
      { c with within := 0, beyond := 0, measured := false, holdFrom := if n = 3 then s.now else c.holdFrom }
    ((s.event 0x0A01 [old, n, s.ob 0x1200 3]).setValid (decide (2 ≤ n))).announceAll

/-- Select a source (R322). -/
def State.setSource (s : State) (n : Nat) : State :=
  let old := s.ob 0x1200 3
  if old = n then s
  else
    (((s.setOb 0x1200 3 n).withClk fun c => { c with within := 0, beyond := 0, measured := false }).event 0x0A03 [old, n]).announceAll

/-- The gates of a port take the phase of stepped time (R146). -/
def State.stepGates (s : State) (p : Nat) : State :=
  let s := s.unselect p
  let s := s.setSched p { s.sched p with stepped := some s.now }
  if s.swapDue p then s.swapList p else s.refreshGates p

/-- A step by a measured offset (R324, R146, R168). -/
def State.stepTime (s : State) (off : Int) : State :=
  let ports := s.gatePorts 1
  let s := ports.foldl State.settle s
  let old := s.tai
  let s := s.withClk fun c => { c with tai := ((c.tai : Int) - off).toNat % (2 ^ 48 * 1000000000 * 65536), within := 0, beyond := 0 }
  let s := s.withClk fun c => { c with ptp := [] }
  let d := encI 64 ((s.tai : Int) - old)
  let s := ((s.event 0x0A02 (w64 d)).inc 0x1200 7).setOb 0x1200 8 d
  let s := ports.foldl State.stepGates (s.event 0x0307 (w64 d))
  let s := ((s.gatePorts 5).filter fun p => s.swapDue p).foldl State.swapList s
  (s.edge 0x7A6).impair

/-- The servo takes a measurement into the frequency correction: an open value within ±200 ppm (R324, log entry 11). -/
def State.slew (s : State) : State :=
  let (f, s) := s.draw
  let corr : Int := (f % 33 : Nat) - 16
  (s.withClk fun c => { c with corr := corr }).setOb 0x1200 6 (encI 32 (corr * 1000000000000 / 81920))

/-- A measurement of the selected source (Table 14-1); `off` is station time minus source time in 2⁻¹⁶ ns. -/
def State.measure (s : State) (off : Int) : State :=
  let s := s.setOb 0x1200 5 (encI 64 off)
  let big := decide (s.ob 0x1201 6 * 65536 < off.natAbs)
  let n := if off.natAbs ≤ s.ob 0x1201 7 * 65536 then s.clk.within + 1 else 0
  match s.ob 0x1200 1 with
  | 1 =>
    if big then s.stepTime off
    else
      let s := s.slew.withClk fun c => { c with within := n }
      if 8 ≤ n then s.setTimeState 2 else s
  | 2 =>
    if !big then s.slew.withClk fun c => { c with beyond := 0 }
    else if s.clk.beyond < 2 then s.withClk fun c => { c with beyond := c.beyond + 1 }
    else (s.stepTime off).setTimeState 1
  | 3 =>
    if big && !s.clk.measured then (s.stepTime off).setTimeState 1
    else
      let s := s.withClk fun c => { c with within := n, measured := true }
      if 8 ≤ n then s.setTimeState 2 else s
  | _ => s

/-! ### Sources (R322) -/

/-- A PTP instance has a port in SLAVE state. -/
def State.ptpAvail (s : State) (i : Nat) : Bool :=
  decide (s.cell 0x1210 i 4 = 1) && s.dict.any fun e =>
    decide (e.1 / 2 ^ 40 = 0x1220) && decide (e.1 % 256 = 0xA) && decide (e.2 = 5)
      && decide (s.cell 0x1220 (e.1 / 256 % 2 ^ 32) 5 = i)

/-- A source is available. -/
def State.srcAvail (s : State) (n : Nat) : Bool :=
  if within 1 4 n then s.ptpAvail (n - 1)
  else decide (n = 5) && decide (s.ob 0x1202 1 = 1) && s.clk.ppsHere && s.clk.ppsGood && (s.clk.wasValid || s.clk.ppsTaken)

/-- The priority list. -/
def State.priority (s : State) : List Nat := [1, 2, 3, 4].map fun k => s.ob 0x1201 k

/-- The first available source of the list, 0 with none. -/
def State.firstSource (s : State) : Nat := (s.priority.find? s.srcAvail).getD 0

/-- Follow the first available source (Table 14-1): on every change of the list or of an availability. -/
def State.refreshSource (s : State) : State :=
  let lost := !s.srcAvail (s.ob 0x1200 3)
  let n := s.firstSource
  let s := s.setSource n
  match s.ob 0x1200 1 with
  | 0 => if n = 0 then s else s.setTimeState 1
  | 1 => if n = 0 then s.setTimeState 0 else s
  | 2 => if lost then s.setTimeState 3 else s
  | _ => s

/-! ### PTP (R326, R327) -/

/-- Port state codes of 0x1220:0A. -/
def ptpCode : PtpState → Nat
  | .disabled => 0
  | .listening => 1
  | .master => 2
  | .passive => 3
  | .uncalibrated => 4
  | .slave => 5

/-- A row of 0x1220 takes part: a management lane, or a port that is UP. -/
def State.ptpUp (s : State) (p : Nat) : Bool := decide (1024 ≤ p) || s.up p

/-- PTP and the instance of a row are enabled. -/
def State.ptpOn (s : State) (p : Nat) : Bool := s.cell 0x1220 p 4 = 1 && decide (s.cell 0x1210 (s.cell 0x1220 p 5) 4 = 1)

/-- A PTP port enters a state; the availability of its instance follows. -/
def State.setPtp (s : State) (p st : Nat) : State :=
  if s.cell 0x1220 p 0xA = st then s
  else (((s.setCell 0x1220 p 0xA st).event 0x0A08 [p, s.cell 0x1220 p 5, st]).refreshSource).ptpAnnounce p

/-- A Sync is complete: on a slave row the offset of station time from the master, less path delay and asymmetry, is a measurement
where the instance is the source, else the instance's own time (R322, R326); under the end-to-end profile a delay request
follows. -/
def State.ptpOffset (s : State) (p origin got : Nat) : State :=
  let i := s.ptpInst p
  let s := s.setPtpDyn p { s.ptpDyn p with sync := some (origin, got) }
  if s.cell 0x1220 p 0xA ≠ 5 then s
  else
    let off : Int := (got : Int) - origin - (s.cell 0x1220 p 0xB + decI 32 (s.cell 0x1220 p 9)) * 65536
    let s := if s.ob 0x1200 3 = i + 1 then (s.setCell 0x1210 i 0xC 0).measure off else s.setCell 0x1210 i 0xC (encI 64 (-off))
    if s.ptpProfile p = 2 then s.ptpEvent p 1 (s.ptpSeq p) (zeros 10) else s

/-- The mean link delay that two round-trip times give, in 2⁻¹⁶ ns (their sum halved). -/
def State.ptpDelay (s : State) (p : Nat) (sum : Int) : State :=
  s.setCell 0x1220 p 0xB ((sum / 2 / 65536).toNat % 2 ^ 32)

/-- A message that the time unit takes. -/
def State.ptpTake (s : State) (p : Nat) (m : PtpMsg) : State :=
  let i := s.ptpInst p
  let d := s.ptpDyn p
  let now := s.rxStamp p
  let peer := decide (s.ptpProfile p ≠ 2)
  match m with
  | .sync none => s.setPtpDyn p { d with got := some now }
  | .sync (some o) => s.ptpOffset p o now
  | .followUp o => match d.got with
    | some t => (s.setPtpDyn p { d with got := none }).ptpOffset p o t
    | none => s
  | .pdelayResp turn => match d.sent with
    | some t => if peer then (s.setPtpDyn p { d with sent := none }).ptpDelay p ((now : Int) - t - turn) else s
    | none => s
  | .delayResp at_ => match d.sent, d.sync with
    | some t3, some (t1, t2) =>
      if peer then s else (s.setPtpDyn p { d with sent := none }).ptpDelay p (((t2 : Int) - t1) + ((at_ : Int) - t3))
    | _, _ => s
  | .pdelayReq src seq => if peer then s.ptpEvent p 3 seq (ptpTime now ++ fit 10 src) else s
  | .delayReq src seq =>
    if peer || s.cell 0x1220 p 0xA ≠ 2 then s else s.ptpGeneral p 9 seq 0 (ptpTime now ++ fit 10 src)
  | .announce utc => if s.cell 0x1220 p 0xA = 5 then s.setCell 0x1210 i 0xD (encI 16 utc) else s
  | .other => s

/-- PTP_MESSAGE: a PTP message arrives; where PTP is disabled it is discarded and counted. -/
def execPtpMessage (p : PtpPort) (m : PtpMsg) (s : State) : Host.Outcome State Fault Refusal :=
  .next <|
    if !s.ptpUp p.val then s
    else if s.cell 0x1220 p.val 4 = 0 then s.bump 0x1220 p.val 0xE 1
    else
      let s := s.bump 0x1220 p.val 0xC 1
      if s.ptpOn p.val then s.ptpTake p.val m else s

/-- PTP_PORT_STATE_CHANGE: the best master clock algorithm gives an enabled port a state (log entry 12). -/
def execPtpPortStateChange (p : PtpPort) (st : PtpState) (s : State) : Host.Outcome State Fault Refusal :=
  .next (if s.ptpOn p.val || st = .disabled then s.setPtp p.val (ptpCode st) else s)

/-- PTP_SYNC_TRANSMIT: a master port sends a Sync; its Follow_Up is sent when the Sync starts on the wire. -/
def execPtpSyncTransmit (p : PtpPort) (s : State) : Host.Outcome State Fault Refusal :=
  .next <|
    if s.ptpUp p.val && s.ptpOn p.val && s.cell 0x1220 p.val 0xA = 2 then s.ptpEvent p.val 0 (s.ptpSeq p.val) (zeros 10) else s

/-- PDELAY_REQUEST_TRANSMIT: a port of a peer-delay profile sends a Pdelay request. -/
def execPdelayRequestTransmit (p : PtpPort) (s : State) : Host.Outcome State Fault Refusal :=
  .next <|
    if s.ptpUp p.val && s.ptpOn p.val && s.ptpProfile p.val ≠ 2 then s.ptpEvent p.val 2 (s.ptpSeq p.val) (zeros 20) else s

/-! ### Pulse and frequency pins (R322, R329) -/

/-- One second in 2⁻¹⁶ ns. -/
abbrev secondQ : Nat := 1000000000 * 65536

/-- Station time at a PPS_IN edge less the cable delay (R325). -/
def State.edgeTime (s : State) : Int := (s.clk.tai : Int) - decI 32 (s.ob 0x1202 2) * 65536

/-- The measured offset of an edge, modulo 1 s into (−0.5 s, +0.5 s] (R329). -/
def State.edgeOffset (s : State) : Int :=
  let r := s.edgeTime % secondQ
  if 2 * r ≤ secondQ then r else r - secondQ

/-- A pulse arrives: its spacing and presence (R322, R329). -/
def State.pulse (s : State) : State :=
  let good := match s.clk.ppsLast with
    | some t => within 999999000 1000001000 (s.now - t)
    | none => false
  let had := s.clk.ppsHere
  let s := s.withClk fun c => { c with ppsLast := some s.now, ppsHere := true, ppsGood := good }
  if had then s else s.event 0x0A04 [1]

/-- An edge while PPS_IN is used: it takes the seconds of 0x1202:03 where they wait, and is a measurement of PPS_IN where
that is the source. -/
def State.useEdge (s : State) : State :=
  match s.clk.ppsNext with
  | none =>
    let s := s.refreshSource
    if s.ob 0x1200 3 = 5 then s.measure s.edgeOffset else s
  | some x =>
    let off := s.edgeTime - x * secondQ
    let s := s.withClk fun c => { c with ppsNext := none, ppsGood := true, ppsTaken := true }
    let first := decide (s.ob 0x1200 1 = 0 || s.ob 0x1200 1 = 3) && !(List.range 4).any s.ptpAvail && s.priority.contains 5
    let s := if first then (s.setSource 5).setTimeState 1 else s.refreshSource
    if s.ob 0x1200 3 = 5 then s.measure off else s

/-- PPS_EDGE: a rising edge of PPS_IN. -/
def execPpsEdge (s : State) : Host.Outcome State Fault Refusal :=
  let s := s.pulse
  .next (if s.ob 0x1202 1 = 1 then s.useEdge else s)

/-- PPS_MISSING: the next pulse did not come within 1 s ± 1 µs. -/
def execPpsMissing (s : State) : Host.Outcome State Fault Refusal :=
  .next <|
    if s.clk.ppsHere && s.clk.ppsLast.all (fun t => decide (t + 1000001000 < s.now)) then
      ((s.withClk fun c => { c with ppsHere := false, ppsGood := false }).event 0x0A04 [0]).refreshSource
    else s

/-- NEXT_PPS_SECONDS_WRITE: the TAI seconds of the next edge (R329). -/
def nextPpsRule : WriteRule where
  check s _ _ := s.startState
  act s _ x := .done stOk [] (s.withClk fun c => { c with ppsNext := some x })

/-- NEXT_PPS_SECONDS_WRITE. -/
def execNextPpsSecondsWrite (v : Via) (data : Bytes) (s : State) : Host.Outcome State Fault Refusal :=
  .next (s.writeItem v 0x1202 3 data nextPpsRule)

/-- PPS_OUT: a whole second of station time; the pin rises where it is enabled. -/
def execPpsOut (s : State) : Host.Outcome State Fault Refusal :=
  let s := s.edge 0x7A7
  .next (if s.ob 0x1202 4 = 1 then s.emit (.pin "PPS_OUT" true) else s)

/-- Presence of REF10M_IN changes; while it is present and used it disciplines the frequency (R322). -/
def State.ref10m (s : State) (here : Bool) : State :=
  if s.ob 0x1202 8 = here.toNat then s
  else
    let s := (s.setOb 0x1202 8 here.toNat).event 0x0A05 [here.toNat]
    if here && s.ob 0x1202 7 = 1 then s.slew else s

/-- REF10M_PRESENT. -/
def execRef10mPresent (s : State) : Host.Outcome State Fault Refusal := .next (s.ref10m true)

/-- REF10M_ABSENT. -/
def execRef10mAbsent (s : State) : Host.Outcome State Fault Refusal := .next (s.ref10m false)

/-- HOLDOVER_LIMIT: HOLDOVER has lasted for the limit (Table 14-1). -/
def execHoldoverLimit (s : State) : Host.Outcome State Fault Refusal :=
  .next <|
    if s.ob 0x1200 1 = 3 && s.clk.holdFrom + s.ob 0x1201 5 * 1000000000 ≤ s.now then
      (((s.setTimeState 0).setSource 0).event 0x0A06 [s.ob 0x1201 5]).refreshSource
    else s

/-- TIME_COPY_RELOAD: the copies of station time are reloaded (R330). -/
def execTimeCopyReload (s : State) : Host.Outcome State Fault Refusal :=
  .next (s.withClk fun c => { c with reloaded := s.tai })

/-- A core reference (0 REFCLK_O0, 1 REFCLK_O7) is present. -/
def State.coreRefHere (s : State) (r : Nat) : Bool := !s.net.refLost.contains (7 * r)

/-- The core PLLs run from a reference (R331). -/
def State.coreReference (s : State) (r : Nat) : State :=
  if s.ob 0x1203 2 = r then s else ((s.setOb 0x1203 2 r).inc 0x1203 3).event 0x0A07 [r]

/-- CORE_REFERENCE_LOST: the active reference is absent; the PLLs switch, or hold their frequency while both are. -/
def execCoreReferenceLost (s : State) : Host.Outcome State Fault Refusal :=
  let other := 1 - s.ob 0x1203 2
  .next (if s.coreRefHere other then s.coreReference other else s)

/-! ### Temperature (R332, R333); readings in 1/8 °C -/

/-- The neighbours of a sensor: the others of its die. -/
def sensorNeighbours (i : Nat) : List Nat :=
  if i < 16 then (List.range 16).filter (· ≠ i) else [if i % 2 = 0 then i + 1 else i - 1]

/-- A sensor is excluded: cause 1 out of range, 2 stuck. -/
def State.excludeSensor (s : State) (i cause : Nat) : State :=
  ((s.withClk fun c => { c with excluded := addOnce c.excluded i }).setOb 0x1002 (2 + i) 0x8000).event 0x0A13 [i, cause]

/-- A neighbour has moved by 2 °C or more. -/
def movedBy (before now : List Nat) (i : Nat) : Bool :=
  (sensorNeighbours i).any fun j => decide (16 ≤ (decI 16 (now.getD j 0) - decI 16 (before.getD j 0)).natAbs)

/-- One sensor's reading in a sample `rs` of codes. -/
def State.sampleSensor (rs : List Nat) (s : State) (i : Nat) : State :=
  let code := rs.getD i 0
  let d := NMap.at (0, []) s.clk.stuck i
  if s.clk.excluded.contains i then s
  else if decI 16 code < -480 || 1600 < decI 16 code then s.excludeSensor i 1
  else if code ≠ s.ob 0x1002 (2 + i) || d.2.isEmpty then
    (s.withClk fun c => { c with stuck := NMap.put (0, []) c.stuck i (s.now, rs) }).setOb 0x1002 (2 + i) code
  else if d.1 + 10000000 ≤ s.now && movedBy d.2 rs i then s.excludeSensor i 2
  else s

/-- When a condition began: kept while it holds. -/
def sinceWhen (holds : Bool) (now : Nat) (since : Option Nat) : Option Nat :=
  if holds then some (since.getD now) else none

/-- The readings of the sensors that are not excluded. -/
def State.liveSensors (s : State) : List (Nat × Int) :=
  ((List.range 26).filter fun i => !s.clk.excluded.contains i).map fun i => (i, decI 16 (s.ob 0x1002 (2 + i)))

/-- The hottest of the readings. -/
def hottest : List (Nat × Int) → Option Int
  | [] => none
  | x :: r => match hottest r with
    | none => some x.2
    | some m => some (max x.2 m)

/-- The warning after a sample: raised by a sensor hot twice, cleared after 1 ms below 148 °C. -/
def State.thermalWarning (s : State) (was : List Nat) : State :=
  let live := s.liveSensors
  let hot := live.filter fun x => decide (1216 ≤ x.2)
  let raised := s.rng.levels.contains 0x7A4
  if !raised then
    match hot.find? (fun x => was.contains x.1) with
    | some x => (s.levelOn 0x7A4).event 0x0A10 [x.1, encI 16 x.2]
    | none => s
  else if s.clk.coolFrom.any (fun t => decide (t + 1000000 ≤ s.now)) && decide (8 ≤ (live.filter fun x => decide (x.1 < 16)).length)
  then (s.levelOff 0x7A4).event 0x0A11 [s.ob 0x1002 1]
  else s

/-- TEMPERATURE_SAMPLE: 26 junction sensors and the two HBM stacks. -/
def execTemperatureSample (readings : List Int) (s : State) : Host.Outcome State Fault Refusal :=
  let rs := readings.map (encI 16)
  let s := (List.range 26).foldl (State.sampleSensor rs) s
  let s := (s.setOb 0x1002 0x1C (rs.getD 26 0)).setOb 0x1002 0x1D (rs.getD 27 0)
  let live : List (Nat × Int) := s.liveSensors
  let s := match hottest live with
    | none => s
    | some x => s.setOb 0x1002 1 (encI 16 x)
  let was := s.clk.hot
  let hot := (live.filter fun x => decide (1216 ≤ x.2)).map (·.1)
  let cool := fun (limit : Int) => live.all fun x => decide (x.2 < limit)
  let s := s.withClk fun c => { c with
    hot := hot
    coolFrom := sinceWhen (cool 1184) s.now c.coolFrom
    holdCool := sinceWhen (cool 1160) s.now c.holdCool }
  .next (s.thermalWarning was)

/-! ### SAFE_HOLD (R333, R385–R387) -/

/-- Discard the copies of a port queue that are not of device frames, counted in 0xB000:12. -/
def State.holdQueue (s : State) (row : Nat) : State :=
  let keep := fun (c : QCopy) => !(s.buf c.handle).all (fun b => b.source.kind ≠ 2)
  let q := s.queue row
  let s := s.setQueue row (q.filter keep)
  (q.filter fun c => !keep c).foldl (fun s c => (s.inc 0xB000 0x12).discardCopy row c) s

/-- A run in progress is given up; the cell keeps the state of its last completed run. -/
def State.abandonRun (s : State) (c : Nat) : State :=
  let s := s.setCellDyn c { s.cellDyn c with running := false }
  match s.placeOf c with
  | some (k, t) => s.afterRun (16 * k + t)
  | none => s

/-- Entry into SAFE_HOLD. -/
def State.enterHold (s : State) (sensor : Nat) : State :=
  let s := { s with pwr := { s.pwr with heldFrom := s.devState, heldAt := s.now } }
  let s := (s.withClk fun c => { c with holdCool := none }).levelOn 0x7A5
  let s := ((s.event 0x0A12 [sensor]).setDev 3).inc 0xB000 0x10
  let s := s.emit (.pin "TRIP_N" false)
  let s := (s.net.sched.map (·.1)).foldl (fun s p => (s.settle p).unselect p) s
  let s := ((s.net.queues.map (·.1)).filter (· < 8192)).foldl State.holdQueue s
  ((s.cells.filter fun e => e.2.running).map (·.1)).foldl State.abandonRun s

/-- THERMAL_TRIP: a sensor reaches 162 °C. -/
def execThermalTrip (sensor : Fin 26) (s : State) : Host.Outcome State Fault Refusal :=
  .next (if s.pwr.inReset || 3 ≤ s.devState then s else s.enterHold sensor.val)

/-- Exit from SAFE_HOLD: the times that stopped counting go on, reads and cells resume. -/
def State.leaveHold (s : State) : State :=
  let held := s.now - s.pwr.heldAt
  let back := s.pwr.heldFrom
  let s := (s.setDev back).levelOff 0x7A5
  let s := (s.emit (.pin "TRIP_N" true)).event 0x0A14 (w64 held ++ [s.ob 0x1002 1, back])
  let s := s.bump 0xB000 0 0x11 held
  let s := { s with
    pwr := if back = 0 then { s.pwr with released := s.pwr.released + held } else s.pwr
    flt := if back = 2 then { s.flt with since := s.flt.since + held } else s.flt }
  let s := (s.cells.map (·.1)).foldl (fun s c => s.setCellDyn c { s.cellDyn c with z := 0 }) s
  (s.drainReads 0).drainReads 1

/-- SAFE_HOLD_EXIT: every sensor has read below 145 °C for 1 s. -/
def execSafeHoldExit (s : State) : Host.Outcome State Fault Refusal :=
  .next (if s.inHold && s.clk.holdCool.any (fun t => decide (t + 1000000000 ≤ s.now)) then s.leaveHold else s)

end Sys2Proof.Machine
end

