-- ==== Sys2Proof/Machine/Store.lean ====
section
/-! DEFINITION. Flash (R348–R355): the two-bank rule, configuration commits, firmware files and commands, what is
written on a supply warning (R357), debug unlock (R359), and the power controller's steps while the device runs
(R342, R343). -/

namespace Sys2Proof.Machine

/-- Change the power record. -/
def State.withPwr (s : State) (f : Power → Power) : State := { s with pwr := f s.pwr }

/-! ### Banks (R349) -/

/-- A firmware bank (0 A, 1 B). -/
def State.fwBank (s : State) (n : Nat) : Bank := if n = 0 then s.pwr.fwA else s.pwr.fwB

/-- A configuration bank (0 A, 1 B). -/
def State.cfgBank (s : State) (n : Nat) : Bank := if n = 0 then s.pwr.cfgA else s.pwr.cfgB

/-- Set a configuration bank. -/
def State.setCfgBank (s : State) (n : Nat) (b : Bank) : State :=
  s.withPwr fun p => if n = 0 then { p with cfgA := b } else { p with cfgB := b }

/-- The bytes of a bank's control block (Table 15-7); reserved bytes are 0xFF. -/
def Bank.control (b : Bank) : Bytes :=
  [BitVec.ofNat 8 b.state, 0xFF, 0xFF, 0xFF] ++ toLE 4 b.sequence ++ toLE 4 b.check ++ toLE 4 b.length ++ b.cmac
    ++ List.replicate 4064 0xFF

/-- A bank's control block reads valid and activated. -/
def Bank.live (b : Bank) : Bool :=
  decide (b.state = 0xFC) && decide (b.sequence ≠ 0xFFFFFFFF) && decide (b.sequence ^^^ b.check = 0xFFFFFFFF)

/-- A bank is bootable or loadable. -/
def Bank.usable (b : Bank) : Bool := b.live && b.good

/-- Code of a firmware bank in 0x1302:05 and :06. -/
def Bank.code (b : Bank) : Nat :=
  if b.state = 0xFF then 0 else if b.state = 0xF8 then 4 else if b.live then 3 else if b.state = 0xFC then 2 else 1

/-- Publish a firmware bank in 0x1302. -/
def State.showBank (s : State) (n : Nat) : State :=
  let b := s.fwBank n
  ((s.setOb 0x1302 (5 + n) b.code).setOb 0x1302 (7 + n) (if b.state = 0xFC then b.version else 0)).setOb 0x1302 (9 + n) b.sequence

/-- Set a firmware bank. -/
def State.setFwBank (s : State) (n : Nat) (b : Bank) : State :=
  (s.withPwr fun p => if n = 0 then { p with fwA := b } else { p with fwB := b }).showBank n

/-- The usable bank with the higher sequence. -/
def newest (a b : Bank) : Option Nat :=
  if a.usable && (!b.usable || decide (b.sequence < a.sequence)) then some 0 else if b.usable then some 1 else none

/-- The newest loadable configuration bank. -/
def State.newestCfg (s : State) : Option Nat := newest s.pwr.cfgA s.pwr.cfgB

/-! ### What is written to flash 1 in passing -/

/-- Every staged record goes to flash; the ring drops its oldest sector when it is full (R372). -/
def State.flushLog (s : State) : State :=
  let all := s.log.staged ++ s.log.flash
  let kept := if all.length ≤ 2340864 then all else all.take (all.length - 1024 * ceilDiv (all.length - 2340864) 1024)
  let s := { s with log := { s.log with flash := kept, staged := [] } }
  s.setOb 0x1402 0x10 ((kept.getLast?.map (·.seq)).getD 0)

/-- The highest accepted replay counters go to flash (R44). -/
def State.writeReplay (s : State) : State :=
  (rowsWith s.dict 0x1110 9).foldl (fun s k =>
    let d := NMap.at (0, 0, false) s.pwr.replay k
    s.withPwr fun p => { p with replay := NMap.put (0, 0, false) p.replay k (s.cell 0x1110 k 9, (s.key k).tx, d.2.2) }) s

/-- A row is a valid receive SA. -/
def State.receiveSa (s : State) (row : Nat) : Bool := s.saField row 6 = 1 || s.saField row 6 = 3

/-- The highest accepted numbers of the valid receive SAs go to flash (R195). -/
def State.writeMarks (s : State) : State :=
  ((rowsWith s.dict 0x6010 4).filter s.receiveSa).foldl (fun s r =>
    if s.mark r < s.saField r 0x21 then s.setMark r (s.saField r 0x21) else s) s

/-- Time in service and outage as 0x1402:01 and :02 read them (R375). -/
def State.serviceNs (s : State) : Nat := s.ob 0x1402 1 + s.flt.serviceQ / 4
def State.outageNs (s : State) : Nat := s.ob 0x1402 2 + s.flt.outageQ / 4

/-- Availability in parts per billion: 1 − U / T. -/
def State.availability (s : State) : Nat :=
  if s.serviceNs = 0 then 1000000000 else (s.serviceNs - min s.serviceNs s.outageNs) * 1000000000 / s.serviceNs

/-- The availability counters go to the unit record (Table 16-5). -/
def State.writeAvailability (s : State) : State :=
  let s' := ((s.setOb 0x1402 1 s.serviceNs).setOb 0x1402 2 s.outageNs).setOb 0x1402 3 s.availability
  { s' with flt := { s'.flt with
      serviceQ := s.flt.serviceQ % 4
      outageQ := s.flt.outageQ % 4
      availRec := (List.range 11).map fun i => s'.ob 0x1402 (i + 1) } }

/-! ### Configuration commit (R350) -/

/-- A base minimum or sharing exponent of a host-path row, which is V (R106). -/
def isHostMin (ix row sub : Nat) : Bool := ix == 0x9301 && within 2048 6143 row && (within 5 0xA sub || sub == 0x11)

/-- A cell is marked P. -/
def isP (k : Nat) : Bool :=
  let ix := k / 2 ^ 40
  let sub := k % 256
  !isHostMin ix (k / 256 % 2 ^ 32) sub && match objectAt ix with
    | none => false
    | some o => match entryIn o.entries sub with
      | none => false
      | some e => e.per

/-- A DOMAIN object is marked P. -/
def isPBlob (k : Nat) : Bool := isP (cellKey (k / 256) 0 (k % 256))

/-- The bank that a commit writes: one that is not loadable, else the one with the lower sequence. -/
def State.commitTarget (s : State) : Nat :=
  match s.newestCfg with
  | some 0 => 1
  | some _ => 0
  | none => 0

/-- Bytes that a configuration bank holds behind its control block: 48 MiB − 4 KiB (R350). -/
abbrev cfgContent : Nat := 50327552

/-- The store key (R350). -/
def storeKeyBytes : Bytes := toBE 32 Config.storeKey.toNat

/-- A signature verifies under the fused Krovrad key `i` (R352, R359). -/
def krovradVerify (i : Nat) (message signature : Bytes) : Bool := ecdsaVerify (toBE 97 (Config.krovradKey i).toNat) message signature

/-- The keys of the slots, wrapped under the store key; a slot that fails its check has none. -/
def State.keySnapshot (s : State) : NMap Bytes :=
  s.cip.slots.filterMap fun e => (s.slotKey e.1).map fun k => (e.1, keyWrap storeKeyBytes k)

/-- The automatic commit of a warm reset has ended: records, replay counters and marks are written, and the reset waits
(R337); a failed one abandons a requested warm reset, not one of code 7 (log entry 44). -/
def State.afterCommit (s : State) (c : Commit) (failed : Option Nat) : State :=
  match c.reset with
  | none => s
  | some code =>
    if failed.isSome && code = 5 then (s.setOb 0x1300 8 0).event 0x010A [failed.getD 0]
    else (s.flushLog.writeReplay).withPwr fun p => { p with pendingReset := some code }

/-- A commit fails with a cause. -/
def State.failCommit (s : State) (c : Commit) (cause : Nat) : State :=
  let s := (s.setCells 0x1301 0 [(2, 3), (9, cause)]).event 0x010A [cause]
  (s.withPwr fun p => { p with commit := none }).afterCommit c (some cause)

/-- A commit starts: the snapshot of every P value, and the target bank is no longer valid; a snapshot beyond the bank's content
fails at once, with cause 1. -/
def State.startCommit (s : State) (master : Nat) (reset : Option Nat) : State :=
  let n := s.commitTarget
  let (size, s) := s.draw
  let c : Commit := { bank := n, cells := s.dict.filter fun e => isP e.1, blobs := s.acc.blobs.filter fun e => isPBlob e.1,
                      keys := s.keySnapshot, master := master, reset := reset }
  let s := s.setOb 0x1301 5 (size % 2 ^ 32)
  if cfgContent < size % 2 ^ 32 then s.failCommit c 1
  else
    let s := s.setCfgBank n { state := 0xFE }
    (s.withPwr fun p => { p with commit := some c }).setCells 0x1301 0 [(2, 1), (9, 0)]

/-- A commit is running. -/
def State.committing (s : State) : Bool := s.pwr.commit.isSome

/-- The rule of 0x1301:01. -/
def commitRule : WriteRule where
  check s _ x := firstBad
    [ require (x == 1) stRange
    , s.startState
    , require (!s.committing && !s.pwr.warnLow) stState ]
  act s v _ := .done stOk [] (s.startCommit (masterOf v) none)

/-- CONFIGURATION_COMMIT. -/
def execConfigurationCommit (v : Via) (data : Bytes) (s : State) : Host.Outcome State Fault Refusal :=
  .next (s.writeItem v 0x1301 1 data commitRule)

/-- A commit completes at SEQ_CHECK; the older bank is erased in the background. -/
def State.endCommit (s : State) (c : Commit) : State :=
  let other := s.cfgBank (1 - c.bank)
  let seq := if other.usable then other.sequence + 1 else 1
  if seq = 0xFFFFFFFF then s.failCommit c 3
  else
    let size := s.ob 0x1301 5
    let (mac, s) := s.draw
    let s := s.setCfgBank c.bank { state := 0xFC, sequence := seq, check := 0xFFFFFFFF - seq, length := size, good := true,
                                   cmac := toBE 16 mac, cells := c.cells, blobs := c.blobs, keys := c.keys }
    let s := (s.withPwr fun p => { p with commit := none }).setCells 0x1301 0 [(2, 2), (3, seq), (4, c.bank), (6, s.tai)]
    let s := s.event 0x0109 [c.bank, seq, size, c.master]
    let s := if other.state = 0xFF then s
      else (s.setCfgBank (1 - c.bank) { other with good := false }).setOb 0x1301 7 1
    s.writeMarks.afterCommit c none

/-- COMMIT_END: a commit completes or fails with a cause; it waits for a background erase and through a supply warning. -/
def execCommitEnd (failure : Option Nat) (s : State) : Host.Outcome State Fault Refusal :=
  .next <| match s.pwr.commit with
    | none => s
    | some c =>
      if s.pwr.warnLow || s.ob 0x1301 7 = 1 then s
      else match failure with
        | some cause => s.failCommit c cause
        | none => s.endCommit c

/-- BACKGROUND_ERASE_DONE: the older bank is erased; it is the one that is not the newest. -/
def execBackgroundEraseDone (s : State) : Host.Outcome State Fault Refusal :=
  .next <|
    if s.ob 0x1301 7 = 0 then s
    else (s.setCfgBank (1 - s.ob 0x1301 4) (if s.committing then { state := 0xFE } else {})).setOb 0x1301 7 0

/-! ### Firmware update (R352–R355) -/

/-- A firmware file arrives whole: checks of R352, then it is staged. Cause 1 is the header, 3 the signature (log entry 45). -/
def State.stageFirmware (s : State) (b : Bytes) : Nat × State :=
  let version := be b 8 4
  let len := be b 12 4
  if s.pwr.fwJob.isSome || s.pwr.switching.isSome then (stState, s)
  else if be b 0 4 ≠ 0x49584657 || be b 4 2 ≠ 1 || len ≠ b.length || 16773120 < len then
    (stRange, s.event 0x0105 [version, 1])
  else if !(decide (be b 24 1 < 4) && krovradVerify (be b 24 1) (b.take (len - 96)) (b.drop (len - 96))) then
    (stRange, s.event 0x0105 [version, 3])
  else
    let f := (version, bit (be b 16 4) 0, be b 20 4, len)
    let s := (s.withPwr fun p => { p with staged := some f }).setCells 0x1302 0 [(3, 1), (0xB, version)]
    (stOk, s.event 0x0105 [version, 0])

/-- The bank that was not booted. -/
def State.otherBank (s : State) : Nat := 1 - s.pwr.booted

/-- A valid image that has not been activated. -/
def State.inactive (s : State) : Option Nat := [s.otherBank, s.pwr.booted].find? fun n => decide ((s.fwBank n).code = 2)

/-- Every core's cells fit on the other candidate cores (R355). -/
def State.switchable (s : State) : Bool :=
  s.candidateCores.all fun k =>
    let t := (s.cellsOf k).foldl (fun t c => t.replaceCell k (s.ob 0x9310 3) c) (s.setOb 0x9400 (0x10 + k) 1)
    (s.cellsOf k).all fun c => (t.placeOf c).isSome

/-- The state check of a firmware command (R353). -/
def State.fwState (s : State) (x : Nat) : Bool :=
  decide (s.devState = 1) && !s.pwr.warnLow && s.pwr.fwJob.isNone && s.pwr.switching.isNone
    && (!(x == 1 || x == 3) || s.pwr.staged.isSome)
    && (x != 2 || s.inactive.isSome)
    && (x != 4 ||
      let b := s.fwBank s.otherBank
      b.usable && b.hitless && decide (b.datapath = s.pwr.datapath) && s.switchable)

/-- PROGRAM or PROGRAM_AND_ACTIVATE begins: the bank that was not booted is erased. -/
def State.startProgram (s : State) (x : Nat) : State :=
  let n := s.otherBank
  ((s.withPwr fun p => { p with fwJob := some (x, n) }).setFwBank n {}).setCells 0x1302 0 [(3, 2), (4, 0), (0xC, 0)]

/-- ACTIVATE begins. -/
def State.startActivate (s : State) : State :=
  (s.withPwr fun p => { p with fwJob := some (2, s.inactive.getD s.otherBank) }).setCells 0x1302 0 [(3, 5), (4, 0), (0xC, 0)]

/-- DISCARD drops the staged file. -/
def State.dropStaged (s : State) : State := (s.withPwr fun p => { p with staged := none }).setCells 0x1302 0 [(3, 0), (0xB, 0)]

/-- The core of a switch begins its restart: its cells move to other cores; while LC00 restarts C08.T00 supervises. -/
def State.switchCore (s : State) (c : Nat) : State :=
  let s := (s.withPwr fun p => { p with switching := some c }).setOb 0x9400 (0x10 + c) 1
  let s := (s.cellsOf c).foldl (fun s i => s.replaceCell c (s.ob 0x9310 3) i) s
  if c = 0 then s.setOb 0x9400 1 128 else s

/-- SWITCH begins with LC01; LC00 comes last. -/
def State.startSwitch (s : State) : State :=
  let s := (s.setCells 0x1302 0 [(3, 7), (4, 0), (0xC, 0)]).event 0x0108 [(s.fwBank s.otherBank).version, 1]
  s.switchCore 1

/-- The rule of 0x1302:02. -/
def fwCommandRule : WriteRule where
  check s _ x := firstBad [require (within 1 5 x) stRange, s.startState, require (s.fwState x) stState]
  act s _ x := .done stOk [] <|
    if x = 1 || x = 3 then s.startProgram x
    else if x = 2 then s.startActivate
    else if x = 4 then s.startSwitch
    else s.dropStaged

/-- A command written to 0x1302:02. -/
def State.fwCommand (s : State) (v : Via) (x : Nat) : State := s.writeItem v 0x1302 2 (toBE 1 x) fwCommandRule

/-- PROGRAM. -/
def execProgram (v : Via) (s : State) : Host.Outcome State Fault Refusal := .next (s.fwCommand v 1)

/-- ACTIVATE. -/
def execActivate (v : Via) (s : State) : Host.Outcome State Fault Refusal := .next (s.fwCommand v 2)

/-- PROGRAM_AND_ACTIVATE. -/
def execProgramAndActivate (v : Via) (s : State) : Host.Outcome State Fault Refusal := .next (s.fwCommand v 3)

/-- SWITCH. -/
def execSwitch (v : Via) (s : State) : Host.Outcome State Fault Refusal := .next (s.fwCommand v 4)

/-- DISCARD. -/
def execDiscard (v : Via) (s : State) : Host.Outcome State Fault Refusal := .next (s.fwCommand v 5)

/-- The command ends. -/
def State.endFw (s : State) : State := (s.withPwr fun p => { p with fwJob := none }).setOb 0x1302 4 100

/-- The last step of Table 15-9: SEQUENCE as the booted bank's + 1, then SEQ_CHECK. -/
def State.activateBank (s : State) (n : Nat) : State :=
  let seq := (s.fwBank s.pwr.booted).sequence + 1
  let s := s.setFwBank n { s.fwBank n with sequence := seq, check := 0xFFFFFFFF - seq }
  ((s.setOb 0x1302 3 6).event 0x0107 [n, seq]).endFw

/-- One step of Table 15-9 completes, by the state that 0x1302:03 shows. -/
def State.fwStep (s : State) (x n : Nat) : State :=
  let f := s.pwr.staged.getD (0, false, 0, 0)
  let b := s.fwBank n
  match s.ob 0x1302 3 with
  | 2 => (s.setFwBank n { b with state := 0xFE }).setCells 0x1302 0 [(3, 3), (4, 25)]
  | 3 =>
    (s.setFwBank n { b with length := f.2.2.2, version := f.1, hitless := f.2.1, datapath := f.2.2.1 }).setCells 0x1302 0
      [(3, 4), (4, 50)]
  | 4 =>
    let s := (s.setFwBank n { b with state := 0xFC, good := true }).setCells 0x1302 0 [(3, 5), (4, 75)]
    let s := s.event 0x0106 [n, b.version]
    if x = 1 then s.endFw else s
  | 5 => s.activateBank n
  | _ => s

/-- FIRMWARE_PROGRAM_STEP: a step completes, or fails with a cause of 0x1302:0C; a supply warning suspends it. -/
def execFirmwareProgramStep (failure : Option Nat) (s : State) : Host.Outcome State Fault Refusal :=
  .next <| match s.pwr.fwJob with
    | none => s
    | some (x, n) =>
      if s.pwr.warnLow then s
      else match failure with
        | none => s.fwStep x n
        | some cause =>
          let s := (s.withPwr fun p => { p with fwJob := none }).setCells 0x1302 0 [(3, 8), (0xC, cause)]
          s.event 0x0105 [(s.pwr.staged.map (·.1)).getD (s.fwBank n).version, cause]

/-- A core's threads restart: their mailbox endpoints are reset and their leases end (R355). -/
def State.restartCore (s : State) (c : Nat) : State :=
  ((List.range 16).map (16 * c + ·)).foldl (fun s n =>
    if s.role n = 0 then s else (((s.orphan n).dropRuns n).dropActive n).restartThread n) (s.setOb 0x9400 (0x10 + c) 0)

/-- The switch ends on the new image. -/
def State.endSwitch (s : State) : State :=
  let n := s.otherBank
  let b := s.fwBank n
  let s := s.withPwr fun p => { p with switching := none, booted := n, datapath := b.datapath }
  (s.setCells 0x1302 0 [(3, 6), (4, 100)]).setOb 0x1300 5 n |>.setOb 0x1000 5 b.version |>.event 0x0108 [b.version, 0]

/-- SWITCH_CORE_DONE: one core has restarted on the new image and the next begins; or a fault ends the switch (R355). -/
def execSwitchCoreDone (fault : Bool) (s : State) : Host.Outcome State Fault Refusal :=
  .next <| match s.pwr.switching with
    | none => s
    | some c =>
      let cells := (s.cells.filter fun e => e.2.image.isSome).map (·.1)
      let s := s.restartCore c
      let s := if c = 0 then s.setOb 0x9400 1 0 else s
      if fault then
        ((s.withPwr fun p => { p with switching := none }).setCells 0x1302 0 [(3, 8), (0xC, 6)]).event 0x0108
          [(s.fwBank s.otherBank).version, c, 6]
      else
        let s := cells.foldl (fun s i => s.replaceCell c (s.ob 0x9310 3) i) s
        if c = 0 then s.endSwitch else s.switchCore (if c = 15 then 0 else c + 1)

/-! ### Supply warning (R357) -/

/-- SUPPLY_WARN_ASSERT: a 2 µs low of SUPPLY_WARN_N; what is not yet in flash is written. -/
def execSupplyWarnAssert (s : State) : Host.Outcome State Fault Refusal :=
  .next <|
    if s.pwr.warnLow then s
    else
      let s := (s.withPwr fun p => { p with warnLow := true, warnFrom := s.now }).levelOn 0x7A8
      let s := ((s.setOb 0xB000 4 1).inc 0xB000 8).event 0x0A20 [1, 0]
      s.flushLog.writeReplay.writeMarks.writeAvailability

/-- SUPPLY_WARN_RELEASE: the pin rises again; suspended work resumes. -/
def execSupplyWarnRelease (s : State) : Host.Outcome State Fault Refusal :=
  .next <|
    if !s.pwr.warnLow then s
    else
      let us := (s.now - s.pwr.warnFrom) / 1000
      let s := (s.withPwr fun p => { p with warnLow := false }).levelOff 0x7A8
      ((s.setOb 0xB000 4 0).setOb 0xB000 5 us).event 0x0A20 [0, us]

/-! ### Debug unlock (R359) -/

/-- Draw a challenge from the object server's DRBG (R359); instance 4 is that of R209. -/
def State.newChallenge (s : State) : State :=
  { s with free := s.free + 1 }.setOb 0x1300 0x10 (Config.drbg 4 s.free 16 % 2 ^ 128)

/-- A token names this device and its challenge and verifies under a fused key. -/
def State.tokenOk (s : State) (b : Bytes) : Bool :=
  decide (b.length = 128) && decide (be b 0 8 = Config.serial.toNat) && decide (be b 8 16 = s.ob 0x1300 0x10)
    && decide (be b 24 1 = 1) && (List.range 4).any fun k => krovradVerify k (b.take 32) (b.drop 32)

/-- A token is tried; `who` is the master id, or 0xFFFF for JTAG (log entry 46). -/
def State.tryToken (s : State) (who : Nat) (b : Bytes) : Nat × State :=
  if s.tokenOk b then (stOk, (s.setOb 0x1300 0x12 1).event 0x010D [who])
  else (stRange, (s.event 0x010E [who]).newChallenge)

/-- The rule of 0x1300:11. -/
def unlockRule : WriteRule where
  check s _ _ := s.startState
  act s v x :=
    let r := s.tryToken (masterOf v) (toBE 128 x)
    .done r.1 [] r.2

/-- DEBUG_UNLOCK. -/
def execDebugUnlock (d : DebugPath) (token : Bytes) (s : State) : Host.Outcome State Fault Refusal :=
  .next <| match d with
    | .jtag => if s.pwr.inReset then s else (s.tryToken 0xFFFF token).2
    | .dictionary v => s.writeItem v 0x1300 0x11 token unlockRule

/-! ### The power controller in service (R342, R343) -/

/-- A PMBus write to a rail. -/
def State.pmbus (s : State) (row command value : Nat) : State := s.emit (.pmbus (0x40 + row) command value)

/-- VDD_CORE is set to a voltage in mV. -/
def State.setCore (s : State) (mv : Nat) : State :=
  if s.ob 0xB000 2 = mv then s else (s.pmbus 0 0x21 mv).setOb 0xB000 2 mv

/-- The set-point one step of 5 mV from `sp` toward the lowest voltage, within 0.70 V to 0.80 V. -/
def avsNext (sp lowest : Nat) : Nat :=
  if sp < lowest then min 800 (sp + 5) else if lowest + 5 ≤ sp && 705 ≤ sp then sp - 5 else sp

/-- AVS_STEP: the millisecond step of VDD_CORE toward `lowest` mV; `refused` tells that the rail refused it (R342). -/
def execAvsStep (lowest : Nat) (refused : Bool) (s : State) : Host.Outcome State Fault Refusal :=
  let n := avsNext (s.ob 0xB000 2) lowest
  .next <|
    if s.devState = 0 || s.devState = 4 || s.pwr.avsOff then s
    else if s.ob 0xB000 3 = 0 then s.setCore 800
    else if n = s.ob 0xB000 2 then s
    else if !refused then (s.setCore n).withPwr fun p => { p with avsRefused := 0 }
    else if s.pwr.avsRefused < 2 then (s.pmbus 0 0x21 n).withPwr fun p => { p with avsRefused := p.avsRefused + 1 }
    else
      let s := (s.pmbus 0 0x21 n).setCore 800
      (s.withPwr fun p => { p with avsOff := true, avsRefused := 3 }).event 0x0A23 [3]

/-- Bits of STATUS_WORD that name a fault: every bit but BUSY (log entry 47). -/
def faultBits (w : Nat) : List Nat := (List.range 16).filter fun b => bit w b && b != 7

/-- PMBUS_ALERT: STATUS_WORD of every rail is read, and each fault bit logged and counted (R343). -/
def execPmbusAlert (words : List Nat) (s : State) : Host.Outcome State Fault Refusal :=
  .next <| ((List.range 9).zip words).foldl (fun s x =>
    let s := s.setCell 0xB100 x.1 7 (x.2 % 65536)
    (faultBits x.2).foldl (fun s _ => (s.bump 0xB100 x.1 9 1).event 0x0A21 [x.1, x.2 % 65536]) s) s

end Sys2Proof.Machine
end

