-- ==== Sys2Proof/Machine/Faults.lean ====
section
/-! DEFINITION. Faults (R360–R372): memory errors, unit health and RECOVERY, failover of frame units, cipher lanes and loop
cores, fabric links, HBM stacks, the log and the availability counters, the Fozon link and the pair (R373–R375). -/

namespace Sys2Proof.Machine

/-- Change the fault record. -/
def State.withFlt (s : State) (f : Faults → Faults) : State := { s with flt := f s.flt }

/-! ### Unit health (R362) -/

/-- Rows of 0x1401. -/
abbrev laneRow (l : Nat) : Nat := 1088 + l
abbrev coreRow (c : Nat) : Nat := 1122 + c
abbrev hbmRow (k : Nat) : Nat := 1138 + k
abbrev linkRow (k : Nat) : Nat := 1140 + k

/-- Health of a unit. -/
def State.health (s : State) (row : Nat) : Nat := s.cell 0x1401 row 6

/-- A unit is good or degraded. -/
def State.unitGood (s : State) (row : Nat) : Bool := s.health row = 0 || s.health row = 3

/-- Set the health of a unit, in 0x1401, in the unit record and in the map of its kind. -/
def State.setHealth (s : State) (row h : Nat) : State :=
  let s := s.setCells 0x1401 row [(6, h), (7, s.tai)]
  let s := s.withFlt fun f => { f with unitRec := NMap.put (0, 0) f.unitRec row (h, s.cell 0x1401 row 0xA) }
  if row < 1088 then s.setCell 0x2500 row 6 h
  else if within 1122 1137 row then s.setOb 0x9400 (0x10 + (row - 1122)) (decide (h = 1 || h = 2)).toNat
  else s

/-- A unit is marked failed. -/
def State.failUnit (s : State) (row : Nat) : State :=
  (s.setCell 0x1401 row 0xA (min 255 (s.cell 0x1401 row 0xA + 1))).setHealth row 1

/-! ### RECOVERY (R363); the cause of 0x0B0D is 1 entered, 2 ended, 3 reset (log entry 49) -/

/-- The supervisor enters RECOVERY; in SAFE_HOLD the device will return to it. -/
def State.enterRecovery (s : State) : State :=
  if s.devState = 1 then
    let s := ((s.setDev 2).poolMode 1).event 0x0B0D [1]
    (s.inc 0x1402 0xA).withFlt fun f => { f with since := s.now }
  else if s.inHold && s.pwr.heldFrom = 1 then
    ((s.withPwr fun p => { p with heldFrom := 2 }).inc 0x1402 0xA).withFlt fun f => { f with since := s.now }
  else s

/-- RECOVERY ends once no failover is in progress. -/
def State.leaveRecovery (s : State) : State :=
  if !s.flt.recovering.isEmpty then s
  else if s.devState = 2 then
    let s := s.bump 0x1402 0 0xB (s.now - s.flt.since)
    ((s.setDev 1).poolMode 0).event 0x0B0D [2]
  else if s.inHold && s.pwr.heldFrom = 2 then s.withPwr fun p => { p with heldFrom := 1 }
  else s

/-- The failover of a unit begins. -/
def State.beginFailover (s : State) (row : Nat) : State :=
  s.enterRecovery.withFlt fun f => { f with recovering := addOnce f.recovering row }

/-- The failover of a unit is complete. -/
def State.endFailover (s : State) (row : Nat) : State :=
  (s.withFlt fun f => { f with recovering := f.recovering.filter (· != row) }).leaveRecovery

/-- The supervisor requests the warm reset of code 7, after the automatic commit (R337); in START there is nothing to
commit. -/
def State.requestWarm (s : State) : State :=
  if s.pwr.pendingReset.isSome then s
  else match s.pwr.commit with
    | some c => s.withPwr fun p => { p with commit := some { c with reset := some 7 } }
    | none =>
      if s.devState = 0 || s.devState = 4 then s.withPwr fun p => { p with pendingReset := some 7 }
      else s.startCommit (0x2000 + s.ob 0x9400 1) (some 7)

/-- RECOVERY_TIMEOUT: RECOVERY has lasted for 100 ms. -/
def execRecoveryTimeout (s : State) : Host.Outcome State Fault Refusal :=
  .next (if s.devState = 2 && s.flt.since + 100000000 ≤ s.now then (s.event 0x0B0D [3]).requestWarm else s)

/-! ### Frames that a failed unit was sending (R363–R365) -/

/-- End the frame on the wire of a port with an error code and put it back at the head of its queue: deficits, flag and
pointer return, and a packet number it took is skipped. -/
def State.cutBack (s : State) (p : Nat) : State :=
  let s := (s.settle p).unselect p
  let d := s.sched p
  match d.wire with
  | none => s
  | some x =>
    let s := s.endWork fun y => y.kind == .transmit p x.start
    let s := (s.emit (.frame p x.bytes true)).putBack p [{ x with copy := { x.copy with again := true } }]
    (s.setDeficits p x.defs).setSched p { d with wire := none, ptr := x.ptr, act := x.act, free := 0 }

/-! ### Frame units (R364) -/

/-- The port that a unit serves. -/
def State.servedPort (s : State) (u : Nat) : Option Nat :=
  if within 1 3 (s.cell 0x2500 u 5) && s.cell 0x2500 u 4 < 1024 then some (s.cell 0x2500 u 4) else none

/-- A frame unit fails: its port starts nothing, ends its frame and drops what arrives until a spare serves it. The frame
being received when it failed is lost: whether there was one is open (log entry 5). -/
def State.failFrameUnit (s : State) (u : Nat) : State :=
  let s := s.failUnit u
  match s.servedPort u with
  | none => ((s.event 0x0B01 [u, 0xFFFF, 0]).enterRecovery).leaveRecovery
  | some p =>
    let (f, s) := s.draw
    let lost := if s.up p then f % 2 else 0
    let s := s.cutBack p
    let d := s.sched p
    let s := s.setSched p { d with held := true, failAt := if d.held then d.failAt else s.now, failed := addOnce d.failed u }
    let s := (s.bump (portIx p) 0 0x30 lost).event 0x0B01 [u, p, lost]
    (s.beginFailover u).impair

/-- FRAME_UNIT_FAULT. -/
def execFrameUnitFault (u : Fin 1088) (s : State) : Host.Outcome State Fault Refusal :=
  .next (if s.unitGood u.val then s.failFrameUnit u.val else s)

/-- A spare takes the place of a failed unit of a port; with none left the port goes DOWN (R122). -/
def State.replaceUnit (p at_ : Nat) (s : State) (u : Nat) : State :=
  let role := s.cell 0x2500 u 5
  let spare := s.freeSpare
  let s := (s.setUnit u 0xFFFF 0).takeSpare p role |>.2
  match spare with
  | none => s
  | some k =>
    let s := ((s.setCell 0x1401 u 0xB k).inc (portIx p) 0x33).inc 0x1402 4
    (s.event 0x0B02 [p, u, k, s.now - at_]).edge 0x7AE

/-- FAILOVER_COMPLETE: spares serve the places of the failed units of a port (R364). -/
def execFailoverComplete (p : Port) (s : State) : Host.Outcome State Fault Refusal :=
  let d := s.sched p.val
  .next <|
    if !d.held then s
    else
      let s := d.failed.foldl (State.replaceUnit p.val d.failAt) s
      let s := s.setSched p.val { s.sched p.val with held := false, failed := [] }
      d.failed.foldl State.endFailover ((s.refreshPort p.val 1 true).impair)

/-! ### Cipher lanes (R121, R366) -/

/-- The lowest spare that has taken no role. -/
def State.spareLane (s : State) : Option Nat :=
  [32, 33].find? fun l => decide (s.cell 0x9311 l 4 = 3) && s.unitGood (laneRow l)

/-- The role of a failed lane passes to a spare, or to its partner, which then carries both; answers the lane. -/
def State.passRole (s : State) (l role : Nat) : Nat × State :=
  let s := s.setCells 0x9311 l [(4, 4), (5, 0xFF), (6, s.tai)]
  match s.spareLane with
  | some k =>
    (k, (s.setCells 0x9311 k [(4, if role % 4 < 2 then 1 else 2), (5, role), (6, s.tai)]).event 0x0384 [l, k])
  | none =>
    let k := s.laneOf (role ^^^ 1)
    (k, (s.withFlt fun f => { f with shared := addOnce f.shared k }).event 0x0385 [l, k])

/-- Streams of a lane name the lane that takes its role. -/
def State.renameLane (s : State) (l k : Nat) : State :=
  s.streamRows.foldl (fun s i =>
    let s := if s.cell 0x9312 i 4 = l then s.setCell 0x9312 i 4 k else s
    if s.cell 0x9312 i 5 = l then s.setCell 0x9312 i 5 k else s) s

/-- The passes and jobs of a lane start again on another: every block of their work is to be done again, and the churn of a pass is
zeroed (R366); answers how many. -/
def State.moveWork (s : State) (l k : Nat) : Nat × State :=
  let n := (s.cip.passes.filter fun x => x.lane == l).length + (s.cip.jobs.filter fun j => !j.done && j.lane == some l).length
  let s := { s with cip := { s.cip with
    passes := s.cip.passes.map (fun (x : Pass) => if x.lane = l then { x with lane := k, start := none, churn := [] } else x)
    jobs := s.cip.jobs.map (fun (j : Job) => if !j.done && j.lane == some l then { j with lane := some k } else j)
    work := s.cip.work.map (fun (x : LaneWork) => if x.lane = l then { x with lane := k, left := workBlocks x.bytes } else x) } }
  (n, s.wakeLane k)

/-- Ports whose frame on the wire streams from an encryption lane. -/
def State.streaming (s : State) (l : Nat) : List Nat :=
  (s.net.sched.filter fun e =>
    e.2.wire.any (fun x => x.pn.isSome) && decide (s.laneOf (homeEncrypt (s.leadLane e.1)) = l)).map (·.1)

/-- A cipher lane fails. -/
def State.failLane (s : State) (l : Nat) : State :=
  let role := s.cell 0x9311 l 5
  let spare := decide (s.cell 0x9311 l 4 = 3)
  let cut := s.streaming l
  let s := (s.failUnit (laneRow l)).edge (0x761 + l)
  if spare then (s.setCells 0x9311 l [(4, 4), (5, 0xFF), (6, s.tai)]).enterRecovery.leaveRecovery
  else
    let s := cut.foldl State.cutBack s
    let q := s.passRole l role
    let k := q.1
    let r := (q.2.renameLane l k).moveWork l k
    let s := r.2.withFlt fun f => { f with taking := NMap.put none f.taking l (some k) }
    let s := ((s.setCell 0x1401 (laneRow l) 0xB k).inc 0x1402 5).event 0x0B03 [l, k, r.1]
    (s.beginFailover (laneRow l)).impair

/-- CIPHER_LANE_FAULT. -/
def execCipherLaneFault (l : CipherLane) (s : State) : Host.Outcome State Fault Refusal :=
  .next (if s.unitGood (laneRow l.val) then s.failLane l.val else s)

/-- CIPHER_LANE_RESTART_COMPLETE: the passes and jobs of the lane have restarted; impairment ends. -/
def execCipherLaneRestartComplete (l : CipherLane) (s : State) : Host.Outcome State Fault Refusal :=
  .next <|
    if !s.flt.recovering.contains (laneRow l.val) then s
    else ((s.withFlt fun f => { f with taking := NMap.put none f.taking l.val none }).impair).endFailover (laneRow l.val)

/-! ### Loop cores (R367, R368) -/

/-- A core fails. -/
def State.failCore (s : State) (c : Nat) : State :=
  let free := ((List.range 16).filter fun t => s.forkable (16 * c + t)).length
  let s := ((s.failUnit (coreRow c)).edge (0x783 + c)).setOb 0x9400 6 (s.ob 0x9400 6 - free)
  let s := if c = 8 && s.thr.backup then ({ s with thr := { s.thr with backup := false } }).event 0x0B07 [] else s
  s.beginFailover (coreRow c)

/-- LOOP_CORE_FAULT. -/
def execLoopCoreFault (c : Fin 16) (s : State) : Host.Outcome State Fault Refusal :=
  .next (if s.unitGood (coreRow c.val) then s.failCore c.val else s)

/-- The role of a thread restarts on the free thread that FORK would choose, and the pool handles it held become free; answers
whether it moved. -/
def State.moveThread (s : State) (n : Nat) : Bool × State :=
  let s := (s.dropRuns n).orphan n
  let s := (((s.endLeasesOf (threadMaster n) 8).dmaThreadGone n).freeHeld n).dropActive n
  match s.freeThread (n / 16) with
  | none => (false, s)
  | some k =>
    let d := s.thread n
    let s := s.setThread k { entry := d.entry, arg := d.arg, privilege := d.privilege }
    let s := (s.setCells 0x93F0 k [(4, s.role n), (9, s.cell 0x93F0 n 9)]).setOb 0x9400 6 (s.ob 0x9400 6 - 1)
    let s := (s.setCells 0x93F0 n [(4, 0), (5, 0), (6, 0), (7, 0), (9, 0xFFFF)]).setThread n {}
    (true, (s.mapThread n k).restartThread k)

/-- Threads of a failed core whose role restarts elsewhere: services and forked roles. -/
def State.toMove (s : State) (c : Nat) : List Nat :=
  ((List.range 16).map (16 * c + ·)).filter fun n => s.role n = 3 || (s.role n = 5 && s.thSt n ≠ 0)

/-- The failover of a core. -/
def State.moveCore (s : State) (c : Nat) : State :=
  let ns := s.toMove c
  let r := ns.foldl (fun x n => let y := x.2.moveThread n; (x.1 + y.1.toNat, y.2)) (0, s)
  let cells := r.2.cellsOf c
  let s := r.2.replaceCells c
  let placed := (cells.filter fun i => (s.placeOf i).isSome).length
  ((s.inc 0x1402 6).event 0x0B04 [c, r.1, placed]).endFailover (coreRow c)

/-- LOOP_CORE_FAILOVER_COMPLETE: the supervisor, on a core that runs, has restarted the roles of a failed core. -/
def execLoopCoreFailoverComplete (c : Fin 16) (s : State) : Host.Outcome State Fault Refusal :=
  .next (if s.flt.recovering.contains (coreRow c.val) && s.ob 0x9400 1 / 16 ≠ c.val then s.moveCore c.val else s)

/-! ### Fabric links (R370) and HBM stacks (R371) -/

/-- Outstanding reads of a port whose completions were in flight on the host die's link. -/
def State.loseReads (s : State) (hp : Nat) : State :=
  ((s.tags hp).filter fun t => t.quarantine.isNone).foldl (fun s t => s.timeoutTag hp t) s

/-- FABRIC_LINK_REPAIR: a link retrains onto its spare lane; frames in flight are lost. -/
def execFabricLinkRepair (link : Fin 5) (lost : Nat) (s : State) : Host.Outcome State Fault Refusal :=
  let k := link.val
  .next <|
    if s.flt.deadLinks.contains k || s.flt.training.contains k then s
    else
      let ports := (s.net.sched.map (·.1)).filter fun p => decide (dieLink p = k)
      let s := ports.foldl (fun s p => (s.settle p).unselect p) s
      let s := s.withFlt fun f => { f with training := addOnce f.training k, linkLost := NMap.put 0 f.linkLost k lost }
      let s := s.bump 0x1402 0 0xC lost
      let s := if k = 0 then (s.loseReads 0).loseReads 1 else s
      s.impair

/-- A link is retired: the ports of its lane die go DOWN, or both host faces end. -/
def State.retireLink (s : State) (k : Nat) : State :=
  let s := (s.setHealth (linkRow k) 2).withFlt fun f =>
    { f with training := f.training.filter (· != k), deadLinks := addOnce f.deadLinks k }
  let s := if k = 0 then (s.hostReset 0 4).hostReset 1 4
    else ((List.range 256).map (256 * (k - 1) + ·)).foldl (fun s p => s.refreshPort p 1 true) s
  s.enterRecovery.leaveRecovery.impair

/-- FABRIC_LINK_RETRAINED: the link returns, retrains once more, or is retired; the outcome of 0x0B05 is 1, 2 or 3 (log
entry 50). -/
def execFabricLinkRetrained (link : Fin 5) (ok : Bool) (s : State) : Host.Outcome State Fault Refusal :=
  let k := link.val
  let lost := NMap.at 0 s.flt.linkLost k
  let n := NMap.at 0 s.flt.retrains k + 1
  .next <|
    if !s.flt.training.contains k then s
    else if ok then
      let s := s.withFlt fun f => { f with training := f.training.filter (· != k) }
      (((s.inc 0x1402 7).event 0x0B05 [k, lost, 1]).impair).drainReads 0 |>.drainReads 1
    else
      let s := s.withFlt fun f => { f with retrains := NMap.put 0 f.retrains k n }
      if n < 2 then s.event 0x0B05 [k, lost, 2] else (s.event 0x0B05 [k, lost, 3]).retireLink k

/-- Discard the waiting copies of buffers, counted in :31 of their ports. -/
def State.discardHandles (s : State) (hs : List Nat) : State :=
  (s.net.queues.map (·.1)).foldl (fun s row =>
    let q := s.queue row
    let gone := q.filter fun c => hs.contains c.handle
    let s := s.setQueue row (q.filter fun c => !hs.contains c.handle)
    gone.foldl (fun s c =>
      let s := if row < 8192 then s.inc (portIx (row / 8)) 0x31 else s
      s.discardCopy row c) s) s

/-- Handles of spilled frames that wait, without repeats. -/
def State.spilled (s : State) : List Nat :=
  (s.net.queues.flatMap fun e => (e.2.map (·.handle)).filter fun h => (s.buf h).any (·.hbm)).eraseDups

/-- The spilled frames that a failed stack held: which stack holds a buffer is open (log entry 5). -/
def State.onStack (s : State) : List Nat → List Nat × State
  | [] => ([], s)
  | h :: r =>
    let (f, s) := s.draw
    let q := s.onStack r
    (if f % 2 = 0 then h :: q.1 else q.1, q.2)

/-- HBM_STACK_FAILURE. -/
def execHbmStackFailure (stack : Fin 2) (s : State) : Host.Outcome State Fault Refusal :=
  .next <|
    if !s.unitGood (hbmRow stack.val) then s
    else
      let s := (s.failUnit (hbmRow stack.val)).withFlt fun f => { f with deadHbm := addOnce f.deadHbm stack.val }
      let q := s.onStack s.spilled
      let s := (q.2.discardHandles q.1).event 0x0B0C [stack.val, q.1.length]
      s.enterRecovery.leaveRecovery

/-! ### Memory errors (R360, R361) -/

/-- CORRECTABLE_ERROR: counted; a row with more than 16 in any 24 h is degraded. -/
def execCorrectableError (row : Fin 1148) (s : State) : Host.Outcome State Fault Refusal :=
  let r := row.val
  let ts := (s.now :: NMap.at [] s.flt.correct24 r).take 17
  let s := (s.bump 0x1401 r 8 1).withFlt fun f => { f with correct24 := NMap.put [] f.correct24 r ts }
  let many := decide (ts.length = 17) && ts.getLast?.any (fun t => decide (s.now ≤ t + 86400000000000))
  .next (if many && s.health r = 0 then (s.setHealth r 3).event 0x0B08 [r, s.cell 0x1401 r 8] else s)

/-- Structure code and address of an error in 0x0B09, in the order of Table 16-1 (log entry 48). -/
def memCode : MemUnit → Nat × Nat
  | .packetData h _ => (1, h)
  | .control => (2, 0)
  | .ternaryRow r => (3, r)
  | .actionRow _ r => (4, r)
  | .meterRow r => (5, r)
  | .cacheEntry r => (6, r)
  | .hbmTable k => (7, k.val)
  | .hbmSpill h _ => (8, h)
  | .coreSram n => (9, n.val)
  | .imageSlot k => (10, k.val)
  | .loopSram => (11, 0)
  | .cipherLane l => (12, l.val)
  | .frameUnit u => (13, u.val)
  | .loopCore c => (14, c.val)
  | .dmaSource c => (15, c.val)

/-- The row of 0x1401 that counts an uncorrectable error, where the structure belongs to a unit. -/
def memRow : MemUnit → Option Nat
  | .packetData _ _ => some 1147
  | .hbmTable k => some (hbmRow k.val)
  | .coreSram n => some (coreRow (n.val / 16))
  | .cipherLane l => some (laneRow l.val)
  | .frameUnit u => some u.val
  | .loopCore c => some (coreRow c.val)
  | _ => none

/-- The error is in frame data: a frame of the port that has started is ended on the wire, every other copy is discarded at
dequeue. -/
def State.badData (s : State) (h p : Nat) : State :=
  let ports := (s.net.sched.filter fun e => e.2.selected.any fun x => x.copy.handle == h).map (·.1)
  let s := ports.foldl (fun s p => (s.settle p).unselect p) s
  let s := match (s.sched p).wire with
    | some x =>
      if x.copy.handle = h then
        (((s.settle p).setSched p { s.sched p with wire := none, free := 0 }).emit (.frame p x.bytes true)).dropCopy h
      else s
    | none => s
  { s with net := { s.net with
      queues := s.net.queues.map fun e => (e.1, e.2.map fun c => if c.handle = h then { c with bad := true } else c) } }

/-- A reload from HBM begins. -/
def State.startReload (s : State) (ix row : Nat) : State :=
  s.withFlt fun f => { f with reloading := addOnce f.reloading (ix * 2 ^ 32 + row) }

/-- The action of Table 16-1. -/
def State.memoryFault (s : State) : MemUnit → State
  | .packetData h p => s.badData h p.val
  | .control => s.requestWarm
  | .ternaryRow r => s.withFlt fun f => { f with badRows := addOnce f.badRows r }
  | .actionRow ix r => s.startReload ix r
  | .meterRow r => s.startReload 0x3800 r
  | .cacheEntry r => s.startReload 0x5010 r
  | .hbmTable _ => s
  | .hbmSpill h _ => s.discardHandles [h]
  | .coreSram n => s.faultThread n.val 3
  | .imageSlot k =>
    { s with loop := NMap.putBytes s.loop (256 * k.val) (NMap.bytes (s.backup.getD []) (256 * k.val) 256) }
  | .loopSram => s.requestWarm
  | .cipherLane l => if s.unitGood (laneRow l.val) then s.failLane l.val else s
  | .frameUnit u => if s.unitGood u.val then s.failFrameUnit u.val else s
  | .loopCore c => if s.unitGood (coreRow c.val) then s.failCore c.val else s
  | .dmaSource _ => s

/-- An uncorrectable error is counted, logged, and acted on as Table 16-1 gives. -/
def State.uncorrectable (s : State) (u : MemUnit) : State :=
  let s := match memRow u with
    | some r => s.bump 0x1401 r 9 1
    | none => s
  (s.event 0x0B09 [(memCode u).1, (memCode u).2]).memoryFault u

/-- UNCORRECTABLE_ERROR; one that a DMA channel's read access finds ends its operation with MEMORY first (Table 13-3). -/
def execUncorrectableError (u : MemUnit) (s : State) : Host.Outcome State Fault Refusal :=
  .next <| match u with
    | .dmaSource ch => match s.dmaSource ch.val with
      | some u => (s.cutDma ch.val 7 0).uncorrectable u
      | none => s
    | u => s.uncorrectable u

/-- SCRUB: every protected memory has been read. -/
def execScrub (s : State) : Host.Outcome State Fault Refusal :=
  .next (s.withFlt fun f => { f with scrubbed := s.now })

/-- TERNARY_ROW_REWRITE: a row that failed parity holds its HBM copy again (R361). -/
def execTernaryRowRewrite (row : Nat) (s : State) : Host.Outcome State Fault Refusal :=
  .next <|
    if !s.flt.badRows.contains row then s
    else (s.withFlt fun f => { f with badRows := f.badRows.filter (· != row) }).event 0x0B0A [row]

/-- An entry has been reloaded. -/
def State.endReload (s : State) (ix row : Nat) : State :=
  s.withFlt fun f => { f with reloading := f.reloading.filter (· != ix * 2 ^ 32 + row) }

/-- ENTRY_RELOAD: an entry holds its HBM copy again; a meter reloads with full buckets. -/
def execEntryReload (u : MemUnit) (s : State) : Host.Outcome State Fault Refusal :=
  .next <| match u with
    | .actionRow ix r => s.endReload ix r
    | .cacheEntry r => s.endReload 0x5010 r
    | .meterRow r =>
      if !s.reloads 0x3800 r then s
      else
        (s.endReload 0x3800 r).setCells 0x3800 r
          [(0x10, s.cell 0x3800 r 8 * 8000000), (0x11, s.cell 0x3800 r 0xA * 8000000)]
    | _ => s

/-! ### Log and availability (R372, R375) -/

/-- LOG_FLUSH. -/
def execLogFlush (s : State) : Host.Outcome State Fault Refusal := .next s.flushLog

/-- AVAILABILITY_UPDATE. -/
def execAvailabilityUpdate (s : State) : Host.Outcome State Fault Refusal := .next s.writeAvailability

/-! ### Fozon link and pair (R373, R374) -/

/-- FOZON_LINK_CHANGE. -/
def execFozonLinkChange (st width : Nat) (s : State) : Host.Outcome State Fault Refusal :=
  .next <|
    if s.ob 0xC000 3 = st && s.ob 0xC000 4 = width then s
    else ((s.setCells 0xC000 0 [(3, st), (4, width)]).event 0x0B10 [st, width]).edge 0x7AF

/-- Units that are failed or retired. -/
def State.badUnits (s : State) : Nat :=
  (s.dict.filter fun e => decide (e.1 / 2 ^ 40 = 0x1401) && decide (e.1 % 256 = 6) && (e.2 == 1 || e.2 == 2)).length

/-- Pair messages pass: pair enabled and the link up. -/
def State.pairOn (s : State) : Bool := s.ob 0xC000 1 = 1 && s.ob 0xC000 3 = 2

/-- PAIR_MESSAGE_SEND; `offset` of a message sent carries the timestamp. -/
def execPairMessageSend (s : State) : Host.Outcome State Fault Refusal :=
  .next <|
    if !s.pairOn then s
    else s.emit (.pair { node := s.ob 0x1010 1, devState := s.devState, failed := s.badUnits, committed := s.ob 0x1301 3,
                         firmware := s.ob 0x1000 5, offset := s.tai })

/-- The partner enters a state. -/
def State.setPartner (s : State) (st : Nat) : State :=
  if s.ob 0xC000 5 = st then s else ((s.setOb 0xC000 5 st).event 0x0B0F [st, s.ob 0xC000 2]).edge 0x7AF

/-- PAIR_MESSAGE: from the partner it updates 0xC000, `offset` being the offset measured at its arrival, and its records join
the log with PARTNER set; with another node id it is discarded. -/
def execPairMessage (m : PairMsg) (s : State) : Host.Outcome State Fault Refusal :=
  .next <|
    if !s.pairOn then s
    else if m.node ≠ s.ob 0xC000 2 then s.event 0x0B0F [s.ob 0xC000 5, m.node]
    else
      let s := (s.withFlt fun f => { f with pairLast := s.now }).setPartner 1
      let s := s.setCells 0xC000 0 [(6, m.devState % 256), (7, m.committed % 2 ^ 32), (8, m.firmware % 2 ^ 32),
        (9, m.failed % 65536), (0xA, encI 32 m.offset)]
      m.records.foldl (fun s e => s.stageRecord { e with partner := true }) s

/-- PARTNER_LOST: no message for 100 µs while the partner was PRESENT. -/
def execPartnerLost (s : State) : Host.Outcome State Fault Refusal :=
  .next (if s.ob 0xC000 5 = 1 && s.flt.pairLast + 100000 ≤ s.now then (s.setPartner 2).inc 0xC000 0xC else s)

end Sys2Proof.Machine
end

