-- ==== Sys2Proof/Machine/Startup.lean ====
section
/-! DEFINITION. Power sequencing (R339–R341, R358), the device resets and what each clears (R335–R338), boot, the
load of the configuration and the entry into SERVICE (R344–R347, R351). -/

namespace Sys2Proof.Machine

/-! ### Rails (R339–R341) -/

/-- Rows of 0xB100 and set-points (mV) of the rails by step (Table 15-4). -/
def railSteps : List (List (Nat × Nat)) :=
  [[(0, 800)], [(1, 800)], [(2, 900), (4, 900)], [(3, 1200)], [(7, 1800)], [(5, 1100)], [(6, 400)], [(8, 1800)]]

/-- Enable a rail: its set-point, then OPERATION on. -/
def State.railOn (s : State) (r : Nat × Nat) : State := (s.pmbus r.1 0x21 r.2).pmbus r.1 0x01 0x80

/-- Enable the rails of the next step. -/
def State.nextRails (s : State) : State :=
  ((railSteps.getD s.pwr.railStep []).foldl State.railOn s).withPwr fun p => { p with railStep := p.railStep + 1 }

/-- Turn every enabled rail off, in reverse order (R341). -/
def State.railsOff (s : State) : State :=
  let on := (railSteps.take s.pwr.railStep).flatten.reverse
  (on.foldl (fun s r => s.pmbus r.1 0x01 0) s).withPwr fun p => { p with railStep := 0, pwrOk := false }

/-- RAIL_ENABLE: every rail of the step before reports POWER_GOOD. -/
def execRailEnable (s : State) : Host.Outcome State Fault Refusal :=
  .next (if s.pwr.inReset && s.pwr.vaux && !s.pwr.lockout && s.pwr.railStep < 8 then s.nextRails else s)

/-- SEQUENCE_FAILURE: the rails go off, the attempt is recorded, and the third locks the rails (R340). -/
def execSequenceFailure (rail status : Nat) (s : State) : Host.Outcome State Fault Refusal :=
  .next <|
    if !s.pwr.inReset || s.pwr.railStep = 0 || s.pwr.pwrOk then s
    else
      let n := s.pwr.seqTries + 1
      s.railsOff.withPwr fun p =>
        { p with seqTries := n, seqRec := some (rail, n, status), lockout := decide (3 ≤ n) }

/-- SEQUENCE_RETRY: the sequence starts again 1 s after a failed attempt. -/
def execSequenceRetry (s : State) : Host.Outcome State Fault Refusal :=
  let again := 0 < s.pwr.seqTries && !s.pwr.lockout && s.pwr.railStep = 0 && s.pwr.vaux && s.pwr.inReset
  .next (if again then s.nextRails else s)

/-- POWER_SEQUENCE_RESTART: after a PWR_OK loss, with SUPPLY_WARN_N high and VAUX_3V3 present (R358). -/
def execPowerSequenceRestart (s : State) : Host.Outcome State Fault Refusal :=
  .next <|
    if s.pwr.lossRec.isSome && s.pwr.inReset && !s.pwr.pwrOk && !s.pwr.warnLow && s.pwr.vaux && s.pwr.railStep = 0 then
      s.nextRails
    else s

/-! ### What a reset keeps (Table 15-3) -/

/-- A reset code is a warm reset (Table 15-2). -/
def warmCode (code : Nat) : Bool := code == 5 || code == 7

/-- The flash devices, the always-on domain and the pins; the rest of the power record starts anew. -/
def Power.kept (p : Power) : Power :=
  { fwA := p.fwA, fwB := p.fwB, cfgA := p.cfgA, cfgB := p.cfgB, replay := p.replay, journal := p.journal,
    attempts := p.attempts, booted := p.booted, watchRec := p.watchRec, lossRec := p.lossRec, railStep := p.railStep,
    seqTries := p.seqTries, seqRec := p.seqRec, lockout := p.lockout, resetLow := p.resetLow, pwrOk := p.pwrOk,
    warnLow := p.warnLow, vaux := p.vaux, cutCommit := p.commit.isSome, cutFw := p.fwJob.isSome || p.switching.isSome }

/-- The power record when VAUX_3V3 has been away: only flash is kept. -/
def Power.cold (p : Power) : Power :=
  { fwA := p.fwA, fwB := p.fwB, cfgA := p.cfgA, cfgB := p.cfgB, replay := p.replay, journal := p.journal,
    cutCommit := p.commit.isSome, cutFw := p.fwJob.isSome || p.switching.isSome }

/-- What is in flash 1 of the fault record. -/
def Faults.kept (f : Faults) : Faults := { unitRec := f.unitRec, availRec := f.availRec }

/-- The log in flash; its sequence goes on from there (R372). -/
def EventLog.kept (l : EventLog) : EventLog := 
  { flash := l.flash, seq := ((l.flash.head?.map (·.seq + 1)).getD 1) % 2 ^ 32 }

/-- PERST_N and the wake logic of the host ports; no map is applied and VF Enable is clear. A link that stays up keeps what its
training took. -/
def HostFace.kept (h : HostFace) (links : Bool) : HostFace :=
  { ports := [0, 1].foldl (fun m p =>
      let d : PortDyn := NMap.at {} h.ports p
      let k : PortDyn := { perst := d.perst, wake := d.wake, wakeFn := d.wakeFn }
      NMap.put {} m p (if links then { k with trained := d.trained, inForce := d.inForce } else k)) [] }

/-- A state in which only what survives every device reset with VAUX_3V3 present is left. -/
def State.hardKept (s : State) : State :=
  { pending := s.pending, out := s.out, free := s.free, log := s.log.kept, flt := s.flt.kept, pwr := s.pwr.kept,
    net := { refLost := s.net.refLost }, hst := s.hst.kept false,
    rng := { retained := s.rng.retained, retainedOk := s.rng.retainedOk } }

/-- A state in which only flash, references and the levels of PERST_N are left. -/
def State.coldKept (s : State) : State :=
  { pending := s.pending, out := s.out, free := s.free, log := s.log.kept, flt := s.flt.kept, pwr := s.pwr.cold,
    net := { refLost := s.net.refLost }, hst := s.hst.kept false }

/-- A register of the MSI-X table or of the configuration space of a PF0; NumVFs is cleared (R337). -/
def keptReg (k : Nat) : Bool :=
  let owner := k / 2 ^ 26
  let off := k % 2 ^ 26
  (within 1 2 owner && within 0x400000 0x407FFF off)
    || (within (configOwner 1) (configOwner 2) owner && decide (off ≠ capSriov + 0x10))

/-- Configuration state of a PF0 across a warm reset. -/
def FuncDyn.warm (f : FuncDyn) : FuncDyn := { busMaster := f.busMaster, dstate := f.dstate, pmeStatus := f.pmeStatus }

/-- The outstanding tags of a port are quarantined; the free-running counter starts again at 0 (R337, Table 10-9). -/
def State.warmTags (s : State) (hp : Nat) : List Tag :=
  (s.tags hp).map fun t =>
    { t with quarantine := some ((t.quarantine.map (· - s.now)).getD (2 * s.timeoutOf t.master)) }

/-- What a warm reset keeps beyond a hard one: host links in L0 with PF0 configuration space and MSI-X table, and the
process-image backup. -/
def State.keepWarm (s old : State) : State :=
  let s := { s with
    backup := old.backup
    regs := old.regs.filter fun e => keptReg e.1
    hst := { old.hst.kept true with
      funcs := [1, 2].foldl (fun (m : NMap FuncDyn) (f : Nat) => NMap.put {} m f (FuncDyn.warm (NMap.at {} old.hst.funcs f))) []
      nextTag := old.hst.nextTag } }
  let s := [0, 1].foldl (fun s hp =>
    s.setCells (hostIx hp) 0 ([0x10, 0x11, 0x12].map fun k => (k, old.ob (hostIx hp) k))) s
  (s.setTags 0 (old.warmTags 0)).setTags 1 (old.warmTags 1)

/-! ### A reset begins (R335, R336) -/

/-- Outputs that a reset stops: the frames on the wire end, VDD_CORE returns to 0.80 V (R342), TRIP_N is released. -/
def State.stopOutputs (s : State) : State :=
  let s := s.net.sched.foldl (fun (s : State) e => match e.2.wire with
    | some x => s.emit (.frame e.1 x.bytes true)
    | none => s) s
  let s := if s.pwr.railStep = 0 then s else s.setCore 800
  if s.inHold then s.emit (.pin "TRIP_N" true) else s

/-- A reset of a code of Table 15-2 begins: the device is in START, held in reset, and the change of state is logged. -/
def State.beginReset (s : State) (code : Nat) : State :=
  let old := s.devState
  let n := s.ob 0x1300 3
  let was := s.stopOutputs
  let s := if code = 1 then was.coldKept else was.hardKept
  let s := if warmCode code then s.keepWarm was else s
  let s := s.withPwr fun p => { p with inReset := true, cause := code }
  let s := (s.setOb 0x1300 2 code).setOb 0x1300 3 (if code = 1 then 0 else (n + 1) % 2 ^ 32)
  if code = 1 || old = 0 then s else s.event 0x0102 [old, 0]

/-- POWER_ON: VAUX_3V3 rises; the rails are off and wait for their sequence. -/
def execPowerOn (s : State) : Host.Outcome State Fault Refusal := .next (s.railsOff.beginReset 1)

/-- VAUX_3V3_LOSS: everything but flash is lost. -/
def execVaux3v3Loss (s : State) : Host.Outcome State Fault Refusal :=
  .next ((s.railsOff.beginReset 1).withPwr fun p => { p with vaux := false })

/-- RESET_N_ASSERT: RESET_N has been low for 10 µs. -/
def execResetNAssert (s : State) : Host.Outcome State Fault Refusal :=
  .next ((s.beginReset 2).withPwr fun p => { p with resetLow := true })

/-- PWR_OK_LOSS: PWR_OK has been low for 1 µs (R358). -/
def execPwrOkLoss (s : State) : Host.Outcome State Fault Refusal :=
  .next (if s.pwr.pwrOk then ((s.withPwr fun p => { p with lossRec := some s.tai }).railsOff).beginReset 3 else s)

/-! ### Requested resets and the watchdog (R337, R338) -/

/-- The rule of 0x1300:01. -/
def resetRule : WriteRule where
  check s _ x := firstBad
    [ require (x == 1 || x == 2) stRange
    , require ((s.devState == 1 || s.devState == 2) && !s.committing && s.pwr.fwJob.isNone && s.pwr.switching.isNone
        && s.pwr.pendingReset.isNone) stState ]
  act s v x := .done stOk [] <|
    if x = 1 then (s.setOb 0x1300 8 1).startCommit (masterOf v) (some 5)
    else s.withPwr fun p => { p with pendingReset := some 4 }

/-- WARM_RESET_REQUEST: a write to 0x1300:01; 1 commits, and the reset follows. -/
def execWarmResetRequest (v : Via) (data : Bytes) (s : State) : Host.Outcome State Fault Refusal :=
  .next (s.writeItem v 0x1300 1 data resetRule)

/-- HARD_RESET_REQUEST: a write to 0x1300:01; 2 begins a hard reset after its response. -/
def execHardResetRequest (v : Via) (data : Bytes) (s : State) : Host.Outcome State Fault Refusal :=
  .next (s.writeItem v 0x1300 1 data resetRule)

/-- DEVICE_RESET: the reset that was requested begins. -/
def execDeviceReset (cause : Nat) (s : State) : Host.Outcome State Fault Refusal :=
  .next (if s.pwr.pendingReset = some cause then s.beginReset cause else s)

/-- WATCHDOG_WRITE: the active supervisor writes the watchdog. -/
def execWatchdogWrite (n : Thread) (s : State) : Host.Outcome State Fault Refusal :=
  .next (if n.val = s.ob 0x9400 1 && s.thSt n.val = 2 then s.withPwr fun p => { p with watchdog := s.now } else s)

/-- The watchdog has run out: 10 s from the release without SERVICE, or 2 s without a write after it. -/
def State.watchdogOut (s : State) : Bool :=
  !s.pwr.inReset && (if s.devState = 0 then decide (s.pwr.released + 10000000000 ≤ s.now)
    else within 1 3 s.devState && !(s.inHold && s.pwr.heldFrom = 0) && decide (s.pwr.watchdog + 2000000000 ≤ s.now))

/-- WATCHDOG_EXPIRY: a hard reset of code 6; a boot that ended before SERVICE counts as an attempt (R344). -/
def execWatchdogExpiry (s : State) : Host.Outcome State Fault Refusal :=
  .next <|
    if !s.watchdogOut then s
    else
      let s := s.withPwr fun p =>
        { p with watchRec := some s.devState, attempts := p.attempts + (decide (s.devState = 0)).toNat }
      s.beginReset 6

/-! ### The release: boot (R344) -/

/-- A firmware bank is retired. -/
def State.retireBank (s : State) (n cause : Nat) : State :=
  (s.setFwBank n { s.fwBank n with state := 0xF8 }).event 0x0104 [n, cause]

/-- Banks whose control block allows them, the higher sequence first. -/
def byAge (a b : Bank) : List Nat :=
  if a.live && b.live then (if b.sequence < a.sequence then [0, 1] else [1, 0])
  else (if a.live then [0] else []) ++ (if b.live then [1] else [])

/-- The first bank whose signature verifies; one that fails is retired. -/
def State.tryBanks (s : State) : List Nat → Option Nat × State
  | [] => (none, s)
  | n :: r => if (s.fwBank n).good then (some n, s) else (s.retireBank n 1).tryBanks r

/-- Select the bank to boot: one that the watchdog ended three times is retired first. -/
def State.selectBank (s : State) : Option Nat × State :=
  let s := if s.pwr.attempts < 3 then s
    else (s.retireBank s.pwr.booted 2).withPwr fun p => { p with attempts := 0 }
  s.tryBanks (byAge s.pwr.fwA s.pwr.fwB)

/-- A bank boots. -/
def State.bootBank (s : State) (n : Nat) : State :=
  let b := s.fwBank n
  let s := s.withPwr fun p =>
    { p with booted := n, datapath := b.datapath, attempts := if n = p.booted then p.attempts else 0 }
  let s := ((s.setOb 0x1300 5 n).setOb 0x1300 6 s.pwr.attempts).setOb 0x1000 5 b.version
  (s.event 0x0103 [n, b.sequence, b.version]).event 0x0101 [s.pwr.cause, n, s.pwr.attempts]

/-- Records that the always-on domain held (R338, R340, R358). -/
def State.logRecords (s : State) : State :=
  let s := match s.pwr.seqRec with
    | some (rail, n, status) => s.event 0x0A22 [rail, n, status]
    | none => s
  let s := match s.pwr.watchRec with
    | some st => s.event 0x010F [st]
    | none => s
  let s := match s.pwr.lossRec with
    | some t => s.event 0x0A24 (w64 t)
    | none => s
  s.withPwr fun p => { p with seqRec := none, seqTries := 0, watchRec := none, lossRec := none }

/-! ### The release: units (R362) -/

/-- The health of a unit after the self-test of a reset: a failed unit is retested, unless it has failed three times. -/
def retested (row h n : Nat) : Nat :=
  if h = 1 then (if n < 3 && Config.retestPasses row then 0 else 2) else h

/-- Load the health of a unit. -/
def State.loadUnit (s : State) (e : Nat × Nat × Nat) : State :=
  let row := e.1
  let h := retested row e.2.1 e.2.2
  let s := (s.setCell 0x1401 row 0xA e.2.2).setHealth row h
  if h = e.2.1 then s else s.event 0x0B0E [row, h]

/-- The role of a service thread of a bad core goes to a free thread. -/
def State.bootMove (s : State) (n : Nat) : State :=
  match s.freeThread (n / 16) with
  | none => s
  | some k =>
    let s := (s.setCell 0x93F0 k 4 3).setOb 0x9400 6 (s.ob 0x9400 6 - 1)
    (s.setCell 0x93F0 n 4 0).mapThread n k

/-- Place the work of cores and cipher lanes that are not good, and note retired links and stacks. -/
def State.placeUnits0 (s : State) : State :=
  let bad := fun (row : Nat) => !s.unitGood row
  let cores := (List.range 16).filter fun c => bad (coreRow c)
  let free := (cores.flatMap fun c => (List.range 16).map (16 * c + ·)).filter fun n => decide (s.role n = 0)
  let s := s.setOb 0x9400 6 (s.ob 0x9400 6 - free.length)
  let s := cores.foldl (fun s c =>
    (((List.range 16).map (16 * c + ·)).filter fun n => decide (s.role n = 3)).foldl State.bootMove s) s
  let s := if cores.contains 0 then ((s.setOb 0x9400 1 128).setCell 0x93F0 128 4 1).mapThread 0 128 else s
  let s := { s with thr := { s.thr with backup := !(cores.contains 0 || cores.contains 8) } }
  let s := ((List.range 34).filter fun l => bad (laneRow l)).foldl (fun s l =>
    if 32 ≤ l then s.setCells 0x9311 l [(4, 4), (5, 0xFF)] else (s.passRole l l).2) s
  s.withFlt fun f => { f with
    deadLinks := (List.range 5).filter fun k => bad (linkRow k)
    deadHbm := (List.range 2).filter fun k => bad (hbmRow k) }

/-- Load the unit record with its availability counters. -/
def State.loadUnits (s : State) : State :=
  let s := s.flt.unitRec.foldl State.loadUnit s
  let s := ((List.range 11).zip s.flt.availRec).foldl (fun s x => s.setOb 0x1402 (x.1 + 1) x.2) s
  let s := if s.pwr.cause = 6 || s.pwr.cause = 7 then
      (s.inc 0x1402 9).withFlt fun f => { f with restoring := true }
    else s
  (s.setOb 0x1402 0x10 ((s.log.flash.getLast?.map (·.seq)).getD 0)).placeUnits0

/-! ### The release: configuration (R30, R351) -/

/-- The first configuration bank whose CMAC verifies, with its place; one that fails is logged. -/
def State.tryConfigs (s : State) (place : Nat) : List Nat → Option (Nat × Nat) × State
  | [] => (none, s)
  | n :: r =>
    if (s.cfgBank n).good then (some (n, place), s)
    else (s.event 0x010C [n, (s.cfgBank n).sequence]).tryConfigs (place + 1) r

/-- A committed cell that is not loaded: stream meters and admission parts are installed by re-admission. -/
def notLoaded (k : Nat) : Bool :=
  let ix := k / 2 ^ 40
  (ix == 0x3800 && decide (k / 256 % 2 ^ 32 < 16384)) || (ix == 0x9301 && within 0xB 0x10 (k % 256))

/-- A DOMAIN object is a cell image. -/
def isImage (k : Nat) : Bool := within 0xA000 0xAFFF (k / 256)

/-- The DRBG of the object server draws a sealing key (R196, R209). -/
def State.newSealing (s : State) : State :=
  { s with free := s.free + 1, cip := { s.cip with sealing := Config.drbg 4 s.free 32 % 2 ^ 256 } }

/-- A committed key goes into its slot, unwrapped with the store key and wrapped under the sealing key (R196). -/
def State.loadKey (s : State) (e : Nat × Bytes) : State :=
  match keyUnwrap storeKeyBytes e.2 with
  | some k => s.setSlot e.1 k
  | none => s

/-- Install the committed values of a bank. -/
def State.installConfig (s : State) (b : Bank) : State :=
  let s := { s with
    dict := (b.cells.filter fun e => !notLoaded e.1).foldl (fun m e => NMap.set dictDefault m e.1 e.2) s.dict
    acc := { s.acc with
      blobs := (b.blobs.filter fun e => !isImage e.1).foldl (fun m e => NMap.put [] m e.1 e.2) s.acc.blobs } }
  b.keys.foldl State.loadKey s

/-- Load the configuration; answers the cell images. -/
def State.loadConfig (s : State) : NMap Bytes × State :=
  let (found, s) := s.tryConfigs 1 (byAge s.pwr.cfgA s.pwr.cfgB)
  match found with
  | none => ([], s.event 0x010B [0xFF, 0, 0])
  | some (n, place) =>
    let b := s.cfgBank n
    let s := (s.installConfig b).setCells 0x1301 0 [(3, b.sequence), (4, n), (8, place)]
    (b.blobs.filter fun e => isImage e.1, s.event 0x010B [n, b.sequence, place])

/-- The tables whose rows have owners (R15). -/
def ownerTable (ix : Nat) : Bool := [0x3800, 0x5010, 0x5011, 0x5100, 0x6010].contains ix

/-- Partitioned becomes active: every row takes the owner of its range (R15). -/
def State.rangeOwners (s : State) : State :=
  if s.partitioned then
    { s with dict := s.dict.filter fun e => !(ownerTable (e.1 / 2 ^ 40) && decide (e.1 % 256 = 5)) }
  else s

/-- Profile, carve and core reference take the committed values (R16, R113, R331). -/
def State.activate (s : State) : State :=
  let s := (s.setOb 0x1001 2 (s.ob 0x1001 1)).rangeOwners
  let shares := (List.range 4).map fun i => s.ob 0x9300 (0x10 + i)
  let s := s.setCells 0x9300 0 (((List.range 4).zip shares).map (fun x => (0x14 + x.1, x.2))
    ++ [(0x19, s.ob 0x9300 0x18), (0x1C, s.ob 0x9300 0x1A)])
  let s := s.setCells 0x9300 0 ((List.range 6).map fun c => (0x20 + c, s.classTotal c))
  let s := s.event 0x0383 (shares ++ [s.ob 0x9300 0x18])
  let r := s.ob 0x1203 1
  s.setOb 0x1203 2 (if s.coreRefHere r then r else 1 - r)

/-- General meters that are valid start with full buckets (R130). -/
def State.fillMeters (s : State) : State :=
  (rowsWith s.dict 0x3800 4).foldl (fun s r =>
    s.setCells 0x3800 r [(0x10, s.cell 0x3800 r 8 * 8000000), (0x11, s.cell 0x3800 r 0xA * 8000000)]) s

/-- A Dolux key in use accepts only counters above its recorded value plus 65,536 (R44). -/
def State.resumeKey (s : State) (e : Nat × Nat × Nat × Bool) : State :=
  let (k, hi, tx, used) := e
  if !used then s
  else
    let hi := hi + 65536
    let tx := tx + 65536
    let s := (s.setCell 0x1110 k 9 hi).setKey k { seen := (List.range 64).map fun i => hi - 1 - i, tx := tx }
    { s with pwr := { s.pwr with replay := NMap.put (0, 0, false) s.pwr.replay k (hi, tx, true) } }

/-- A transmit SA resumes above its mark; without one it is exhausted (R194, R195). -/
def State.resumeTransmit (s : State) (row : Nat) : State :=
  let m := s.mark row
  if m = 0 then ((s.setCell 0x6010 row 0x20 6).cpEvent (s.saTenant row) 1).event 0x0605 [row]
  else
    let was := s.nextPn row
    let next := max (s.saField row 0x13) m
    let last := if m = 2 ^ 64 - 1 then m else next - 1
    (s.setCells 0x6010 row
      [(0x13, next), (0x20, 4), (0x21, last), (0x27, min (2 ^ 24) (next - was))]).pnMoved row

/-- A receive SA resumes above the number last written (R195). -/
def State.resumeReceive (s : State) (row : Nat) : State :=
  let m := s.mark row
  s.setCells 0x6010 row
    [(0x13, max (m + 1) (s.saField row 0x13)), (0x20, 4), (0x21, max m (s.saField row 0x21))]

/-- A valid SA row resumes. -/
def State.resumeSa (s : State) (row : Nat) : State :=
  let use := s.saField row 6
  if use = 2 || use = 4 then s.resumeTransmit row
  else if use = 1 || use = 3 then s.resumeReceive row
  else s.setCell 0x6010 row 0x20 4

/-- Committed gate lists become pending lists (R346, R147). -/
def State.pendGates (s : State) : State :=
  let ps := s.acc.blobs.filterMap fun e =>
    if within 0x3400 0x37FF (e.1 / 256) && e.1 % 256 = 3 then some (e.1 / 256 - 0x3400) else none
  let s := ps.foldl (fun s p =>
    let b := s.blob (gateIx p) 3
    let s := (s.setOb (gateIx p) 5 (be b 8 8)).setShut p (gateList b)
    if s.timeValid then s.rebase p else s) s
  (s.gatePorts 1).foldl State.refreshGates s

/-- Lay out every lane: ports take their rates and frame units; lanes stay DISABLED. -/
def State.layoutAll (s : State) : State := (List.range 64).foldl (fun s l => s.layoutLane l 5 false) s

/-- The management lanes train where their reference is present. -/
def State.startMgmt (s : State) : State :=
  let s := if s.net.refLost.contains 0 then s else s.setMgmt .m0 1
  if s.net.refLost.contains 7 then s else s.setMgmt .m1 1

/-! ### The release: cells, sources, image (R283, R311, R347) -/

/-- Load and place a committed cell: its checks are not run again (R30), and one that fits nowhere is refused with cause 7. A
committed Active is applied as Armed (R311). -/
def State.bootCell (s : State) (e : Nat × Bytes) : State :=
  let c := e.1 / 256 - 0xA000
  let i := parseImage e.2
  let s := match s.findPlace (utilisation i.wcet i.period) (s.ob 0x9310 3) with
    | none => s.refuseImage c 7 0
    | some (k, t) => s.installImage c i e.2 k t
  let mode := if s.ob (cellIx c) 4 = 3 then 2 else s.ob (cellIx c) 4
  let s := s.setOb (cellIx c) 4 mode
  if (s.cellDyn c).image.isSome then s.changeMode c mode 4 else s

/-- Restore the event sources from the ids that the retention copy held at the release. -/
def State.restoreSources (s : State) (ids : List Nat) : State :=
  if !s.rng.retainedOk then
    ({ s with rng := { s.rng with retainedOk := true } }).event 0x0809 []
  else
    let back := ids.filter fun id => 2 ≤ s.cell 0x9100 id 4
    let s := back.foldl (fun s id => s.setSrc id 1) s
    let s := s.bump 0x9101 0 7 back.length
    let s := back.foldl State.deliverFor s
    let s := if s.pwr.warnLow then (s.levelOn 0x7A8).setOb 0xB000 4 1 else s
    if s.pwr.cause = 1 then s else s.event 0x0808 [back.length]

/-- After a warm reset the process image returns from its backup. -/
def State.restoreImage (s : State) : State :=
  if !warmCode s.pwr.cause then s
  else match s.backup with
    | some m => ({ s with loop := m }).event 0x0110 [1]
    | none => s.event 0x0110 [2]

/-! ### The release as a whole (R345) -/

/-- Threads of good cores start in their roles: executors wait for cells (R286). -/
def State.startThreads (s : State) : State :=
  let ns := (List.range 256).filter fun n => s.role n ≠ 0 && s.ob 0x9400 (0x10 + n / 16) = 0
  let s := ns.foldl (fun s n =>
    if s.role n = 4 && (s.runDeadline n).isNone then s.setThSt n 4 else s.setThSt n 1) s
  (List.range 16).foldl State.dispatch s

/-- What the reset cut shows in the commit and update objects (R350, R354). -/
def State.showCut (s : State) : State :=
  let s := if s.pwr.cutCommit then s.setCells 0x1301 0 [(2, 3), (9, 5)] else s
  let s := if s.pwr.cutFw then s.setCells 0x1302 0 [(3, 8), (0xC, 5)] else s
  (s.showBank 0).showBank 1

/-- The map of a port that differs from the committed one is pending (R230). -/
def State.noteMaps (s : State) : State := s.enabledTenants.foldl State.notePending s

/-- Firmware runs: it loads the configuration and everything that follows it, in the order of R30. The cipher engine is in its
self-test until SERVICE (R207, R345). -/
def State.startUp (s : State) (ids : List Nat) : State :=
  let s := s.logRecords.loadUnits
  let s := s.newSealing.newChallenge.showCut
  let (images, s) := s.loadConfig
  let s := s.activate.fillMeters.noteMaps
  let s := s.pwr.replay.foldl State.resumeKey s
  let s := (rowsWith s.dict 0x6010 4).foldl State.resumeSa s
  let s := s.layoutAll.startMgmt.pendGates.readmitAll
  let s := images.foldl State.bootCell s
  (s.restoreSources ids).restoreImage.startThreads

/-- The device can leave reset: rails on, the core reference present, VAUX_3V3 present. -/
def State.releasable (s : State) : Bool :=
  s.pwr.inReset && s.pwr.railStep = 8 && s.pwr.vaux && (s.coreRefHere 0 || s.coreRefHere 1)

/-- RESET_RELEASE: RESET_N and PWR_OK are high; the boot ROM selects a bank, or the device enters FAULT, where the host
ports train. -/
def execResetRelease (s : State) : Host.Outcome State Fault Refusal :=
  .next <|
    if !s.releasable then s
    else
      let s := s.withPwr fun p => { p with inReset := false, resetLow := false, pwrOk := true, released := s.now }
      let ids := s.rng.retained
      let (bank, s) := ({ s with rng := { s.rng with retained := [] } } : State).selectBank
      match bank with
      | some n => (s.bootBank n).startUp ids
      | none =>
        let s := ({ s with rng := { s.rng with retained := ids } } : State).setDev 4
        [0, 1].foldl (fun s hp => if (s.hport hp).perst || s.link hp ≠ 0 then s else s.train hp) s

/-! ### SERVICE (R345) -/

/-- A host port becomes ready: after a warm reset its map is applied, on a link that stayed up or not (R230, R337); else it
trains. -/
def State.readyPort (s : State) (hp : Nat) : State :=
  let s := if warmCode s.pwr.cause then s.applyMap hp else s
  if s.ob (hostIx hp) 1 = 0 || s.flt.deadLinks.contains 0 then s.setOb (hostIx hp) 0x10 0
  else if within 1 4 (s.link hp) || (s.hport hp).perst then s
  else s.train hp

/-- The self-tests of the entropy source and the DRBGs have passed, unless one has failed (R207). -/
def State.passTests (s : State) : State :=
  if s.ob 0x6000 1 = 0 then (s.setOb 0x6000 1 1).setOb 0x6020 1 1 else s

/-- SERVICE_ENTRY: the last step of start-up is done. -/
def execServiceEntry (s : State) : Host.Outcome State Fault Refusal :=
  .next <|
    if s.pwr.inReset || s.devState ≠ 0 then s
    else
      let s := (s.passTests.setDev 1).poolMode 0
      let s := s.withPwr fun p => { p with watchdog := s.now, attempts := 0 }
      let s := if s.ob 0x9001 2 = 1 then s.lockBinding (threadMaster (s.ob 0x9400 1)) else s
      let s := (List.range 64).foldl State.startLane s
      let s := (s.readyPort 0).readyPort 1
      s.setOb 0x1300 7 ((s.now - s.pwr.released) / 1000 % 2 ^ 32)

end Sys2Proof.Machine
end

