-- ==== Sys2Proof/Machine/Windows.lean ====
section
/-! DEFINITION. What a read of the dictionary returns (R20, R29, R36, R39), and the WINDOW objects up to their row actions:
each master's selector and staging (R24, R25), row ownership (R83, R84, R125, R191). -/

namespace Sys2Proof.Machine

/-- Change the dictionary's own state. -/
def State.withAcc (s : State) (f : Access → Access) : State := { s with acc := f s.acc }

/-! ### Ownership of rows (Tables 4-5, 4-6, 6-1, 8-3) -/

/-- How a table's rows are shared: its rows, those of T0000 in Partitioned (also its Pooled minimum), those of each other
tenant in Partitioned, and in Pooled the minimum and the cap of each other tenant. -/
structure Share where
  rows : Nat
  base : Nat
  per  : Nat
  min  : Nat
  cap  : Nat

/-- The share of a table with owners; of 0x3800 the general meters. -/
def shareOf (ix : Nat) : Share :=
  if ix = 0x5010 then ⟨4194304, 1048576, 768, 1024, 262144⟩
  else if ix = 0x5011 then ⟨65536, 16384, 12, 16, 2048⟩
  else if ix = 0x5100 then ⟨262144, 65536, 48, 0, 4096⟩
  else if ix = 0x6010 then ⟨131072, 16384, 28, 16, 4096⟩
  else ⟨49152, 16384, 8, 8, 2048⟩

/-- Rows that an owner has by the ranges of Partitioned; 0xFFFF stands for the unused rows. -/
def Share.ranged (h : Share) (t : Nat) : Nat :=
  if t = 0 then h.base else if t < 4096 then h.per else if t = 0xFFFF then h.rows - h.base - 4095 * h.per else 0

/-- The minimum of an owner in Pooled. -/
def Share.minimum (h : Share) (t : Nat) : Nat := if t = 0 then h.base else h.min

/-- Rows of a table whose owner is not that of their range, with their owners. -/
def State.moved0 (s : State) (ix : Nat) : List (Nat × Nat) :=
  s.dict.filterMap fun e =>
    if e.1 / 2 ^ 40 = ix && e.1 % 256 = 5 then some (e.1 / 256 % 2 ^ 32, e.2) else none

/-- Rows of a table that an owner has; of 0xFFFF the unassigned rows. -/
def State.owned (s : State) (ix t : Nat) : Nat :=
  if s.partitioned then (shareOf ix).ranged t
  else
    let m := s.moved0 ix
    (shareOf ix).ranged t + (m.filter fun e => e.2 == t).length - (m.filter fun e => cellDefault ix e.1 5 == t).length

/-- The sum of the unmet minima of T0000–T1023 (R84). -/
def State.unmetRows (s : State) (ix : Nat) : Nat :=
  ((List.range 1024).map fun t => (shareOf ix).minimum t - s.owned ix t).sum

/-- A COMMIT may assign a row to an owner (R15, R84, R125, R191); `t` is the state after it. -/
def State.assignOk (s t : State) (ix row owner : Nat) : Bool :=
  let h := shareOf ix
  (owner == 0 || decide (t.owned ix owner ≤ h.cap))
    && (decide (s.owned ix owner < h.minimum owner) || decide (t.unmetRows ix ≤ t.owned ix 0xFFFF))
    && (decide (s.pendingProfile ≠ some 1) || cellDefault ix row 5 == owner)

/-! ### Present values -/

/-- The records held by the event log, oldest first (Table 16-6). -/
def State.records (s : State) : List Event := (s.log.staged ++ s.log.flash).reverse

/-- A field of a record as 0x1400 exposes it; DATA in flash order. -/
def recordField (e : Event) (sub : Nat) : Nat :=
  match sub with
  | 4 => e.seq
  | 5 => e.time
  | 6 => e.code
  | 7 => (if e.valid then 128 else 0) + (if e.partner then 64 else 0)
  | 8 => e.suppressed
  | 9 => ofBE (fit 48 (e.data.flatMap (toLE 4)))
  | _ => 0

/-- Units that the power controller gates (R356): frame units whose port is absent, lanes in mode 0, host ports off. -/
def State.gated (s : State) : Nat :=
  ((List.range 1088).filter fun u =>
      let p := s.cell 0x2500 u 4
      decide (p < 1024) && decide (s.cell 0x2500 u 5 ≠ 4) && s.portAbsent p).length
    + ((List.range 64).filter fun l => decide (s.mode l = 0)).length
    + ((List.range 2).filter fun hp => decide (s.ob (hostIx hp) 1 = 0)).length

/-- What a cell holds where nothing is computed: the owner follows the profile, a requester's fields likewise. -/
def State.rowCell (s : State) (ix row sub : Nat) : Nat :=
  if ownerTable ix && sub == 5 then s.owner ix row
  else if ix = 0x9301 then s.requesterField row sub
  else s.cell ix row sub

/-- Values below 0x2000 that are computed at the read. -/
def State.deviceValue (s : State) (ix row sub : Nat) : Nat :=
  if ix = 0x1200 then if sub = 4 then s.tai else if sub = 9 then s.now else s.ob ix sub
  else if ix = 0x1400 then ((s.records.drop row).head?.map fun e => recordField e sub).getD 0
  else if ix = 0x1402 then
    match sub with
    | 1 => s.serviceNs
    | 2 => s.outageNs
    | 3 => s.availability
    | 0x10 => (s.records.head?.map (·.seq)).getD 0
    | _ => s.ob ix sub
  else s.cell ix row sub

/-- Values of ports and schedulers that are computed at the read. -/
def State.portValue (s : State) (ix sub : Nat) : Nat :=
  if ix < 0x2400 then
    let d := s.sched (ix - 0x2000)
    match sub with
    | 9 => (decide (s.ps < d.pauseEnd)).toNat
    | 0xA => (d.pauseEnd - s.ps) / 1000
    | 0x1D => s.ob ix sub + (min s.ps d.pauseEnd - d.pauseBeg) / 1000
    | _ => s.ob ix sub
  else if within 0x3000 0x33FF ix then
    let p := ix - 0x3000
    let row := portRow p (sub / 16)
    match sub % 16 with
    | 4 => (s.settle p).ob ix sub
    | 9 => s.framesQueued row
    | 10 => s.bytesQueued row
    | _ => s.ob ix sub
  else s.ob ix sub

/-- What 0x4001 reads to a master (Table 7-6). -/
def State.verdictValue (s : State) (m sub : Nat) : Nat :=
  let d := s.verdict m
  match sub with
  | 2 => d.status
  | 3 => d.cause
  | 4 => d.stream
  | 5 => d.computed
  | 6 => d.granted
  | 7 => d.handoff
  | 8 => d.count
  | 9 => ofBE ((d.conflicts.flatMap (toBE 4) ++ List.replicate 64 0xFF).take 64)
  | 0xA => s.adm.length
  | _ => 0

/-- The batch of a master. -/
def State.batch (s : State) (m : Nat) : Option Batch := s.acc.batches.find? fun b => b.master == m

/-- A field of a process-image slot (Table 12-9). -/
def State.slotValue (s : State) (row sub : Nat) : Nat :=
  let at_ := fun a n => NMap.bytes s.loop (256 * row + a) n
  match sub with
  | 4 => le (at_ 0 8) 0 8
  | 5 => le (at_ 8 4) 0 4
  | 6 => le (at_ 12 2) 0 2
  | 7 => le (at_ 14 2) 0 2
  | _ => ofBE (at_ 16 240)

/-- Values from 0x4000 to 0x8FFF that are computed at the read. -/
def State.tableValue (s : State) (m ix row sub : Nat) : Nat :=
  if ix = 0x4000 then
    if s.admitted row && sub == 0x14 then s.presentBound row
    else if s.admitted row && sub == 0x16 then s.presentHandoff row
    else s.cell ix row sub
  else if ix = 0x4001 then s.verdictValue m sub
  else if ix = 0x5000 then
    match sub with
    | 0x11 => (s.batch m).isSome.toNat
    | 0x12 => ((s.batch m).map fun b => b.held.length).getD 0
    | 0x13 => (rowsWith s.dict 0x5010 4).length
    | _ => s.ob ix sub
  else if ix = 0x5013 then
    match sub with
    | 8 => s.owned 0x5010 row
    | 9 => s.owned 0x5011 row
    | 0xA => s.owned 0x5100 row
    | _ => s.cell ix row sub
  else if ix = 0x6000 && sub == 0x18 then
    s.ob ix sub + (s.cip.lanes.map fun e => (e.2.stalled.map fun t => s.now - t).getD 0).sum
  else s.rowCell ix row sub

/-- Values from 0x9000 up that are computed at the read. -/
def State.firmValue (s : State) (ix row sub : Nat) : Nat :=
  if ix = 0x9300 && within 0x26 0x2B sub then s.unmet (sub - 0x26)
  else if ix = 0x93F0 && sub == 8 then ((s.thread row).deadline.map s.asTai).getD 0
  else if ix = 0x93F1 then s.slotValue row sub
  else if ix = 0xB000 && sub == 6 then s.gated
  else s.rowCell ix row sub

/-- The present value of a field to master `m`; the expiry of a lease is converted to station time (Table 2-5). -/
def State.present (s : State) (m ix row sub : Nat) : Nat :=
  if sub = 0xF1 then if s.ob ix sub = 0 then 0 else s.asTai (s.ob ix sub)
  else if ix < 0x2000 then s.deviceValue ix row sub
  else if ix < 0x3800 then s.portValue ix sub
  else if ix < 0x9000 then s.tableValue m ix row sub
  else s.firmValue ix row sub

/-- Fields that a read draws because they are measured or counted outside what the manual gives (log entry 5): the
samples tested, the device power, a rail's voltage and current. -/
def drawnField (ix sub : Nat) : Bool :=
  (ix == 0x6020 && sub == 4) || (ix == 0xB000 && sub == 1) || (ix == 0xB100 && (sub == 5 || sub == 6))

/-- The value that a read returns. -/
def State.readValue (s : State) (m ix row sub : Nat) : Nat × State :=
  if drawnField ix sub then s.draw else (s.present m ix row sub, s)

/-! ### Windows (R24, R25) -/

/-- A master's view of a WINDOW object. -/
def State.window (s : State) (m ix : Nat) : Window :=
  (s.acc.windows.find? fun w => w.master == m && w.index == ix).getD { master := m, index := ix }

/-- Set a master's view. -/
def State.setWindow (s : State) (w : Window) : State :=
  s.withAcc fun a => { a with windows := w :: a.windows.filter fun x => !(x.master == w.master && x.index == w.index) }

/-- The value of a data field in the staging; a field that is not staged holds its default. -/
def Window.value (w : Window) (sub : Nat) : Nat :=
  match w.staged.find? fun f => f.1 == sub with
  | some f => f.2
  | none => cellDefault w.index (w.selected.getD 0) sub

/-- A field whose access grants r to no principal (R25). -/
def Entry.secret (e : Entry) : Bool := decide (e.acc = .w) || decide (e.acc = .wT)

/-- A field that some principal may write. -/
def Entry.writable (e : Entry) : Bool := !(decide (e.acc = .r) || decide (e.acc = .rT))

/-- The data fields of an object, one for each subindex. -/
def Obj.fields (o : Obj) : List (Nat × Entry) := o.entries.flatMap fun e => (List.range e.n).map fun i => (e.sub + i, e)

/-- The number of rows (x:02); the event log has one row for each record. -/
def State.rowCount (s : State) (ix : Nat) (o : Obj) : Nat := if ix = 0x1400 then s.records.length else o.rows.getD 0

/-- The staging that a selection or LOAD takes from a row, and the open values that it draws: the fields that differ from
their defaults; secret fields are never loaded. -/
def State.loadFields (s : State) (m ix row : Nat) : List (Nat × Entry) → List (Nat × Nat) × State
  | [] => ([], s)
  | (sub, e) :: r =>
    let (v, s) := if e.secret then (cellDefault ix row sub, s) else s.readValue m ix row sub
    let (l, s) := s.loadFields m ix row r
    (if v = cellDefault ix row sub then l else (sub, v) :: l, s)

/-- Load a master's staging from a row; written fields and key-written marks are forgotten. -/
def State.loadWindow (s : State) (m ix row : Nat) (o : Obj) : State :=
  let (l, s) := s.loadFields m ix row o.fields
  s.setWindow { master := m, index := ix, selected := some row, selector := row, staged := l }

/-- A row is open to a principal: a tenant's rows alone to a Tenant (R25, R27). -/
def State.rowOpen (s : State) (p : Principal) (ix row : Nat) : Bool :=
  match p with
  | .tenant t => decide (s.rowOwner ix row = some t)
  | _ => true

/-- A write of the row selector (R24, R25); a refused one leaves no selected row and default staging. -/
def State.trySelect (s : State) (v : Via) (ix : Nat) (o : Obj) (data : Bytes) : Ended :=
  let m := masterOf v
  let row := ofBE data
  let here := data.length == 4 && decide (row < s.rowCount ix o)
  let st := firstBad
    [ require (!here || s.rowOpen (s.principal v) ix row) stAccess
    , require (data.length == 4) stType
    , s.startState
    , require here stRange ]
  if st = stOk then .done stOk [] (s.loadWindow m ix row o)
  else .done st [] (s.setWindow { s.window m ix with selected := none, staged := [], written := [], marks := [] })

/-- A write of a data field: into the writer's staging (R24), with a key-written mark for a secret field (R25). -/
def State.tryStage (s : State) (v : Via) (ix sub : Nat) (e : Entry) (data : Bytes) : Ended :=
  let w := s.window (masterOf v) ix
  let st := firstBad
    [ require (e.acc.writes (s.principal v) && !s.rowReadOnly ix (w.selected.getD (2 ^ 32 - 1)) sub) stAccess
    , require (data.length == e.ty.len) stType
    , s.startState ]
  if st = stOk then
    .done stOk [] (s.setWindow { w with
      staged := (sub, ofBE data) :: w.staged.filter fun f => f.1 != sub
      written := addOnce w.written sub
      marks := if e.secret then addOnce w.marks sub else w.marks })
  else .done st [] s

end Sys2Proof.Machine
end

