-- ==== Sys2Proof/Machine/Tables.lean ====
section
/-! DEFINITION. Row actions of the WINDOW objects (R24, R25): COMMIT, CLEAR and LOAD, their checks in the order of Table
2-9, what each table does when a row lands, and the table versions and batches of the match tables (R86–R92). -/

namespace Sys2Proof.Machine

/-! ### What an action would make of a row -/

/-- A field that a CLEAR leaves: the owner of a row, and what the hardware keeps in the row for itself. -/
def keptByClear (ix sub : Nat) : Bool :=
  if ownerTable ix then sub == 5
  else if ix = 0x9100 then sub == 4 || sub == 0xA
  else if ix = 0x9301 then sub == 4 || within 0xB 0x10 sub || within 0x18 0x1D sub
  else if ix = 0x1220 then sub == 0xA
  else ix == 0x9000 && sub == 0xB

/-- The default to which a CLEAR returns a field. -/
def State.clearValue (s : State) (ix row sub : Nat) : Nat :=
  cellDefault ix row (if ix = 0x9301 && (within 5 0xA sub || sub == 0x11) then s.minSub row sub else sub)

/-- Put a field into a row. -/
def State.putField (s : State) (ix row : Nat) (f : Nat × Nat) : State :=
  if ix = 0x9301 then s.setRequester row f.1 f.2 else s.setCell ix row f.1 f.2

/-- Put fields into a row. -/
def State.putFields (s : State) (ix row : Nat) (fs : List (Nat × Nat)) : State :=
  fs.foldl (fun s f => s.putField ix row f) s

/-- The row with a change made. -/
def State.changed (s : State) (c : RowChange) : State := s.putFields c.index c.row c.new

/-- A change of a row with what its fields hold now. -/
def State.rowChange (s : State) (ix row : Nat) (clear : Bool) (written : List Nat) (new : List (Nat × Nat)) : RowChange :=
  { index := ix, row := row, clear := clear, new := new, written := written
    old := new.map fun f => (f.1, s.rowCell ix row f.1) }

/-- Key bits whose mask bit is 0 are stored as 0 (R86). -/
def maskedKey (w : Window) (f : Nat × Nat) : Nat × Nat :=
  if w.index = 0x5011 && f.1 == 7 then (7, f.2 &&& w.value 8) else f

/-- What a COMMIT sets: every field that is written through staging; secret fields only under their marks (R25). -/
def State.commitChange (s : State) (w : Window) (row : Nat) (o : Obj) : RowChange :=
  s.rowChange w.index row false w.written <| o.fields.filterMap fun f =>
    if f.2.writable && !f.2.secret && !s.rowReadOnly w.index row f.1 then some (maskedKey w (f.1, w.value f.1)) else none

/-- What a CLEAR sets. -/
def State.clearChange (s : State) (ix row : Nat) (o : Obj) : RowChange :=
  s.rowChange ix row true [] <| o.fields.filterMap fun f =>
    if keptByClear ix f.1 || s.rowReadOnly ix row f.1 then none else some (f.1, s.clearValue ix row f.1)

/-! ### Checks that every table shares -/

/-- A row is valid; a row of an object without a Valid field counts as valid (R24). -/
def State.rowValid (s : State) (ix row : Nat) : Bool :=
  !([0x3800, 0x4002, 0x5010, 0x5011, 0x5100, 0x5200, 0x6010, 0x9000].contains ix) || decide (s.cell ix row 4 = 1)

/-- The fields of a check are tested: a COMMIT that leaves the row valid, or that writes one of them (R24). -/
def State.tests (t : State) (c : RowChange) (subs : List Nat) : Bool :=
  !c.clear && (t.rowValid c.index c.row || subs.any c.written.contains)

/-- The fields of a COMMIT lie in their ranges (R23, R24). -/
def State.fieldsOk (t : State) (o : Obj) (c : RowChange) : Bool :=
  c.new.all fun f => !t.tests c [f.1] || match o.entry f.1 with
    | some e => e.inRange f.2
    | none => true

/-- Each of several tests passes where its fields are tested. -/
def State.passes (t : State) (c : RowChange) (l : List (List Nat × Bool)) : Bool :=
  l.all fun x => !t.tests c x.1 || x.2

/-- Rows that Partitioned leaves unused take no COMMIT and no CLEAR (R83, Table 6-1, Table 8-3). -/
def State.unusedRow (s : State) (ix row : Nat) : Bool :=
  ownerTable ix && s.partitioned && decide (cellDefault ix row 5 = 0xFFFF)

/-- The Owner of a Pooled row is in range; a valid row has one (R83). -/
def State.ownerOk (s t : State) (c : RowChange) : Bool :=
  let w := t.owner c.index c.row
  !ownerTable c.index || s.partitioned || c.clear
    || ((!t.tests c [5] || decide (w < 1024) || decide (w = 0xFFFF)) && !(t.rowValid c.index c.row && decide (w = 0xFFFF)))

/-- The row may go to the owner that the COMMIT names (R84). -/
def State.ownerFits (s t : State) (c : RowChange) : Bool :=
  let w := t.owner c.index c.row
  !ownerTable c.index || decide (w = s.owner c.index c.row) || decide (w = 0xFFFF) || s.assignOk t c.index c.row w

/-! ### Match rows (R86, R90–R92) -/

/-- The stages of Table 4-4. -/
inductive Stage where
  | station
  | tenant
  | exact
  | acl
  | egress
  deriving DecidableEq, Repr

/-- The stage of a match row; a ternary row of stage 1 is T0000's or a tenant's. -/
def State.stage (t : State) (ix row : Nat) : Option Stage :=
  if ix = 0x5010 then some .exact
  else match t.cell ix row 6 / 64 with
    | 1 => some (if t.owner ix row = 0 then .station else .tenant)
    | 2 => some .acl
    | 3 => some .egress
    | _ => none

/-- The targets of Forward and Mirror: ports, vports, endpoints, groups. -/
def fwdTargets (kind : Nat) : Nat := [0, 1024, 65536, 262144, 4096].getD kind 0

/-- Stage and profile of a match row agree (Table 4-12). -/
def stageOk (ix v : Nat) : Option Stage → Bool
  | none => false
  | some .exact => ix == 0x5010 && within 1 63 v
  | some .station => v % 64 == 0
  | some .tenant => v % 64 == 0
  | some _ => decide (v % 64 ≠ 0)

/-- Fields that a row of stage E may set (R90). -/
def egressField (sub : Nat) : Bool := [0x1E, 0x1F, 0x20, 0x24, 0x25, 0x29, 0x2A, 0x2C, 0x2E].contains sub

/-- The RANGE cases of a match row beyond the ranges of its fields (R90, R94, R172, Table 4-12). -/
def State.matchRange (t : State) (c : RowChange) : Bool :=
  let v := t.cell c.index c.row
  let st := t.stage c.index c.row
  let unset := fun k => decide (v k = cellDefault c.index c.row k)
  let target := fun kind k => decide (fwdTargets kind = 0) || decide (v k < fwdTargets kind)
  t.passes c
    [ ([6], stageOk c.index (v 6) st)
    , ([0x17], target (v 0x16) 0x17)
    , ([0x1F], target (v 0x1E) 0x1F)
    , ([0x23], unset 0x21 || within 1 240 (v 0x23))
    , ([0x10], unset 0x10 || decide (st = some .station))
    , ([0x15], unset 0x15 || decide (st = some .station) || decide (st = some .tenant))
    , ([0x1A, 0x18, 0x19, 0x1B], unset 0x1A || (unset 0x18 && unset 0x19 && unset 0x1B)) ]
  && (decide (st ≠ some .egress) || (List.range 31).all fun i =>
      egressField (0x10 + i) || !t.tests c [6, 0x10 + i] || unset (0x10 + i))

/-- A profile is valid for fields of a kind; 0 names none (R86). -/
def State.profileFits (t : State) (kind n : Nat) : Bool :=
  decide (n = 0) || decide (64 ≤ n) || decide (t.cell 0x5012 n 4 = kind)

/-- What a valid match row names is there (R86, R92); a value outside its field's range names nothing and is left to
the RANGE check (log entry 55). -/
def State.namesOk (t : State) (ix row : Nat) : Bool :=
  let v := t.cell ix row
  t.profileFits 1 (v 0x12) && t.profileFits 2 (v 0x13) && t.profileFits 3 (v 0x14)
    && (match t.stage ix row with
        | some .exact => t.profileFits 1 (v 6)
        | some .acl => t.profileFits 2 (v 6 % 64)
        | some .egress => t.profileFits 3 (v 6 % 64)
        | _ => true)
    && (decide (v 0x16 ≠ 3) || decide (262144 ≤ v 0x17) || decide (t.cell 0x5100 (v 0x17) 4 = 1))
    && (decide (v 0x16 ≠ 4) || decide (4096 ≤ v 0x17) || !(groupMembers t.dict (v 0x17)).isEmpty)
    && (decide (16384 ≤ v 0x1A) || t.admitted (v 0x1A))

/-- Another valid exact row has the owner, profile and key of this one (R86). -/
def State.duplicateKey (t : State) (row : Nat) : Bool :=
  (rowsWith t.dict 0x5010 4).any fun r =>
    r != row && decide (t.owner 0x5010 r = t.owner 0x5010 row) && decide (t.cell 0x5010 r 6 = t.cell 0x5010 row 6)
      && decide (t.cell 0x5010 r 7 = t.cell 0x5010 row 7)

/-- The STATE cases of a match row, which is valid after the COMMIT. -/
def State.matchState (t : State) (c : RowChange) : Bool :=
  c.clear || !t.rowValid c.index c.row
    || (t.namesOk c.index c.row && !(decide (c.index = 0x5010) && t.duplicateKey c.row))

/-- The ACCESS cases of a match row (R91, R131). -/
def State.matchAccess (t : State) (c : RowChange) : Bool :=
  let v := t.cell c.index c.row
  let w := t.owner c.index c.row
  let own := fun n => decide (n / 16 = w)
  let mine := fun ix k => decide (v k = 0xFFFFFFFF) || decide (t.rowOwner ix (v k) = some w)
  c.clear
    || (!(decide (v 0x19 < 16384))
        && (!t.rowValid c.index c.row || decide (w = 0) || decide (w = 0xFFFF)
            || (decide (v 0x16 ≠ 1) && decide (v 0x16 ≠ 4) && decide (v 0x1E ≠ 1)
                && (decide (v 0x11 = 0xFFFFFFFF) || own (v 0x11)) && (decide (v 0x16 ≠ 2) || own (v 0x17))
                && (decide (v 0x1E ≠ 2) || own (v 0x1F))
                && (decide (v 0x16 ≠ 3) || decide (t.rowOwner 0x5100 (v 0x17) = some w))
                && (decide (65536 ≤ v 0x19) || mine 0x3800 0x19)
                && (decide (131072 ≤ v 0x1D) || mine 0x6010 0x1D))))

/-- The valid rows of the two match tables. -/
def State.matchRows (s : State) : List (Nat × Nat) :=
  (rowsWith s.dict 0x5010 4).map (0x5010, ·) ++ (rowsWith s.dict 0x5011 4).map (0x5011, ·)

/-- A valid match row has a test. -/
def State.anyMatch (s : State) (f : (ix row : Nat) → Bool) : Bool := s.matchRows.any fun r => f r.1 r.2

/-! ### Profiles, endpoints, members -/

/-- A valid row uses a key profile (R79). -/
def State.profileUsed (s : State) (n : Nat) : Bool :=
  s.anyMatch fun ix row =>
    [0x12, 0x13, 0x14].any (fun k => decide (s.cell ix row k = n)) || decide (s.cell ix row 6 % 64 = n)

/-- A key profile is in range (R79). -/
def State.profileOk (t : State) (n : Nat) : Bool :=
  let ids := profileIds t.dict n
  decide (t.cell 0x5012 n 4 ≤ 3) && ids.all (fun i => decide (fieldWidth i ≠ 0))
    && decide ((ids.map fieldWidth).sum ≤ if t.cell 0x5012 n 4 = 1 then 384 else 608)

/-- A valid action or member record names a tunnel endpoint (R86). -/
def State.endpointNamed (s : State) (row : Nat) : Bool :=
  s.anyMatch (fun ix r => decide (s.cell ix r 0x16 = 3) && decide (s.cell ix r 0x17 = row))
    || (rowsWith s.dict 0x5200 4).any fun r => decide (s.cell 0x5200 r 6 = 3) && decide (s.cell 0x5200 r 7 = row)

/-- A valid action record names a multicast group (R86). -/
def State.groupNamed (s : State) (g : Nat) : Bool :=
  s.anyMatch fun ix r => decide (s.cell ix r 0x16 = 4) && decide (s.cell ix r 0x17 = g)

/-- The STATE cases of a member record: its endpoint is valid, and a named group keeps a member (R86). -/
def State.memberState (s t : State) (row : Nat) : Bool :=
  (!t.rowValid 0x5200 row || decide (t.cell 0x5200 row 6 ≠ 3) || decide (262144 ≤ t.cell 0x5200 row 7)
        || decide (t.cell 0x5100 (t.cell 0x5200 row 7) 4 = 1))
    && (!s.rowValid 0x5200 row || !(groupMembers t.dict (s.cell 0x5200 row 5)).isEmpty
        || !s.groupNamed (s.cell 0x5200 row 5))

/-! ### Meters, queues, FRER -/

/-- The RANGE cases of a meter (R130). -/
def State.meterRange (t : State) (c : RowChange) : Bool :=
  let v := t.cell 0x3800 c.row
  t.passes c
    [ ([7], within 1 400000000 (v 7)), ([9], within 1 400000000 (v 9)), ([7, 9], decide (v 7 ≤ v 9))
    , ([8], within 64 16777216 (v 8)), ([0xA], within 64 16777216 (v 0xA)) ]

/-- A bucket holds its size in 10⁻⁶ bit (R127). -/
abbrev bucket (bytes : Nat) : Nat := bytes * 8000000

/-- A meter row lands: its buckets are filled when it becomes valid, else clamped (R130). -/
def State.landMeter (s : State) (c : RowChange) : State :=
  let t := s.changed c
  let v := t.cell 0x3800 c.row
  if c.clear || v 4 = 0 then t
  else if s.rowValid 0x3800 c.row then
    t.setCells 0x3800 c.row [(0x10, min (v 0x10) (bucket (v 8))), (0x11, min (v 0x11) (bucket (v 0xA)))]
  else
    let t := t.setCells 0x3800 c.row [(0x10, bucket (v 8)), (0x11, bucket (v 0xA))]
    { t with net := { t.net with meterTime := NMap.put 0 t.net.meterTime c.row t.tai } }

/-- The sample interval of a queue row is off or in range (R151). -/
def State.intervalOk (t : State) (c : RowChange) : Bool :=
  let v := t.cell 0x3801 c.row 4
  c.clear || decide (v = 0) || within (if c.row < 8192 then 1000 else 10000) 1000000000 v

/-- A queue row lands: the statistics are zeroed when asked for, or when interval or base change; a new interval applies from its next
whole multiple (R152). -/
def State.landQueueRow (s : State) (c : RowChange) : State :=
  let t := s.changed c
  let zero := decide (t.cell 0x3801 c.row 7 = 1) || [4, 5].any fun k => s.cell 0x3801 c.row k != t.cell 0x3801 c.row k
  let t := t.setCell 0x3801 c.row 7 0
  let iv := t.cell 0x3801 c.row 4
  let t := if iv = 0 || iv = s.cell 0x3801 c.row 4 then t
    else { t with net := { t.net with sampled := NMap.put 0 t.net.sampled c.row (t.tai / iv) } }
  if zero then t.setCells 0x3801 c.row ((List.range 9).map fun i => (0xA + i, 0)) else t

/-- The valid rows of a compound with a function, rising. -/
def State.frerRows (t : State) (comp fn : Nat) : List Nat :=
  (rowsWith t.dict 0x4002 4).filter fun r => decide (t.cell 0x4002 r 6 = comp) && decide (t.cell 0x4002 r 5 = fn)

/-- What replicate rows of one compound share (R173). -/
def Contract.shared (c : Contract) : List Nat := [c.ingress, c.rate, c.burst, c.lmin, c.lmax]

/-- The STATE cases of a FRER row (R173). -/
def State.frerState (t : State) (c : RowChange) : Bool :=
  let comp := t.cell 0x4002 c.row 6
  let str := fun r => t.cell 0x4002 r 7
  let rep := t.frerRows comp 1
  let recov := t.frerRows comp 2
  !t.rowValid 0x4002 c.row
    || (t.admitted (str c.row) && decide (str c.row < 16384) && (rep.isEmpty || recov.isEmpty)
        && rep.all (fun r => decide ((t.contract (str r)).shared = (t.contract (str c.row)).shared))
        && recov.all (fun r => decide (str r = str c.row)))

/-- An R-tag operation suits the function (R173). -/
def State.rtagOk (t : State) (c : RowChange) : Bool :=
  t.passes c [([5, 8], !(decide (t.cell 0x4002 c.row 8 = 1) && decide (t.cell 0x4002 c.row 5 = 2))
    && !(decide (t.cell 0x4002 c.row 8 = 2) && decide (t.cell 0x4002 c.row 5 = 1)))]

/-- A FRER row lands: the first valid replicate row of a compound starts its sequence at 0 (R174). -/
def State.landFrer (s : State) (c : RowChange) : State :=
  let t := s.changed c
  let comp := t.cell 0x4002 c.row 6
  if t.frerRows comp 1 = [c.row] && (s.frerRows comp 1).isEmpty then
    t.setCompound comp { t.compound comp with nextSeq := 0 }
  else t

/-! ### Security associations (R192–R197) -/

/-- The key that a COMMIT installs from the marks of its window (R193, R197). -/
inductive NewKey where
  | none
  | key (k : Nat)
  | bad
  deriving DecidableEq, Repr

/-- The key under the marks: a wrapped one is unwrapped with a valid use-6 row of the same owner. -/
def State.newKey (t : State) (w : Window) (row : Nat) : NewKey :=
  let n := t.cell 0x6010 row 7
  let kek := t.cell 0x6010 row 0xB
  if w.marks.contains 0xA then
    if kek < 131072 && t.cell 0x6010 kek 4 = 1 && t.cell 0x6010 kek 6 = 6 && t.owner 0x6010 kek = t.owner 0x6010 row then
      match (t.slotKey kek).bind fun k => keyUnwrap k ((toBE 72 (w.value 0xA)).take (n + 8)) with
      | some k => .key (ofBE k)
      | Option.none => .bad
    else .bad
  else if w.marks.contains 9 then .key (ofBE ((toBE 64 (w.value 9)).take n))
  else .none

/-- Uses of an SA row. -/
abbrev isTransmit (use : Nat) : Bool := use == 2 || use == 4
abbrev isReceive (use : Nat) : Bool := use == 1 || use == 3
abbrev isEsp (use : Nat) : Bool := use == 3 || use == 4

/-- The RANGE cases of R192 beyond the ranges of the fields. -/
def State.saRange (s t : State) (c : RowChange) (k : NewKey) : Bool :=
  let v := t.cell 0x6010 c.row
  let half := 256 ^ (v 7 / 2)
  t.passes c
    [ ([6, 7], if v 6 = 7 then v 7 == 32 || v 7 == 64 else v 7 == 16 || v 7 == 32)
    , ([6, 0x11], !(isEsp (v 6) && decide (v 0x11 = 1)))
    , ([6, 0x12], !(isEsp (v 6) && decide (v 0x12 = 1)))
    , ([6, 8], decide (v 8 = 0) || within 1 4 (v 6))
    , ([6, 0x13], !(isTransmit (v 6) && decide (v 0x13 = 0)))
    , ([6, 0x14], !(isEsp (v 6) && decide (1024 < v 0x14)))
    , ([6, 0x15], !(isEsp (v 6) && decide (v 0x15 < 256))) ]
  && (match k with
      | .none => c.clear || !(s.rowValid 0x6010 c.row && t.rowValid 0x6010 c.row && isTransmit (v 6)
          && decide (v 0x13 < s.saField c.row 0x21 + 1))
      | .key x => decide (v 6 ≠ 7) || decide (x / half ≠ x % half)
      | .bad => false)

/-- The SA row holds a key. -/
def State.hasKey (s : State) (row : Nat) : Bool := bit (s.saField row 0x20) 2

/-- A valid action or member record, or a storage connection, names an SA row (R194). -/
def State.saNamed (s : State) (row : Nat) : Bool :=
  s.anyMatch (fun ix r => decide (s.cell ix r 0x1D = row))
    || (rowsWith s.dict 0x5200 4).any (fun r => decide (s.cell 0x5200 r 0xA = row)) || s.keyHeld row

/-- Another valid receive row has what identifies this one to a received frame (R192). -/
def State.saDuplicate (t : State) (row : Nat) : Bool :=
  let use := t.saField row 6
  isReceive use && (rowsWith t.dict 0x6010 4).any fun r =>
    r != row && decide (t.saField r 6 = use) && decide (t.owner 0x6010 r = t.owner 0x6010 row)
      && (if use = 1 then decide (t.saField r 0xD = t.saField row 0xD) && decide (t.saField r 0xE = t.saField row 0xE)
          else decide (t.saField r 0x15 = t.saField row 0x15))

/-- The STATE cases of an SA row (R192, R194, Table 8-6). -/
def State.saState (s t : State) (c : RowChange) (k : NewKey) : Bool :=
  let was := s.rowValid 0x6010 c.row
  let is := t.rowValid 0x6010 c.row
  let installs := decide (k ≠ .none)
  !(was && (c.clear || !is) && s.saNamed c.row)
    && (c.clear
        || ((!is || installs || s.hasKey c.row) && !(is && t.saDuplicate c.row)
            && !(was && is && decide (s.saField c.row 6 ≠ t.saField c.row 6))
            && (installs || !(decide (s.saField c.row 0x1C = 0) && decide (t.saField c.row 0x1C = 1)))))

/-- A row's mark in flash 1 reads a value; a record is written where it does not yet (R195). -/
def State.needMark (s : State) (row v : Nat) : State := if s.mark row = v then s else s.setMark row v

/-- The key of a row is gone from its slot, with its window, and no mark waits. -/
def State.emptySa (s : State) (row : Nat) (key : Bytes) : State :=
  let s := s.setSlot row key
  { s with cip := { s.cip with seen := NMap.put [] s.cip.seen row []
                               markWait := NMap.put 0 s.cip.markWait row 0 } }

/-- Erase the key and zero the row and its counters; its owner stays (R194). -/
def State.eraseSa (s : State) (row : Nat) : State :=
  let s := s.setCells 0x6010 row
    ((saRow.flatMap fun e => (List.range e.n).map (e.sub + ·)).filterMap fun k =>
      if k = 5 then none else some (k, cellDefault 0x6010 row k))
  (s.emptySa row []).needMark row 0

/-- A new key is in the row: both status bits clear, numbers start at Next PN, a transmit row gets a mark (R193–R195). -/
def State.putKey (s : State) (row k : Nat) : State :=
  let next := s.saField row 0x13
  let s := s.setCells 0x6010 row [(0x20, 4), (0x21, next - 1)]
  let mark := if isTransmit (s.saField row 6) then markAfter next else 0
  (s.emptySa row (toBE (s.saField row 7) k)).needMark row mark

/-- Next PN of a transmit row was raised without a key: the numbers up to it are used up (R195). -/
def State.raiseNext (s : State) (row : Nat) : State :=
  let next := s.saField row 0x13
  let s := s.setCell 0x6010 row 0x21 (next - 1)
  let m := s.mark row
  let s := if m ≤ next + 2 ^ 22 && decide (0 < m) then
      { s with cip := { s.cip with markWait := NMap.put 0 s.cip.markWait row (markAfter next) } }
    else s
  s.pnMoved row

/-- An SA row lands; passes keep the window of a key that is replaced or erased (R193). -/
def State.landSa (s : State) (c : RowChange) (w : Window) (k : NewKey) : State :=
  let t := s.changed c
  if c.clear || (s.rowValid 0x6010 c.row && !t.rowValid 0x6010 c.row) then ((s.retireSa c.row).changed c).eraseSa c.row
  else
    let salted := fun (t : State) => if w.marks.contains 0xC then t.setCell 0x6010 c.row 0xC (w.value 0xC) else t
    match k with
    | .key x =>
      let t := (salted ((s.retireSa c.row).changed c)).putKey c.row x
      if isTransmit (t.saField c.row 6) then t.pnMoved c.row else t
    | _ =>
      let t := salted t
      if isTransmit (t.saField c.row 6) && t.rowValid 0x6010 c.row && s.saField c.row 0x21 + 1 < t.saField c.row 0x13 then
        t.raiseNext c.row
      else t

/-! ### Bindings, sources, keys, PTP -/

/-- The RANGE cases of a binding (R266). -/
def State.bindingRange (t : State) (c : RowChange) : Bool :=
  let v := t.cell 0x9000 c.row
  let id := fun kind n => if kind = 2 then decide (n ≤ 255) else decide (n ≤ 4095)
  t.passes c
    [ ([5], within 1 2 (v 5)), ([5, 6], id (v 5) (v 6)), ([7], decide (v 7 ≤ 63))
    , ([8], within 1 2 (v 8)), ([8, 9], id (v 8) (v 9)), ([0xA], decide (v 0xA ≤ 63)) ]

/-- The STATE cases of a binding (R266, R267). -/
def State.bindingState (s t : State) (c : RowChange) : Bool :=
  decide (s.ob 0x9001 1 = 0)
    && (!t.rowValid 0x9000 c.row
        || (decide ((t.sender c.row).1 ≠ (t.receiver c.row).1)
            && !(t.bound.any fun r => r != c.row && (t.sender r == t.sender c.row || t.receiver r == t.receiver c.row))))

/-- A binding lands; a channel whose ends change is emptied, and the slots show what it holds. -/
def State.landBinding (s : State) (c : RowChange) : State :=
  let t := s.changed c
  let was := s.rowValid 0x9000 c.row
  let is := t.rowValid 0x9000 c.row
  if was && is && s.sender c.row = t.sender c.row && s.receiver c.row = t.receiver c.row then t
  else
    let x := s.sender c.row
    let r := s.receiver c.row
    let t := { t with rng := { t.rng with
      channels := NMap.put {} t.rng.channels c.row { t.channel c.row with notices := [] } } }
    let t := t.setCell 0x9000 c.row 0xB 0
    let t := if was then
        ((t.setRegBits x.1 (slotOff x.2 0x14) 20 16 16).setRegBits r.1 (slotOff r.2 0x5C) 20 16 0).slotLevels x.1
          |>.slotLevels r.1
      else t
    if is then t.setChannel c.row (t.channel c.row) else t

/-- An event source lands: the contexts that lose it and that have it select again (R275). -/
def State.landSource (s : State) (c : RowChange) : State :=
  let t := s.changed c
  let old := s.ctxOf c.row
  if old = t.ctxOf c.row then t.deliverFor c.row
  else
    let t := { t with rng := { t.rng with messaged := t.rng.messaged.filter (· != c.row) } }
    let t := match old with
      | some x => t.deliver x
      | none => t
    t.deliverFor c.row

/-- A Dolux key lands: a written key, or a cleared row (log entry 63), starts its replay state anew; a disabled one ends its
leases (R36, R44). -/
def State.landDoluxKey (s : State) (c : RowChange) (w : Window) : State :=
  let t := s.changed c
  let fresh := fun (t : State) =>
    ({ t with pwr := { t.pwr with replay := NMap.put (0, 0, false) t.pwr.replay c.row (0, 0, false) } }).setKey c.row {}
  let t := if c.clear then fresh t
    else if w.marks.contains 7 then fresh (t.setCells 0x1110 c.row [(7, w.value 7), (9, 0)])
    else t
  if s.cell 0x1110 c.row 4 = 1 && t.cell 0x1110 c.row 4 = 0 then t.endLeasesOf (0x4000 + c.row) 5 else t

/-- A PTP instance or port lands: what is no longer enabled becomes disabled, and the source is selected again. -/
def State.landPtp (s : State) (c : RowChange) : State :=
  let t := s.changed c
  let ports := if c.index = 0x1220 then [c.row] else (List.range 1026).filter fun p => t.cell 0x1220 p 5 = c.row
  let gone := ports.filter fun p => decide (t.cell 0x1220 p 0xA ≠ 0) && (!t.ptpOn p || s.cell 0x1220 p 5 != t.cell 0x1220 p 5)
  (gone.foldl (fun t p => t.setPtp p 0) t).refreshSource

/-! ### The checks of a row action (Table 2-9) -/

/-- Rows that take no COMMIT and no CLEAR: ACCESS (R79, R131). -/
def lockedRow (ix row : Nat) : Bool := (ix == 0x5012 && row == 0) || (ix == 0x3800 && decide (row < 16384))

/-- The STATE cases of a table. -/
def State.tableState (s t : State) (c : RowChange) (k : NewKey) : Bool :=
  if c.index = 0x5010 || c.index = 0x5011 then t.matchState c
  else if c.index = 0x5012 then !s.profileUsed c.row
  else if c.index = 0x5100 then !(s.rowValid 0x5100 c.row && !t.rowValid 0x5100 c.row && s.endpointNamed c.row)
  else if c.index = 0x5200 then s.memberState t c.row
  else if c.index = 0x4002 then t.frerState c
  else if c.index = 0x6010 then s.saState t c k
  else if c.index = 0x9000 then s.bindingState t c
  else true

/-- The RANGE cases of a table beyond the ranges of its fields. -/
def State.tableRange (s t : State) (c : RowChange) (k : NewKey) : Bool :=
  if c.index = 0x5010 || c.index = 0x5011 then t.matchRange c
  else if c.index = 0x5012 then c.clear || t.profileOk c.row
  else if c.index = 0x5200 then
    t.passes c [([6, 7], decide (t.cell 0x5200 c.row 7 < fwdTargets (t.cell 0x5200 c.row 6)))]
  else if c.index = 0x3800 then t.meterRange c
  else if c.index = 0x3801 then t.intervalOk c && (c.clear || decide (t.cell 0x3801 c.row 7 ≤ 1))
  else if c.index = 0x4002 then t.rtagOk c
  else if c.index = 0x6010 then s.saRange t c k
  else if c.index = 0x9000 then t.bindingRange c
  else if c.index = 0x9100 then c.clear || decide (s.cell 0x9100 c.row 4 ≠ 0)
  else if c.index = 0x9301 then c.clear || decide (s.requesterCheck c.row (t.requesterField c.row) ≠ stRange)
  else true

/-- The RESOURCE cases of a table. -/
def State.tableFits (s t : State) (c : RowChange) : Bool :=
  if c.index = 0x5200 then decide ((groupMembers t.dict (t.cell 0x5200 c.row 5)).length ≤ 1024)
  else if c.index = 0x4002 then decide ((t.frerRows (t.cell 0x4002 c.row 6) 1).length ≤ 8)
  else if c.index = 0x9301 then decide (s.requesterCheck c.row (t.requesterField c.row) ≠ stResource)
  else true

/-- The checks of a change from STATE on, against the state `s` in which the change would be made. -/
def State.checkChange (s : State) (o : Obj) (c : RowChange) (k : NewKey) : Nat :=
  let t := s.changed c
  firstBad
    [ require (!s.unusedRow c.index c.row && s.tableState t c k) stState
    , require (t.fieldsOk o c && s.ownerOk t c && s.tableRange t c k) stRange
    , require (s.ownerFits t c && s.tableFits t c) stResource ]

/-! ### Landing -/

/-- A change of a table without versions lands. -/
def State.landRow (s : State) (c : RowChange) (w : Window) (k : NewKey) : State :=
  if c.index = 0x3800 then s.landMeter c
  else if c.index = 0x3801 then s.landQueueRow c
  else if c.index = 0x4002 then s.landFrer c
  else if c.index = 0x6010 then s.landSa c w k
  else if c.index = 0x9000 then s.landBinding c
  else if c.index = 0x9100 then s.landSource c
  else if c.index = 0x1110 then s.landDoluxKey c w
  else if c.index = 0x1210 || c.index = 0x1220 then s.landPtp c
  else s.changed c

/-- The first crossing of 3,670,016 valid exact rows is logged (R86). -/
def State.noteCrossing (s : State) : State :=
  let n := (rowsWith s.dict 0x5010 4).length
  if s.acc.crossed || n ≤ 3670016 then s else (s.withAcc fun a => { a with crossed := true }).event 0x0503 [n]

/-- Changes of the match tables land as one table version, whose item waits until it takes effect (R87); a rewritten
ternary row is good again (R361). -/
def State.landVersion (s : State) (v : Via) (ix sub : Nat) (cs : List RowChange) : State :=
  let cells := cs.flatMap fun c => c.new.map fun f => Machine.cellKey c.index c.row f.1
  let undo := cells.eraseDups.map fun k => (k, NMap.get dictDefault s.dict k)
  let tern := cs.filterMap fun c => if c.index = 0x5011 then some c.row else none
  let s := cs.foldl State.changed s
  let s := s.withAcc fun a => { a with versions := a.versions ++ [{ undo := undo, via := some v, ix := ix, sub := sub }] }
  let s := if tern.isEmpty then s
    else { s with flt := { s.flt with badRows := s.flt.badRows.filter fun r => !tern.contains r } }
  s.noteCrossing

/-- TABLE_VERSION_EFFECTIVE: the oldest landed version takes effect, and its item is answered (R87). -/
def execTableVersionEffective (s : State) : Host.Outcome State Fault Refusal :=
  .next <| match s.acc.versions with
    | [] => s
    | x :: r =>
      (s.withAcc fun a => { a with versions := r, version := a.version + 1 }).answerTo x.via x.ix x.sub stOk

/-! ### Batches (R88) -/

/-- Set or end the batch of a master. -/
def State.setBatch (s : State) (m : Nat) (b : Option Batch) : State :=
  s.withAcc fun a => { a with batches := (b.map ([·])).getD [] ++ a.batches.filter fun x => x.master != m }

/-- The tables as a master's held changes would make them. -/
def State.overlay (s : State) (b : Option Batch) : State :=
  match b with
  | none => s
  | some b => b.held.foldl State.changed s

/-- A held change no longer fits: its row has changed since, or its checks fail. -/
def State.conflicts (s : State) : State → List RowChange → Bool
  | _, [] => false
  | t, c :: r =>
    c.old.any (fun f => decide (s.rowCell c.index c.row f.1 ≠ f.2))
      || (match objectAt c.index with
          | some o => decide (t.checkChange o c .none ≠ stOk)
          | none => true)
      || s.conflicts (t.changed c) r

/-- A batch control write: 1 open, 2 close, 3 discard; opening an open batch, or ending none, returns STATE. -/
def State.tryBatch (s : State) (v : Via) (data : Bytes) : Ended :=
  let m := masterOf v
  let x := ofBE data
  let st := firstBad
    [ require (Acc.wT.writes (s.principal v)) stAccess
    , require (data.length == 1) stType
    , s.startState
    , require (!within 1 3 x || ((x == 1) == (s.batch m).isNone)) stState
    , require (within 1 3 x) stRange ]
  if st ≠ stOk then .done st [] s
  else match s.batch m with
    | none => .done stOk [] (s.setBatch m (some { master := m, opened := s.now }))
    | some b =>
      let s := s.setBatch m none
      if x = 3 || b.held.isEmpty then .done stOk [] s
      else if s.conflicts s b.held then .done stState [] (s.event 0x0504 [m, b.held.length, 2])
      else .later (s.landVersion v 0x5000 0x10 b.held)

/-- BATCH_TIMEOUT: a batch open for 1 s is discarded. -/
def execBatchTimeout (master : Nat) (s : State) : Host.Outcome State Fault Refusal :=
  .next <| match s.batch master with
    | none => s
    | some b =>
      if b.opened + 1000000000 ≤ s.now then (s.setBatch master none).event 0x0504 [master, b.held.length, 1] else s

/-! ### Row actions -/

/-- A row action that landed clears the marks of its window (R25). -/
def State.unmark (s : State) (w : Window) : State := s.setWindow { w with marks := [] }

/-- COMMIT or CLEAR of the selected row, from STATE on. -/
def State.tryChange (s : State) (v : Via) (o : Obj) (w : Window) (c : RowChange) : Ended :=
  let b := if versioned c.index then s.batch (masterOf v) else none
  let base := s.overlay b
  let k := if c.index = 0x6010 && !c.clear then (s.changed c).newKey w c.row else .none
  let st := firstBad
    [ base.checkChange o c k
    , require ((b.map fun b => decide (b.held.length < 4096)).getD true) stResource ]
  if st ≠ stOk then
    .done st [] (if st = stRange && k = .bad then s.event 0x060B [c.row, masterOf v] else s)
  else
    let s := s.unmark w
    match b with
    | some b => .done stOk [] (s.setBatch b.master (some { b with held := b.held ++ [c] }))
    | none => if versioned c.index then .later (s.landVersion v c.index 3 [c]) else .done stOk [] (s.landRow c w k)

/-- The ACCESS cases of a row action (place 3). -/
def State.actionAccess (s : State) (v : Via) (ix : Nat) (o : Obj) (w : Window) (code : Nat) : Bool :=
  let p := s.principal v
  Acc.wT.writes p && !(o.published && within 1 2 code)
    && (match w.selected with
        | none => true
        | some row => s.rowOpen p ix row && !(within 1 2 code && lockedRow ix row)
            && (!(code == 1 && (ix == 0x5010 || ix == 0x5011))
                || (let c := s.commitChange w row o; (s.overlay (s.batch (masterOf v))).changed c |>.matchAccess c)))

/-- A write of x:03 (R24, R25); without a selected row no lease is asked for, and the answer is STATE (R24). -/
def State.tryRowAction (s : State) (v : Via) (ix : Nat) (o : Obj) (data : Bytes) : Ended :=
  let w := s.window (masterOf v) ix
  let code := if data.length = 1 then ofBE data else 0
  let head := s.domain ix (w.selected.getD 0)
  let s := if within 1 2 code then s.lapses head else s
  let st := firstBad
    [ require (s.actionAccess v ix o w code) stAccess
    , require (!within 1 2 code || w.selected.isNone || s.leased v head) stLeaseHeld
    , require (data.length == 1) stType
    , s.startState
    , require w.selected.isSome stState
    , require (within 1 3 code) stRange ]
  if st = stLeaseHeld then .done st [] (s.noteRefused v head ix 3)
  else if st ≠ stOk then .done st [] s
  else
    let row := w.selected.getD 0
    if code = 3 then .done stOk [] (s.loadWindow (masterOf v) ix row o)
    else s.tryChange v o w (if code = 1 then s.commitChange w row o else s.clearChange ix row o)

end Sys2Proof.Machine
end

