-- ==== Sys2Proof/Machine/Dictionary.lean ====
section
/-! DEFINITION. The dictionary's requests (R20–R49): reads and writes of any subindex, segmented transfers of DOMAIN
objects, row selection and actions, batches, leases, IDENTIFY and the life of Dolux keys. -/

namespace Sys2Proof.Machine

/-! ### Reads (R20, R28, R42) -/

/-- A readable value, as bytes; of a WINDOW the requester's selector and staging (R24, R25). -/
def State.valueOf (s : State) (m ix sub : Nat) (o : Obj) (e : Entry) : Ended :=
  match o.rows with
  | none =>
    let (x, s) := s.readValue m ix 0 sub
    .done stOk (toBE e.ty.len x) s
  | some _ =>
    let w := s.window m ix
    let x := if sub = 1 then w.selector else if sub = 2 then s.rowCount ix o else w.value sub
    .done stOk (toBE e.ty.len x) s

/-- A READ: :00 is the highest subindex, readable to every principal that reaches the object (R20, R27). -/
def State.tryRead (s : State) (v : Via) (ix sub : Nat) : Ended :=
  match objectAt ix with
  | none => .done stNoObject [] s
  | some o =>
    if sub = 0 then
      if ownTenant (s.principal v) ix then .done stOk (toBE 1 o.highest) s else .done stAccess [] s
    else match o.entry sub with
      | none => .done stNoSubindex [] s
      | some e =>
        let p := s.principal v
        let st := firstBad
          [ require (e.acc.reads p && ownTenant p ix) stAccess
          , require (decide (e.ty ≠ .domain)) stType ]
        if st = stOk then s.valueOf (masterOf v) ix sub o e else .done st [] s

/-- READ. -/
def execRead (v : Via) (ix sub : Nat) (s : State) : Host.Outcome State Fault Refusal :=
  .next (s.item v (readReq ix sub) fun s _ => s.tryRead v ix sub)

/-- The bytes of a DOMAIN object; the pending list of a port reads as the operative one while none is pending (R144). -/
def State.domainBytes (s : State) (ix sub : Nat) : Bytes :=
  if within 0x3400 0x37FF ix && sub == 3 && s.ob ix 5 == 0 then s.blob ix 4 else s.blob ix sub

/-- A DOMAIN_READ with `room` bytes of response left (R26): one byte too many stands for data that does not fit. -/
def State.tryDomainRead (s : State) (v : Via) (ix sub off max room : Nat) : Ended :=
  match objectAt ix with
  | none => .done stNoObject [] s
  | some o =>
    match o.entry sub with
    | none =>
      .done (if sub ≠ 0 then stNoSubindex else if ownTenant (s.principal v) ix then stType else stAccess) [] s
    | some e =>
      let p := s.principal v
      let b := s.domainBytes ix sub
      let st := firstBad
        [ require (e.acc.reads p && ownTenant p ix) stAccess
        , require (decide (e.ty = .domain)) stType
        , require (decide (off ≤ b.length)) stRange ]
      if st ≠ stOk then .done st [] s
      else .done stOk ((b.drop off).take (min max (Nat.max 1 room))) s

/-- DOMAIN_READ. -/
def execDomainRead (v : Via) (ix sub off max : Nat) (s : State) : Host.Outcome State Fault Refusal :=
  .next (s.item v (domainReadReq ix sub off max) fun s room => s.tryDomainRead v ix sub off max room)

/-! ### Leases (R32–R38) -/

/-- A lease request; the station's functions follow 0x1303:01 (R37, R255). -/
def State.tryLease (s : State) (v : Via) (head code ms len : Nat) : Ended :=
  match s.lease v head code ms len with
  | .done st d t => .done st d (t.stationMoved s.stationMaster)
  | .later t => .later t

/-- A lease operation as an item. -/
def State.leaseItem (s : State) (v : Via) (head code ms : Nat) : State :=
  s.item v (writeReq head 0xF2 (toBE 4 (code * 2 ^ 28 + ms))) fun s _ => s.tryLease v head code ms 4

/-- ACQUIRE. -/
def execAcquire (v : Via) (head ms : Nat) (s : State) : Host.Outcome State Fault Refusal := .next (s.leaseItem v head 1 ms)

/-- RENEW. -/
def execRenew (v : Via) (head ms : Nat) (s : State) : Host.Outcome State Fault Refusal := .next (s.leaseItem v head 2 ms)

/-- RELEASE. -/
def execRelease (v : Via) (head ms : Nat) (s : State) : Host.Outcome State Fault Refusal := .next (s.leaseItem v head 3 ms)

/-- TAKE. -/
def execTake (v : Via) (head ms : Nat) (s : State) : Host.Outcome State Fault Refusal := .next (s.leaseItem v head 4 ms)

/-- LEASE_EXPIRY: the first arbitration slot at or after the expiry (R36). -/
def execLeaseExpiry (head : Nat) (s : State) : Host.Outcome State Fault Refusal := .next (s.lapse head)

/-! ### Rules of scalar objects -/

/-- What follows a plain write: the selected time source, the core reference, REF10M, the pair, a port's state. -/
def State.landed (s : State) (ix sub x : Nat) : State :=
  if (ix == 0x1201 && within 1 4 sub) || (ix == 0x1202 && sub == 1) then s.refreshSource
  else if ix == 0x1202 && sub == 7 then if x = 1 && s.ob 0x1202 8 = 1 then s.slew else s
  else if ix == 0x1203 && sub == 1 then if s.coreRefHere x then s.coreReference x else s
  else if ix == 0xC000 && sub == 1 then if x = 0 then s.setPartner 0 else s
  else if within 0x2000 0x23FF ix && sub == 1 then s.refreshPort (ix - 0x2000) 4 true
  else s

/-- The rule of a plain object whose value something follows. -/
def followedRule (ix sub : Nat) : WriteRule where
  check := (plainRule ix sub).check
  act s _ x := .done stOk [] ((s.setOb ix sub x).landed ix sub x)

/-- Port enable (R60, R66): STATE while the port is ABSENT. -/
def portEnableRule (p : Nat) : WriteRule where
  check s v x := firstBad [s.startState, s.portState p, (plainRule (portIx p) 1).check s v x]
  act := (followedRule (portIx p) 1).act

/-- A calendar (R58): STATE for the active one; a slot names a channel or is unused. The calendar that a pending switch goes to
may be written, and takes effect as it then stands (log entry 70). -/
def calendarBytesRule (l sub : Nat) : WriteRule where
  check s _ x := firstBad
    [ s.startState
    , require (decide (sub ≠ 0x30 + s.ob (laneIx l) 0x32)) stState
    , require ((List.range 20).all fun k => decide (calSlot x k < 16) || decide (calSlot x k = 255)) stRange ]
  act s _ x := .done stOk [] (s.setOb (laneIx l) sub x)

/-- A client id (R58): a change is refused where the channel owns slots of the active calendar, and a nonzero id that
another channel has. -/
def clientRule (l c : Nat) : WriteRule where
  check s v x := firstBad
    [ s.startState
    , require (decide (s.ob (laneIx l) (0x40 + c) = x) || decide (calSlots (s.calendar l) c = 0)) stState
    , (plainRule (laneIx l) (0x40 + c)).check s v x
    , require (decide (x = 0) || (List.range 16).all fun d => d == c || s.ob (laneIx l) (0x40 + d) != x) stRange ]
  act s _ x := .done stOk [] (s.setOb (laneIx l) (0x40 + c) x)

/-- The phase of a cell (R303): below its period while an image is loaded. -/
def phaseRule (c : Nat) : WriteRule where
  check s v x := firstBad
    [ (plainRule (cellIx c) 0xA).check s v x
    , require ((s.cellDyn c).image.all fun i => decide (x < i.period)) stRange ]
  act := (plainRule (cellIx c) 0xA).act

/-- The alarm code takes only 0 (Table 12-10). -/
def alarmRule (c : Nat) : WriteRule where
  check s _ x := firstBad [s.startState, require (decide (x = 0)) stRange]
  act := (plainRule (cellIx c) 0x16).act

/-- A request record with no operation of Table 7-5. -/
def noOpRule : WriteRule where
  check s _ _ := firstBad [s.startState, stRange]
  act s _ _ := .done stOk [] s

/-- Rules of 0x1000–0x1FFF. -/
def deviceRule (ix sub : Nat) : WriteRule :=
  if ix = 0x1120 then mgmtModeRule .m0
  else if ix = 0x1121 then mgmtModeRule .m1
  else if ix = 0x1202 && sub = 3 then nextPpsRule
  else if ix = 0x1300 then if sub = 1 then resetRule else unlockRule
  else if ix = 0x1301 then commitRule
  else if ix = 0x1302 then fwCommandRule
  else followedRule ix sub

/-- Rules of a lane. -/
def laneRule (l : Lane) (sub : Nat) : WriteRule :=
  if sub = 1 then laneModeRule l
  else if sub = 2 then fecRule l
  else if sub = 5 || sub = 6 then polarityRule l.val sub
  else if sub = 0x30 || sub = 0x31 then calendarBytesRule l.val sub
  else if sub = 0x33 then calendarRule l
  else if within 0x40 0x4F sub then clientRule l.val (sub - 0x40)
  else plainRule (laneIx l.val) sub

/-- Rules of a port's scheduler. -/
def queueRule (p : Port) (q : QueueNo) (k : Nat) : WriteRule :=
  if k = 1 then quantumRule p q
  else if k = 2 then shaperEnableRule p q
  else if k = 3 then idleSlopeRule p q
  else plainRule (schedIx p.val) (qSub q.val k)

/-- Rules of 0x2000–0x3FFF. -/
def portRule (ix sub : Nat) : WriteRule :=
  let p : Port := Fin.ofNat 1024 ix
  if ix < 0x2400 then
    if sub = 1 then portEnableRule p.val
    else if sub = 5 then maximumFrameRule p
    else pauseHonouringRule p
  else if ix < 0x3000 then laneRule (Fin.ofNat 64 ix) sub
  else if ix < 0x3400 then queueRule p (Fin.ofNat 8 (sub / 16)) (sub % 16)
  else if sub = 1 then gateControlRule p
  else if sub = 2 then initialStatesRule p
  else cancelRule p

/-- Rules of 0x5000–0x8FFF. -/
def hostRule (ix sub : Nat) : WriteRule :=
  if ix = 0x6000 then restartRule none
  else if (ix = 0x7100 || ix = 0x7101) && sub = 1 then hostPortRule (ix - 0x7100)
  else if 0x8000 ≤ ix then
    let t := ix - 0x8000
    if sub = 1 || sub = 2 then tenantRule t sub
    else if sub = 6 || sub = 7 then uplinkRule t sub
    else plainRule ix sub
  else plainRule ix sub

/-- Rules of 0x9000 and above. -/
def firmRule (ix sub : Nat) : WriteRule :=
  if ix = 0x9001 && sub = 1 then bindingLockRule
  else if ix = 0x9200 then stationChannelsRule
  else if ix = 0x9300 then carveRule sub
  else if within 0xA000 0xAFFF ix then
    let c := ix - 0xA000
    if sub = 4 then cellModeRule c
    else if sub = 0xA then phaseRule c
    else if sub = 0x16 then alarmRule c
    else if sub = 0x1A then unloadRule c
    else plainRule ix sub
  else followedRule ix sub

/-- The rule of a scalar object. -/
def scalarRule (ix sub : Nat) : WriteRule :=
  if ix < 0x2000 then deviceRule ix sub
  else if ix < 0x5000 then portRule ix sub
  else if ix < 0x9000 then hostRule ix sub
  else firmRule ix sub

/-- Writes that the admission unit checks: their status also reads in 0x4001:02 (R155). -/
def admChecked (ix sub : Nat) : Bool :=
  (within 0x2400 0x243F ix && (sub == 1 || sub == 2 || sub == 0x33))
    || (within 0x2000 0x23FF ix && (sub == 5 || sub == 6))
    || (within 0x3000 0x33FF ix && within 1 3 (sub % 16))
    || (within 0x3400 0x37FF ix && within 1 2 sub)
    || ix == 0x9300

/-! ### Writes (R21, R23, R29, R40) -/

/-- A request record of 0x4001:01, by the operation in its first byte. -/
def State.tryRecord (s : State) (v : Via) (rec : Bytes) : Ended :=
  let e := match [AdmOp.admitStream, .withdraw, .check, .modify].find? fun op => op.code == be rec 0 1 with
    | some op => s.tryRequest v op rec
    | none => s.tryWrite v 0x4001 1 rec noOpRule
  e.noted (masterOf v)

/-- A write of a WINDOW object: the selector, a row action or a data field. -/
def State.tryWindow (s : State) (v : Via) (ix sub : Nat) (o : Obj) (data : Bytes) : Ended :=
  if sub = 0 || sub = 2 then .done stAccess [] s
  else if sub = 1 then s.trySelect v ix o data
  else if sub = 3 then s.tryRowAction v ix o data
  else match o.entry sub with
    | none => .done stNoSubindex [] s
    | some e => s.tryStage v ix sub e data

/-- The active supervisor publishes the holder of a DMA channel (R31, R312). -/
def State.publishes (s : State) (v : Via) (ix sub : Nat) (data : Bytes) : Bool :=
  ix == 0x9200 && within 0x10 0x2F sub && data.length == 2
    && (match v with
        | .firmware n => decide (n.val = s.ob 0x9400 1)
        | _ => false)

/-- A WRITE of any subindex (R40). -/
def State.tryAny (s : State) (v : Via) (ix sub : Nat) (data : Bytes) : Ended :=
  match objectAt ix with
  | none => .done stNoObject [] s
  | some o =>
    if o.head && sub == 0xF2 then s.tryLease v ix (ofBE data / 2 ^ 28) (ofBE data % 2 ^ 24) data.length
    else if o.rows.isSome then s.tryWindow v ix sub o data
    else if ix = 0x1001 && sub = 1 then s.tryProfile v data
    else if ix = 0x4001 && sub = 1 then s.tryRecord v data
    else if ix = 0x5000 && sub = 0x10 then s.tryBatch v data
    else if s.publishes v ix sub data then .done stOk [] (s.setOb ix sub (ofBE data))
    else
      let e := s.tryWrite v ix sub data (scalarRule ix sub)
      if admChecked ix sub then e.noted (masterOf v) else e

/-- A write as an item. -/
def State.anyItem (s : State) (v : Via) (ix sub : Nat) (data : Bytes) : State :=
  s.item v (writeReq ix sub data) fun s _ => s.tryAny v ix sub data

/-- WRITE. -/
def execWrite (v : Via) (ix sub : Nat) (data : Bytes) (s : State) : Host.Outcome State Fault Refusal :=
  .next (s.anyItem v ix sub data)

/-- ROW_SELECT: a write of x:01. -/
def execRowSelect (v : Via) (ix row : Nat) (s : State) : Host.Outcome State Fault Refusal :=
  .next (s.anyItem v ix 1 (toBE 4 row))

/-- A row action: a write of x:03. -/
def State.actionItem (s : State) (v : Via) (ix code : Nat) : State := s.anyItem v ix 3 (toBE 1 code)

/-- COMMIT. -/
def execCommit (v : Via) (ix : Nat) (s : State) : Host.Outcome State Fault Refusal := .next (s.actionItem v ix 1)

/-- CLEAR. -/
def execClear (v : Via) (ix : Nat) (s : State) : Host.Outcome State Fault Refusal := .next (s.actionItem v ix 2)

/-- LOAD. -/
def execLoad (v : Via) (ix : Nat) (s : State) : Host.Outcome State Fault Refusal := .next (s.actionItem v ix 3)

/-- A write of the batch control 0x5000:10. -/
def State.batchItem (s : State) (v : Via) (code : Nat) : State := s.anyItem v 0x5000 0x10 (toBE 1 code)

/-- BATCH_OPEN. -/
def execBatchOpen (v : Via) (s : State) : Host.Outcome State Fault Refusal := .next (s.batchItem v 1)

/-- BATCH_CLOSE. -/
def execBatchClose (v : Via) (s : State) : Host.Outcome State Fault Refusal := .next (s.batchItem v 2)

/-- BATCH_DISCARD. -/
def execBatchDiscard (v : Via) (s : State) : Host.Outcome State Fault Refusal := .next (s.batchItem v 3)

/-! ### DOMAIN transfers (R26) -/

/-- The open transfer of an object. -/
def State.transfer (s : State) (ix sub : Nat) : Option Transfer :=
  s.acc.transfers.find? fun t => t.index == ix && t.sub == sub

/-- Close the transfer of an object. -/
def State.dropTransfer (s : State) (ix sub : Nat) : State :=
  s.withAcc fun a => { a with transfers := a.transfers.filter fun t => !(t.index == ix && t.sub == sub) }

/-- The check of an object whose last byte has arrived. -/
def State.domainWhole (s : State) (v : Via) (ix sub : Nat) (b : Bytes) : Ended :=
  if within 0x3400 0x37FF ix then
    let st := s.gateListStatus (ix - 0x3400) b
    (if st ≠ stOk then .done st [] s else s.queueAdm v (.domainWrite v ix sub 0 b.length b) : Ended).noted (masterOf v)
  else if ix = 0x1302 then
    let r := s.stageFirmware b
    .done r.1 [] r.2
  else
    let r := s.loadImage (ix - 0xA000) (masterOf v) b
    .done r.1 [] r.2

/-- The checks of a segment by its place in the transfer: RANGE, then BUSY. -/
def State.segmentStatus (s : State) (m ix sub off total len : Nat) : Nat :=
  let mine := (s.transfer ix sub).filter fun t => t.master == m
  let other := (s.transfer ix sub).any fun t => t.master != m
  firstBad
    [ require (decide (total ≤ 16777216) && decide (off + len ≤ total)) stRange
    , require (!other) stBusy
    , require (decide (off = 0) || mine.any fun t => decide (off = t.data.length) && decide (total = t.total)) stRange ]

/-- A segment that passed its checks is kept; the last one ends the transfer and runs the object's check. -/
def State.keepSegment (s : State) (v : Via) (ix sub off total : Nat) (data : Bytes) : Ended :=
  let old := if off = 0 then [] else ((s.transfer ix sub).map (·.data)).getD []
  let b := old ++ data
  let s := s.dropTransfer ix sub
  if b.length = total then s.domainWhole v ix sub b
  else
    let t : Transfer := { index := ix, sub := sub, master := masterOf v, total := total, data := b, last := s.now }
    .done stOk [] (s.withAcc fun a => { a with transfers := t :: a.transfers })

/-- The places of Table 2-9 of a segment up to STATE. A WINDOW field and the batch control have no lease check. -/
def State.domainAccess (s : State) (v : Via) (ix sub : Nat) (o : Obj) (e : Entry) : Nat :=
  let p := s.principal v
  let free := o.rows.isSome || ix == 0x5000 || sub == 0xF2
  firstBad
    [ require ((if o.head && sub == 0xF2 then s.mayLease v ix else e.acc.writes p) && ownTenant p ix) stAccess
    , require (free || s.leased v (s.domain ix 0)) stLeaseHeld
    , require (decide (e.ty = .domain)) stType
    , s.startState ]

/-- A DOMAIN_WRITE segment (R26). A segment that breaks its transfer's order aborts it, which logs nothing: 0x012A is the
timeout's alone (log entry 62). -/
def State.tryDomainWrite (s : State) (v : Via) (ix sub off total : Nat) (data : Bytes) : Ended :=
  match objectAt ix with
  | none => .done stNoObject [] s
  | some o =>
    match o.entry sub with
    | none => .done (if sub = 0 then stAccess else stNoSubindex) [] s
    | some e =>
      let head := s.domain ix 0
      let s := s.lapses head
      let st := s.domainAccess v ix sub o e
      if st = stLeaseHeld then .done st [] (s.noteRefused v head ix sub)
      else if st ≠ stOk then .done st [] s
      else
        let m := masterOf v
        let st := s.segmentStatus m ix sub off total data.length
        if st = stOk then s.keepSegment v ix sub off total data
        else if st = stRange && (s.transfer ix sub).any (fun t => t.master == m) then .done st [] (s.dropTransfer ix sub)
        else .done st [] s

/-- DOMAIN_WRITE. -/
def execDomainWrite (v : Via) (ix sub off total : Nat) (data : Bytes) (s : State) : Host.Outcome State Fault Refusal :=
  .next (s.item v (domainWriteReq ix sub off total data) fun s _ => s.tryDomainWrite v ix sub off total data)

/-- DOMAIN_TRANSFER_TIMEOUT: no segment for 1 s; 0x012A. -/
def execDomainTransferTimeout (ix sub : Nat) (s : State) : Host.Outcome State Fault Refusal :=
  .next <| match s.transfer ix sub with
    | none => s
    | some t =>
      if t.last + 1000000000 ≤ s.now then (s.dropTransfer ix sub).event 0x012A [ix, t.master, t.data.length] else s

/-! ### Dolux (R41–R46) -/

/-- The answers of an IDENTIFY in execution: one item for each identity subindex. -/
def State.identity (s : State) (m : DoluxMsg) (d : Session) : State :=
  let items := (List.range 6).map fun i =>
    let sub := i + 1
    if d.auth then itemBytes 0x1000 sub stAuth [] else itemBytes 0x1000 sub stOk (toBE (cellLen 0x1000 sub) (s.ob 0x1000 sub))
  s.respond (msgKey m) { d with resp := items.flatten, answered := 6 }

/-- IDENTIFY: its response has six items (R41). -/
def execIdentify (m : DoluxMsg) (s : State) : Host.Outcome State Fault Refusal :=
  .next <|
    if s.pwr.inReset || s.devState = 4 || decide (msgOpcode m ≠ 5) then s
    else
      let s := s.admitMsg m
      match s.session (msgKey m) with
      | none => s
      | some d => if d.msg = some m && !d.held then s.identity m d else s

/-- DOLUX_DATAGRAM_DROPPED: a datagram at the Dolux address that is malformed is dropped and counted (R41, R42). -/
def execDoluxDatagramDropped (m : DoluxMsg) (s : State) : Host.Outcome State Fault Refusal :=
  .next <|
    if s.pwr.inReset || s.devState = 4 || !s.isDolux (msgLayer m) || !s.placeUp m.place || !msgMalformed m then s
    else s.inc 0x1102 2

/-- Record in flash 1 the highest counter of a key and its transmit counter; the key is in use (R44). -/
def State.recordKey (s : State) (k : Nat) : State :=
  { s with pwr := { s.pwr with
    replay := NMap.put (0, 0, false) s.pwr.replay k (s.cell 0x1110 k 9, (s.key k).tx, true) } }

/-- FRESH_KEY_RECORDED: the message held under a fresh key may now be executed (R44). -/
def execFreshKeyRecorded (key : Fin 256) (s : State) : Host.Outcome State Fault Refusal :=
  .next <| match s.session key.val with
    | none => s
    | some d => if d.held then (s.recordKey key.val).setSession key.val (some { d with held := false }) else s

/-- REPLAY_COUNTER_WRITE: after 65,536 accepted messages (R44). -/
def execReplayCounterWrite (key : Fin 256) (s : State) : Host.Outcome State Fault Refusal :=
  .next <|
    if 65536 ≤ (s.key key.val).accepted then
      (s.recordKey key.val).setKey key.val { s.key key.val with accepted := 0 }
    else s

/-- KEY_VALIDITY_ENDED: the leases of its holder end (R36, R43). -/
def execKeyValidityEnded (key : Fin 256) (s : State) : Host.Outcome State Fault Refusal :=
  .next <|
    if s.cell 0x1110 key.val 4 = 1 && s.keyEnded key.val then
      (s.event 0x0129 [key.val]).endLeasesOf (0x4000 + key.val) 6
    else s

end Sys2Proof.Machine
end

