-- ==== Sys2Proof/Machine/RegFile.lean ====
section
/-! DEFINITION. Direct access to registers (R7, R39, R228, R233–R238, R258, R268, R313): which register a function or thread
reaches at an offset, what a write and a read of it do, configuration space, the expansion ROM with its resource map. -/

namespace Sys2Proof.Machine

/-! ### Which register an access reaches -/

/-- The offset in the VF layout of an offset in a PF0's station region (R236); `none` outside it. -/
def stationOffset (off : Nat) : Option Nat :=
  if within 0x200000 0x204FFF off then some (off - 0x1FF000)
  else if within 0x3D0000 0x3D1FFF off then some (off - 0x3D0000 + 0xA000)
  else if within 0x3E0000 0x3E1FFF off then some (off - 0x3E0000 + 0x6000)
  else if within 0x3F0000 0x3F3FFF off then some (off - 0x3F0000 + 0xC000)
  else none

/-- The offsets of the DMA channels' registers (R312). -/
def channelOffset (off : Nat) : Option Nat := if within 0x1400000 0x14007FF off then some (off - 0x1400000) else none

/-- The owner and offset of the register that a PF0 reaches: identity registers answer in every device state; the
others not in START or FAULT, nor in an FLR (R246, R334). -/
def State.pf0Target (s : State) (p : HostPort) (off : Nat) : Option (Nat × Nat) :=
  let m := portMaster p
  if off < 0x100000 then if s.pwr.inReset || (s.func m).inFlr then none else some (m, off)
  else if !s.funcLive m then none
  else match stationOffset off with
    | some o => (s.regionOf (.pf0 p)).map fun t => (t, o)
    | none => some (m, off)

/-- The owner and offset of the register that an access reaches. -/
def State.regTarget (s : State) (f : Func) (off : Nat) : Option (Nat × Nat) :=
  match f with
  | .pf0 p => s.pf0Target p off
  | .vf _ => (s.regionOf f).map fun t => (t, off)
  | .thread n => if s.pwr.inReset then none else some (threadMaster n.val, off)

/-! ### Writes -/

/-- A mailbox slot's register belongs to a binding: offsets below 0x40 to its sending, the others to its receiving side. -/
def State.slotBound (s : State) (owner off : Nat) : Bool :=
  let slot := (off - 0x4000) / 128
  if off % 128 < 0x40 then (s.sendChannel owner slot).isSome else (s.recvChannel owner slot).isSome

/-- A write in the mailbox slots of an owner (Table 11-7). -/
def State.writeSlot (s : State) (o off : Nat) (val : Word) : State :=
  let slot := (off - 0x4000) / 128
  let k := off % 128
  if k = 0x10 then s.sendCommit o slot val
  else if k = 0x58 then s.popHead o slot val
  else if k = 0x68 then s.flushStale o slot val
  else if s.slotBound o off then (s.writeReg o off val).slotLevels o
  else s

/-- A write of a ring's register (Table 11-2): BASE and SIZE are ignored while ENABLE is 1; CMPL_HEAD frees room for completions
that are owed. -/
def State.writeRing (s : State) (o off : Nat) (val : Word) : State :=
  let tx := decide (off < 0x2000)
  let r := off / 64 % 64
  let k := off % 64
  if k = 0x0C then s.ringTail o tx r val
  else if k = 0x24 then s.writeRingCtrl o tx r val
  else if [0x00, 0x04, 0x08, 0x14, 0x18].contains k && s.ringEnabled o tx r then s
  else if k = 0x1C then
    let s := (s.writeReg o off val).noteFull o tx r
    if tx then (s.settleRing o r).beginRead o r else s.resumeHeld o
  else s.writeReg o off val

/-- A write of a cipher page register (Table 8-4). -/
def State.writePage (s : State) (o off : Nat) (val : Word) : State :=
  if off = cp 0xC then s.ringPage o val
  else if off = cp 0x18 then s.writePageCtrl o val
  else if off < cp 0xC && s.regBits o (cp 0x18) 0 0 = 1 then s
  else s.writeReg o off val

/-- A write of a storage queue register (Table 9-1); CQ_CONS frees room for records that wait. -/
def State.writeStorage (s : State) (o off : Nat) (val : Word) : State :=
  if off = sq 0xC then s.ringStor o val
  else if off = sq 0x28 then s.writeStorCtrl o val
  else if [0x00, 0x04, 0x08, 0x14, 0x18, 0x1C].contains (off - sq 0) && s.regBits o (sq 0x28) 0 0 = 1 then s
  else
    let s := s.writeReg o off val
    if off = sq 0x24 then ((s.noteCq o).resumeHeld o).stepStor o else s

/-- A write of a telemetry ring register (Table 6-7). -/
def State.writeTelemetry (s : State) (o off : Nat) (val : Word) : State :=
  if off = tlm 0x14 then s.writeTlmCtrl o val
  else if off < tlm 0xC && s.regBits o (tlm 0x14) 0 0 = 1 then s
  else s.writeReg o off val

/-- A write in a tenant's region (Table 10-4); a vector's control lets its message leave. -/
def State.writeTenant (s : State) (t off : Nat) (val : Word) : State :=
  if within 0x1000 0x2FFF off then s.writeRing t off val
  else if within 0x4000 0x5FFF off then s.writeSlot t off val
  else if within 0x6000 0x7FFF off then s.writePage t off val
  else if within 0x8000 0x83FF off then (s.writeReg t off val).flushPba (s.funcMaster t)
  else if within 0xA000 0xBFFF off then s.writeStorage t off val
  else if 0xC000 ≤ off then s.writeTelemetry t off val
  else s.writeReg t off val

/-- A write of a DMA channel's register by a master that may (R313); the setup is ignored while the channel is busy. -/
def State.writeChannel (s : State) (master off : Nat) (val : Word) : State :=
  let ch := off / 64
  let k := off % 64
  if k = 0x18 && bit val.toNat 0 then s.dmaStart master ch (dmaMode (s.dmaSetup ch))
  else if k = 0x1C && bit val.toNat 0 then s.dmaAbort master ch
  else match s.dmaMay master ch k with
    | (false, s) => s
    | (true, s) => if s.dmaBusy ch && k ≤ 0x14 then s else s.writeReg 0 off val

/-- A write of a PF0's own registers: LEASE_REQ, the request buffer and GO of its window, its event view, its MSI-X table, a DMA
channel, or a register. -/
def State.writePf0 (s : State) (m off : Nat) (val : Word) : State :=
  let p : HostPort := if m = 2 then .b else .a
  if within 0x101000 0x101FFF off then
    { s with dwBuf := NMap.putBytes s.dwBuf (m * 0x10000 + (off - 0x100000)) (toLE 4 val.toNat) }
  else if off = 0x20 then s.anyItem (.leaseReq p) 0x1303 0xF2 (toBE 4 val.toNat)
  else if off = dw 0x0C then if bit val.toNat 0 then s.dwGo p else s
  else if off = 0x800004 then s.completeBy (255 + m) (bits val.toNat 11 0)
  else if off = 0x80000C then s.setPend m (bits val.toNat 11 0) (s.maySetPend m)
  else if within 0x1400000 0x14007FF off then s.writeChannel m (off - 0x1400000) val
  else
    let s := s.writeReg m off val
    if off = 0x800008 then s.deliver (255 + m)
    else if within 0x400000 0x407FFF off then s.flushPba m
    else s

/-- A write in a thread's local register space: its mailbox slots and its DMA channels (R268, R312). -/
def State.writeThread (s : State) (m off : Nat) (val : Word) : State :=
  match channelOffset off with
  | some c => s.writeChannel m c val
  | none => if within 0x4000 0x5FFF off then s.writeSlot m off val else s

/-- The aligned 32-bit writes that an access makes, of 4 or of 8 bytes; other sizes are discarded (R233). -/
def accessWords (off : Nat) (data : Bytes) : List (Nat × Word) :=
  if data.length = 4 && off % 4 = 0 then [(off, BitVec.ofNat 32 (ofLE data))]
  else if data.length = 8 && off % 8 = 0 then
    [(off, BitVec.ofNat 32 (le data 0 4)), (off + 4, BitVec.ofNat 32 (le data 4 4))]
  else []

/-- A write of one word at an offset that a function or thread reaches. -/
def State.writeWord (s : State) (f : Func) (off : Nat) (val : Word) : State :=
  match s.regTarget f off with
  | none => s
  | some (o, a) => if o ≤ 2 then s.writePf0 o a val else if o < 0x2000 then s.writeTenant o a val else s.writeThread o a val

/-- A write through BAR0, or in a thread's local register space. The push window takes a whole posted write (R261). -/
def State.writeBar (s : State) (f : Func) (off : Nat) (data : Bytes) : State :=
  match s.regTarget f off with
  | none => s
  | some (o, a) =>
    if 2 < o && o < 0x2000 && within 0x3800 0x3FFF a then if a % 512 = 0 then s.push o data else s
    else (accessWords off data).foldl (fun s x => s.writeWord f x.1 x.2) s

/-- REGISTER_WRITE: through BAR0, in configuration space, or in the expansion ROM, whose writes are discarded (R237). -/
def execRegisterWrite (f : Func) (a : RegPlace) (data : Bytes) (s : State) : Host.Outcome State Fault Refusal :=
  .next <| match a.space with
    | .bar => s.writeBar f a.off data
    | .config => s.configWrite f a.off data
    | .rom => s

/-- FAST_PATH_WRITE: the registers at 0x100_0000 and above are those of the station channels (R39, R312). -/
def execFastPathWrite (master off : Nat) (data : Bytes) (s : State) : Host.Outcome State Fault Refusal :=
  .next <|
    if s.devState = 0 || s.devState = 4 || (s.func master).inFlr then s
    else (accessWords off data).foldl (fun s x => match channelOffset x.1 with
      | some c => s.writeChannel master c x.2
      | none => s) s

/-! ### Reads -/

/-- DEV_STATE of a function (Table 10-5). FORWARDING is 1 in the states whose ports forward, SERVICE and RECOVERY
(DEDUCED from Table 15-6, log entry 51). -/
def State.devStateReg (s : State) (m : Nat) : Nat :=
  let pf0 := decide (m ≤ 2)
  let active := s.cells.any fun e => decide (s.ob (cellIx e.1) 5 = 3)
  s.devState % 16
    + (if s.devState = 1 || s.devState = 2 then 0x10 else 0)
    + (if active then 0x20 else 0)
    + (if s.stationMaster ≠ 0 && s.stationMaster = s.hpOf m + 1 then 0x40 else 0)
    + (if pf0 && s.explicitHolder 0x1303 = m then 0x80 else 0)
    + (if s.timeValid then 0x100 else 0)
    + (if (s.func m).halted then 0x200 else 0)

/-- LEASE_REMAIN: whole milliseconds to the expiry of the station lease, rounded up (log entry 52). -/
def State.leaseRemain (s : State) : Nat :=
  if s.explicitHolder 0x1303 = 0 then 0 else (s.ob 0x1303 0xF1 - s.now + 999999) / 1000000

/-- An identity register of a function (Table 10-5); a VF has those below 0x14 (R235). -/
def State.identReg (s : State) (m off : Nat) : Nat :=
  if off = 0x00 then s.ob 0x1000 6
  else if off = 0x04 then s.regN m 4
  else if off = 0x08 then
    (if m ≤ 2 then 1 else 2) * 2 ^ 28 + (s.hpOf m + 1) * 2 ^ 24 + s.ob 0x1001 2 % 2 * 2 ^ 16
      + (if m ≤ 2 then 0 else m - 0x1000)
  else if off = 0x0C then s.devStateReg m
  else if off = 0x10 then s.ob (hostIx (s.hpOf m)) 0x14
  else if 2 < m then 0
  else if off = 0x14 then s.ob 0x1000 5
  else if off = 0x18 then s.ob 0x1000 4
  else if off = 0x1C then s.ob 0x1000 4 / 2 ^ 32
  else if off = 0x24 then s.explicitHolder 0x1303 * 256 + s.regN m 0x24 % 256
  else if off = 0x28 then s.leaseRemain
  else if off = 0x2C then s.ob 0x1303 0xF3
  else 0

/-- 32 bits, bit i from the i-th number on. -/
def wordOf (f : Nat → Bool) (first : Nat) : Nat :=
  ((List.range 32).map fun i => if f (first + i) then 2 ^ i else 0).sum

/-- A register of the event controller's host view (Table 11-10): a source ACTIVE_PENDING is both. -/
def State.eventView (s : State) (m o : Nat) : Nat :=
  let ctx := 255 + m
  let pending := fun id => decide (s.ctxOf id = some ctx) && s.srcState id % 2 == 1
  let active := fun id => decide (s.ctxOf id = some ctx) && decide (2 ≤ s.srcState id)
  if o = 0x08 then s.threshold ctx
  else if o = 0x10 then
    let id := (s.select ctx 1).getD 0
    id * 2 ^ 16 + (if id = 0 then 0 else s.cell 0x9100 id 6) * 2 ^ 8 + (s.rng.delivered.contains ctx).toNat
  else if within 0x1000 0x11FF o then wordOf pending ((o - 0x1000) * 8)
  else if within 0x2000 0x21FF o then wordOf active ((o - 0x2000) * 8)
  else 0

/-- CP_STATUS: ENGINE_STOPPED is 1 while the cipher engine does not run (R198). -/
def State.pageStatus (s : State) (o : Nat) : Nat :=
  setBit (s.regN o (cp 0x20)) 2 (decide (s.ob 0x6000 1 = 2) || decide (s.ob 0x6000 1 = 3))

/-- A register of a PF0 as it reads. -/
def State.pf0Value (s : State) (m a : Nat) : Nat :=
  if a < 0x100000 then s.identReg m a
  else if within 0x101000 0x102FFF a then ofLE (NMap.bytes s.dwBuf (m * 0x10000 + (a - 0x100000)) 4)
  else if within 0x410000 0x4100FF a then wordOf (fun v => (s.func m).pba.contains v) ((a - 0x410000) * 8)
  else if within 0x800000 0xFFFFFF a then s.eventView m (a - 0x800000)
  else match channelOffset a with
    | some c => s.regN 0 c
    | none => s.regN m a

/-- A register of a tenant's region as it reads. -/
def State.tenantValue (s : State) (o a : Nat) : Nat :=
  if a < 0x1000 then s.identReg o a
  else if within 0x4000 0x5FFF a then (s.slotReg o a).toNat
  else if a = cp 0x20 then s.pageStatus o
  else if within 0x8800 0x8807 a then wordOf (fun v => (s.func (s.funcMaster o)).pba.contains v) ((a - 0x8800) * 8)
  else s.regN o a

/-- A register of a thread's local register space as it reads; reads of channels are not checked (R313). -/
def State.threadValue (s : State) (o a : Nat) : Nat :=
  match channelOffset a with
  | some c => s.regN 0 c
  | none => if within 0x4000 0x5FFF a then (s.slotReg o a).toNat else 0

/-- A register as it reads. -/
def State.regValue (s : State) (o a : Nat) : Nat :=
  if o ≤ 2 then s.pf0Value o a else if o < 0x2000 then s.tenantValue o a else s.threadValue o a

/-- RC bits clear after a read (Table 0-3); a slot's, where it is bound. -/
def State.clearRead (s : State) (o a : Nat) : State :=
  match regAt o a with
  | none => s
  | some r =>
    if r.rc = 0 || (within 0x4000 0x5FFF a && !s.slotBound o a) then s
    else (s.setReg o a (r.afterRead (s.reg o a))).slotLevels o

/-- A function that is in an FLR: its BAR0 reads all ones (R246). -/
def State.flrAt (s : State) (f : Func) : Bool := ((s.funcAt f).filter fun m => (s.func m).inFlr).isSome

/-- A read of an aligned word: its value, and the state that it leaves. A read of RECV_R0 latches the head notice (R270), one of
EC_CLAIM claims (R278); outside every region a read returns 0 (R233). -/
def State.readWord (s : State) (f : Func) (off : Nat) : Nat × State :=
  match s.regTarget f off with
  | none => (if s.flrAt f then 0xFFFFFFFF else 0, s)
  | some (o, a) =>
    if o ≤ 2 && a = 0x800000 then s.claimOf (255 + o)
    else
      let s := if 2 < o && within 0x4000 0x5FFF a && a % 128 = 0x40 then s.latchHead o ((a - 0x4000) / 128) else s
      (s.regValue o a, s.clearRead o a)

/-- A read through BAR0: aligned, of 4 or 8 bytes; other sizes return 0 (R233). -/
def State.readBar (s : State) (f : Func) (off n : Nat) : Nat × State :=
  if n = 4 && off % 4 = 0 then s.readWord f off
  else if n = 8 && off % 8 = 0 then
    let lo := s.readWord f off
    let hi := lo.2.readWord f (off + 4)
    (lo.1 + 2 ^ 32 * hi.1, hi.2)
  else (0, s)

/-! ### The expansion ROM (R237, R238) -/

/-- An entry of the resource map (Table 10-7). -/
def mapEntry (function region off size flags : Nat) : Bytes :=
  toLE 2 function ++ toLE 2 region ++ toLE 4 off ++ toLE 4 size ++ toLE 4 flags

/-- The entries: the regions of Table 10-3, then those of Table 10-4. -/
def mapEntries : List Bytes :=
  [ mapEntry 1 1 0x000000 0x100000 0, mapEntry 1 2 0x100000 0x100000 0, mapEntry 1 3 0x200000 0x1C0000 3
  , mapEntry 1 4 0x3D0000 0x10000 2, mapEntry 1 5 0x3E0000 0x10000 2, mapEntry 1 6 0x3F0000 0x10000 2
  , mapEntry 1 7 0x400000 0x8000 0, mapEntry 1 8 0x410000 0x100 0, mapEntry 1 9 0x800000 0x800000 0
  , mapEntry 1 10 0x1000000 0x3000000 0
  , mapEntry 2 1 0x0000 0x1000 0, mapEntry 2 3 0x1000 0x3000 1, mapEntry 2 11 0x4000 0x2000 0, mapEntry 2 5 0x6000 0x2000 0
  , mapEntry 2 7 0x8000 0x400 0, mapEntry 2 8 0x8800 8 0, mapEntry 2 4 0xA000 0x2000 0, mapEntry 2 6 0xC000 0x4000 0 ]

/-- The resource map with a CHECK (Table 10-6). -/
def mapWith (firmware check : Nat) : Bytes :=
  [0x49, 0x58, 0x52, 0x4D] ++ toLE 2 1 ++ toLE 2 32 ++ toLE 4 (32 + 16 * mapEntries.length) ++ toLE 2 mapEntries.length
    ++ toLE 2 16 ++ toLE 4 firmware ++ toLE 4 check ++ zeros 8 ++ mapEntries.flatten

/-- The resource map of a firmware version: CHECK is the CRC32C of its bytes with CHECK zero. -/
def resourceMap (firmware : Nat) : Bytes := mapWith firmware (crc32c (mapWith firmware 0))

/-- The headers of image 0, where the PCI firmware format puts them: the ROM signature and the place of the PCI data structure, and
in it the ids of R390, the class, code type 3 and the last-image indicator; the other bytes of the image are free
(log entry 84). -/
def romHeader (off : Nat) : Option Byte :=
  let pcir := [0x50, 0x43, 0x49, 0x52, 0x0C, 0x1D, 0x24, 0x10]
  if off < 2 then [0x55, 0xAA][off]?
  else if off = 0x18 then some 0x1C
  else if off = 0x19 then some 0
  else if within 0x1C 0x23 off then pcir[off - 0x1C]?
  else if within 0x29 0x2B off then [0x00, 0x00, 0x02][off - 0x29]?
  else if off = 0x30 then some 3
  else if off = 0x31 then some 0x80
  else none

/-- A byte of the 1 MiB window: image 0 below the resource map; what neither holds reads 0. -/
def State.romAt (s : State) (off : Nat) : Byte :=
  let fw := s.ob 0x1000 5
  if off < 0x80000 then (romHeader off).getD (Config.romByte fw off)
  else ((resourceMap fw)[off - 0x80000]?).getD 0

/-- A read of up to eight bytes of the expansion ROM of a PF0; VFs and threads have none. -/
def State.readRom (s : State) (f : Func) (off n : Nat) : Nat :=
  match f with
  | .pf0 _ => if n ≤ 8 && off + n ≤ 0x100000 then ofLE ((List.range n).map fun i => s.romAt (off + i)) else 0
  | _ => 0

/-! ### Reads of configuration space, and READ_CLEAR -/

/-- What a read of a function's expansion ROM is given out under. -/
abbrev romOwner (m : Nat) : Nat := 0x8000 + m

/-- A read of one, two or four bytes within a dword of configuration space. -/
def State.readConfig (s : State) (m off n : Nat) : Nat :=
  if off % 4 + n ≤ 4 then s.configWord m (off - off % 4) / 2 ^ (8 * (off % 4)) % 2 ^ (8 * n) else 0

/-- READ_CLEAR: a read of a register through BAR0, in configuration space or in the expansion ROM; what it returns is given out, and
what a read clears is cleared. A function that does not exist answers no read (R231). -/
def execReadClear (f : Func) (a : RegRead) (s : State) : Host.Outcome State Fault Refusal :=
  .next <| match a.space with
    | .bar =>
      match f with
      | .vf _ => if (s.funcAt f).isNone then s else
        let x := s.readBar f a.off a.n
        x.2.emit (.regRead (ownerOf f) a.off x.1)
      | _ =>
        let x := s.readBar f a.off a.n
        x.2.emit (.regRead (ownerOf f) a.off x.1)
    | .config =>
      match s.funcAt f with
      | some m => if s.configLive (s.hpOf m) then s.emit (.regRead (configOwner m) a.off (s.readConfig m a.off a.n)) else s
      | none => s
    | .rom => s.emit (.regRead (romOwner (ownerOf f)) a.off (s.readRom f a.off a.n))

end Sys2Proof.Machine
end

