-- ==== Sys2Proof/Machine/Dispatch.lean ====
section
/-! DEFINITION. The effect of every command on everything but the queue: one arm per constructor of `Instr`. -/

namespace Sys2Proof.Machine

def exec (i : Instr) (s : State) : Host.Outcome State Fault Refusal :=
  match i with
  | .read v ix sub => Sys2Proof.Machine.execRead v ix sub s
  | .write v ix sub data => Sys2Proof.Machine.execWrite v ix sub data s
  | .domainRead v ix sub off max => Sys2Proof.Machine.execDomainRead v ix sub off max s
  | .domainWrite v ix sub off total data => Sys2Proof.Machine.execDomainWrite v ix sub off total data s
  | .identify m => Sys2Proof.Machine.execIdentify m s
  | .doluxDatagramDropped m => Sys2Proof.Machine.execDoluxDatagramDropped m s
  | .freshKeyRecorded key => Sys2Proof.Machine.execFreshKeyRecorded key s
  | .replayCounterWrite key => Sys2Proof.Machine.execReplayCounterWrite key s
  | .keyValidityEnded key => Sys2Proof.Machine.execKeyValidityEnded key s
  | .rowSelect v ix row => Sys2Proof.Machine.execRowSelect v ix row s
  | .commit v ix => Sys2Proof.Machine.execCommit v ix s
  | .clear v ix => Sys2Proof.Machine.execClear v ix s
  | .load v ix => Sys2Proof.Machine.execLoad v ix s
  | .batchOpen v => Sys2Proof.Machine.execBatchOpen v s
  | .batchClose v => Sys2Proof.Machine.execBatchClose v s
  | .batchDiscard v => Sys2Proof.Machine.execBatchDiscard v s
  | .batchTimeout master => Sys2Proof.Machine.execBatchTimeout master s
  | .domainTransferTimeout ix sub => Sys2Proof.Machine.execDomainTransferTimeout ix sub s
  | .acquire v head ms => Sys2Proof.Machine.execAcquire v head ms s
  | .renew v head ms => Sys2Proof.Machine.execRenew v head ms s
  | .release v head ms => Sys2Proof.Machine.execRelease v head ms s
  | .take v head ms => Sys2Proof.Machine.execTake v head ms s
  | .leaseExpiry head => Sys2Proof.Machine.execLeaseExpiry head s
  | .fastPathWrite master off data => Sys2Proof.Machine.execFastPathWrite master off data s
  | .registerWrite f a data => Sys2Proof.Machine.execRegisterWrite f a data s
  | .readClear f a => Sys2Proof.Machine.execReadClear f a s
  | .profileWrite v data => Sys2Proof.Machine.execProfileWrite v data s
  | .laneModeWrite v l data => Sys2Proof.Machine.execLaneModeWrite v l data s
  | .fecWrite v l data => Sys2Proof.Machine.execFecWrite v l data s
  | .polarityWrite v l tx data => Sys2Proof.Machine.execPolarityWrite v l tx data s
  | .lanesEnterDisabled l => Sys2Proof.Machine.execLanesEnterDisabled l s
  | .managementModeWrite v m data => Sys2Proof.Machine.execManagementModeWrite v m data s
  | .refclkLost o => Sys2Proof.Machine.execRefclkLost o s
  | .refclkRestored o => Sys2Proof.Machine.execRefclkRestored o s
  | .pllLocked l => Sys2Proof.Machine.execPllLocked l s
  | .pllLockTimeout l => Sys2Proof.Machine.execPllLockTimeout l s
  | .pllRetry l => Sys2Proof.Machine.execPllRetry l s
  | .signalDetected l => Sys2Proof.Machine.execSignalDetected l s
  | .alignConditionLost l => Sys2Proof.Machine.execAlignConditionLost l s
  | .laneUp l => Sys2Proof.Machine.execLaneUp l s
  | .laneFault l why => Sys2Proof.Machine.execLaneFault l why s
  | .portDownDiscard p => Sys2Proof.Machine.execPortDownDiscard p s
  | .remoteFaultReceived l => Sys2Proof.Machine.execRemoteFaultReceived l s
  | .remoteFaultCleared l => Sys2Proof.Machine.execRemoteFaultCleared l s
  | .sgmiiControlWord l rate => Sys2Proof.Machine.execSgmiiControlWord l rate s
  | .flexeOverheadMismatch l group phy => Sys2Proof.Machine.execFlexeOverheadMismatch l group phy s
  | .calendarSwitchRequest v l data => Sys2Proof.Machine.execCalendarSwitchRequest v l data s
  | .calendarSwitched l => Sys2Proof.Machine.execCalendarSwitched l s
  | .calendarSwitchTimeout l => Sys2Proof.Machine.execCalendarSwitchTimeout l s
  | .maximumFrameWrite v p data => Sys2Proof.Machine.execMaximumFrameWrite v p data s
  | .pauseHonouringWrite v p data => Sys2Proof.Machine.execPauseHonouringWrite v p data s
  | .frameReceived p frame coding => Sys2Proof.Machine.execFrameReceived p frame coding s
  | .pause p quanta => Sys2Proof.Machine.execPause p quanta s
  | .pauseTimerExpiry p => Sys2Proof.Machine.execPauseTimerExpiry p s
  | .managementFrameReceived m frame fcs => Sys2Proof.Machine.execManagementFrameReceived m frame fcs s
  | .ingressSlotGrant k => Sys2Proof.Machine.execIngressSlotGrant k s
  | .recirculate k => Sys2Proof.Machine.execRecirculate k s
  | .alloc n row cls => Sys2Proof.Machine.execAlloc n row cls s
  | .free n handle => Sys2Proof.Machine.execFree n handle s
  | .poolModeSwitch quota => Sys2Proof.Machine.execPoolModeSwitch quota s
  | .baseMinimumWrite v row cls data => Sys2Proof.Machine.execBaseMinimumWrite v row cls data s
  | .quotaWrite v row cls data => Sys2Proof.Machine.execQuotaWrite v row cls data s
  | .carveWrite v sub data => Sys2Proof.Machine.execCarveWrite v sub data s
  | .spillFetch place q => Sys2Proof.Machine.execSpillFetch place q s
  | .spillFetchComplete handle => Sys2Proof.Machine.execSpillFetchComplete handle s
  | .frameSelection p => Sys2Proof.Machine.execFrameSelection p s
  | .pnMarkWritten sa => Sys2Proof.Machine.execPnMarkWritten sa s
  | .frameTransmitted p => Sys2Proof.Machine.execFrameTransmitted p s
  | .headAgeDiscard row => Sys2Proof.Machine.execHeadAgeDiscard row s
  | .quantumWrite v p q data => Sys2Proof.Machine.execQuantumWrite v p q data s
  | .shaperEnableWrite v p q data => Sys2Proof.Machine.execShaperEnableWrite v p q data s
  | .idleSlopeWrite v p q data => Sys2Proof.Machine.execIdleSlopeWrite v p q data s
  | .gateControlWrite v p data => Sys2Proof.Machine.execGateControlWrite v p data s
  | .initialStatesWrite v p data => Sys2Proof.Machine.execInitialStatesWrite v p data s
  | .cancelPending v p data => Sys2Proof.Machine.execCancelPending v p data s
  | .gateListSwap p => Sys2Proof.Machine.execGateListSwap p s
  | .gateEntryChange p => Sys2Proof.Machine.execGateEntryChange p s
  | .telemetrySample row => Sys2Proof.Machine.execTelemetrySample row s
  | .telemetryRingEnable f ctrl => Sys2Proof.Machine.execTelemetryRingEnable f ctrl s
  | .vportDelivery hp desc => Sys2Proof.Machine.execVportDelivery hp desc s
  | .admitStream v rec => Sys2Proof.Machine.execAdmitStream v rec s
  | .withdraw v rec => Sys2Proof.Machine.execWithdraw v rec s
  | .check v rec => Sys2Proof.Machine.execCheck v rec s
  | .modify v rec => Sys2Proof.Machine.execModify v rec s
  | .frerRecoveryReset compound => Sys2Proof.Machine.execFrerRecoveryReset compound s
  | .releaseDecrypted pass => Sys2Proof.Machine.execReleaseDecrypted pass s
  | .cipherPageDoorbell f tail => Sys2Proof.Machine.execCipherPageDoorbell f tail s
  | .cipherPageEnable f ctrl => Sys2Proof.Machine.execCipherPageEnable f ctrl s
  | .cipherPageDisable f ctrl => Sys2Proof.Machine.execCipherPageDisable f ctrl s
  | .gcmEncrypt f job d src => Sys2Proof.Machine.execGcmEncrypt f job d src s
  | .gcmDecrypt f job d src => Sys2Proof.Machine.execGcmDecrypt f job d src s
  | .gmacGenerate f job d src => Sys2Proof.Machine.execGmacGenerate f job d src s
  | .gmacVerify f job d src => Sys2Proof.Machine.execGmacVerify f job d src s
  | .ctr f job d src => Sys2Proof.Machine.execCtr f job d src s
  | .xtsEncrypt f job d src => Sys2Proof.Machine.execXtsEncrypt f job d src s
  | .xtsDecrypt f job d src => Sys2Proof.Machine.execXtsDecrypt f job d src s
  | .cmacGenerate f job d src => Sys2Proof.Machine.execCmacGenerate f job d src s
  | .cmacVerify f job d src => Sys2Proof.Machine.execCmacVerify f job d src s
  | .wrap f job d => Sys2Proof.Machine.execWrap f job d s
  | .unwrap f job d src => Sys2Proof.Machine.execUnwrap f job d src s
  | .derive f job d src => Sys2Proof.Machine.execDerive f job d src s
  | .random f job d => Sys2Proof.Machine.execRandom f job d s
  | .laneStall l => Sys2Proof.Machine.execLaneStall l s
  | .laneStallEnd l => Sys2Proof.Machine.execLaneStallEnd l s
  | .maskRefresh l => Sys2Proof.Machine.execMaskRefresh l s
  | .maskKeyExpiry l => Sys2Proof.Machine.execMaskKeyExpiry l s
  | .drbgReseed k => Sys2Proof.Machine.execDrbgReseed k s
  | .entropyTestFailure t => Sys2Proof.Machine.execEntropyTestFailure t s
  | .engineRestart v data failing => Sys2Proof.Machine.execEngineRestart v data failing s
  | .storageQueueEnable f ctrl => Sys2Proof.Machine.execStorageQueueEnable f ctrl s
  | .storageDoorbell f tail => Sys2Proof.Machine.execStorageDoorbell f tail s
  | .connAdd f d rec => Sys2Proof.Machine.execConnAdd f d rec s
  | .connDel f d => Sys2Proof.Machine.execConnDel f d s
  | .cmdRead f d segs capsule => Sys2Proof.Machine.execCmdRead f d segs capsule s
  | .cmdWrite f d segs capsule data => Sys2Proof.Machine.execCmdWrite f d segs capsule data s
  | .cmdRetire f d => Sys2Proof.Machine.execCmdRetire f d s
  | .resync f d => Sys2Proof.Machine.execResync f d s
  | .storageSegment f vq desc host => Sys2Proof.Machine.execStorageSegment f vq desc host s
  | .quarantineEnd conn cid => Sys2Proof.Machine.execQuarantineEnd conn cid s
  | .hostPortDisable v hp => Sys2Proof.Machine.execHostPortDisable v hp s
  | .hostPortEnable v hp => Sys2Proof.Machine.execHostPortEnable v hp s
  | .hostLinkUp hp width rate => Sys2Proof.Machine.execHostLinkUp hp width rate s
  | .linkStateChange hp st => Sys2Proof.Machine.execLinkStateChange hp st s
  | .tenantEnableWrite v t data => Sys2Proof.Machine.execTenantEnableWrite v t data s
  | .tenantHostPortWrite v t data => Sys2Proof.Machine.execTenantHostPortWrite v t data s
  | .uplinkWrite v t target data => Sys2Proof.Machine.execUplinkWrite v t target data s
  | .vfEnable hp numVFs => Sys2Proof.Machine.execVfEnable hp numVFs s
  | .completionReceived hp tag st data => Sys2Proof.Machine.execCompletionReceived hp tag st data s
  | .completionTimeout hp tag => Sys2Proof.Machine.execCompletionTimeout hp tag s
  | .tagQuarantineEnd hp tag => Sys2Proof.Machine.execTagQuarantineEnd hp tag s
  | .busMasterEnableClear f => Sys2Proof.Machine.execBusMasterEnableClear f s
  | .flr f => Sys2Proof.Machine.execFlr f s
  | .flrComplete f => Sys2Proof.Machine.execFlrComplete f s
  | .dStateChange f d => Sys2Proof.Machine.execDStateChange f d s
  | .hostFaceReset hp why => Sys2Proof.Machine.execHostFaceReset hp why s
  | .perstDeassert hp => Sys2Proof.Machine.execPerstDeassert hp s
  | .ringEnable f tx r ctrl => Sys2Proof.Machine.execRingEnable f tx r ctrl s
  | .ringDisable f tx r ctrl => Sys2Proof.Machine.execRingDisable f tx r ctrl s
  | .ringDoorbell f tx r tail => Sys2Proof.Machine.execRingDoorbell f tx r tail s
  | .hostFrameRead f r descs data how => Sys2Proof.Machine.execHostFrameRead f r descs data how s
  | .inlinePush f off data => Sys2Proof.Machine.execInlinePush f off data s
  | .ringModTimer f tx r => Sys2Proof.Machine.execRingModTimer f tx r s
  | .bindingLock v data => Sys2Proof.Machine.execBindingLock v data s
  | .sendCommit f slot val => Sys2Proof.Machine.execSendCommit f slot val s
  | .receiveLatch f slot => Sys2Proof.Machine.execReceiveLatch f slot s
  | .pop f slot val => Sys2Proof.Machine.execPop f slot val s
  | .flush f slot val => Sys2Proof.Machine.execFlush f slot val s
  | .sourceAssert id => Sys2Proof.Machine.execSourceAssert id s
  | .levelWithdrawn id => Sys2Proof.Machine.execLevelWithdrawn id s
  | .claim c => Sys2Proof.Machine.execClaim c s
  | .complete c id => Sys2Proof.Machine.execComplete c id s
  | .setPending f id => Sys2Proof.Machine.execSetPending f id s
  | .interruptEntry n => Sys2Proof.Machine.execInterruptEntry n s
  | .interruptExit n => Sys2Proof.Machine.execInterruptExit n s
  | .fork n entry arg privileged => Sys2Proof.Machine.execFork n entry arg privileged s
  | .join n child deadline => Sys2Proof.Machine.execJoin n child deadline s
  | .exit n code => Sys2Proof.Machine.execExit n code s
  | .wait n mask deadline => Sys2Proof.Machine.execWait n mask deadline s
  | .signal n target bits => Sys2Proof.Machine.execSignal n target bits s
  | .waitDeadline n => Sys2Proof.Machine.execWaitDeadline n s
  | .accessStall n => Sys2Proof.Machine.execAccessStall n s
  | .accessComplete n => Sys2Proof.Machine.execAccessComplete n s
  | .threadFault n cause => Sys2Proof.Machine.execThreadFault n cause s
  | .threadRestart n => Sys2Proof.Machine.execThreadRestart n s
  | .threadRelease n => Sys2Proof.Machine.execThreadRelease n s
  | .threadStop n => Sys2Proof.Machine.execThreadStop n s
  | .threadResume n => Sys2Proof.Machine.execThreadResume n s
  | .threadKill n => Sys2Proof.Machine.execThreadKill n s
  | .executorRestart n => Sys2Proof.Machine.execExecutorRestart n s
  | .unload v c data => Sys2Proof.Machine.execUnload v c data s
  | .cellModeWrite v c data => Sys2Proof.Machine.execCellModeWrite v c data s
  | .cellRelease c => Sys2Proof.Machine.execCellRelease c s
  | .cellRun c => Sys2Proof.Machine.execCellRun c s
  | .copy master ch host => Sys2Proof.Machine.execCopy master ch host s
  | .fill master ch => Sys2Proof.Machine.execFill master ch s
  | .compare master ch hostSrc hostDst => Sys2Proof.Machine.execCompare master ch hostSrc hostDst s
  | .dmaAbort master ch => Sys2Proof.Machine.execDmaAbort master ch s
  | .dmaDone ch => Sys2Proof.Machine.execDmaDone ch s
  | .stationChannelsWrite v data => Sys2Proof.Machine.execStationChannelsWrite v data s
  | .ptpMessage p m => Sys2Proof.Machine.execPtpMessage p m s
  | .ptpPortStateChange p st => Sys2Proof.Machine.execPtpPortStateChange p st s
  | .ptpSyncTransmit p => Sys2Proof.Machine.execPtpSyncTransmit p s
  | .nextPpsSecondsWrite v data => Sys2Proof.Machine.execNextPpsSecondsWrite v data s
  | .temperatureSample readings => Sys2Proof.Machine.execTemperatureSample readings s
  | .thermalTrip sensor => Sys2Proof.Machine.execThermalTrip sensor s
  | .sequenceFailure rail status => Sys2Proof.Machine.execSequenceFailure rail status s
  | .warmResetRequest v data => Sys2Proof.Machine.execWarmResetRequest v data s
  | .hardResetRequest v data => Sys2Proof.Machine.execHardResetRequest v data s
  | .deviceReset cause => Sys2Proof.Machine.execDeviceReset cause s
  | .watchdogWrite n => Sys2Proof.Machine.execWatchdogWrite n s
  | .avsStep lowest refused => Sys2Proof.Machine.execAvsStep lowest refused s
  | .pmbusAlert words => Sys2Proof.Machine.execPmbusAlert words s
  | .configurationCommit v data => Sys2Proof.Machine.execConfigurationCommit v data s
  | .commitEnd failure => Sys2Proof.Machine.execCommitEnd failure s
  | .program v => Sys2Proof.Machine.execProgram v s
  | .activate v => Sys2Proof.Machine.execActivate v s
  | .programAndActivate v => Sys2Proof.Machine.execProgramAndActivate v s
  | .switch v => Sys2Proof.Machine.execSwitch v s
  | .discard v => Sys2Proof.Machine.execDiscard v s
  | .firmwareProgramStep failure => Sys2Proof.Machine.execFirmwareProgramStep failure s
  | .switchCoreDone fault => Sys2Proof.Machine.execSwitchCoreDone fault s
  | .debugUnlock d token => Sys2Proof.Machine.execDebugUnlock d token s
  | .correctableError row => Sys2Proof.Machine.execCorrectableError row s
  | .uncorrectableError u => Sys2Proof.Machine.execUncorrectableError u s
  | .ternaryRowRewrite row => Sys2Proof.Machine.execTernaryRowRewrite row s
  | .entryReload u => Sys2Proof.Machine.execEntryReload u s
  | .frameUnitFault u => Sys2Proof.Machine.execFrameUnitFault u s
  | .failoverComplete p => Sys2Proof.Machine.execFailoverComplete p s
  | .cipherLaneFault l => Sys2Proof.Machine.execCipherLaneFault l s
  | .cipherLaneRestartComplete l => Sys2Proof.Machine.execCipherLaneRestartComplete l s
  | .loopCoreFault c => Sys2Proof.Machine.execLoopCoreFault c s
  | .loopCoreFailoverComplete c => Sys2Proof.Machine.execLoopCoreFailoverComplete c s
  | .fabricLinkRepair link lost => Sys2Proof.Machine.execFabricLinkRepair link lost s
  | .fabricLinkRetrained link ok => Sys2Proof.Machine.execFabricLinkRetrained link ok s
  | .hbmStackFailure stack => Sys2Proof.Machine.execHbmStackFailure stack s
  | .fozonLinkChange st width => Sys2Proof.Machine.execFozonLinkChange st width s
  | .pairMessage m => Sys2Proof.Machine.execPairMessage m s
  | .transmitStart p => Sys2Proof.Machine.execTransmitStart p s
  | .oneCycleAfterStep p => Sys2Proof.Machine.execOneCycleAfterStep p s
  | .pdelayRequestTransmit p => Sys2Proof.Machine.execPdelayRequestTransmit p s
  | .tableVersionEffective => Sys2Proof.Machine.execTableVersionEffective s
  | .admissionComplete => Sys2Proof.Machine.execAdmissionComplete s
  | .quiescentStall => Sys2Proof.Machine.execQuiescentStall s
  | .supervisorSilent => Sys2Proof.Machine.execSupervisorSilent s
  | .supervisorTakeover => Sys2Proof.Machine.execSupervisorTakeover s
  | .imageBackup => Sys2Proof.Machine.execImageBackup s
  | .ppsEdge => Sys2Proof.Machine.execPpsEdge s
  | .ppsMissing => Sys2Proof.Machine.execPpsMissing s
  | .ppsOut => Sys2Proof.Machine.execPpsOut s
  | .ref10mPresent => Sys2Proof.Machine.execRef10mPresent s
  | .ref10mAbsent => Sys2Proof.Machine.execRef10mAbsent s
  | .holdoverLimit => Sys2Proof.Machine.execHoldoverLimit s
  | .timeCopyReload => Sys2Proof.Machine.execTimeCopyReload s
  | .coreReferenceLost => Sys2Proof.Machine.execCoreReferenceLost s
  | .safeHoldExit => Sys2Proof.Machine.execSafeHoldExit s
  | .powerOn => Sys2Proof.Machine.execPowerOn s
  | .railEnable => Sys2Proof.Machine.execRailEnable s
  | .sequenceRetry => Sys2Proof.Machine.execSequenceRetry s
  | .resetNAssert => Sys2Proof.Machine.execResetNAssert s
  | .pwrOkLoss => Sys2Proof.Machine.execPwrOkLoss s
  | .resetRelease => Sys2Proof.Machine.execResetRelease s
  | .serviceEntry => Sys2Proof.Machine.execServiceEntry s
  | .watchdogExpiry => Sys2Proof.Machine.execWatchdogExpiry s
  | .backgroundEraseDone => Sys2Proof.Machine.execBackgroundEraseDone s
  | .supplyWarnAssert => Sys2Proof.Machine.execSupplyWarnAssert s
  | .supplyWarnRelease => Sys2Proof.Machine.execSupplyWarnRelease s
  | .scrub => Sys2Proof.Machine.execScrub s
  | .recoveryTimeout => Sys2Proof.Machine.execRecoveryTimeout s
  | .logFlush => Sys2Proof.Machine.execLogFlush s
  | .availabilityUpdate => Sys2Proof.Machine.execAvailabilityUpdate s
  | .pairMessageSend => Sys2Proof.Machine.execPairMessageSend s
  | .partnerLost => Sys2Proof.Machine.execPartnerLost s
  | .vaux3v3Loss => Sys2Proof.Machine.execVaux3v3Loss s
  | .powerSequenceRestart => Sys2Proof.Machine.execPowerSequenceRestart s

end Sys2Proof.Machine
end

