-- ==== Sys2Proof/Machine/Tick.lean ====
section
/-! DEFINITION. What passes with time alone (R321, log entry 1): one cycle of the 800 MHz station time domain, which is two
cycles of the packet clock. -/

namespace Sys2Proof.Machine

/-- One cycle: the pool manager decides what waits and its answers come back (R108); passes that are due are released (R183) and
jobs that may start do (R199); time passes; then the lanes take their blocks (R179) and the DMA engine makes its accesses (R319). -/
def State.tick (s : State) : State :=
  let s := s.poolCycle.poolCycle.poolAnswers
  let s := s.releaseAll.startJobs
  let s := s.passTime.serveLanes
  s.dmaCycle.dmaCycle

end Sys2Proof.Machine
end

