-- ==== Sys2Proof/Machine/Step.lean ====
section
/-! DEFINITION. One step: the command at the front of the queue, or one clock cycle when none waits. -/

namespace Sys2Proof.Machine

/-- Take the command at the front of the queue and run it on the rest; with an empty queue one cycle of the
800 MHz station time domain passes, with all that it brings (R321, log entry 1). -/
def step (s : State) : Host.Outcome State Fault Refusal :=
  match s.pending with
  | [] => .next s.tick
  | c :: rest => exec c { s with pending := rest }

/-- The command that a word spells at the front of the queue; no row of the table gives bits, so no word spells
one (log entry 18). -/
def State.withFetchWord (s : State) (nbits w : Nat) : State :=
  match decodeTableWord nbits w with
  | some c => { s with pending := c :: s.pending }
  | none => s

end Sys2Proof.Machine
end

