-- ==== Sys2Proof/Safety.lean ====
section
/-! DEFINITION. What counts as a sound state and a safe step: every addressed memory in its canonical form, and a step
that answers a next state. -/

namespace Sys2Proof.Machine

/-- A byte memory: shared loop SRAM, core SRAM, the window buffers. -/
abbrev Memory := NMap Byte

/-- A byte memory is canonical: addresses strictly rise, and no entry holds the 0 that an unlisted address reads as. -/
def Memory.wf (m : Memory) : Bool := NMap.wf (fun _ => 0) m

/-- The dictionary, the registers and every byte memory are canonical, so that equal contents are equal data. -/
def State.canonical (s : State) : Bool :=
  NMap.wf dictDefault s.dict && NMap.wf regDefault s.regs && Memory.wf s.loop && Memory.wf s.coreMem && Memory.wf s.dwBuf
    && s.backup.all Memory.wf

/-- What event records, sources, the threads they wake and answers may change beside what a command writes: log counters,
sources, their counters, threads, loop cores, the pair's record count, and the sent frames of the management lanes. -/
def loud (ix sub : Nat) : Bool :=
  [0x1402, 0x9100, 0x9101, 0x93F0, 0x9400, 0xC000].contains ix || ((ix == 0x1120 || ix == 0x1121) && sub % 256 == 5)

/-- The parts of State beside the queue and the dictionary; of the frame path, the frames that wait for a slot are a part of
their own. -/
inductive Part where
  | regs
  | loop
  | coreMem
  | backup
  | dwBuf
  | clk
  | acc
  | net
  | waiting
  | adm
  | cip
  | sto
  | hst
  | rng
  | thr
  | cells
  | dma
  | pwr
  | flt
  | log
  | out
  | free
  deriving DecidableEq, Repr

/-- A part holds the same in two states. -/
def Part.same (p : Part) (s t : State) : Prop :=
  match p with
  | .regs => t.regs = s.regs
  | .loop => t.loop = s.loop
  | .coreMem => t.coreMem = s.coreMem
  | .backup => t.backup = s.backup
  | .dwBuf => t.dwBuf = s.dwBuf
  | .clk => t.clk = s.clk
  | .acc => t.acc = s.acc
  | .net => ({ t.net with waiting := [] } : Net) = { s.net with waiting := [] }
  | .waiting => t.net.waiting = s.net.waiting
  | .adm => t.adm = s.adm
  | .cip => t.cip = s.cip
  | .sto => t.sto = s.sto
  | .hst => t.hst = s.hst
  | .rng => t.rng = s.rng
  | .thr => t.thr = s.thr
  | .cells => t.cells = s.cells
  | .dma => t.dma = s.dma
  | .pwr => t.pwr = s.pwr
  | .flt => t.flt = s.flt
  | .log => t.log = s.log
  | .out => t.out = s.out
  | .free => t.free = s.free

/-- The fields of the dictionary that `w` does not let through (by index, row and subindex) read the same in two states. -/
def FieldsKept (w : (ix row sub : Nat) → Bool) (s t : State) : Prop :=
  ∀ ix row sub, row < 2 ^ 32 → sub < 256 → w ix row sub = false → t.cell ix row sub = s.cell ix row sub

/-- From `s` to `t` only the parts in `ps` and the dictionary fields that `w` lets through may differ; the queue of commands
does not. -/
def Only (ps : List Part) (w : (ix row sub : Nat) → Bool) (s t : State) : Prop :=
  t.pending = s.pending ∧ (∀ p : Part, p ∉ ps → p.same s t) ∧ FieldsKept w s t

/-- The parts that event records, sources and messages use. -/
def told : List Part := [.hst, .rng, .thr, .log, .out]

/-- No field. -/
def noField (_ix _row _sub : Nat) : Bool := false

/-- The listed objects. -/
def objects (l : List Nat) (ix _row _sub : Nat) : Bool := l.contains ix

/-- The listed fields of one row of an object. -/
def fields (ix row : Nat) (subs : List Nat) (ix' row' sub' : Nat) : Bool := ix' == ix && row' == row && subs.contains sub'

/-- The loud objects, beside what `w` lets through. -/
def orLoud (w : (ix row sub : Nat) → Bool) (ix row sub : Nat) : Bool := loud ix sub || w ix row sub

/-- The item `q` of a request begins on path `v` in `s`; its body runs in `u`, with room for its response (R42, R47). -/
def ItemRuns (s : State) (v : Via) (q : ReqItem) (u : State) : Prop :=
  reaches v q.ix q.sub = true ∧ s.begin v q = .run u ∧ (u.room v).isSome = true

/-- A write of `x:sub` (row `row` of a WINDOW) begins, and passes NO_OBJECT to TYPE of Table 2-9 in `u`, after the leases whose
time has come have lapsed (R36, R40). -/
def WriteRuns (s : State) (v : Via) (ix row sub : Nat) (data : Bytes) (u : State) : Prop :=
  ∃ w, ItemRuns s v (writeReq ix sub data) w ∧ u = w.lapses (w.domain ix row) ∧ u.writeCheck v ix row sub data.length = stOk

/-- A frame leaves for the place where a request arrived: it waits for a slot of the pipeline of its port, for Q5; it is sent on
the management lane; or it waits for Q6 of the vport (R71, R73, R132). -/
def Leaves (at_ : DoluxPlace) (frame : Bytes) (t : State) : Prop :=
  match at_ with
  | .port p => ∃ w ∈ t.net.waiting, w.bytes = frame ∧ w.pipe = p.val / 128 ∧ w.egress = some p.val ∧ w.queue = 5
  | .mgmt m => Output.mgmt (mgmtNo m) frame ∈ t.out
  | .vport n => ∃ w ∈ t.net.waiting, w.bytes = frame ∧ w.vport = some n.val ∧ w.queue = 6

/-- The response to a message with its items `resp`, under the transmit counter `tx`, as the frame that carries it (R41–R44). -/
def State.response (s : State) (m : DoluxMsg) (n : Nat) (resp : Bytes) (tx : Nat) : Bytes :=
  answerUdp m.frame (msgLayer m) (responseBytes m (s.ob 0x1010 1) n resp tx (cmac (toBE 32 (s.cell 0x1110 (msgKey m) 7))))

/-- From `u` to `t` the item `x:sub` on path `v` is answered with a status and data, where the path shows it: firmware gets the
answer; the low byte of LEASE_REQ shows the status; a window gets the response item behind those it holds, with its length and
item count, and BUSY turns into DONE with the last item; an open message gets the item, and is answered with its last. -/
def Answers (u t : State) (v : Via) (ix sub st : Nat) (data : Bytes) : Prop :=
  let b := itemBytes ix sub st data
  match v with
  | .firmware n => t.out = .answer n.val ix sub st data :: u.out
  | .leaseReq p => t.regBits (portMaster p) 0x24 7 0 = st % 256
  | .window p _ =>
    let m := portMaster p
    ∃ d, u.session (winSlot p) = some d
      ∧ NMap.bytes t.dwBuf (m * 0x10000 + 0x2000 + u.regN m (dw 0x14)) b.length = b
      ∧ t.regN m (dw 0x14) = u.regN m (dw 0x14) + b.length ∧ t.regBits m (dw 0x10) 23 8 = (d.answered + 1) % 65536
      ∧ t.regBits m (dw 0x10) 1 0 = (if d.answered + 1 = d.items.length then 2 else u.regBits m (dw 0x10) 1 0)
  | .dolux m _ =>
    let k := msgKey m
    ∃ d, u.session k = some d ∧ d.msg = some m
      ∧ if d.answered + 1 = d.items.length ∨ (d.stop = true ∧ st ≠ stOk) then
          (t.key k).tx = (u.key k).tx + 1 ∧ Leaves m.place (u.response m (d.answered + 1) (d.resp ++ b) ((u.key k).tx + 1)) t
        else t.session k = some { d with resp := d.resp ++ b, answered := d.answered + 1 }

/-- A request that an answer reaches is in progress: a window's, or the message that is open under its key. -/
def Awaits (s : State) (v : Via) : Prop :=
  match v with
  | .window p _ => (s.session (winSlot p)).isSome = true
  | .dolux m _ => ∃ d, s.session (msgKey m) = some d ∧ d.msg = some m
  | _ => True

/-- A row action with a code of :03 on the selected row of a WINDOW begins and passes its access checks, lease and start-up
state in `u` (R28, R36, R40). -/
def RowActs (s : State) (v : Via) (ix row : Nat) (o : Obj) (code : Nat) (u : State) : Prop :=
  ∃ w, ItemRuns s v (writeReq ix 3 (toBE 1 code)) w ∧ objectAt ix = some o ∧ o.rows.isSome = true
    ∧ (w.window (masterOf v) ix).selected = some row ∧ u = w.lapses (w.domain ix row)
    ∧ u.actionAccess v ix o (w.window (masterOf v) ix) code = true ∧ u.leased v (w.domain ix row) = true ∧ u.startState = stOk

/-- A write waits at the end of the admission unit's queue; nothing it asks for has changed (R157). -/
def Waits (u t : State) (v : Via) (what : Instr) : Prop :=
  t.adm = u.adm ++ [⟨some v, masterOf v, what⟩] ∧ Only (.adm :: told) (orLoud noField) u t

/-- What a write leaves of a register, bit by bit (Table 0-3): RW bits take the value, RW1C bits clear where the value is 1, the
others stay. -/
def Written (r : Reg) (old val new : Word) : Prop :=
  ∀ i, i < 32 → new.getLsbD i = if bit r.w1c i && val.getLsbD i then false else if bit r.rw i then val.getLsbD i else old.getLsbD i

/-- A register of a PF0 or of a tenant's region that a write only stores into: no command of the table and no other effect
belongs to it. -/
def plainReg (o a : Nat) : Bool :=
  if o ≤ 2 then
    a == 4 || [dw 0x00, dw 0x04, dw 0x08, dw 0x18].contains a
  else
    (within 0x1000 0x2FFF a && [0x00, 0x04, 0x08, 0x14, 0x18, 0x28].contains (a % 64))
      || within (cp 0) (cp 8) a || [sq 0x00, sq 0x04, sq 0x08, sq 0x14, sq 0x18, sq 0x1C].contains a || within (tlm 0) (tlm 8) a

/-- The ring or queue that a plain register sets up is enabled, so that its setup cannot be written (Tables 11-2, 8-4, 9-1, 6-7). -/
def State.setupLocked (s : State) (o a : Nat) : Bool :=
  if o ≤ 2 then false
  else if within 0x1000 0x2FFF a then a % 64 != 0x28 && s.ringEnabled o (decide (a < 0x2000)) (a / 64 % 64)
  else if a < 0x8000 then s.regBits o (cp 0x18) 0 0 = 1
  else if a < 0xC000 then s.regBits o (sq 0x28) 0 0 = 1
  else s.regBits o (tlm 0x14) 0 0 = 1

/-- The state field of a lane or management lane. -/
def anyStateField (l : AnyLane) (ix row sub : Nat) : Bool :=
  match l with
  | .lane l => fields (laneIx l.val) 0 [3] ix row sub
  | .mgmt m => fields (mgmtIx m) 0 [2] ix row sub

/-- The ports that the lead of a lane carries stand in the state that their rate, enable, lanes and units give them. -/
def PortsOf (s : State) (l : Nat) : Prop :=
  ∀ c, c < 16 → s.ob (portIx (16 * s.leadOf l + c)) 2 = s.portTarget (16 * s.leadOf l + c)

/-- The job in a slot of a cipher page can complete: its descriptor has the opcode `code`, its lane has taken it and has done its
blocks (R179, R199). -/
def JobRuns (s : State) (f : Func) (slot code o : Nat) (j : Job) (d : JobDesc) : Prop :=
  s.regionOf f = some o ∧ s.cip.jobs.find? (fun x => x.owner == o && x.slot == slot && !x.done && x.lane.isSome) = some j
    ∧ j.desc = some d ∧ d.opcode = code ∧ s.workDone j.work = true ∧ s.inHold = false

/-- From `s` to `t` a job ends with a status: the bytes of its output stand at DST, its completion in its descriptor, and it
counts (R199, R202, R239). -/
def JobEnds (s t : State) (o : Nat) (j : Job) (d : JobDesc) (status : Nat) (out : Bytes) : Prop :=
  let m := s.funcMaster o
  let size := s.maxPayload m
  (s.mayIssue m = true →
    Output.hostWrite m (s.regAddr o (cp 0) + 64 * j.slot + 56) (toLE 4 (j.lane.getD 0 * 65536 + status) ++ toLE 4 out.length) ∈ t.out
    ∧ ∀ i, size * i < out.length → Output.hostWrite m (d.dst + size * i) ((out.drop (size * i)).take size) ∈ t.out)
  ∧ t.cell 0x6000 0 (if status = 0 then 0x16 else 0x17)
    = (s.cell 0x6000 0 (if status = 0 then 0x16 else 0x17) + 1) % 256 ^ cellLen 0x6000 (if status = 0 then 0x16 else 0x17)

/-- A row of 0x6010 holds a key that a job installed: valid, of the use and length, in the row's slot under the sealing key
(R196, R197). -/
def KeyInstalled (s t : State) (row use : Nat) (key : Bytes) : Prop :=
  t.saField row 4 = 1 ∧ t.saField row 6 = use ∧ t.saField row 7 = key.length
    ∧ NMap.at [] t.cip.slots row = keyWrap s.sealKey key

/-- After the steps that its queue takes (`u`), the storage descriptor `d` with opcode `code` stands at the head, has arrived with
its list and what else it needs, and its record finds room (R211). -/
def StorRuns (s : State) (f : Func) (code o : Nat) (u : State) (d : StorDesc) (list : Bytes) (p : Prep) : Prop :=
  s.inHold = false ∧ s.regionOf f = some o ∧ u = s.stepStor o
    ∧ (∃ x r, u.storQ o = x :: r ∧ x.desc = some d ∧ x.list = some list ∧ x.fail = 0 ∧ x.prep = some p) ∧ d.opcode = code
    ∧ u.prepDone (u.descNeeds o d list).2 p = true ∧ 0 < u.cqRoom o ∧ u.mayIssue (u.funcMaster o) = true

/-- The OP_DONE record of a descriptor with a status stands at the place of the completion ring that comes next (R211, R219). -/
def OpDone (u t : State) (o : Nat) (d : StorDesc) (status conn : Nat) : Prop :=
  Output.hostWrite (u.funcMaster o) (u.regAddr o (sq 0x14) + 32 * u.regN o (sq 0x20))
    (storRecord 1 status conn d.cid d.opcode [] d.cookie) ∈ t.out

/-- A frame with these bytes stands in the buffer of the descriptor at the head of a receive ring, with a completion that carries
the storage field (R263). -/
def Received (w t : State) (o n q r field : Nat) (c : QCopy) (bs : Bytes) : Prop :=
  let b := ringBase false r
  let m := w.funcMaster o
  let size := w.ringSize o false r
  let desc := w.descAt o false r (w.regN o (b + 0x10) % size)
  t.regN o (b + 0x10) = (w.regN o (b + 0x10) + 1) % size ∧ t.regN o (b + 0x20) = (w.regN o (b + 0x20) + 1) % size
    ∧ t.regN o (b + 0x30) = (w.regN o (b + 0x30) + if desc.len < bs.length then 1 else 0) % 2 ^ 32
    ∧ (w.mayIssue m = true →
      Output.hostWrite m (w.regAddr o (b + 0x14) + 32 * w.regN o (b + 0x20))
        (rxCompletion (w.buf c.handle) desc n q bs.length field c (if (w.ring o false r).phase then 0x80 else 0)) ∈ t.out
      ∧ ∀ i, w.maxPayload m * i < (bs.take desc.len).length →
        Output.hostWrite m (desc.addr + w.maxPayload m * i) (((bs.take desc.len).drop (w.maxPayload m * i)).take (w.maxPayload m))
          ∈ t.out)

/-- What a command can reach beside the queue: parts of State, and pages of the dictionary (a page is the objects that
share the upper byte of their index), as ranges. -/
structure Reach where
  parts : List Part
  pages : List (Nat × Nat)

/-- A page is within reach. -/
def Reach.onPage (r : Reach) (page : Nat) : Bool := r.pages.any fun x => decide (x.1 ≤ page) && decide (page ≤ x.2)

/-- The reach of each command. -/
def reach : Instr → Reach
  | .read .. =>
    ⟨.regs :: .dwBuf :: .acc :: .free :: .waiting :: told, [(0x11, 0x11), (0x14, 0x14), (0x91, 0x91), (0x93, 0x94), (0xC0, 0xC0)]⟩
  | .write .. | .rowSelect .. | .commit .. | .clear .. | .load .. | .batchOpen .. | .batchClose ..
    | .batchDiscard .. | .registerWrite .. =>
    ⟨.regs :: .loop :: .coreMem :: .dwBuf :: .clk :: .acc :: .net :: .adm :: .cip :: .sto :: .cells :: .dma :: .pwr :: .flt :: .free :: .waiting :: told, [(0x00, 0xFF)]⟩
  | .domainRead .. =>
    ⟨.regs :: .dwBuf :: .acc :: .waiting :: told, [(0x11, 0x11), (0x14, 0x14), (0x91, 0x91), (0x93, 0x94), (0xC0, 0xC0)]⟩
  | .domainWrite .. =>
    ⟨.regs :: .dwBuf :: .acc :: .adm :: .cells :: .pwr :: .waiting :: told, [(0x11, 0x11), (0x13, 0x14), (0x20, 0x24), (0x80, 0x8F), (0x91, 0x91), (0x93, 0x94), (0xA0, 0xAF), (0xC0, 0xC0)]⟩
  | .identify .. => ⟨.acc :: .waiting :: told, [(0x11, 0x11), (0x14, 0x14), (0x91, 0x91), (0x93, 0x94), (0xC0, 0xC0)]⟩
  | .doluxDatagramDropped .. => ⟨[], [(0x11, 0x11)]⟩
  | .freshKeyRecorded .. => ⟨[.acc, .hst, .rng, .thr, .pwr, .out], [(0x91, 0x91), (0x93, 0x94)]⟩
  | .replayCounterWrite .. => ⟨[.acc, .pwr], []⟩
  | .keyValidityEnded .. | .exit .. =>
    ⟨told, [(0x13, 0x14), (0x20, 0x24), (0x80, 0x8F), (0x91, 0x91), (0x93, 0x94), (0xA0, 0xAF), (0xC0, 0xC0)]⟩
  | .batchTimeout .. | .domainTransferTimeout .. =>
    ⟨.acc :: told, [(0x14, 0x14), (0x91, 0x91), (0x93, 0x94), (0xC0, 0xC0)]⟩
  | .acquire _ head _ => ⟨.regs :: .loop :: .coreMem :: .dwBuf :: .acc :: .net :: .cip :: .sto :: .dma :: .waiting :: told, (head / 256, head / 256) :: [(0x11, 0x11), (0x13, 0x14), (0x71, 0x71), (0x80, 0x8F), (0x91, 0x94), (0xC0, 0xC0)]⟩
  | .renew _ head _ => ⟨.regs :: .loop :: .coreMem :: .dwBuf :: .acc :: .net :: .cip :: .sto :: .dma :: .waiting :: told, (head / 256, head / 256) :: [(0x11, 0x11), (0x13, 0x14), (0x71, 0x71), (0x80, 0x8F), (0x91, 0x94), (0xC0, 0xC0)]⟩
  | .release _ head _ => ⟨.regs :: .loop :: .coreMem :: .dwBuf :: .acc :: .net :: .cip :: .sto :: .dma :: .waiting :: told, (head / 256, head / 256) :: [(0x11, 0x11), (0x13, 0x14), (0x71, 0x71), (0x80, 0x8F), (0x91, 0x94), (0xC0, 0xC0)]⟩
  | .take _ head _ => ⟨.regs :: .loop :: .coreMem :: .dwBuf :: .acc :: .net :: .cip :: .sto :: .dma :: .waiting :: told, (head / 256, head / 256) :: [(0x11, 0x11), (0x13, 0x14), (0x71, 0x71), (0x80, 0x8F), (0x91, 0x94), (0xC0, 0xC0)]⟩
  | .leaseExpiry head => ⟨told, (head / 256, head / 256) :: [(0x13, 0x14), (0x91, 0x91), (0x93, 0x94), (0xC0, 0xC0)]⟩
  | .fastPathWrite .. | .dmaAbort .. =>
    ⟨.regs :: .loop :: .coreMem :: .net :: .dma :: .waiting :: told, [(0x13, 0x14), (0x71, 0x71), (0x91, 0x94), (0xC0, 0xC0)]⟩
  | .readClear .. => ⟨[.regs, .hst, .rng, .thr, .out], [(0x91, 0x91), (0x93, 0x94)]⟩
  | .profileWrite .. | .laneModeWrite .. | .fecWrite .. | .calendarSwitchRequest .. | .maximumFrameWrite ..
    | .pauseHonouringWrite .. | .carveWrite .. | .quantumWrite .. | .shaperEnableWrite .. | .idleSlopeWrite ..
    | .gateControlWrite .. | .initialStatesWrite .. =>
    ⟨.regs :: .dwBuf :: .acc :: .adm :: .waiting :: told, [(0x11, 0x11), (0x13, 0x14), (0x20, 0x24), (0x80, 0x8F), (0x91, 0x91), (0x93, 0x94), (0xA0, 0xAF), (0xC0, 0xC0)]⟩
  | .polarityWrite .. =>
    ⟨.regs :: .dwBuf :: .acc :: .net :: .cip :: .waiting :: told, [(0x11, 0x11), (0x13, 0x14), (0x20, 0x24), (0x30, 0x33), (0x38, 0x38), (0x40, 0x40), (0x60, 0x60), (0x80, 0x8F), (0x91, 0x91), (0x93, 0x94), (0xA0, 0xAF), (0xC0, 0xC0)]⟩
  | .lanesEnterDisabled .. =>
    ⟨.net :: .cip :: .waiting :: told, [(0x14, 0x14), (0x20, 0x24), (0x30, 0x33), (0x38, 0x38), (0x60, 0x60), (0x91, 0x91), (0x93, 0x94), (0xC0, 0xC0)]⟩
  | .managementModeWrite .. | .baseMinimumWrite .. | .quotaWrite .. | .tenantEnableWrite ..
    | .tenantHostPortWrite .. | .uplinkWrite .. | .cellModeWrite .. =>
    ⟨.regs :: .dwBuf :: .acc :: .waiting :: told, [(0x11, 0x11), (0x13, 0x14), (0x20, 0x24), (0x80, 0x8F), (0x91, 0x91), (0x93, 0x94), (0xA0, 0xAF), (0xC0, 0xC0)]⟩
  | .refclkLost .. | .pllLockTimeout .. | .laneUp .. | .laneFault .. =>
    ⟨.net :: .cip :: .waiting :: told, [(0x11, 0x11), (0x14, 0x14), (0x20, 0x24), (0x30, 0x33), (0x38, 0x38), (0x40, 0x40), (0x60, 0x60), (0x91, 0x91), (0x93, 0x94), (0xC0, 0xC0)]⟩
  | .refclkRestored .. | .pllRetry .. | .signalDetected .. =>
    ⟨.net :: .waiting :: told, [(0x11, 0x11), (0x14, 0x14), (0x24, 0x24), (0x91, 0x91), (0x93, 0x94), (0xC0, 0xC0)]⟩
  | .pllLocked .. => ⟨told, [(0x11, 0x11), (0x14, 0x14), (0x24, 0x24), (0x91, 0x91), (0x93, 0x94), (0xC0, 0xC0)]⟩
  | .alignConditionLost .. | .alloc .. | .free .. | .poolModeSwitch .. | .spillFetch .. | .spillFetchComplete .. =>
    ⟨[.net, .waiting], []⟩
  | .portDownDiscard .. =>
    ⟨[.net, .cip, .waiting], [(0x20, 0x23), (0x30, 0x33), (0x38, 0x38), (0x60, 0x60), (0x93, 0x93)]⟩
  | .remoteFaultReceived .. | .remoteFaultCleared .. =>
    ⟨.net :: .cip :: .waiting :: told, [(0x14, 0x14), (0x20, 0x23), (0x30, 0x33), (0x38, 0x38), (0x40, 0x40), (0x60, 0x60), (0x91, 0x91), (0x93, 0x94), (0xC0, 0xC0)]⟩
  | .sgmiiControlWord .. | .flexeOverheadMismatch .. =>
    ⟨.net :: .waiting :: told, [(0x14, 0x14), (0x91, 0x91), (0x93, 0x94), (0xC0, 0xC0)]⟩
  | .calendarSwitched .. =>
    ⟨.net :: .cip :: .waiting :: told, [(0x14, 0x14), (0x20, 0x25), (0x30, 0x33), (0x38, 0x38), (0x40, 0x40), (0x60, 0x60), (0x91, 0x91), (0x93, 0x94), (0xC0, 0xC0)]⟩
  | .calendarSwitchTimeout .. =>
    ⟨.net :: .waiting :: told, [(0x14, 0x14), (0x24, 0x24), (0x91, 0x91), (0x93, 0x94), (0xC0, 0xC0)]⟩
  | .frameReceived .. => ⟨[.net, .cip, .waiting], [(0x20, 0x24), (0x30, 0x33), (0x60, 0x60)]⟩
  | .pause .. => ⟨[.net, .cip, .waiting], [(0x20, 0x23), (0x30, 0x33), (0x60, 0x60)]⟩
  | .pauseTimerExpiry .. => ⟨[.net, .waiting], [(0x20, 0x23)]⟩
  | .managementFrameReceived .. => ⟨[.out, .waiting], [(0x11, 0x11)]⟩
  | .ingressSlotGrant .. =>
    ⟨.regs :: .loop :: .net :: .cip :: .waiting :: told, [(0x11, 0x11), (0x14, 0x14), (0x20, 0x23), (0x30, 0x33), (0x38, 0x38), (0x40, 0x40), (0x50, 0x50), (0x60, 0x60), (0x71, 0x71), (0x91, 0x91), (0x93, 0x94), (0xA0, 0xB0), (0xC0, 0xC0)]⟩
  | .recirculate .. | .frameSelection .. =>
    ⟨.regs :: .net :: .cip :: .waiting :: told, [(0x14, 0x14), (0x20, 0x23), (0x30, 0x33), (0x38, 0x38), (0x50, 0x50), (0x60, 0x60), (0x91, 0x91), (0x93, 0x94), (0xB0, 0xB0), (0xC0, 0xC0)]⟩
  | .pnMarkWritten .. => ⟨[.cip, .pwr], []⟩
  | .frameTransmitted .. =>
    ⟨.net :: .waiting :: told, [(0x14, 0x14), (0x20, 0x23), (0x30, 0x33), (0x91, 0x91), (0x93, 0x94), (0xC0, 0xC0)]⟩
  | .headAgeDiscard .. =>
    ⟨.net :: .waiting :: told, [(0x14, 0x14), (0x20, 0x23), (0x30, 0x33), (0x38, 0x38), (0x91, 0x91), (0x93, 0x94), (0xC0, 0xC0)]⟩
  | .cancelPending .. =>
    ⟨.regs :: .dwBuf :: .acc :: .net :: .waiting :: told, [(0x11, 0x11), (0x13, 0x14), (0x20, 0x24), (0x30, 0x37), (0x40, 0x40), (0x80, 0x8F), (0x91, 0x91), (0x93, 0x94), (0xA0, 0xAF), (0xC0, 0xC0)]⟩
  | .gateListSwap .. =>
    ⟨.acc :: .net :: .waiting :: told, [(0x14, 0x14), (0x30, 0x37), (0x40, 0x40), (0x91, 0x91), (0x93, 0x94), (0xC0, 0xC0)]⟩
  | .gateEntryChange .. => ⟨[.net, .waiting], [(0x30, 0x37)]⟩
  | .telemetrySample .. =>
    ⟨.regs :: .net :: .waiting :: told, [(0x14, 0x14), (0x38, 0x38), (0x71, 0x71), (0x91, 0x91), (0x93, 0x94), (0xC0, 0xC0)]⟩
  | .telemetryRingEnable .. => ⟨[.regs, .rng], []⟩
  | .vportDelivery .. =>
    ⟨.regs :: .net :: .cip :: .waiting :: told, [(0x14, 0x14), (0x20, 0x23), (0x30, 0x33), (0x38, 0x38), (0x50, 0x50), (0x60, 0x60), (0x71, 0x71), (0x91, 0x91), (0x93, 0x94), (0xB0, 0xB0), (0xC0, 0xC0)]⟩
  | .admitStream .. | .withdraw .. | .check .. | .modify .. =>
    ⟨.regs :: .dwBuf :: .acc :: .adm :: .waiting :: told, [(0x11, 0x11), (0x13, 0x14), (0x20, 0x23), (0x91, 0x91), (0x93, 0x94), (0xC0, 0xC0)]⟩
  | .frerRecoveryReset .. | .oneCycleAfterStep .. =>
    ⟨.net :: .waiting :: told, [(0x14, 0x14), (0x40, 0x40), (0x91, 0x91), (0x93, 0x94), (0xC0, 0xC0)]⟩
  | .releaseDecrypted .. =>
    ⟨.loop :: .net :: .cip :: .pwr :: .waiting :: told, [(0x14, 0x14), (0x20, 0x23), (0x30, 0x33), (0x38, 0x38), (0x40, 0x40), (0x50, 0x50), (0x60, 0x60), (0x91, 0x91), (0x93, 0x94), (0xA0, 0xB0), (0xC0, 0xC0)]⟩
  | .cipherPageDoorbell .. => ⟨[.regs, .cip, .hst, .out], [(0x71, 0x71), (0x80, 0x8F)]⟩
  | .cipherPageEnable .. | .cipherPageDisable .. | .gcmEncrypt .. | .gcmDecrypt .. | .gmacGenerate ..
    | .gmacVerify .. | .ctr .. | .xtsEncrypt .. | .xtsDecrypt .. | .cmacGenerate .. | .cmacVerify .. | .wrap ..
    | .unwrap .. | .derive .. =>
    ⟨.regs :: .net :: .cip :: .waiting :: told, [(0x14, 0x14), (0x60, 0x60), (0x71, 0x71), (0x80, 0x8F), (0x91, 0x91), (0x93, 0x94), (0xC0, 0xC0)]⟩
  | .random .. =>
    ⟨.regs :: .net :: .cip :: .free :: .waiting :: told, [(0x14, 0x14), (0x60, 0x60), (0x71, 0x71), (0x80, 0x8F), (0x91, 0x91), (0x93, 0x94), (0xC0, 0xC0)]⟩
  | .laneStall .. | .laneStallEnd .. =>
    ⟨.cip :: told, [(0x14, 0x14), (0x60, 0x60), (0x91, 0x91), (0x93, 0x94), (0xC0, 0xC0)]⟩
  | .maskRefresh .. | .maskKeyExpiry .. => ⟨[.cip], []⟩
  | .drbgReseed .. => ⟨[.cip], [(0x60, 0x60)]⟩
  | .entropyTestFailure .. =>
    ⟨.regs :: .net :: .cip :: .sto :: .free :: .waiting :: told, [(0x14, 0x14), (0x60, 0x60), (0x71, 0x71), (0x80, 0x8F), (0x91, 0x91), (0x93, 0x94), (0xC0, 0xC0)]⟩
  | .engineRestart .. =>
    ⟨.regs :: .dwBuf :: .acc :: .cip :: .free :: .waiting :: told, [(0x11, 0x11), (0x13, 0x14), (0x20, 0x24), (0x60, 0x60), (0x80, 0x8F), (0x91, 0x91), (0x93, 0x94), (0xA0, 0xAF), (0xC0, 0xC0)]⟩
  | .storageQueueEnable .. => ⟨[.regs, .sto, .hst], [(0x80, 0x8F)]⟩
  | .storageDoorbell .. => ⟨[.regs, .sto, .hst, .out], [(0x71, 0x71), (0x80, 0x8F)]⟩
  | .connAdd .. | .cmdRead .. | .cmdWrite .. =>
    ⟨.regs :: .cip :: .sto :: told, [(0x14, 0x14), (0x70, 0x71), (0x80, 0x8F), (0x91, 0x91), (0x93, 0x94), (0xC0, 0xC0)]⟩
  | .connDel .. | .cmdRetire .. =>
    ⟨.regs :: .net :: .cip :: .sto :: .waiting :: told, [(0x14, 0x14), (0x70, 0x71), (0x80, 0x8F), (0x91, 0x91), (0x93, 0x94), (0xC0, 0xC0)]⟩
  | .resync .. =>
    ⟨.regs :: .cip :: .sto :: told, [(0x14, 0x14), (0x71, 0x71), (0x80, 0x8F), (0x91, 0x91), (0x93, 0x94), (0xC0, 0xC0)]⟩
  | .storageSegment .. =>
    ⟨.regs :: .net :: .cip :: .sto :: .waiting :: told, [(0x14, 0x14), (0x20, 0x23), (0x30, 0x33), (0x38, 0x38), (0x50, 0x50), (0x60, 0x60), (0x70, 0x71), (0x80, 0x8F), (0x91, 0x91), (0x93, 0x94), (0xB0, 0xB0), (0xC0, 0xC0)]⟩
  | .quarantineEnd .. => ⟨[.sto], [(0x70, 0x70)]⟩
  | .hostPortDisable .. | .hostPortEnable .. =>
    ⟨.regs :: .loop :: .coreMem :: .dwBuf :: .acc :: .net :: .adm :: .cip :: .sto :: .dma :: .waiting :: told, [(0x11, 0x11), (0x13, 0x14), (0x20, 0x24), (0x30, 0x33), (0x38, 0x38), (0x70, 0x71), (0x80, 0x94), (0xA0, 0xAF), (0xC0, 0xC0)]⟩
  | .hostLinkUp .. => ⟨told, [(0x14, 0x14), (0x71, 0x71), (0x80, 0x8F), (0x91, 0x91), (0x93, 0x94), (0xC0, 0xC0)]⟩
  | .linkStateChange .. | .tagQuarantineEnd .. => ⟨[.hst, .out], [(0x71, 0x71), (0x80, 0x8F)]⟩
  | .vfEnable .. | .flr .. | .hostFaceReset .. =>
    ⟨.regs :: .loop :: .coreMem :: .acc :: .net :: .adm :: .cip :: .sto :: .dma :: .waiting :: told, [(0x13, 0x14), (0x20, 0x24), (0x30, 0x33), (0x38, 0x38), (0x70, 0x71), (0x80, 0x94), (0xA0, 0xAF), (0xC0, 0xC0)]⟩
  | .completionReceived .. | .completionTimeout .. =>
    ⟨.regs :: .loop :: .coreMem :: .net :: .cip :: .sto :: .dma :: .waiting :: told, [(0x14, 0x14), (0x60, 0x60), (0x71, 0x71), (0x80, 0x8F), (0x91, 0x94), (0xC0, 0xC0)]⟩
  | .busMasterEnableClear .. =>
    ⟨.regs :: .loop :: .coreMem :: .net :: .cip :: .sto :: .dma :: .waiting :: told, [(0x14, 0x14), (0x71, 0x71), (0x80, 0x8F), (0x91, 0x94), (0xC0, 0xC0)]⟩
  | .flrComplete .. => ⟨.regs :: told, [(0x14, 0x14), (0x80, 0x8F), (0x91, 0x91), (0x93, 0x94), (0xC0, 0xC0)]⟩
  | .dStateChange .. =>
    ⟨.regs :: .loop :: .coreMem :: .net :: .cip :: .sto :: .dma :: .waiting :: told, [(0x13, 0x14), (0x20, 0x24), (0x71, 0x71), (0x80, 0x8F), (0x91, 0x94), (0xA0, 0xAF), (0xC0, 0xC0)]⟩
  | .perstDeassert .. => ⟨[.hst], [(0x71, 0x71), (0x80, 0x8F)]⟩
  | .ringEnable .. | .ringDisable .. | .hostFrameRead .. =>
    ⟨[.regs, .net, .hst, .rng, .out, .waiting], [(0x71, 0x71), (0x80, 0x8F)]⟩
  | .ringDoorbell .. => ⟨[.regs, .hst, .out], [(0x71, 0x71), (0x80, 0x8F)]⟩
  | .inlinePush .. =>
    ⟨.regs :: .net :: .waiting :: told, [(0x14, 0x14), (0x71, 0x71), (0x91, 0x91), (0x93, 0x94), (0xC0, 0xC0)]⟩
  | .ringModTimer .. => ⟨[.hst, .rng, .out], []⟩
  | .bindingLock .. =>
    ⟨.regs :: .dwBuf :: .acc :: .waiting :: told, [(0x11, 0x11), (0x13, 0x14), (0x20, 0x24), (0x80, 0x91), (0x93, 0x94), (0xA0, 0xAF), (0xC0, 0xC0)]⟩
  | .sendCommit .. => ⟨.regs :: told, [(0x14, 0x14), (0x90, 0x91), (0x93, 0x94), (0xC0, 0xC0)]⟩
  | .receiveLatch .. => ⟨[.regs, .out], []⟩
  | .pop .. | .flush .. => ⟨[.regs, .hst, .rng, .thr, .out], [(0x90, 0x91), (0x93, 0x94)]⟩
  | .sourceAssert .. | .levelWithdrawn .. | .claim .. | .ppsOut =>
    ⟨[.hst, .rng, .thr, .out], [(0x91, 0x91), (0x93, 0x94)]⟩
  | .complete .. | .setPending .. | .fork .. | .accessComplete .. | .threadStop .. | .threadResume ..
    | .fozonLinkChange .. | .quiescentStall | .supervisorSilent | .supervisorTakeover | .partnerLost =>
    ⟨told, [(0x14, 0x14), (0x91, 0x91), (0x93, 0x94), (0xC0, 0xC0)]⟩
  | .interruptEntry .. => ⟨[.rng, .thr], [(0x91, 0x91), (0x93, 0x93)]⟩
  | .interruptExit .. => ⟨[.rng, .thr, .out], [(0x91, 0x91), (0x93, 0x94)]⟩
  | .join .. | .wait .. | .signal .. | .waitDeadline .. | .accessStall .. => ⟨[.thr, .out], [(0x93, 0x94)]⟩
  | .threadFault .. =>
    ⟨.regs :: .loop :: .coreMem :: .net :: .cells :: .dma :: .waiting :: told, [(0x14, 0x14), (0x71, 0x71), (0x91, 0x94), (0xC0, 0xC0)]⟩
  | .threadRestart .. | .executorRestart .. =>
    ⟨.regs :: .loop :: .coreMem :: .net :: .dma :: .waiting :: told, [(0x13, 0x14), (0x20, 0x24), (0x71, 0x71), (0x80, 0x94), (0xA0, 0xAF), (0xC0, 0xC0)]⟩
  | .threadRelease .. => ⟨.regs :: .cells :: told, [(0x14, 0x14), (0x90, 0x91), (0x93, 0x94), (0xC0, 0xC0)]⟩
  | .threadKill .. =>
    ⟨.regs :: .loop :: .coreMem :: .net :: .cells :: .dma :: .waiting :: told, [(0x13, 0x14), (0x20, 0x24), (0x71, 0x71), (0x80, 0x94), (0xA0, 0xAF), (0xC0, 0xC0)]⟩
  | .unload .. =>
    ⟨.regs :: .dwBuf :: .acc :: .cells :: .waiting :: told, [(0x11, 0x11), (0x13, 0x14), (0x20, 0x24), (0x80, 0x8F), (0x91, 0x91), (0x93, 0x94), (0xA0, 0xAF), (0xC0, 0xC0)]⟩
  | .cellRelease .. | .cellRun .. =>
    ⟨.net :: .cells :: .waiting :: told, [(0x14, 0x14), (0x20, 0x23), (0x91, 0x91), (0x93, 0x94), (0xA0, 0xAF), (0xC0, 0xC0)]⟩
  | .copy .. | .fill .. | .compare .. =>
    ⟨.regs :: .net :: .dma :: .waiting :: told, [(0x13, 0x14), (0x91, 0x94), (0xC0, 0xC0)]⟩
  | .dmaDone .. => ⟨.regs :: .dma :: told, [(0x14, 0x14), (0x91, 0x94), (0xC0, 0xC0)]⟩
  | .stationChannelsWrite .. =>
    ⟨.regs :: .dwBuf :: .acc :: .waiting :: told, [(0x11, 0x11), (0x13, 0x14), (0x20, 0x24), (0x80, 0x8F), (0x91, 0x94), (0xA0, 0xAF), (0xC0, 0xC0)]⟩
  | .ptpMessage .. | .ppsEdge =>
    ⟨.clk :: .acc :: .net :: .cip :: .free :: .waiting :: told, [(0x11, 0x12), (0x14, 0x14), (0x30, 0x37), (0x40, 0x40), (0x60, 0x60), (0x91, 0x91), (0x93, 0x94), (0xC0, 0xC0)]⟩
  | .ptpPortStateChange .. | .ppsMissing | .holdoverLimit =>
    ⟨.clk :: .waiting :: told, [(0x11, 0x12), (0x14, 0x14), (0x34, 0x37), (0x40, 0x40), (0x91, 0x91), (0x93, 0x94), (0xC0, 0xC0)]⟩
  | .ptpSyncTransmit .. | .pdelayRequestTransmit .. => ⟨[.clk, .out, .waiting], [(0x11, 0x12)]⟩
  | .nextPpsSecondsWrite .. =>
    ⟨.regs :: .dwBuf :: .clk :: .acc :: .waiting :: told, [(0x11, 0x11), (0x13, 0x14), (0x20, 0x24), (0x80, 0x8F), (0x91, 0x91), (0x93, 0x94), (0xA0, 0xAF), (0xC0, 0xC0)]⟩
  | .temperatureSample .. => ⟨.clk :: told, [(0x10, 0x10), (0x14, 0x14), (0x91, 0x91), (0x93, 0x94), (0xC0, 0xC0)]⟩
  | .thermalTrip .. =>
    ⟨.clk :: .net :: .cip :: .cells :: .pwr :: .waiting :: told, [(0x13, 0x14), (0x30, 0x33), (0x38, 0x38), (0x60, 0x60), (0x91, 0x91), (0x93, 0x94), (0xB0, 0xB0), (0xC0, 0xC0)]⟩
  | .sequenceFailure .. | .railEnable | .sequenceRetry | .powerSequenceRestart => ⟨[.pwr, .out], []⟩
  | .warmResetRequest .. | .hardResetRequest .. | .configurationCommit .. =>
    ⟨.regs :: .dwBuf :: .acc :: .pwr :: .free :: .waiting :: told, [(0x11, 0x11), (0x13, 0x14), (0x20, 0x24), (0x80, 0x8F), (0x91, 0x91), (0x93, 0x94), (0xA0, 0xAF), (0xC0, 0xC0)]⟩
  | .deviceReset .. | .powerOn | .resetNAssert | .pwrOkLoss | .watchdogExpiry | .vaux3v3Loss =>
    ⟨.regs :: .loop :: .coreMem :: .backup :: .dwBuf :: .clk :: .acc :: .net :: .adm :: .cip :: .sto :: .cells :: .dma :: .pwr :: .flt :: .waiting :: told, [(0x00, 0xFF)]⟩
  | .watchdogWrite .. => ⟨[.pwr], []⟩
  | .avsStep .. | .supplyWarnRelease =>
    ⟨.pwr :: told, [(0x14, 0x14), (0x91, 0x91), (0x93, 0x94), (0xB0, 0xB0), (0xC0, 0xC0)]⟩
  | .pmbusAlert .. => ⟨told, [(0x14, 0x14), (0x91, 0x91), (0x93, 0x94), (0xB1, 0xB1), (0xC0, 0xC0)]⟩
  | .commitEnd .. | .recoveryTimeout =>
    ⟨.pwr :: .free :: told, [(0x13, 0x14), (0x91, 0x91), (0x93, 0x94), (0xC0, 0xC0)]⟩
  | .program .. | .activate .. | .programAndActivate .. | .switch .. | .discard .. =>
    ⟨.regs :: .dwBuf :: .acc :: .cells :: .pwr :: .waiting :: told, [(0x11, 0x11), (0x13, 0x14), (0x20, 0x24), (0x80, 0x8F), (0x91, 0x91), (0x93, 0x94), (0xA0, 0xAF), (0xC0, 0xC0)]⟩
  | .firmwareProgramStep .. => ⟨.pwr :: told, [(0x13, 0x14), (0x91, 0x91), (0x93, 0x94), (0xC0, 0xC0)]⟩
  | .switchCoreDone .. =>
    ⟨.regs :: .loop :: .coreMem :: .net :: .cells :: .dma :: .pwr :: .waiting :: told, [(0x10, 0x10), (0x13, 0x14), (0x20, 0x24), (0x71, 0x71), (0x80, 0x94), (0xA0, 0xAF), (0xC0, 0xC0)]⟩
  | .debugUnlock .. =>
    ⟨.regs :: .dwBuf :: .acc :: .free :: .waiting :: told, [(0x11, 0x11), (0x13, 0x14), (0x20, 0x24), (0x80, 0x8F), (0x91, 0x91), (0x93, 0x94), (0xA0, 0xAF), (0xC0, 0xC0)]⟩
  | .correctableError .. => ⟨.flt :: told, [(0x14, 0x14), (0x25, 0x25), (0x91, 0x91), (0x93, 0x94), (0xC0, 0xC0)]⟩
  | .uncorrectableError .. =>
    ⟨.regs :: .loop :: .coreMem :: .net :: .cip :: .cells :: .dma :: .pwr :: .flt :: .free :: .waiting :: told, [(0x13, 0x14), (0x20, 0x23), (0x25, 0x25), (0x30, 0x33), (0x38, 0x38), (0x40, 0x40), (0x60, 0x60), (0x71, 0x71), (0x91, 0x94), (0xC0, 0xC0)]⟩
  | .ternaryRowRewrite .. | .pairMessage .. =>
    ⟨.flt :: told, [(0x14, 0x14), (0x91, 0x91), (0x93, 0x94), (0xC0, 0xC0)]⟩
  | .entryReload .. => ⟨[.flt], [(0x38, 0x38)]⟩
  | .frameUnitFault .. =>
    ⟨.net :: .cip :: .pwr :: .flt :: .free :: .waiting :: told, [(0x13, 0x14), (0x20, 0x23), (0x25, 0x25), (0x30, 0x33), (0x40, 0x40), (0x60, 0x60), (0x91, 0x91), (0x93, 0x94), (0xC0, 0xC0)]⟩
  | .failoverComplete .. =>
    ⟨.net :: .cip :: .pwr :: .flt :: .waiting :: told, [(0x13, 0x14), (0x20, 0x23), (0x25, 0x25), (0x30, 0x33), (0x38, 0x38), (0x40, 0x40), (0x60, 0x60), (0x91, 0x91), (0x93, 0x94), (0xC0, 0xC0)]⟩
  | .cipherLaneFault .. =>
    ⟨.net :: .cip :: .pwr :: .flt :: .waiting :: told, [(0x13, 0x14), (0x25, 0x25), (0x30, 0x33), (0x40, 0x40), (0x60, 0x60), (0x91, 0x91), (0x93, 0x94), (0xC0, 0xC0)]⟩
  | .cipherLaneRestartComplete .. =>
    ⟨.pwr :: .flt :: told, [(0x13, 0x14), (0x40, 0x40), (0x91, 0x91), (0x93, 0x94), (0xC0, 0xC0)]⟩
  | .loopCoreFault .. =>
    ⟨.pwr :: .flt :: told, [(0x13, 0x14), (0x25, 0x25), (0x91, 0x91), (0x93, 0x94), (0xC0, 0xC0)]⟩
  | .loopCoreFailoverComplete .. =>
    ⟨.regs :: .loop :: .coreMem :: .net :: .cells :: .dma :: .pwr :: .flt :: .waiting :: told, [(0x13, 0x14), (0x20, 0x24), (0x71, 0x71), (0x80, 0x94), (0xA0, 0xAF), (0xC0, 0xC0)]⟩
  | .fabricLinkRepair .. =>
    ⟨.regs :: .loop :: .coreMem :: .net :: .cip :: .sto :: .dma :: .flt :: .waiting :: told, [(0x14, 0x14), (0x30, 0x33), (0x40, 0x40), (0x60, 0x60), (0x71, 0x71), (0x80, 0x8F), (0x91, 0x94), (0xC0, 0xC0)]⟩
  | .fabricLinkRetrained .. =>
    ⟨.regs :: .loop :: .coreMem :: .acc :: .net :: .adm :: .cip :: .sto :: .dma :: .pwr :: .flt :: .waiting :: told, [(0x13, 0x14), (0x20, 0x25), (0x30, 0x33), (0x38, 0x38), (0x40, 0x40), (0x60, 0x60), (0x70, 0x71), (0x80, 0x94), (0xA0, 0xAF), (0xC0, 0xC0)]⟩
  | .hbmStackFailure .. =>
    ⟨.net :: .pwr :: .flt :: .free :: .waiting :: told, [(0x13, 0x14), (0x20, 0x23), (0x25, 0x25), (0x30, 0x33), (0x38, 0x38), (0x91, 0x91), (0x93, 0x94), (0xC0, 0xC0)]⟩
  | .transmitStart .. =>
    ⟨[.clk, .net, .cip, .out, .waiting], [(0x11, 0x12), (0x20, 0x23), (0x30, 0x33), (0x60, 0x60)]⟩
  | .tableVersionEffective =>
    ⟨[.regs, .dwBuf, .acc, .hst, .rng, .thr, .out, .waiting], [(0x11, 0x11), (0x91, 0x91), (0x93, 0x94)]⟩
  | .admissionComplete =>
    ⟨.regs :: .dwBuf :: .acc :: .net :: .adm :: .cip :: .free :: .waiting :: told, [(0x10, 0x11), (0x14, 0x14), (0x20, 0x25), (0x30, 0x38), (0x40, 0x40), (0x60, 0x60), (0x91, 0x91), (0x93, 0x94), (0xC0, 0xC0)]⟩
  | .imageBackup => ⟨[.backup], []⟩
  | .ref10mPresent | .ref10mAbsent =>
    ⟨.clk :: .free :: told, [(0x12, 0x12), (0x14, 0x14), (0x91, 0x91), (0x93, 0x94), (0xC0, 0xC0)]⟩
  | .timeCopyReload => ⟨[.clk], []⟩
  | .coreReferenceLost => ⟨told, [(0x12, 0x12), (0x14, 0x14), (0x91, 0x91), (0x93, 0x94), (0xC0, 0xC0)]⟩
  | .safeHoldExit =>
    ⟨.cells :: .pwr :: .flt :: told, [(0x13, 0x14), (0x71, 0x71), (0x80, 0x8F), (0x91, 0x91), (0x93, 0x94), (0xB0, 0xB0), (0xC0, 0xC0)]⟩
  | .resetRelease =>
    ⟨.regs :: .loop :: .acc :: .net :: .cip :: .cells :: .pwr :: .flt :: .free :: .waiting :: told, [(0x00, 0xFF)]⟩
  | .serviceEntry =>
    ⟨.pwr :: told, [(0x13, 0x14), (0x24, 0x24), (0x60, 0x60), (0x71, 0x71), (0x80, 0x91), (0x93, 0x94), (0xC0, 0xC0)]⟩
  | .backgroundEraseDone => ⟨[.pwr], [(0x13, 0x13)]⟩
  | .supplyWarnAssert =>
    ⟨.pwr :: .flt :: told, [(0x14, 0x14), (0x91, 0x91), (0x93, 0x94), (0xB0, 0xB0), (0xC0, 0xC0)]⟩
  | .scrub => ⟨[.flt], []⟩
  | .logFlush => ⟨[.log], [(0x14, 0x14)]⟩
  | .availabilityUpdate => ⟨[.flt], [(0x14, 0x14)]⟩
  | .pairMessageSend => ⟨[.out], []⟩

/-- The objects of the pages `lo` to `hi` (upper bytes of their indexes). -/
def pages (lo hi ix _row _sub : Nat) : Bool := decide (lo ≤ ix / 256) && decide (ix / 256 ≤ hi)

/-- A counter has gained `n`; it wraps at its length. -/
def countsUp (s t : State) (ix row sub n : Nat) : Prop := t.cell ix row sub = (s.cell ix row sub + n) % 256 ^ cellLen ix sub

/-- A device reset with a code of Table 15-2 has begun: the device is held in START, with flash kept and what runs gone. -/
def Restarted (s t : State) (code : Nat) : Prop :=
  t.devState = 0 ∧ t.pwr.inReset = true ∧ t.pwr.cause = code ∧ t.ob 0x1300 2 = code ∧ t.pwr.fwA = s.pwr.fwA
    ∧ t.pwr.fwB = s.pwr.fwB ∧ t.pwr.cfgA = s.pwr.cfgA ∧ t.pwr.cfgB = s.pwr.cfgB ∧ t.pwr.replay = s.pwr.replay
    ∧ t.pwr.journal = s.pwr.journal ∧ t.log.flash = s.log.flash ∧ t.pending = s.pending ∧ t.adm = [] ∧ t.loop = []
    ∧ t.net.queues = [] ∧ t.cells = [] ∧ t.dma = {}

/-- A step that neither faults nor refuses. -/
def Safe (s : State) : Prop := ∃ t, step s = .next t

end Sys2Proof.Machine
end

