-- ==== Sys2Proof/Certificates/Slice0/Obligations.lean ====
section
/-! DEFINITION. The statements for the provers, O1 to O60, in the order of OBLIGATIONS.json. -/

open Sys2Proof Sys2Proof.Machine

/-- O1. With command c at the front of the queue, step is exec of c on the state that keeps the rest of the queue. -/
def Obligations.StepRunsFront : Prop :=
  ∀ (s : State) (c : Instr) (rest : List Instr), s.pending = c :: rest → step s = exec c { s with pending := rest }

/-- O2. With an empty queue a step answers a next state in which the free-running counter has gained 1.25 ns (5
quarters of a nanosecond) and station time 1.25 ns and the correction. Where nothing is in progress in the pool
manager, the cipher engine and the DMA engine, everything but the clock and the availability figure's times is as
before. That a step without a command is a cycle is the model's choice (log entry 1, DESIGN CHOICE). -/
def Obligations.IdleStepPassesACycle : Prop :=
  ∀ s : State, s.pending = [] → ∃ t : State, step s = .next t ∧ t.clk.frcQ = s.clk.frcQ + 5
    ∧ t.clk.tai = ((s.clk.tai : Int) + 81920 + s.clk.corr).toNat % (2 ^ 48 * 1000000000 * 65536)
    ∧ (s.net.pool = [] → s.net.answers = [] → s.cip.passes = [] → s.cip.jobs = [] → s.cip.work = [] → s.dma.ops = [] →
        Only [.clk, .flt] noField s t)

/-- O3. State.reset has no command waiting, nothing listed in shared loop SRAM, core SRAM and the window buffers,
meets the invariant that every step keeps, and is in START (before POWER_ON: log entry 2). -/
def Obligations.ResetIsCanonical : Prop :=
  State.reset.canonical = true ∧ State.reset.pending = [] ∧ State.reset.loop = [] ∧ State.reset.coreMem = []
    ∧ State.reset.dwBuf = [] ∧ State.reset.devState = 0

/-- O4. From every state whose dictionary, registers and byte memories list addresses in strictly rising order and
hold no entry equal to what an unlisted address reads as, a step that answers a next state leads to such a state. The
canonical form is the model's. -/
def Obligations.CanonicalKept : Prop :=
  ∀ s t : State, s.canonical = true → step s = .next t → t.canonical = true

/-- O5. For every command and state: when exec answers a next state, the queue is unchanged, every part of State
outside the parts that reach names for the command is unchanged, and every field of every object whose page (the upper
byte of its index) reach does not name for the command reads as before. The table reach is the model's statement of
what the rules let each command change. -/
def Obligations.ReachKept : Prop :=
  ∀ (c : Instr) (s t : State), exec c s = .next t → t.pending = s.pending
    ∧ (∀ p : Part, (reach c).parts.contains p = false → p.same s t)
    ∧ ∀ ix row sub : Nat, ix < 0xD000 → (reach c).onPage (ix / 256) = false → t.cell ix row sub = s.cell ix row sub

/-- O6. With command c at the front of the queue, a step that answers a next state leaves exactly the rest of the
queue, in order. -/
def Obligations.QueueIsFirstInFirstOut : Prop :=
  ∀ (s t : State) (c : Instr) (rest : List Instr), s.pending = c :: rest → step s = .next t → t.pending = rest

/-- O7. Every command answers a next state in every state, and so does a step with no command waiting: the model stops
on no command. -/
def Obligations.EveryStepIsSafe : Prop :=
  (∀ (c : Instr) (s : State), ∃ t : State, exec c s = .next t) ∧ ∀ s : State, Safe s

/-- O8. READ of an entry that the principal may read answers OK with the entry's present value in the entry's length:
of a scalar field what it holds, of a field whose value the manual leaves open a value that nothing constrains (log
entry 5), of a WINDOW object the selector, the row count or the data field of the requester's staging. The answer
shows on the path of the request. Beside that path, the frames that answer it and what events change, nothing changes.
-/
def Obligations.ReadAnswersPresentValue : Prop :=
  ∀ (s u : State) (v : Via) (ix sub room : Nat) (o : Obj) (e : Entry), objectAt ix = some o → ItemRuns s v (readReq ix sub) u →
    u.room v = some room → sub ≠ 0 → o.entry sub = some e → e.acc.reads (u.principal v) = true →
    ownTenant (u.principal v) ix = true → e.ty ≠ .domain → e.ty.len ≤ room →
    (o.rows = none → drawnField ix sub = false → ∃ t : State, exec (.read v ix sub) s = .next t
        ∧ Answers u t v ix sub stOk (toBE e.ty.len (u.present (masterOf v) ix 0 sub))
        ∧ Only (.regs :: .dwBuf :: .acc :: .waiting :: told) (orLoud noField) u t)
    ∧ (o.rows = none → drawnField ix sub = true → ∃ t : State, exec (.read v ix sub) s = .next t
        ∧ Answers u t v ix sub stOk (toBE e.ty.len (Config.freeValue u.free)) ∧ t.free = u.free + 1
        ∧ Only (.regs :: .dwBuf :: .acc :: .waiting :: .free :: told) (orLoud noField) u t)
    ∧ (o.rows.isSome = true → ∃ t : State, exec (.read v ix sub) s = .next t
        ∧ Answers u t v ix sub stOk (toBE e.ty.len (if sub = 1 then (u.window (masterOf v) ix).selector
            else if sub = 2 then u.rowCount ix o else (u.window (masterOf v) ix).value sub))
        ∧ Only (.regs :: .dwBuf :: .acc :: .waiting :: told) (orLoud noField) u t)

/-- O9. A read of subindex 0 of an object answers OK with the highest subindex as one byte, to every principal that
reaches the object (a Tenant principal reaches no tenant object but its own, R27), and a read of a subindex that the
object does not implement answers NO_SUBINDEX. Objects are found by a 16-bit index and an 8-bit subindex. Formalises
R20. -/
def Obligations.SubindexZeroIsTheHighest : Prop :=
  ∀ (s u : State) (v : Via) (ix sub room : Nat) (o : Obj), ix < 2 ^ 16 → sub < 2 ^ 8 → objectAt ix = some o →
    ItemRuns s v (readReq ix sub) u → u.room v = some room →
    (sub = 0 → 1 ≤ room → ownTenant (u.principal v) ix = true →
      ∃ t : State, exec (.read v ix sub) s = .next t ∧ Answers u t v ix sub stOk (toBE 1 o.highest)
        ∧ (∀ k, (o.entry k).isSome = true → k ≤ o.highest) ∧ ((o.entry o.highest).isSome = true ∨ o.highest = 0))
    ∧ (sub ≠ 0 → o.entry sub = none →
      ∃ t : State, exec (.read v ix sub) s = .next t ∧ Answers u t v ix sub stNoSubindex [])

/-- O10. DOMAIN_READ of a DOMAIN object by a principal that may read it answers OK with at most max bytes from the
offset, cut to the room of the response; an offset behind the end is answered RANGE. -/
def Obligations.DomainReadAnswersBytes : Prop :=
  ∀ (s u : State) (v : Via) (ix sub off max room : Nat) (o : Obj) (e : Entry), objectAt ix = some o → o.entry sub = some e →
    e.ty = .domain → ItemRuns s v (domainReadReq ix sub off max) u → u.room v = some room → 1 ≤ room →
    e.acc.reads (u.principal v) = true → ownTenant (u.principal v) ix = true →
    (off ≤ (u.domainBytes ix sub).length → ∃ t : State, exec (.domainRead v ix sub off max) s = .next t
      ∧ Answers u t v ix sub stOk (((u.domainBytes ix sub).drop off).take (min max room)))
    ∧ ((u.domainBytes ix sub).length < off → ∃ t : State, exec (.domainRead v ix sub off max) s = .next t
      ∧ Answers u t v ix sub stRange [])

/-- O11. The first segment of a DOMAIN_WRITE that does not complete the transfer opens it: the object's transfer
belongs to the writer, with its total length and bytes. The next segment at the right offset that does not complete it
extends it. Both are answered OK. -/
def Obligations.DomainSegmentKept : Prop :=
  ∀ (s w u : State) (v : Via) (ix sub off total : Nat) (data : Bytes) (o : Obj) (e : Entry),
    objectAt ix = some o → o.entry sub = some e → ItemRuns s v (domainWriteReq ix sub off total data) w →
    u = w.lapses (w.domain ix 0) → u.domainAccess v ix sub o e = stOk → total ≤ 16777216 → off + data.length < total →
    (off = 0 ∧ (u.transfer ix sub = none ∨ ∃ x, u.transfer ix sub = some x ∧ x.master = masterOf v) →
      ∃ t : State, exec (.domainWrite v ix sub off total data) s = .next (t.answer v ix sub stOk [])
        ∧ (∃ x, t.transfer ix sub = some x ∧ x.master = masterOf v ∧ x.total = total ∧ x.data = data) ∧ Only [.acc] noField u t)
    ∧ ∀ x, off ≠ 0 → u.transfer ix sub = some x → x.master = masterOf v → x.total = total → off = x.data.length →
      ∃ t : State, exec (.domainWrite v ix sub off total data) s = .next (t.answer v ix sub stOk [])
        ∧ (∃ y, t.transfer ix sub = some y ∧ y.master = masterOf v ∧ y.total = total ∧ y.data = x.data ++ data)
        ∧ Only [.acc] noField u t

/-- O12. DOMAIN_TRANSFER_TIMEOUT, 1 s after an object's last segment, leaves no transfer of it and keeps the others;
BATCH_TIMEOUT, 1 s after a master opened its batch, leaves it none and keeps the others. The rest of the dictionary's
own state and every object but those that events change are as before. -/
def Obligations.TransfersAndBatchesTimeOut : Prop :=
  (∀ (s : State) (ix sub : Nat) (x : Transfer), s.transfer ix sub = some x → x.last + 1000000000 ≤ s.now →
    ∃ t : State, exec (.domainTransferTimeout ix sub) s = .next t ∧ t.transfer ix sub = none
      ∧ (∀ ix' sub', (ix', sub') ≠ (ix, sub) → t.transfer ix' sub' = s.transfer ix' sub')
      ∧ t.acc = { s.acc with transfers := t.acc.transfers } ∧ Only (.acc :: told) (orLoud noField) s t)
  ∧ ∀ (s : State) (m : Nat) (b : Batch), s.batch m = some b → b.opened + 1000000000 ≤ s.now →
    ∃ t : State, exec (.batchTimeout m) s = .next t ∧ t.batch m = none
      ∧ (∀ m', m' ≠ m → t.batch m' = s.batch m') ∧ t.acc = { s.acc with batches := t.acc.batches }
      ∧ Only (.acc :: told) (orLoud noField) s t

/-- O13. A row selector below the row count, of a row that is open to the principal, is answered OK: the requester's
window has that row selected and every data field of its staging reads what the row holds, fields that no principal
may read their defaults, and no mark remains. LOAD does the same for the row already selected. Stated for objects
without fields whose value the manual leaves open. -/
def Obligations.RowSelectLoadsStaging : Prop :=
  ∀ (s u : State) (v : Via) (ix row n : Nat) (o : Obj), objectAt ix = some o → o.rows = some n → o.head = false →
    row < 2 ^ 32 → u.devState ≠ 0 → u.inHold = false →
    (∀ e ∈ o.fields, drawnField ix e.1 = false) →
    (ItemRuns s v (writeReq ix 1 (toBE 4 row)) u → row < u.rowCount ix o → u.rowOpen (u.principal v) ix row = true →
      ∃ t : State, exec (.rowSelect v ix row) s = .next (t.answer v ix 1 stOk [])
        ∧ (t.window (masterOf v) ix).selected = some row ∧ (t.window (masterOf v) ix).marks = []
        ∧ (∀ e ∈ o.fields, (t.window (masterOf v) ix).value e.1
            = if e.2.secret then cellDefault ix row e.1 else u.present (masterOf v) ix row e.1)
        ∧ Only [.acc] noField u t)
    ∧ (ItemRuns s v (writeReq ix 3 (toBE 1 3)) u → (u.window (masterOf v) ix).selected = some row →
        u.actionAccess v ix o (u.window (masterOf v) ix) 3 = true →
        ∃ t : State, exec (.load v ix) s = .next (t.answer v ix 3 stOk [])
          ∧ (t.window (masterOf v) ix).selected = some row ∧ (t.window (masterOf v) ix).marks = []
          ∧ (∀ e ∈ o.fields, (t.window (masterOf v) ix).value e.1
              = if e.2.secret then cellDefault ix row e.1 else u.present (masterOf v) ix row e.1)
          ∧ Only [.acc] noField u t)

/-- O14. A COMMIT (CLEAR) of the selected row of a match table by a master without an open batch, past its checks,
sets every field that the staging (the cleared row) gives it, waits as the newest table version with the item that it
answers, and clears the marks of the window. Fields of other rows of the table keep their values. -/
def Obligations.CommitAndClearLandOneVersion : Prop :=
  ∀ (s u : State) (v : Via) (ix row : Nat) (o : Obj) (win : Window), versioned ix = true → row < 2 ^ 32 →
    win = u.window (masterOf v) ix → u.batch (masterOf v) = none →
    (RowActs s v ix row o 1 u → u.checkChange o (u.commitChange win row o) .none = stOk →
      ∃ t : State, exec (.commit v ix) s = .next t
        ∧ (∀ f ∈ (u.commitChange win row o).new, t.cell ix row f.1 = f.2)
        ∧ (∀ row' sub, row' < 2 ^ 32 → row' ≠ row → t.cell ix row' sub = u.cell ix row' sub)
        ∧ (t.window (masterOf v) ix).marks = []
        ∧ ∃ x, t.acc.versions = u.acc.versions ++ [x] ∧ x.via = some v ∧ x.ix = ix ∧ x.sub = 3)
    ∧ (RowActs s v ix row o 2 u → u.checkChange o (u.clearChange ix row o) .none = stOk →
      ∃ t : State, exec (.clear v ix) s = .next t
        ∧ (∀ f ∈ (u.clearChange ix row o).new, t.cell ix row f.1 = f.2)
        ∧ (∀ row' sub, row' < 2 ^ 32 → row' ≠ row → t.cell ix row' sub = u.cell ix row' sub)
        ∧ (t.window (masterOf v) ix).marks = []
        ∧ ∃ x, t.acc.versions = u.acc.versions ++ [x] ∧ x.via = some v ∧ x.ix = ix ∧ x.sub = 3)

/-- O15. BATCH_OPEN by a master without a batch opens an empty one now; BATCH_DISCARD ends it and changes no table;
BATCH_CLOSE of changes that still fit ends it and lands them all as one table version, whose item is answered later:
every object outside those that events change reads as the held changes make it. -/
def Obligations.BatchesOpenCloseDiscard : Prop :=
  ∀ (s u : State) (v : Via), Acc.wT.writes (u.principal v) = true → u.startState = stOk →
    (ItemRuns s v (writeReq 0x5000 0x10 (toBE 1 1)) u → u.batch (masterOf v) = none →
      ∃ t : State, exec (.batchOpen v) s = .next (t.answer v 0x5000 0x10 stOk [])
        ∧ t.batch (masterOf v) = some { master := masterOf v, opened := u.now, held := [] } ∧ Only [.acc] noField u t)
    ∧ (∀ b, ItemRuns s v (writeReq 0x5000 0x10 (toBE 1 3)) u → u.batch (masterOf v) = some b →
      ∃ t : State, exec (.batchDiscard v) s = .next (t.answer v 0x5000 0x10 stOk []) ∧ t.batch (masterOf v) = none
        ∧ t.acc.versions = u.acc.versions ∧ Only [.acc] noField u t)
    ∧ ∀ b w, ItemRuns s v (writeReq 0x5000 0x10 (toBE 1 2)) u → u.batch (masterOf v) = some b →
      w = u.setBatch (masterOf v) none → b.held ≠ [] → w.conflicts w b.held = false →
        ∃ t : State, exec (.batchClose v) s = .next t ∧ t.batch (masterOf v) = none
          ∧ (∃ x, t.acc.versions = u.acc.versions ++ [x] ∧ x.via = some v ∧ x.ix = 0x5000 ∧ x.sub = 0x10)
          ∧ ∀ ix row sub, loud ix sub = false → t.cell ix row sub = (w.overlay (some b)).cell ix row sub

/-- O16. TABLE_VERSION_EFFECTIVE makes the oldest landed version effective, raises the version number and answers the
item that waits for it with OK, where its request has not ended; the later versions still wait and no field of the
dictionary changes by it. -/
def Obligations.TableVersionTakesEffect : Prop :=
  ∀ (s : State) (x : Version) (r : List Version), s.acc.versions = x :: r →
    ∃ t : State, exec .tableVersionEffective s = .next t ∧ t.acc.versions = r ∧ t.acc.version = s.acc.version + 1
      ∧ Only [.regs, .dwBuf, .acc, .waiting, .hst, .rng, .thr, .out] (orLoud noField) s t
      ∧ ∀ v, x.via = some v → Awaits s v → Answers s t v x.ix x.sub stOk []

/-- O17. WRITE of a subindex that the command table names (a lane mode, a FEC, a polarity, a calendar request, a
management mode, a maximum frame, PAUSE honouring, a quantum, a shaper, an idle slope, a gate control, the initial
gate states, the cancelling of a pending list, the profile, a tenant's enable, host port and uplink, the station
channels, the mailbox lock, a cell's mode and unload) has exactly the effect of that command. -/
def Obligations.WriteIsTheNamedCommand : Prop :=
  ∀ (s : State) (v : Via) (l : Lane) (p : Port) (q : QueueNo) (t : Tenant) (c : Cell) (data : Bytes),
    exec (.write v (laneIx l.val) 1 data) s = exec (.laneModeWrite v l data) s
    ∧ exec (.write v (laneIx l.val) 2 data) s = exec (.fecWrite v l data) s
    ∧ exec (.write v (laneIx l.val) 5 data) s = exec (.polarityWrite v l false data) s
    ∧ exec (.write v (laneIx l.val) 6 data) s = exec (.polarityWrite v l true data) s
    ∧ exec (.write v (laneIx l.val) 0x33 data) s = exec (.calendarSwitchRequest v l data) s
    ∧ exec (.write v 0x1120 1 data) s = exec (.managementModeWrite v .m0 data) s
    ∧ exec (.write v 0x1121 1 data) s = exec (.managementModeWrite v .m1 data) s
    ∧ exec (.write v (portIx p.val) 5 data) s = exec (.maximumFrameWrite v p data) s
    ∧ exec (.write v (portIx p.val) 6 data) s = exec (.pauseHonouringWrite v p data) s
    ∧ exec (.write v (schedIx p.val) (qSub q.val 1) data) s = exec (.quantumWrite v p q data) s
    ∧ exec (.write v (schedIx p.val) (qSub q.val 2) data) s = exec (.shaperEnableWrite v p q data) s
    ∧ exec (.write v (schedIx p.val) (qSub q.val 3) data) s = exec (.idleSlopeWrite v p q data) s
    ∧ exec (.write v (gateIx p.val) 1 data) s = exec (.gateControlWrite v p data) s
    ∧ exec (.write v (gateIx p.val) 2 data) s = exec (.initialStatesWrite v p data) s
    ∧ exec (.write v (gateIx p.val) 0xB data) s = exec (.cancelPending v p data) s
    ∧ exec (.write v 0x1001 1 data) s = exec (.profileWrite v data) s
    ∧ exec (.write v (tenantIx t.val) 1 data) s = exec (.tenantEnableWrite v t data) s
    ∧ exec (.write v (tenantIx t.val) 2 data) s = exec (.tenantHostPortWrite v t data) s
    ∧ exec (.write v (tenantIx t.val) 6 data) s = exec (.uplinkWrite v t false data) s
    ∧ exec (.write v (tenantIx t.val) 7 data) s = exec (.uplinkWrite v t true data) s
    ∧ exec (.write v 0x9200 1 data) s = exec (.stationChannelsWrite v data) s
    ∧ exec (.write v 0x9001 1 data) s = exec (.bindingLock v data) s
    ∧ exec (.write v (cellIx c.val) 4 data) s = exec (.cellModeWrite v c data) s
    ∧ exec (.write v (cellIx c.val) 0x1A data) s = exec (.unload v c data) s

/-- O18. A WRITE that passes the checks of Table 2-9 stores its value: of the node id 0x1010:01, of a lane's link-up
hold :07 and FlexE group and PHY numbers, of a host port's link-loss policy. Only that field changes, and the item is
answered OK. -/
def Obligations.PlainWriteStores : Prop :=
  ∀ (s u : State) (v : Via) (l : Lane) (p : HostPort) (ix sub : Nat) (data : Bytes),
    ((ix, sub) = (0x1010, 1) ∨ (ix, sub) = (laneIx l.val, 7) ∨ (ix, sub) = (laneIx l.val, 0x20)
      ∨ (ix, sub) = (laneIx l.val, 0x21) ∨ (ix, sub) = (hostIx (hpNo p), 5)) →
    WriteRuns s v ix 0 sub data u → u.startState = stOk → rangeOk ix sub (ofBE data) = true →
    ∃ t : State, exec (.write v ix sub data) s = .next (t.answer v ix sub stOk []) ∧ t.ob ix sub = ofBE data
      ∧ Only [] (fields ix 0 [sub]) u t

/-- O19. Where the domain is free or held by the requester, ACQUIRE makes the requester the holder; RENEW by the
holder keeps it; TAKE by the holder of the device lease takes any other domain; each sets the expiry to now plus
DURATION, and the epoch rises where the holder changes. RELEASE by the holder clears the holder and raises the epoch.
A lease whose expiry has come lapses at LEASE_EXPIRY. -/
def Obligations.LeasesAreTakenAndEnd : Prop :=
  ∀ (s w u : State) (v : Via) (head ms : Nat) (o : Obj), objectAt head = some o → o.head = true →
    u = w.lapses head → u.mayLease v head = true → ownTenant (u.principal v) head = true →
    u.devState ≠ 0 → masterOf v ≠ 0 →
    (100 ≤ ms → ms ≤ 3600000 →
      (ItemRuns s v (writeReq head 0xF2 (toBE 4 (1 * 2 ^ 28 + ms))) w →
        (u.explicitHolder head = 0 ∨ u.explicitHolder head = masterOf v) →
        ∃ t : State, exec (.acquire v head ms) s = .next t ∧ t.ob head 0xF0 = masterOf v ∧ t.ob head 0xF1 = u.now + ms * 1000000
          ∧ countsUp u t head 0 0xF3 (if u.explicitHolder head = masterOf v then 0 else 1))
      ∧ (ItemRuns s v (writeReq head 0xF2 (toBE 4 (2 * 2 ^ 28 + ms))) w → u.explicitHolder head = masterOf v →
        ∃ t : State, exec (.renew v head ms) s = .next t ∧ t.ob head 0xF0 = masterOf v ∧ t.ob head 0xF1 = u.now + ms * 1000000
          ∧ t.ob head 0xF3 = u.ob head 0xF3)
      ∧ (ItemRuns s v (writeReq head 0xF2 (toBE 4 (4 * 2 ^ 28 + ms))) w → u.mayTake v head = true →
        ∃ t : State, exec (.take v head ms) s = .next t ∧ t.ob head 0xF0 = masterOf v ∧ t.ob head 0xF1 = u.now + ms * 1000000
          ∧ countsUp u t head 0 0xF3 (if u.explicitHolder head = masterOf v then 0 else 1)))
    ∧ (ItemRuns s v (writeReq head 0xF2 (toBE 4 (3 * 2 ^ 28 + 0))) w → u.explicitHolder head = masterOf v →
      ∃ t : State, exec (.release v head 0) s = .next t ∧ t.ob head 0xF0 = 0 ∧ t.ob head 0xF1 = 0 ∧ countsUp u t head 0 0xF3 1)
    ∧ (s.explicitHolder head ≠ 0 → s.ob head 0xF1 ≤ s.now →
      ∃ t : State, exec (.leaseExpiry head) s = .next t ∧ t.ob head 0xF0 = 0 ∧ t.ob head 0xF1 = 0 ∧ countsUp s t head 0 0xF3 1)

/-- O20. The objects that carry the subindices of Table 2-5, and so accept a lease request, are 0x1303, the ports'
0x2000 on, the lanes' 0x2400 on, the tenants' 0x8000 on and the cells' 0xA000 on, and no others; each of them has F0
to F4 with the types of Table 2-5. -/
def Obligations.LeaseHeadsAreThoseOfTheManual : Prop :=
  ∀ ix : Nat,
    ((∃ o, objectAt ix = some o ∧ o.head = true) ↔
      ix = 0x1303 ∨ (∃ p, p < 1024 ∧ ix = 0x2000 + p) ∨ (∃ l, l < 64 ∧ ix = 0x2400 + l)
        ∨ (∃ k, k < 4096 ∧ ix = 0x8000 + k) ∨ ∃ c, c < 4096 ∧ ix = 0xA000 + c)
    ∧ ∀ o, objectAt ix = some o → o.head = true →
      (o.entry 0xF0).map (·.ty) = some (.u 2) ∧ (o.entry 0xF1).map (·.ty) = some .time ∧ (o.entry 0xF2).map (·.ty) = some (.u 4)
        ∧ (o.entry 0xF3).map (·.ty) = some (.u 4) ∧ (o.entry 0xF4).map (·.ty) = some (.u 4)

/-- O21. An IDENTIFY that passes node, key, tag and replay check, under a key that flash 1 records as in use and with
no other message of the key open, sends one response with six items, the identity subindices :01 to :06 with status
OK, under the key's next transmit counter, to where the message came from; it counts in 0x1102:01 and its counter
stands in 0x1110:09. One with a wrong tag counts in :03 and opens nothing. A malformed datagram at the Dolux address
changes nothing but the counter 0x1102:02. -/
def Obligations.DoluxMessagesAreIdentifiedAndCounted : Prop :=
  (∀ (s : State) (m : DoluxMsg) (k : Nat), k = msgKey m → s.pwr.inReset = false → s.devState ≠ 4 → s.isDolux (msgLayer m) = true →
    s.placeUp m.place = true → msgMalformed m = false → s.underRate.isSome = true → msgDest m = s.ob 0x1010 1 →
    s.cell 0x1110 k 4 ≠ 0 → s.session k = none → (s.acc.doluxWait.any fun w => msgKey w.1 == k) = false →
    (msgOpcode m = 5 → cmac (toBE 32 (s.cell 0x1110 k 7)) (msgCovered m) = msgTag m → s.counterNew k (msgCounter m) = true →
      s.keyFresh k = false → s.keyEnded k = false →
      ∃ t : State, exec (.identify m) s = .next t ∧ t.session k = none ∧ (t.key k).tx = (s.key k).tx + 1
        ∧ Leaves m.place (s.response m 6 ((List.range 6).flatMap fun i =>
            itemBytes 0x1000 (i + 1) stOk (toBE (cellLen 0x1000 (i + 1)) (s.ob 0x1000 (i + 1)))) ((s.key k).tx + 1)) t
        ∧ countsUp s t 0x1102 0 1 1 ∧ t.cell 0x1110 k 9 = max (s.cell 0x1110 k 9) (msgCounter m))
    ∧ (msgOpcode m = 5 → cmac (toBE 32 (s.cell 0x1110 k 7)) (msgCovered m) ≠ msgTag m →
      ∃ t : State, exec (.identify m) s = .next t ∧ t.session k = none ∧ countsUp s t 0x1102 0 3 1 ∧ t.net = s.net
        ∧ t.key k = s.key k ∧ Only (.acc :: told) (orLoud (fields 0x1102 0 [3])) s t))
  ∧ ∀ (s : State) (m : DoluxMsg), s.pwr.inReset = false → s.devState ≠ 4 → s.isDolux (msgLayer m) = true →
    s.placeUp m.place = true → msgMalformed m = true →
    ∃ t : State, exec (.doluxDatagramDropped m) s = .next t ∧ countsUp s t 0x1102 0 2 1 ∧ Only [] (fields 0x1102 0 [2]) s t

/-- O22. FRESH_KEY_RECORDED records the key as in use, with its highest counter and its transmit counter, and lets its
held message go on. REPLAY_COUNTER_WRITE after 65,536 accepted messages records the counters and starts counting
again. KEY_VALIDITY_ENDED of an enabled key whose end has passed leaves no domain held by the key's master. -/
def Obligations.KeysAreRecordedAndEnd : Prop :=
  ∀ (s : State) (k : Fin 256),
    (∀ d, s.session k.val = some d → d.held = true →
      ∃ t : State, exec (.freshKeyRecorded k) s = .next t ∧ t.session k.val = some { d with held := false }
        ∧ NMap.at (0, 0, false) t.pwr.replay k.val = (s.cell 0x1110 k.val 9, (s.key k.val).tx, true)
        ∧ ∀ k', k' ≠ k.val → t.session k' = s.session k')
    ∧ (65536 ≤ (s.key k.val).accepted →
      ∃ t : State, exec (.replayCounterWrite k) s = .next t
        ∧ NMap.at (0, 0, false) t.pwr.replay k.val = (s.cell 0x1110 k.val 9, (s.key k.val).tx, true)
        ∧ t.key k.val = { s.key k.val with accepted := 0 } ∧ (∀ k', k' ≠ k.val → t.key k' = s.key k')
        ∧ Only [.acc, .pwr] noField s t)
    ∧ (s.canonical = true → s.cell 0x1110 k.val 4 = 1 → s.keyEnded k.val = true →
      ∃ t : State, exec (.keyValidityEnded k) s = .next t
        ∧ ∀ head o, objectAt head = some o → o.head = true → t.explicitHolder head ≠ 0x4000 + k.val)

/-- O23. An aligned write of four bytes to a setup register leaves it as its access codes say, bit by bit, and every
other register as it was; while what it sets up is enabled, it changes nothing; an access of another size than 4 or 8
bytes changes nothing. A write of a DMA channel's setup through the fast path by the holder of the station lease lands
in the register; one by another port's master changes no register and counts in 0x1303:F4. A read of a register with
RC bits gives out its value and clears those bits alone. The dword of configuration space with Vendor and Device ID
resets to the ids of R390 and is read while the link is up; the expansion ROM of a PF0 begins with its signature. -/
def Obligations.RegistersAreWrittenAndCleared : Prop :=
  (∀ (s : State) (f : Func) (off o a : Nat) (r : Reg) (val : Word), s.regTarget f off = some (o, a) → regAt o a = some r →
    plainReg o a = true → off % 4 = 0 →
    (s.setupLocked o a = false →
      ∃ t : State, exec (.registerWrite f ⟨.bar, off⟩ (toLE 4 val.toNat)) s = .next t ∧ Written r (s.reg o a) val (t.reg o a)
        ∧ (∀ o' a', regKey o' a' ≠ regKey o a → t.reg o' a' = s.reg o' a') ∧ Only [.regs] noField s t)
    ∧ (s.setupLocked o a = true → exec (.registerWrite f ⟨.bar, off⟩ (toLE 4 val.toNat)) s = .next s)
    ∧ ∀ data : Bytes, data.length ≠ 4 → data.length ≠ 8 → exec (.registerWrite f ⟨.bar, off⟩ data) s = .next s)
  ∧ (∀ (s : State) (m off c : Nat) (r : Reg) (val : Word), channelOffset off = some c → off % 4 = 0 → c % 64 ≤ 0x14 →
    regAt 0 c = some r → s.devState ≠ 0 → s.devState ≠ 4 → (s.func m).inFlr = false → s.stationCh (c / 64) = true → 1 ≤ m → m ≤ 2 →
    ((s.lapse 0x1303).slotHolder (0x402 + 4 * m) 0x1303 = m → s.dmaBusy (c / 64) = false →
      ∃ t : State, exec (.fastPathWrite m off (toLE 4 val.toNat)) s = .next t ∧ Written r (s.reg 0 c) val (t.reg 0 c)
        ∧ (∀ o' a', regKey o' a' ≠ regKey 0 c → t.reg o' a' = s.reg o' a'))
    ∧ ((s.lapse 0x1303).slotHolder (0x402 + 4 * m) 0x1303 ≠ m →
      ∃ t : State, exec (.fastPathWrite m off (toLE 4 val.toNat)) s = .next t ∧ countsUp s t 0x1303 0 0xF4 1
        ∧ t.regs = s.regs ∧ t.dma = s.dma))
  ∧ (∀ (s : State) (f : Func) (off o a : Nat) (r : Reg), s.regTarget f off = some (o, a) → regAt o a = some r → r.rc ≠ 0 →
    off % 4 = 0 → within 0x4000 0x5FFF a = false →
    ∃ t : State, exec (.readClear f ⟨.bar, off, 4⟩) s = .next t ∧ Output.regRead (ownerOf f) off (s.regValue o a) ∈ t.out
      ∧ (∀ i, i < 32 → (t.reg o a).getLsbD i = ((s.reg o a).getLsbD i && !bit r.rc i))
      ∧ (∀ o' a', regKey o' a' ≠ regKey o a → t.reg o' a' = s.reg o' a') ∧ Only [.regs, .out] noField s t)
  ∧ ∀ (s : State) (p : HostPort),
    regDefault (regKey (configOwner (portMaster p)) 0) = 0x10241D0C
    ∧ (s.configLive (hpNo p) = true → s.reg (configOwner (portMaster p)) 0 = 0x10241D0C →
      ∃ t : State, exec (.readClear (.pf0 p) ⟨.config, 0, 4⟩) s = .next t
        ∧ Output.regRead (configOwner (portMaster p)) 0 0x10241D0C ∈ t.out ∧ Only [.out] noField s t)
    ∧ ∃ t : State, exec (.readClear (.pf0 p) ⟨.rom, 0, 2⟩) s = .next t
        ∧ Output.regRead (romOwner (portMaster p)) 0 0xAA55 ∈ t.out ∧ Only [.out] noField s t

/-- O24. PLL_LOCKED takes a lane or management lane in CONFIG to WAIT_SIGNAL, where it transmits idle, or FlexE
overhead in mode 10; PLL_RETRY takes one in FAULT for want of a lock to CONFIG while its reference is present;
SIGNAL_DETECTED takes one in WAIT_SIGNAL, or in FAULT for another cause, to ALIGN and starts its hold with the length
of :07 (10 ms on a management lane, log entry 68); ALIGN_CONDITION_LOST starts the hold again; LANE_UP takes one whose
hold has run out (a FlexE lane only with a group number that its peer does not contradict, an SGMII lane only after
1,000 Mb/s) to UP, a lane with down cause 0 and its ports brought up to date. Other lanes and other fields of the lane
keep their values. -/
def Obligations.LaneTrains : Prop :=
  ∀ (s : State) (l : AnyLane),
    (s.anyState l = 1 → ∃ t : State, exec (.pllLocked l) s = .next t ∧ t.anyState l = 2
      ∧ Output.laneSignal (anyNo l) (if s.runMode l = 10 then "FlexE overhead" else "idle") ∈ t.out
      ∧ Only told (orLoud (anyStateField l)) s t)
    ∧ (s.anyState l = 5 → (s.lane (anyNo l)).pllFailed = true → s.anyRef l = true →
      ∃ t : State, exec (.pllRetry l) s = .next t ∧ t.anyState l = 1 ∧ (t.lane (anyNo l)).pllFailed = false
        ∧ (∀ k, k ≠ anyNo l → t.lane k = s.lane k) ∧ Only (.net :: told) (orLoud (anyStateField l)) s t)
    ∧ (s.anyState l = 2 ∨ (s.anyState l = 5 ∧ (s.lane (anyNo l)).pllFailed = false) →
      ∃ t : State, exec (.signalDetected l) s = .next t ∧ t.anyState l = 3 ∧ (t.lane (anyNo l)).holdFrom = s.now
        ∧ (t.lane (anyNo l)).hold = (match l with
          | .lane k => s.ob (laneIx k.val) 7 * 1000000
          | .mgmt _ => 10000000)
        ∧ (∀ k, k ≠ anyNo l → t.lane k = s.lane k) ∧ Only (.net :: told) (orLoud (anyStateField l)) s t)
    ∧ (s.anyState l = 3 → ∃ t : State, exec (.alignConditionLost l) s = .next t
        ∧ t.lane (anyNo l) = { s.lane (anyNo l) with holdFrom := s.now } ∧ (∀ k, k ≠ anyNo l → t.lane k = s.lane k)
        ∧ Only [.net] noField s t)
    ∧ (s.anyState l = 3 → (s.lane (anyNo l)).holdFrom + (s.lane (anyNo l)).hold ≤ s.now → (s.lane (anyNo l)).draining = none →
        (∀ k, l = .lane k → (s.mode k.val = 2 → (s.lane k.val).announced = some 1000)
          ∧ (s.mode k.val = 10 → s.ob (laneIx k.val) 0x20 ≠ 0
            ∧ ∀ x, (s.lane k.val).overhead = some x → x = (s.ob (laneIx k.val) 0x20, s.ob (laneIx k.val) 0x21))) →
        ∃ t : State, exec (.laneUp l) s = .next t ∧ t.anyState l = 4
          ∧ (∀ k, l = .lane k → t.ob (laneIx k.val) 4 = 0 ∧ PortsOf t k.val)
          ∧ ∀ k sub, k < 64 → sub < 256 → (k = anyNo l → sub ≠ 3 ∧ sub ≠ 4) → t.ob (laneIx k) sub = s.ob (laneIx k) sub)

/-- O25. PLL_LOCK_TIMEOUT takes a lane or management lane in CONFIG to FAULT, to retry; LANE_FAULT takes one that is
UP to FAULT. It then transmits remote fault, or in modes 1 to 3 the break-link sequence. A lane takes cause 3, or the
cause of what failed with eight uncorrectable codewords counted for a FEC fault; :13 counts each entry into FAULT and
the lane's ports are brought up to date. No field of another lane changes. -/
def Obligations.LaneFaultsAreCountedAndTrainAgain : Prop :=
  ∀ (s : State) (l : AnyLane),
    (s.anyState l = 1 → ∃ t : State, exec (.pllLockTimeout l) s = .next t ∧ t.anyState l = 5 ∧ (t.lane (anyNo l)).pllFailed = true
      ∧ Output.laneSignal (anyNo l) (if s.runMode l ≤ 3 then "break-link" else "remote fault") ∈ t.out
      ∧ (∀ k, l = .lane k → t.ob (laneIx k.val) 4 = 3 ∧ countsUp s t (laneIx k.val) 0 0x13 1 ∧ PortsOf t k.val)
      ∧ ∀ k sub, k < 64 → sub < 256 → k ≠ anyNo l → t.ob (laneIx k) sub = s.ob (laneIx k) sub)
    ∧ ∀ why, s.anyState l = 4 → ∃ t : State, exec (.laneFault l why) s = .next t ∧ t.anyState l = 5
      ∧ (t.lane (anyNo l)).pllFailed = false
      ∧ Output.laneSignal (anyNo l) (if s.runMode l ≤ 3 then "break-link" else "remote fault") ∈ t.out
      ∧ (∀ k, l = .lane k → t.ob (laneIx k.val) 4 = (match why with
          | .signal => 4
          | .lock => 5
          | .highBer => 6
          | .fec => 7
          | .localFault => 8)
        ∧ countsUp s t (laneIx k.val) 0 0x13 1 ∧ countsUp s t (laneIx k.val) 0 0x12 (if why = .fec then 8 else 0) ∧ PortsOf t k.val)
      ∧ ∀ k sub, k < 64 → sub < 256 → k ≠ anyNo l → t.ob (laneIx k) sub = s.ob (laneIx k) sub

/-- O26. REFCLK_LOST of an octet whose reference was present puts every lane of the octet into DISABLED with cause
REFCLK, and the management lane that uses the reference into state 0; fields of lanes of other octets keep their
values. REFCLK_RESTORED takes every disabled lane of the octet with a mode to CONFIG, and its management lane to state
1. A management lane's mode write by a holder stores the mode and retrains the lane: to CONFIG while its reference is
present, else it stays disabled. -/
def Obligations.ReferencesStopAndStartLanes : Prop :=
  (∀ (s : State) (o : Octet), s.net.refLost.contains o.val = false →
    ∃ t : State, exec (.refclkLost o) s = .next t ∧ t.net.refLost.contains o.val = true
      ∧ (∀ k, k < 8 → t.laneState (8 * o.val + k) = 0 ∧ t.ob (laneIx (8 * o.val + k)) 4 = 2)
      ∧ (o.val = 0 → t.ob 0x1120 2 = 0) ∧ (o.val = 7 → t.ob 0x1121 2 = 0)
      ∧ ∀ k sub, k < 64 → sub < 256 → k / 8 ≠ o.val → t.ob (laneIx k) sub = s.ob (laneIx k) sub)
  ∧ (∀ (s : State) (o : Octet), s.net.refLost.contains o.val = true →
    ∃ t : State, exec (.refclkRestored o) s = .next t ∧ t.net.refLost.contains o.val = false
      ∧ (∀ k, k < 8 → s.laneState (8 * o.val + k) = 0 →
        t.laneState (8 * o.val + k) = if s.mode (8 * o.val + k) = 0 then 0 else 1)
      ∧ (o.val = 0 → t.ob 0x1120 2 = 1) ∧ (o.val = 7 → t.ob 0x1121 2 = 1))
  ∧ ∀ (s u : State) (v : Via) (m : MgmtLane) (data : Bytes), WriteRuns s v (mgmtIx m) 0 1 data u → u.startState = stOk →
    (ofBE data = 1 ∨ ofBE data = 3) →
    ∃ t : State, exec (.managementModeWrite v m data) s = .next (t.answer v (mgmtIx m) 1 stOk []) ∧ t.ob (mgmtIx m) 1 = ofBE data
      ∧ t.ob (mgmtIx m) 2 = (if u.net.refLost.contains (if m = .m0 then 0 else 7) then 0 else 1)
      ∧ Only told (orLoud (fields (mgmtIx m) 0 [1, 2])) u t

/-- O27. An SGMII lane runs at 1,000 Mb/s. A control word in ALIGN that announces another rate is kept, starts the
hold again and logs 0x0205 with lane and rate; while it is the last word, LANE_UP leaves the lane in ALIGN, whatever
time has passed. A word of 1,000 Mb/s after another one is kept and starts the hold; with it the lane comes up when
the hold has run out. Formalises R51. -/
def Obligations.SgmiiStaysInAlign : Prop :=
  modeRate 2 = 1000 ∧ ∀ (s : State) (l : Lane) (rate : Nat), s.mode l.val = 2 → s.laneState l.val = 3 →
    (rate ≠ 1000 → ∃ t : State, exec (.sgmiiControlWord l rate) s = .next (t.event 0x0205 [l.val, rate])
      ∧ t.lane l.val = { s.lane l.val with announced := some rate, holdFrom := s.now } ∧ Only [.net] noField s t)
    ∧ ((s.lane l.val).announced ≠ some 1000 → exec (.laneUp (.lane l)) s = .next s)
    ∧ ((s.lane l.val).announced ≠ some 1000 → ∃ t : State, exec (.sgmiiControlWord l 1000) s = .next t
      ∧ t.lane l.val = { s.lane l.val with announced := some 1000, holdFrom := s.now } ∧ Only [.net] noField s t)
    ∧ ((s.lane l.val).announced = some 1000 → (s.lane l.val).holdFrom + (s.lane l.val).hold ≤ s.now →
      (s.lane l.val).draining = none → ∃ t : State, exec (.laneUp (.lane l)) s = .next t ∧ t.laneState l.val = 4)

/-- O28. Overhead with another group or PHY number than the lane's own is kept, starts the hold again and logs the
limited event 0x0208 with the received values; while it is what the peer sends, or the lane's group number is 0,
LANE_UP leaves the lane in ALIGN. Overhead that agrees is kept without an event. -/
def Obligations.FlexePeersMustAgree : Prop :=
  ∀ (s : State) (l : Lane) (group phy : Nat), s.mode l.val = 10 → s.laneState l.val = 3 →
    (∃ t : State, exec (.flexeOverheadMismatch l group phy) s
          = .next (if group ≠ s.ob (laneIx l.val) 0x20 ∨ phy ≠ s.ob (laneIx l.val) 0x21 then
            t.eventLim 0x0208 l.val [l.val, group, phy] else t)
        ∧ t.lane l.val = { s.lane l.val with overhead := some (group, phy), holdFrom := s.now } ∧ Only [.net] noField s t)
    ∧ (s.ob (laneIx l.val) 0x20 = 0
        ∨ (∃ x, (s.lane l.val).overhead = some x ∧ x ≠ (s.ob (laneIx l.val) 0x20, s.ob (laneIx l.val) 0x21)) →
      exec (.laneUp (.lane l)) s = .next s)

/-- O29. CALENDAR_SWITCHED of a lane with a switch pending makes the requested calendar the active one (:32) with
result 2 (:34), gives each client port of a FlexE lane the rate of its slots in that calendar, and leaves no switch
pending; CALENDAR_SWITCH_TIMEOUT leaves the active calendar, with result 3. -/
def Obligations.CalendarsSwitchOrLapse : Prop :=
  ∀ (s : State) (l : Lane) (x : Nat), (s.lane l.val).calTarget = some x →
    (∃ t : State, exec (.calendarSwitched l) s = .next t ∧ (t.lane l.val).calTarget = none
      ∧ t.ob (laneIx l.val) 0x32 = x ∧ t.ob (laneIx l.val) 0x34 = 2
      ∧ (s.mode l.val = 10 → ∀ c, c < 16 → t.rate (16 * l.val + c)
        = if s.ob (laneIx l.val) (0x40 + c) = 0 then 0 else 5000 * calSlots (s.ob (laneIx l.val) (0x30 + x)) c)
      ∧ ∀ k sub, k < 64 → sub < 256 → k ≠ l.val → t.ob (laneIx k) sub = s.ob (laneIx k) sub)
    ∧ ∃ t : State, exec (.calendarSwitchTimeout l) s = .next t ∧ (t.lane l.val).calTarget = none
      ∧ t.ob (laneIx l.val) 0x34 = 3 ∧ Only (.net :: told) (orLoud (fields (laneIx l.val) 0 [0x34])) s t

/-- O30. LANES_ENTER_DISABLED of a draining lane, with no frame left on the wire of the ports of its group's lead,
puts every lane of that group into DISABLED with cause MODE_WRITE, starts it at once when it has a mode and its
reference, and empties the group's ports that left UP. PORT_DOWN_DISCARD of a port that left UP, with none of its
frames on the wire, discards what is queued for it, counted in :1B. REMOTE_FAULT_RECEIVED on a lane that is UP marks
the lane, which stays UP, and takes the ports that use it out of UP with cause 2; REMOTE_FAULT_CLEARED takes the mark
back and brings the ports up to date. A polarity write by a holder stores the value and makes the lane drain. -/
def Obligations.LanesStopAndPortsAreFlushed : Prop :=
  (∀ (s : State) (l : Lane) (lead : Nat), (s.lane l.val).draining = some lead → lead < 64 → s.wireFree lead = true →
    ∃ t : State, exec (.lanesEnterDisabled l) s = .next t
      ∧ (∀ k, k < 64 → (s.lane k).draining = some lead → (t.lane k).draining = none ∧ t.ob (laneIx k) 4 = 1
        ∧ t.laneState k = (if s.mode k ≠ 0 && s.refPresent k then 1 else 0))
      ∧ (∀ k sub, k < 64 → sub < 256 → (s.lane k).draining ≠ some lead →
        t.lane k = s.lane k ∧ t.ob (laneIx k) sub = s.ob (laneIx k) sub)
      ∧ ∀ (c : Nat) (q : QueueNo), c < 16 → s.up (16 * lead + c) = false → (s.sched (16 * lead + c)).flushing = true →
        t.queue (portRow (16 * lead + c) q.val) = [])
  ∧ (∀ (s : State) (p : Port), s.up p.val = false → (s.sched p.val).flushing = true → (s.sched p.val).wire = none →
    ∃ t : State, exec (.portDownDiscard p) s = .next t ∧ (t.sched p.val).flushing = false
      ∧ (∀ q : QueueNo, t.queue (portRow p.val q.val) = []) ∧ countsUp s t (portIx p.val) 0 0x1B (s.portBacklog p.val))
  ∧ (∀ (s : State) (l : Lane), s.laneState l.val = 4 →
    ∃ t : State, exec (.remoteFaultReceived l) s = .next t ∧ (t.lane l.val).remote = true ∧ t.laneState l.val = 4
      ∧ PortsOf t l.val
      ∧ ∀ c, c < 16 → l.val ∈ s.lanesFrom (s.leadLane (16 * s.leadOf l.val + c)) → t.up (16 * s.leadOf l.val + c) = false
        ∧ (s.up (16 * s.leadOf l.val + c) = true → t.ob (portIx (16 * s.leadOf l.val + c)) 3 = 2))
  ∧ (∀ (s : State) (l : Lane), ∃ t : State, exec (.remoteFaultCleared l) s = .next t ∧ (t.lane l.val).remote = false
      ∧ t.laneState l.val = s.laneState l.val ∧ PortsOf t l.val)
  ∧ ∀ (s u : State) (v : Via) (l : Lane) (tx : Bool) (data : Bytes),
    WriteRuns s v (laneIx l.val) 0 (if tx then 6 else 5) data u → u.startState = stOk → ofBE data ≤ 1 →
    ∃ t : State, exec (.polarityWrite v l tx data) s = .next (t.answer v (laneIx l.val) (if tx then 6 else 5) stOk [])
      ∧ t.ob (laneIx l.val) (if tx then 6 else 5) = ofBE data ∧ (t.lane l.val).draining.isSome = true ∧ PortsOf t l.val

/-- O31. Bringing a port up to date gives it the state that its rate, its enable, the fabric link of its die, its
lanes and its frame units give it. A port that leaves UP takes the down cause; one that comes UP has cause 0 and
counts the change in :1E. -/
def Obligations.PortFollowsItsLanes : Prop :=
  ∀ (s : State) (p cause : Nat) (cut : Bool), p < 1024 →
    (s.refreshPort p cause cut).ob (portIx p) 2 = s.portTarget p
    ∧ (s.ob (portIx p) 2 = 3 → s.portTarget p ≠ 3 → (s.refreshPort p cause cut).ob (portIx p) 3 = cause)
    ∧ (s.ob (portIx p) 2 ≠ 3 → s.portTarget p = 3 → (s.refreshPort p cause cut).ob (portIx p) 3 = 0
        ∧ countsUp s (s.refreshPort p cause cut) (portIx p) 0 0x1E 1)
    ∧ s.portTarget p ≤ 3
    ∧ (s.portTarget p = 3 ↔ s.rate p ≠ 0 ∧ s.ob (portIx p) 1 ≠ 0 ∧ s.flt.deadLinks.contains (dieLink p) = false
        ∧ (∀ l ∈ s.lanesFrom (s.leadLane p), s.laneState l = 4 ∧ (s.lane l).draining = none ∧ (s.lane l).remote = false)
        ∧ s.served p = true)

/-- O32. A write of a lane mode, a FEC, a calendar request, a maximum frame, PAUSE honouring, a quantum, a shaper
enable, an idle slope, a gate control, the initial gate states or a carve field, a write of the requested profile, and
an ADMIT, CHECK, MODIFY or WITHDRAW record, that pass their own checks wait at the end of the admission unit's queue
while fewer than 64 wait there; nothing they ask for has changed yet. -/
def Obligations.AdmissionCheckedWritesWait : Prop :=
  ∀ (s : State) (v : Via) (l : Lane) (p : Port) (q : QueueNo) (data : Bytes),
    (∀ u, WriteRuns s v (laneIx l.val) 0 1 data u → u.holdsLanes v (u.modeLanes l.val (ofBE data)) = true → u.startState = stOk → u.laneModeStatus l.val (ofBE data) = stOk → u.adm.length < 64 →
      ∃ t : State, exec (.laneModeWrite v l data) s = .next t ∧ Waits u t v (.laneModeWrite v l data))
    ∧ (∀ u, WriteRuns s v (laneIx l.val) 0 2 data u → u.holdsLanes v (u.lanesFrom (u.leadOf l.val)) = true → u.startState = stOk → u.fecStatus l.val (ofBE data) = stOk → u.adm.length < 64 →
      ∃ t : State, exec (.fecWrite v l data) s = .next t ∧ Waits u t v (.fecWrite v l data))
    ∧ (∀ u, WriteRuns s v (laneIx l.val) 0 0x33 data u → u.startState = stOk → ofBE data ≤ 1 →
      u.ob (laneIx l.val) 0x32 ≠ ofBE data → (u.lane l.val).calTarget = none → u.adm.length < 64 →
      ∃ t : State, exec (.calendarSwitchRequest v l data) s = .next t ∧ Waits u t v (.calendarSwitchRequest v l data))
    ∧ (∀ u, WriteRuns s v (portIx p.val) 0 5 data u → u.startState = stOk → 1518 ≤ ofBE data → ofBE data ≤ 16000 →
      u.portAbsent p.val = false → u.adm.length < 64 →
      ∃ t : State, exec (.maximumFrameWrite v p data) s = .next t ∧ Waits u t v (.maximumFrameWrite v p data))
    ∧ (∀ u, WriteRuns s v (portIx p.val) 0 6 data u → u.startState = stOk → ofBE data ≤ 1 →
      u.portAbsent p.val = false → u.adm.length < 64 →
      ∃ t : State, exec (.pauseHonouringWrite v p data) s = .next t ∧ Waits u t v (.pauseHonouringWrite v p data))
    ∧ (∀ u, WriteRuns s v (schedIx p.val) 0 (qSub q.val 1) data u → u.startState = stOk →
      64 ≤ ofBE data → ofBE data ≤ 1048576 → u.adm.length < 64 →
      ∃ t : State, exec (.quantumWrite v p q data) s = .next t ∧ Waits u t v (.quantumWrite v p q data))
    ∧ (∀ u, WriteRuns s v (schedIx p.val) 0 (qSub q.val 2) data u → u.startState = stOk → ofBE data ≤ 1 →
      (ofBE data = 0 ∨ u.ob (schedIx p.val) (qSub q.val 3) ≠ 0) → u.adm.length < 64 →
      ∃ t : State, exec (.shaperEnableWrite v p q data) s = .next t ∧ Waits u t v (.shaperEnableWrite v p q data))
    ∧ (∀ u, WriteRuns s v (schedIx p.val) 0 (qSub q.val 3) data u → u.startState = stOk →
      ((1 ≤ ofBE data ∧ ofBE data ≤ 1000 * u.rate p.val) ∨ (ofBE data = 0 ∧ u.ob (schedIx p.val) (qSub q.val 2) = 0)) →
      u.adm.length < 64 →
      ∃ t : State, exec (.idleSlopeWrite v p q data) s = .next t ∧ Waits u t v (.idleSlopeWrite v p q data))
    ∧ (∀ u, WriteRuns s v (gateIx p.val) 0 1 data u → u.startState = stOk → ofBE data ≤ 1 → u.adm.length < 64 →
      ∃ t : State, exec (.gateControlWrite v p data) s = .next t ∧ Waits u t v (.gateControlWrite v p data))
    ∧ (∀ u, WriteRuns s v (gateIx p.val) 0 2 data u → u.startState = stOk → u.adm.length < 64 →
      ∃ t : State, exec (.initialStatesWrite v p data) s = .next t ∧ Waits u t v (.initialStatesWrite v p data))
    ∧ (∀ u sub, WriteRuns s v 0x9300 0 sub data u → u.startState = stOk → u.carveStatus sub (ofBE data) = stOk → u.adm.length < 64 →
      ∃ t : State, exec (.carveWrite v sub data) s = .next t ∧ Waits u t v (.carveWrite v sub data))
    ∧ (∀ u, WriteRuns s v 0x1001 0 1 data u → u.startState = stOk → u.profileStatus (ofBE data) = stOk → u.adm.length < 64 →
      ∃ t : State, exec (.profileWrite v data) s = .next t ∧ Waits u t v (.profileWrite v data))
    ∧ ∀ (w u : State) (op : AdmOp), ItemRuns s v (writeReq 0x4001 1 data) w → u = w.lapses (portIx (w.contract (contractOf data).id).egress) →
      (u.principal v = .station ∨ u.principal v = .operator) → u.requestLeased v op (contractOf data) = true → data.length = 64 →
      u.startState = stOk → u.requestStatus op (contractOf data) = stOk → u.adm.length < 64 →
      ∃ t : State, exec (op.instr v data) s = .next t ∧ Waits u t v (op.instr v data)

/-- O33. FRAME_RECEIVED at a port that is UP passes a frame of 64 bytes to the maximum length that held at its start,
with a good FCS and neither symbol nor uncorrectable coding errors, to the ingress pipeline of its port and counts it
in :10 and its bytes in :11; the codewords corrected count in the lead lane. A short frame counts in :15, one longer
than the maximum in :16, one with a wrong FCS or coding errors in :14, with what the coding reports counted in the
lead lane. A PAUSE at a port that is UP and honours it, with a quantum of 512 bit times each, sets the end of its
pause from now, or ends it, and counts in :17; a port that does not honour it only counts in :18. Once the end has
come PAUSE_TIMER_EXPIRY leaves the port without a pause. -/
def Obligations.FramesAndPausesArrive : Prop :=
  (∀ (s : State) (p : Port) (f : Bytes) (coding : Coding), s.up p.val = true → s.blocked p.val = false →
    (64 ≤ f.length → f.length ≤ s.maxAt p.val f.length → coding.symbols = 0 → coding.uncorrectable = 0 →
      crc32 (f.take (f.length - 4)) = le f (f.length - 4) 4 → be f 12 2 ≠ 0x8808 →
      ∃ t : State, ∃ w, exec (.frameReceived p f coding) s = .next t ∧ t.net.waiting = s.net.waiting ++ [w]
        ∧ w.pipe = p.val / 128 ∧ w.bytes = f.take (f.length - 4) ∧ w.ingress = some p.val ∧ w.cls = 3 ∧ w.rxTime = s.tai
        ∧ countsUp s t (portIx p.val) 0 0x10 1 ∧ countsUp s t (portIx p.val) 0 0x11 f.length
        ∧ countsUp s t (laneIx (s.leadLane p.val)) 0 0x11 coding.corrected
        ∧ Only [.waiting] (fun ix row sub => fields (portIx p.val) 0 [0x10, 0x11] ix row sub
            || fields (laneIx (s.leadLane p.val)) 0 [0x11] ix row sub) s t)
    ∧ ∀ (bad : Nat), (f.length < 64 ∧ bad = 0x15) ∨ (64 ≤ f.length ∧ s.maxAt p.val f.length < f.length ∧ bad = 0x16)
        ∨ (64 ≤ f.length ∧ f.length ≤ s.maxAt p.val f.length ∧ bad = 0x14 ∧ (0 < coding.symbols + coding.uncorrectable
          ∨ crc32 (f.take (f.length - 4)) ≠ le f (f.length - 4) 4)) →
      ∃ t : State, exec (.frameReceived p f coding) s = .next t ∧ countsUp s t (portIx p.val) 0 bad 1
        ∧ countsUp s t (laneIx (s.leadLane p.val)) 0 0x10 coding.symbols
        ∧ countsUp s t (laneIx (s.leadLane p.val)) 0 0x11 coding.corrected
        ∧ countsUp s t (laneIx (s.leadLane p.val)) 0 0x12 coding.uncorrectable
        ∧ Only [] (fun ix row sub => fields (portIx p.val) 0 [bad] ix row sub
            || fields (laneIx (s.leadLane p.val)) 0 [0x10, 0x11, 0x12] ix row sub) s t)
  ∧ ∀ (s : State) (p : Port),
    (∀ n, n < 65536 → s.up p.val = true → s.ob (portIx p.val) 6 ≠ 0 → s.rate p.val ≠ 0 →
      ∃ t : State, exec (.pause p n) s = .next t ∧ (t.sched p.val).pauseEnd
          = (if 0 < n * 512 * 1000000 / s.rate p.val then s.ps + n * 512 * 1000000 / s.rate p.val else 0)
        ∧ (t.paused p.val = true ↔ 0 < n * 512 * 1000000 / s.rate p.val) ∧ countsUp s t (portIx p.val) 0 0x17 1)
    ∧ (∀ n, s.up p.val = true → s.ob (portIx p.val) 6 = 0 →
      ∃ t : State, exec (.pause p n) s = .next t ∧ countsUp s t (portIx p.val) 0 0x18 1 ∧ Only [] (fields (portIx p.val) 0 [0x18]) s t)
    ∧ ((s.sched p.val).pauseEnd ≠ 0 → (s.sched p.val).pauseEnd ≤ s.ps →
      ∃ t : State, exec (.pauseTimerExpiry p) s = .next t ∧ (t.sched p.val).pauseEnd = 0 ∧ t.ob (portIx p.val) 9 = 0
        ∧ (∀ q, q ≠ p.val → t.sched q = s.sched q) ∧ Only [.net] (fields (portIx p.val) 0 [9, 0xA, 0x1D]) s t)

/-- O34. FRAME_SELECTION appends the head of the queue that strict priority and the round robin pick, with its bytes
on the wire, its projected start and its end, to the port's selected frames and takes it from its queue (here for a
frame that no row of stage E touches; one with an egress SA is protected under the SA's next packet number, where R189
does not refuse it); with no queue eligible it selects nothing. TRANSMIT_START puts the oldest selected frame that may
start on the wire and counts its queue's frames and occupancy; one that may not goes back to its queue with all that
are selected. FRAME_TRANSMITTED sends it, counts it in :12 and :13 and leaves the wire free. HEAD_AGE_DISCARD takes a
head older than its row's limit from its queue. -/
def Obligations.PortsSendTheirFrames : Prop :=
  (∀ (s u : State) (p : Port) (r : Drr), s.up p.val = true → s.paused p.val = false → s.blocked p.val = false →
    (s.sched p.val).free ≤ s.ps + 90000 → u = (s.settle p.val).purgeAll p.val →
    (u.pickQueue p.val = (none, r) →
      ∃ t : State, exec (.frameSelection p) s = .next t ∧ (t.sched p.val).selected = (u.sched p.val).selected
        ∧ t.net.queues = u.net.queues)
    ∧ ∀ (q : Nat) (c : QCopy) (rest : List QCopy), u.pickQueue p.val = (some q, r) → u.queue (portRow p.val q) = c :: rest →
      c.eRow = none →
      (c.sa = none → ∃ t : State, ∃ x, exec (.frameSelection p) s = .next t
        ∧ (t.sched p.val).selected = (u.sched p.val).selected ++ [x] ∧ t.queue (portRow p.val q) = rest ∧ x.copy = c ∧ x.queue = q
        ∧ x.bytes = (u.onWire c (u.dress c)).1 ∧ x.start = u.projected p.val c ∧ x.fin = x.start + u.wirePs p.val c.wireLen)
      ∧ ∀ a, c.sa = some a → ((u.sa a).use = 4 → espRefuses (u.sa a) (parseLayer (u.dress c) 0) = false) →
        ∃ t : State, ∃ x, exec (.frameSelection p) s = .next t ∧ (t.sched p.val).selected = (u.sched p.val).selected ++ [x]
        ∧ t.queue (portRow p.val q) = rest ∧ x.copy = c ∧ x.queue = q ∧ x.pn = some (u.assignPn a).1
        ∧ x.bytes = (u.onWire c (protect (u.sa a) (u.assignPn a).1 (u.dress c))).1
        ∧ x.start = u.projected p.val c ∧ x.fin = x.start + u.wirePs p.val c.wireLen)
  ∧ (∀ (s : State) (p : Port) (x : Slot) (r : List Slot), (s.sched p.val).selected = x :: r → x.start ≤ s.ps →
    (s.sched p.val).wire = none → s.up p.val = true → x.queue < 8 →
    (s.mayStart p.val x = true → ∃ t : State, exec (.transmitStart p) s = .next t ∧ (t.sched p.val).selected = r
      ∧ (t.sched p.val).wire = some x ∧ countsUp s t (schedIx p.val) 0 (qSub x.queue 11) 1
      ∧ countsUp s t (schedIx p.val) 0 (qSub x.queue 12) x.occ)
    ∧ (s.mayStart p.val x = false → ∃ t : State, exec (.transmitStart p) s = .next t ∧ (t.sched p.val).selected = []
      ∧ (t.sched p.val).wire = none ∧ t.queue (portRow p.val x.queue)
        = ((x :: r).filter (fun y => y.queue == x.queue)).map (·.copy) ++ s.queue (portRow p.val x.queue)))
  ∧ (∀ (s : State) (p : Port) (x : Slot), (s.sched p.val).wire = some x → x.fin ≤ s.ps →
    ∃ t : State, exec (.frameTransmitted p) s = .next t ∧ (t.sched p.val).wire = none ∧ Output.frame p.val x.bytes false ∈ t.out
      ∧ countsUp s t (portIx p.val) 0 0x12 1 ∧ countsUp s t (portIx p.val) 0 0x13 x.bytes.length)
  ∧ ∀ (s : State) (row : Nat) (c : QCopy) (r : List QCopy), s.queue row = c :: r → s.ageLimit row ≠ 0 →
    c.enq + s.ageLimit row < s.now →
    ∃ t : State, exec (.headAgeDiscard row) s = .next t ∧ t.queue row = r ∧ (∀ row', row' ≠ row → t.queue row' = s.queue row')
      ∧ (row < 8192 → countsUp s t (portIx (row / 8)) 0 0x2D 1)

/-- O35. INGRESS_SLOT_GRANT gives the slot to the frame that the order of R74 picks: a port frame that is neither for
the device nor link-local and that no classification row matches counts in :20 of its port and goes no further; one
that rows match and that needs no decryption runs through the stages with the action set of those rows. RECIRCULATE
puts a frame that stage E leaves alone and that needs no encryption back on the ingress side of its pipeline in a
buffer of row 6148. RELEASE_DECRYPTED of a pass that may be released ends it: one that does not verify, is a replay or
has a bad trailer counts that in the row of its association while that is valid (the first two in 0x6000 too) and goes
no further; one that verifies counts as classified, moves the window of its association and counts there while its key
stands, and goes on through the stages in the clear. -/
def Obligations.FramesPassThePipelines : Prop :=
  (∀ (s u : State) (k : Octet) (w w' : Waiting) (p n : Nat) (c : Ctx), n = max (NMap.at 0 s.net.cycle k.val) (s.clk.frcQ * 2 / 5) →
    pickWaiting n (NMap.at 0 s.net.ringPtr k.val) k.val
      (s.net.waiting.filter fun w => s.cmplReady w && !(s.inHold && w.cls = 2)) = some w →
    w.handle = none → w.txDone = none → w.cls = 3 → w.pass2 = false → w.ingress = some p → w.source.kind = 0 →
    u = { s with net := { s.net with waiting := dropFirst (fun x => decide (x = w)) s.net.waiting, cycle := NMap.put 0 s.net.cycle k.val (n + 1) } } →
    w' = { w with granted := s.tai } → c = u.begins w' [] →
    s.inHold = false → u.deviceFrame c.parsed.outer w.bytes = none → linkLocal c.parsed.outer.dst = false →
    (u.classifyRows c = [] →
      ∃ t : State, exec (.ingressSlotGrant k) s = .next t ∧ countsUp s t (portIx p) 0 0x20 1
        ∧ t.net.waiting = dropFirst (fun x => decide (x = w)) s.net.waiting
        ∧ Only [.net, .waiting] (fields (portIx p) 0 [0x20]) s t)
    ∧ ∀ acts tenant, u.classifyRows c ≠ [] → acts = u.classify c (u.classifyRows c) → tenant = acts.tenant.getD 0 → acts.decrypt = 0 →
      exec (.ingressSlotGrant k) s
        = .next ((u.countClassified tenant (u.classifyRows c)).runPass { c with acts := acts, tenant := tenant }))
  ∧ (∀ (s u : State) (k : Octet) (i : Nat) (c : QCopy) (w : Waiting) (h : Nat) (v : State), s.pickRecirc k.val = some (i, c, w) →
    u = { s with net := { s.net with recirc := dropFirst (fun y => decide (y = (i, c, w))) s.net.recirc } } →
    c.eRow = none → c.sa = none → NMap.at 0 s.net.recircFree k.val ≤ s.ps →
    u.allocBuf 6148 (classFor ((u.dress c).length + 4)) (w.stream.any u.admitted) = (h, v) → h ≠ noHandle →
    ∃ t : State, exec (.recirculate k) s = .next t
      ∧ t.net.waiting = s.net.waiting ++ [{ w with time := s.now, bytes := u.dress c, handle := some h }]
      ∧ t.net.recirc = dropFirst (fun y => decide (y = (i, c, w))) s.net.recirc)
  ∧ ∀ (s : State) (x : Pass) (i : Nat), s.cip.passes.find? (fun y => y.id == i) = some x → s.mayRelease x = true →
    ∃ t : State, exec (.releaseDecrypted i) s = .next t
      ∧ t.cip.passes.map (·.id) = (dropFirst (fun y => y.id == i) s.cip.passes).map (·.id)
      ∧ (∀ r sub, r = s.openPass x (s.parse x.frame.bytes) →
          (r = .auth ∧ sub = 0x24) ∨ (r = .replay ∧ sub = 0x25) ∨ (r = .trailer ∧ sub = 0x26) →
        (s.saField x.sa.row 4 = 1 → countsUp s t 0x6010 x.sa.row sub 1) ∧ t.net.waiting = s.net.waiting ∧ t.net.queues = s.net.queues
          ∧ (r = .auth → countsUp s t 0x6000 0 0x11 1) ∧ (r = .replay → countsUp s t 0x6000 0 0x13 1))
      ∧ ∀ pn bs, s.openPass x (s.parse x.frame.bytes) = .ok pn bs → countsUp s t 0x5013 x.tenant 4 1
        ∧ (s.oldSa x.sa = none → t.saField x.sa.row 0x21 = max (s.winHigh x.sa) pn ∧ countsUp s t 0x6010 x.sa.row 0x22 1
          ∧ countsUp s t 0x6010 x.sa.row 0x23 bs.length)

/-- O36. ALLOC, FREE and POOL_MODE_SWITCH of the supervisor wait for the pool manager and change nothing else. Its
next cycle, with nothing else waiting: an ALLOC that the pool grants takes the next handle of the class from the free
count, counts the grant and answers the handle 12 cycles later; one that it refuses answers NONE and counts the
refusal; a FREE gives the handle back to its class; a switch to another mode stores the mode and counts the switch. -/
def Obligations.BuffersAreGrantedAndFreed : Prop :=
  ∀ (s : State) (n : Thread), s.privileged n.val = true →
    (∀ (row : Nat) (c : BufClass), row < 6150 → ∃ t : State, exec (.alloc n row c) s = .next t
      ∧ t.net.pool = s.net.pool ++ [.alloc n.val row c.val] ∧ Only [.net] noField s t
      ∧ (s.net.pool = [] → s.grants row c.val false = true →
        (t.poolCycle.net.answers = s.net.answers ++ [(s.packetCycle + 12, n.val, (s.popHandle c.val).1)]
        ∨ (s.popHandle c.val).1 = noHandle)
        ∧ t.poolCycle.freeCount c.val = s.freeCount c.val - 1 ∧ countsUp s t.poolCycle 0x9301 row 0x1E 1
        ∧ countsUp s t.poolCycle 0x9301 row (0x18 + c.val) 1)
      ∧ (s.net.pool = [] → s.grants row c.val false = false →
        t.poolCycle.net.answers = s.net.answers ++ [(s.packetCycle + 12, n.val, noHandle)]
        ∧ countsUp s t.poolCycle 0x9301 row 0x1F 1 ∧ t.poolCycle.freeCount c.val = s.freeCount c.val))
    ∧ (∀ h, h < 2 ^ 32 → ∃ t : State, exec (.free n h) s = .next t ∧ t.net.pool = s.net.pool ++ [.free h] ∧ Only [.net] noField s t
      ∧ (s.net.pool = [] → h / 2 ^ 24 % 8 < 6 →
        t.poolCycle.freeCount (h / 2 ^ 24 % 8) = s.freeCount (h / 2 ^ 24 % 8) + 1
        ∧ NMap.at [] t.poolCycle.net.returned (h / 2 ^ 24 % 8) = NMap.at [] s.net.returned (h / 2 ^ 24 % 8) ++ [h]
        ∧ Only [.net, .thr] (objects [0x9300, 0x9301]) s t.poolCycle))
    ∧ ∀ quota : Bool, ∃ t : State, exec (.poolModeSwitch quota) s = .next t ∧ t.net.pool = s.net.pool ++ [.mode quota]
      ∧ Only [.net] noField s t
      ∧ (s.net.pool = [] → s.ob 0x9300 1 ≠ quota.toNat → t.poolCycle.ob 0x9300 1 = quota.toNat
        ∧ countsUp s t.poolCycle 0x9300 0 2 1 ∧ Only (.net :: told) (orLoud (fields 0x9300 0 [1, 2])) s t.poolCycle)

/-- O37. A write of a base minimum or a quota of a requester row that fits stores the value. SPILL_FETCH starts the
fetch of the first of a queue's first four frames that is still in HBM, of a port's queue or a vport's;
SPILL_FETCH_COMPLETE makes every copy of the buffer that is being fetched ready; other queues keep what they hold. -/
def Obligations.RequesterRowsAndSpilledFrames : Prop :=
  (∀ (s u : State) (v : Via) (row : Nat) (c : BufClass) (data : Bytes), row < 6150 →
    (WriteRuns s v 0x9301 row (5 + c.val) data u → (requesterRule row (5 + c.val)).check u v (ofBE data) = stOk →
      ∃ t : State, exec (.baseMinimumWrite v row c data) s = .next (t.answer v 0x9301 (5 + c.val) stOk [])
        ∧ t.baseMin row c.val = ofBE data ∧ Only [] (objects [0x9301]) u t)
    ∧ (WriteRuns s v 0x9301 row (0x12 + c.val) data u → (requesterRule row (0x12 + c.val)).check u v (ofBE data) = stOk →
      ∃ t : State, exec (.quotaWrite v row c data) s = .next (t.answer v 0x9301 (0x12 + c.val) stOk [])
        ∧ t.cell 0x9301 row (0x12 + c.val) = ofBE data ∧ Only [] (fields 0x9301 row [0x12 + c.val]) u t))
  ∧ (∀ (s : State) (x : QueuePlace) (q : QueueNo) (row : Nat), row = placeRow x q →
    ((s.queue row).take 4).any (fun c => !c.fetched && !c.fetching) = true →
    ∃ t : State, exec (.spillFetch x q) s = .next t
      ∧ t.queue row = updFirst (fun c => !c.fetched && !c.fetching) (fun c => { c with fetching := true }) (s.queue row)
      ∧ (∀ row', row' ≠ row → t.queue row' = s.queue row') ∧ Only [.net] noField s t)
  ∧ ∀ (s : State) (h : Nat), ∃ t : State, exec (.spillFetchComplete h) s = .next t
      ∧ (∀ row, t.queue row = (s.queue row).map fun c =>
          if c.handle = h && c.fetching then { c with fetching := false, fetched := true } else c)
      ∧ Only [.net] noField s t

/-- O38. GATE_LIST_SWAP of a list whose base time station time has reached makes it the operative one: :05 reads 0,
:06 and :0D the base time, :0C counts the swap. GATE_ENTRY_CHANGE gives each queue the gate state that governs now.
CANCEL_PENDING by a holder, at least 1 ms before the base time, leaves no pending list. FRER_RECOVERY_RESET, after the
reset timeout without a frame, empties the history of a compound and counts in its rows. ONE_CYCLE_AFTER_STEP, a cycle
time after the last step of station time, ends the mark of the step, and not earlier. -/
def Obligations.GatesFollowTheirLists : Prop :=
  (∀ (s : State) (p : Port), s.swapDue p.val = true →
    ∃ t : State, exec (.gateListSwap p) s = .next t ∧ t.ob (gateIx p.val) 5 = 0 ∧ t.ob (gateIx p.val) 6 = s.ob (gateIx p.val) 5
      ∧ t.ob (gateIx p.val) 0xD = s.ob (gateIx p.val) 5 ∧ t.blob (gateIx p.val) 4 = s.blob (gateIx p.val) 3
      ∧ countsUp s t (gateIx p.val) 0 0xC 1)
  ∧ (∀ (s : State) (p : Port),
    ∃ t : State, exec (.gateEntryChange p) s = .next t ∧ t.ob (gateIx p.val) 0xA = s.gateStates p.val s.stPs
      ∧ ∀ q : QueueNo, t.ob (schedIx p.val) (qSub q.val 7) = (bit (s.gateStates p.val s.stPs) q.val).toNat)
  ∧ (∀ (s u : State) (v : Via) (p : Port) (data : Bytes), WriteRuns s v (gateIx p.val) 0 0xB data u → u.startState = stOk →
    ofBE data = 1 → u.ob (gateIx p.val) 5 ≠ 0 → u.listImminent p.val = false →
    ∃ t : State, exec (.cancelPending v p data) s = .next (t.answer v (gateIx p.val) 0xB stOk []) ∧ t.ob (gateIx p.val) 5 = 0
      ∧ t.pendingList p.val = none)
  ∧ (∀ (s : State) (c : Fin 4096) (rows : List Nat), rows = (rowsWith s.dict 0x4002 4).filter (fun r =>
      decide (s.frerField r 5 = 2) && decide (s.frerField r 6 = c.val)) → rows ≠ [] → rows.Nodup →
    (s.compound c.val).take = false → (s.compound c.val).lastPass + s.frerField (rows.headD 0) 0xB ≤ s.now →
    ∃ t : State, exec (.frerRecoveryReset c) s = .next t ∧ t.compound c.val = { s.compound c.val with take := true, history := [] }
      ∧ (∀ r ∈ rows, countsUp s t 0x4002 r 0x16 1) ∧ Only (.net :: told) (orLoud (objects [0x4002])) s t)
  ∧ ∀ (s : State) (p : Port) (x : Nat), (s.sched p.val).stepped = some x →
    (x + s.ob (gateIx p.val) 7 ≤ s.now → ∃ t : State, exec (.oneCycleAfterStep p) s = .next t
      ∧ t.sched p.val = { s.sched p.val with stepped := none } ∧ (∀ q, q ≠ p.val → t.sched q = s.sched q)
      ∧ Only (.net :: told) (orLoud (objects [0x4000])) s t)
    ∧ (s.now < x + s.ob (gateIx p.val) 7 → exec (.oneCycleAfterStep p) s = .next s)

/-- O39. When the admission unit decides the oldest waiting write and no admitted stream refuses the change, the value
lands: a lane's mode or FEC, a calendar request, a maximum frame, PAUSE honouring, a quantum, a shaper, an idle slope,
a gate control or the initial gate states; and the write is answered OK on its path. The later ones still wait. -/
def Obligations.AdmittedWritesLand : Prop :=
  ∀ (s u : State) (w : AdmWait) (rest : List AdmWait), s.adm = w :: rest → u = ({ s with adm := rest } : State).level 0x7AC (!rest.isEmpty) →
    (∀ v l d, w.what = .laneModeWrite v l d → u.laneModeStatus l.val (ofBE d) = stOk → refusedChange u (u.landMode l.val (ofBE d)) = none →
      ∃ t : State, exec .admissionComplete s = .next (t.answerTo w.via (laneIx l.val) 1 stOk) ∧ t.mode l.val = ofBE d ∧ t.adm = rest)
    ∧ (∀ v l d, w.what = .fecWrite v l d → u.fecStatus l.val (ofBE d) = stOk → refusedChange u (u.setOb (laneIx l.val) 2 (ofBE d)) = none →
      ∃ t : State, exec .admissionComplete s = .next (t.answerTo w.via (laneIx l.val) 2 stOk) ∧ t.ob (laneIx l.val) 2 = ofBE d ∧ t.adm = rest)
    ∧ (∀ v l d, w.what = .calendarSwitchRequest v l d → u.calendarStatus l.val (ofBE d) = stOk → refusedChange u (u.withCalendar l.val (ofBE d)) = none →
      ∃ t : State, exec .admissionComplete s = .next (t.answerTo w.via (laneIx l.val) 0x33 stOk)
        ∧ (t.lane l.val).calTarget = some (ofBE d) ∧ Output.calendarRequest l.val (ofBE d) ∈ t.out ∧ t.ob (laneIx l.val) 0x34 = 1 ∧ t.adm = rest)
    ∧ (∀ v p d, w.what = .maximumFrameWrite v p d → u.portAbsent p.val = false → refusedChange u (u.setOb (portIx p.val) 5 (ofBE d)) = none →
      ∃ t : State, exec .admissionComplete s = .next (t.answerTo w.via (portIx p.val) 5 stOk) ∧ t.ob (portIx p.val) 5 = ofBE d ∧ t.adm = rest)
    ∧ (∀ v p d, w.what = .pauseHonouringWrite v p d → u.portAbsent p.val = false → refusedChange u (u.setOb (portIx p.val) 6 (ofBE d)) = none →
      ∃ t : State, exec .admissionComplete s = .next (t.answerTo w.via (portIx p.val) 6 stOk) ∧ t.ob (portIx p.val) 6 = ofBE d ∧ t.adm = rest)
    ∧ (∀ v p q d, w.what = .quantumWrite v p q d → refusedChange u u = none →
      ∃ t : State, exec .admissionComplete s = .next (t.answerTo w.via (schedIx p.val) (qSub q.val 1) stOk)
        ∧ t.ob (schedIx p.val) (qSub q.val 1) = ofBE d ∧ t.adm = rest)
    ∧ (∀ v p q d, w.what = .shaperEnableWrite v p q d → u.shaperStatus p.val q.val (ofBE d) = stOk → refusedChange u (u.setOb (schedIx p.val) (qSub q.val 2) (ofBE d)) = none →
      ∃ t : State, exec .admissionComplete s = .next (t.answerTo w.via (schedIx p.val) (qSub q.val 2) stOk)
        ∧ t.ob (schedIx p.val) (qSub q.val 2) = ofBE d ∧ t.credit p.val q.val = 0 ∧ t.adm = rest)
    ∧ (∀ v p q d, w.what = .idleSlopeWrite v p q d → u.slopeStatus p.val q.val (ofBE d) = stOk → refusedChange u (u.setOb (schedIx p.val) (qSub q.val 3) (ofBE d)) = none →
      ∃ t : State, exec .admissionComplete s = .next (t.answerTo w.via (schedIx p.val) (qSub q.val 3) stOk)
        ∧ t.ob (schedIx p.val) (qSub q.val 3) = ofBE d ∧ t.adm = rest)
    ∧ (∀ v p d, w.what = .gateControlWrite v p d → refusedChange u (u.setOb (gateIx p.val) 1 (ofBE d)) = none →
      ∃ t : State, exec .admissionComplete s = .next (t.answerTo w.via (gateIx p.val) 1 stOk) ∧ t.ob (gateIx p.val) 1 = ofBE d ∧ t.adm = rest)
    ∧ ∀ v p d, w.what = .initialStatesWrite v p d → refusedChange u (u.setOb (gateIx p.val) 2 (ofBE d)) = none →
      ∃ t : State, exec .admissionComplete s = .next (t.answerTo w.via (gateIx p.val) 2 stOk) ∧ t.ob (gateIx p.val) 2 = ofBE d ∧ t.adm = rest

/-- O40. When the unit decides an ADMIT that passes every check, the stream's row becomes ACTIVE with its computed and
granted bound, and the verdict names the row; a CHECK gives the same verdict and changes no object; a WITHDRAW of a
stream leaves its row FREE. A request that a check refuses changes no contract and leaves the cause in the verdict. A
profile write that no stream and no minimum refuses is requested. -/
def Obligations.StreamsAreAdmittedAndWithdrawn : Prop :=
  ∀ (s u : State) (w : AdmWait) (rest : List AdmWait), s.adm = w :: rest → u = ({ s with adm := rest } : State).level 0x7AC (!rest.isEmpty) →
    (∀ v rec i c, (w.what = .admitStream v rec ∨ w.what = .check v rec) → u.requestRow (contractOf rec) = some i → u.str i 4 = 0 →
      c = { contractOf rec with id := i } →
      (∀ b, u.decideRequest (u.others i) c 0 = .inr b →
        (w.what = .admitStream v rec → ∃ t : State, exec .admissionComplete s = .next (t.answerTo w.via 0x4001 1 stOk)
          ∧ t.str i 4 = 1 ∧ t.str i 0x14 = b ∧ t.str i 0x15 = max b c.ceiling ∧ t.cell 0x3800 i 4 = 1
          ∧ (t.verdict w.master).stream = i ∧ (t.verdict w.master).granted = max b c.ceiling)
        ∧ (w.what = .check v rec → ∃ t : State, exec .admissionComplete s = .next (t.answerTo w.via 0x4001 1 stOk)
          ∧ (t.verdict w.master).stream = i ∧ (t.verdict w.master).computed = b ∧ (t.verdict w.master).granted = max b c.ceiling
          ∧ Only [.acc] noField u t))
      ∧ ∀ cause ids, u.decideRequest (u.others i) c 0 = .inl (cause, ids) →
        ∃ t : State, exec .admissionComplete s = .next (t.answerTo w.via 0x4001 1 stRefused)
          ∧ (t.verdict w.master).cause = cause ∧ (t.verdict w.master).count = ids.length ∧ Only (.acc :: .free :: told) (orLoud noField) u t)
    ∧ (∀ v rec, w.what = .withdraw v rec → u.str (be rec 4 4) 4 ≠ 0 →
      ∃ t : State, exec .admissionComplete s = .next (t.answerTo w.via 0x4001 1 stOk) ∧ t.str (be rec 4 4) 4 = 0
        ∧ (u.admitted (be rec 4 4) = true → t.cell 0x3800 (be rec 4 4) 4 = 0))
    ∧ (∀ v rec b g, w.what = .modify v rec → u.admitted (contractOf rec).id = true →
      u.decideRequest (u.others (contractOf rec).id)
        { u.contract (contractOf rec).id with ceiling := (contractOf rec).ceiling, upstream := (contractOf rec).upstream, link := (contractOf rec).link, granted := none }
        (u.str (contractOf rec).id 0x17) = .inr b → g = max b (contractOf rec).ceiling →
      ∃ t : State, exec .admissionComplete s = .next (t.answerTo w.via 0x4001 1 stOk) ∧ t.str (contractOf rec).id 0x3F = (contractOf rec).ceiling
        ∧ t.str (contractOf rec).id 0x14 = b ∧ t.str (contractOf rec).id 0x15 = g)
    ∧ ∀ v d, w.what = .profileWrite v d → u.profileStatus (ofBE d) = stOk → broken u (u.under (ofBE d)) = [] → (u.tightClasses (ofBE d) fun _ => 0) = [] →
      ∃ t : State, exec .admissionComplete s = .next (t.answerTo w.via 0x1001 1 stOk) ∧ t.ob 0x1001 1 = ofBE d
        ∧ t.ob 0x1001 3 = (decide (ofBE d ≠ u.ob 0x1001 2)).toNat ∧ Only [.acc] (fields 0x1001 0 [1, 3]) u t

/-- O41. VPORT_DELIVERY, which names the descriptor at the head of its ring, takes the head of the queue that tenants,
vports and queues pick, and writes it with its completion to the ring that VP_MAP and the hash select (stated for a
frame that stage E leaves alone, is not encrypted and belongs to no storage connection): the frame's bytes go to the
buffer of the descriptor at the head of the ring, in posted writes of at most Max_Payload_Size; RX_HEAD and the
completion ring's tail advance, the bytes count in x:1F of the host port, and a frame longer than the buffer counts in
the ring. TELEMETRY_SAMPLE of a row whose interval has reached a new multiple records the frames, bytes and head age
of the queue, and counts the sample; no other row changes. A ring of telemetry that is enabled starts with both
indexes 0. -/
def Obligations.VportsDeliverToTheirRings : Prop :=
  (∀ (s u w : State) (hp : HostPort) (n q r o : Nat) (d : Delivery) (c : QCopy) (rest : List QCopy),
    s.inHold = false → u = s.vPurgeAll → u.hPick (hpNo hp) = some (n, q, d) → u.headStored n q = false →
    u.queue (vportRow n q) = c :: rest → c.eRow = none → c.sa = none → r = w.rxRing n c → o = tenantMaster (n / 16) →
    w = ({ u with net := { u.net with delivery := NMap.put {} u.net.delivery (hpNo hp) d } } : State).setQueue (vportRow n q) rest →
    ∃ t : State, exec (.vportDelivery hp (u.rxDesc n c)) s = .next t ∧ Received w t o n q r (w.noConn n) c (w.dress c)
      ∧ t.queue (vportRow n q) = rest ∧ t.delivery (hpNo hp) = d
      ∧ (w.mayIssue (w.funcMaster o) = true → countsUp w t (hostIx (w.ownerPort o - 1)) 0 0x1F
          (min (w.descAt o false r (w.regN o (ringBase false r + 0x10) % w.ringSize o false r)).len (w.dress c).length + 32)))
  ∧ (∀ (s : State) (row : Nat), row < 532480 → s.cell 0x3801 row 4 ≠ 0 → s.tai / s.cell 0x3801 row 4 ≠ s.sampledAt row →
    ∃ t : State, exec (.telemetrySample row) s = .next t ∧ t.cell 0x3801 row 0xA = s.framesQueued row
      ∧ t.cell 0x3801 row 0xD = s.bytesQueued row
      ∧ t.cell 0x3801 row 0x10 = s.headAge row ∧ countsUp s t 0x3801 row 0x11 1
      ∧ (∀ row' sub, row' < 2 ^ 32 → row' ≠ row → t.cell 0x3801 row' sub = s.cell 0x3801 row' sub)
      ∧ t.sampledAt row = s.tai / s.cell 0x3801 row 4 ∧ (∀ row', row' ≠ row → t.sampledAt row' = s.sampledAt row')
      ∧ t.net.queues = s.net.queues
      ∧ Only (.regs :: .net :: told) (orLoud (objects [0x3801, hostIx 0, hostIx 1])) s t)
  ∧ ∀ (s : State) (f : Func) (ctrl : Word) (o : Nat), s.regionOf f = some o → s.regBits o (tlm 0x14) 0 0 = 0 →
    bit ctrl.toNat 0 = true →
    ∃ t : State, exec (.telemetryRingEnable f ctrl) s = .next t ∧ t.regBits o (tlm 0x14) 0 0 = 1 ∧ t.regN o (tlm 0xC) = 0
      ∧ t.regN o (tlm 0x10) = 0 ∧ t.rng.tlmHalted.contains o = false ∧ Only [.regs, .rng] noField s t
      ∧ ∀ o' a, a < 2 ^ 26 → (o' ≠ o ∨ a < tlm 0xC ∨ tlm 0x14 < a) → t.reg o' a = s.reg o' a

/-- O42. ENABLE of a ring from 0 to 1 clears its four indexes (stated while no completion is owed to it) and HALTED,
forgets its descriptors and leaves every other register; from 1 to 0 it stops, with its indexes kept. RING_DOORBELL
moves the tail within the ring, and an enabled ring that is not halted fetches what the tail exposes. RING_MOD_TIMER
sends the message and starts counting again. HOST_FRAME_READ takes the descriptors of the next good frame from the
head of its ring and asks for its data; once all of that has arrived, the command that names the descriptors and the
data makes the frame stand among those that wait for a slot. INLINE_PUSH of a good push waits in its buffer behind the
descriptors exposed before it; one that does not begin at a slot boundary is discarded. -/
def Obligations.RingsAreEnabledAndFed : Prop :=
  ∀ (s : State) (f : Func) (o : Nat), s.regionOf f = some o →
    (∀ (tx : Bool) (r : RingNo) (ctrl : Word) (b : Nat), b = ringBase tx r.val →
      (s.ringEnabled o tx r.val = false → bit ctrl.toNat 0 = true →
        ∃ t : State, exec (.ringEnable f tx r ctrl) s = .next t ∧ t.ringEnabled o tx r.val = true ∧ t.regN o (b + 0xC) = 0
          ∧ t.regN o (b + 0x10) = 0 ∧ t.regN o (b + 0x1C) = 0 ∧ t.ringHalted o tx r.val = false
          ∧ (t.ring o tx r.val).descs = []
          ∧ ((tx = true → (s.ring o tx r.val).owed = []) → t.regN o (b + 0x20) = 0 ∧ (t.ring o tx r.val).phase = true)
          ∧ ∀ o' a, a < 2 ^ 26 → (o' ≠ o ∨ a < b ∨ b + 64 ≤ a) → t.reg o' a = s.reg o' a)
      ∧ (s.ringEnabled o tx r.val = true → bit ctrl.toNat 0 = false →
        ∃ t : State, exec (.ringDisable f tx r ctrl) s = .next t ∧ t.ringEnabled o tx r.val = false
          ∧ t.regN o (b + 0xC) = s.regN o (b + 0xC) ∧ t.regN o (b + 0x10) = s.regN o (b + 0x10)
          ∧ (t.ring o tx r.val).descs = []))
    ∧ (∀ (tx : Bool) (r : RingNo) (tail : Word) (old new : Nat), old = s.regN o (ringBase tx r.val + 0xC) % s.ringSize o tx r.val →
        new = tail.toNat % s.ringSize o tx r.val →
        ∃ t : State, exec (.ringDoorbell f tx r tail) s = .next t ∧ t.regN o (ringBase tx r.val + 0xC) = new
          ∧ (∀ o' a, regKey o' a ≠ regKey o (ringBase tx r.val + 0xC) → t.reg o' a = s.reg o' a)
          ∧ (s.ringEnabled o tx r.val = true → s.ringHalted o tx r.val = false → s.mayIssue (s.funcMaster o) = true → old < new →
            ∃ x ∈ t.hst.reads, x.why = .ringDesc o tx r.val old (new - old))
          ∧ Only [.regs, .hst, .out] (pages 0x71 0x8F) s t)
    ∧ (∀ (tx : Bool) (r : RingNo) (t0 v : Nat), (s.ring o tx r.val).oldest = some t0 →
        s.regBits o (ringBase tx r.val + 0x28) 31 16 ≠ 0 → s.regBits o (ringBase tx r.val + 0x24) 1 1 = 1 →
        t0 + 1000 * s.regBits o (ringBase tx r.val + 0x28) 31 16 ≤ s.now → v = s.regBits o (ringBase tx r.val + 0x24) 26 16 →
        ∃ t : State, exec (.ringModTimer f tx r) s = .next t
          ∧ t.ring o tx r.val = { s.ring o tx r.val with sinceMsg := 0, oldest := none }
          ∧ (s.mayIssue (s.funcMaster o) = true → s.vectorMask (s.funcMaster o) v = false →
            t.out = .msix (s.funcMaster o) v :: s.out)
          ∧ Only [.hst, .rng, .out] noField s t)
    ∧ (∀ (r : RingNo) (ds : List RingDesc) (b size head : Nat), b = ringBase true r.val → size = s.ringSize o true r.val →
        head = s.regN o (b + 0x10) % size → (s.ring o true r.val).reading = none →
        frameDescs ((s.regN o (b + 0xC) % size + size - head) % size) (s.headDescs o r.val) = some ds →
        s.ringEnabled o true r.val = true → s.ringHalted o true r.val = false → s.ringFull o true r.val = false →
        s.mayIssue (s.funcMaster o) = true → formatBad ds = false → ∀ descs data how,
        ∃ t : State, exec (.hostFrameRead f r descs data how) s = .next t ∧ t.regN o (b + 0x10) = (head + ds.length) % size
          ∧ (t.ring o true r.val).reading = some ⟨ds, (head + ds.length) % size,
              ⟨(ds.map fun d => (d.addr, d.len)).filter fun x => x.2 ≠ 0, [], [], none⟩⟩
          ∧ ∃ x ∈ t.hst.reads, x.why = .txData o r.val 0)
    ∧ (∀ (r : RingNo) (x : TxRead), (s.ring o true r.val).reading = some x → x.prep.ready = true → formatBad x.descs = false →
        x.prep.all.any (·.isNone) = false →
        ∃ t : State, exec (.hostFrameRead f r x.descs x.prep.all .whole) s = .next t
          ∧ ∃ w ∈ t.net.waiting, w.bytes = (x.prep.all.filterMap id).flatten ∧ w.cls = 2 ∧ w.tenant = o - 0x1000
            ∧ w.ring = r.val ∧ w.ahead = 0)
    ∧ (∀ (off : Nat) (data : Bytes), (within 0x3800 0x3FFF off && off % 512 = 0) = false →
        exec (.inlinePush f off data) s = .next s)
    ∧ ∀ (off : Nat) (data : Bytes) (r len h size : Nat) (u : State), within 0x3800 0x3FFF off = true → off % 512 = 0 →
        r = le data 0 2 → len = le data 8 2 → r < 64 → within 14 256 len = true → le data 10 1 % 32 = 0 →
        bit (le data 10 1) 7 = true → bit (le data 10 1) 6 = true → le data 11 1 < 16 → data.length = roundUp (32 + len) 4 →
        s.ringEnabled o true r = true → s.pushesHeld o < 8 → size = s.ringSize o true r →
        s.takeBuf (2048 + (o - 0x1000)) (classFor (len + 4)) = (some h, u) →
        ∃ t : State, ∃ w, exec (.inlinePush f off data) s = .next t ∧ t.net.waiting = u.net.waiting ++ [w]
          ∧ w.bytes = slice data 32 len ∧ w.handle = some h ∧ (t.ring o true r).pushes = (u.ring o true r).pushes + 1
          ∧ w.ahead = (s.regN o (ringBase true r + 0xC) % size + size - s.regN o (ringBase true r + 0x10) % size) % size
              + ((s.ring o true r).reading.map fun x => x.descs.length).getD 0

/-- O43. ENABLE of a page from 0 to 1 zeroes CP_TAIL, CP_HEAD and CP_DONE, clears HALTED and leaves it no job. A
doorbell stores the tail, and an enabled page that is not halted takes as many exposed descriptors as its 64 jobs
allow, behind those it has. ENABLE from 1 to 0 ends what has not started: CP_HEAD stands at CP_TAIL, and every job
that stays unfinished is one that a lane had taken, or that of another page. -/
def Obligations.CipherPagesStartAndStop : Prop :=
  ∀ (s : State) (f : Func) (o : Nat) (x : Word), s.regionOf f = some o →
    (s.regBits o (cp 0x18) 0 0 = 0 → bit x.toNat 0 = true →
      ∃ t : State, exec (.cipherPageEnable f x) s = .next t ∧ t.regBits o (cp 0x18) 0 0 = 1 ∧ t.regN o (cp 0xC) = 0
        ∧ t.regN o (cp 0x10) = 0 ∧ t.regN o (cp 0x14) = 0 ∧ t.regBits o (cp 0x20) 1 1 = 0
        ∧ (∀ j ∈ t.cip.jobs, j.owner ≠ o) ∧ (∀ j ∈ s.cip.jobs, j.owner ≠ o → j ∈ t.cip.jobs))
    ∧ (s.regBits o (cp 0x18) 0 0 = 1 → bit x.toNat 0 = false →
      ∃ t : State, exec (.cipherPageDisable f x) s = .next t ∧ t.regBits o (cp 0x18) 0 0 = 0
        ∧ t.regN o (cp 0x10) = s.regN o (cp 0xC) % s.pageSize o
        ∧ (∀ j ∈ s.cip.jobs, j.owner ≠ o → j ∈ t.cip.jobs))
    ∧ ∃ t : State, exec (.cipherPageDoorbell f x) s = .next t ∧ t.reg o (cp 0xC) = (s.writeReg o (cp 0xC) x).reg o (cp 0xC)
        ∧ ∀ size head n, s.regBits o (cp 0x18) 0 0 = 1 → s.regBits o (cp 0x20) 1 1 = 0 → s.mayIssue (s.funcMaster o) = true →
          size = s.pageSize o → head = s.regN o (cp 0x10) % size →
          n = min ((t.regN o (cp 0xC) % size + size - head) % size)
            (64 - (s.cip.jobs.filter fun j => j.owner == o && !j.done).length) →
          t.cip.jobs = s.cip.jobs ++ (List.range n).map fun i => { owner := o, slot := (head + i) % size }

/-- O44. A job that the command names by its descriptor and data, whose lane has done its blocks and that took a
usable key at its start, ends, with its lengths in range, with status 0 and the bytes of its mode at DST: GCM, GMAC,
CTR, XTS, CMAC, a wrapped key, random bytes; verification of a wrong tag ends with 1 and writes nothing; UNWRAP and
DERIVE install a key of the use and length that PARAM names. A job that found no usable key ends with 3, one with a
length out of range with 2. The completion tells lane, status and length, and the end counts in 0x6000. The generator
is an open function of Config. -/
def Obligations.JobsRunWithTheirKeys : Prop :=
  ∀ (s : State) (f : Func) (job o : Nat) (j : Job) (d : JobDesc) (key src iv : Bytes), src = j.src.getD [] → iv = d.iv.take 12 →
    (j.key = some key → jobLimits d = true →
      (JobRuns s f job 1 o j d → ∀ ct, ct = gcmCrypt key iv (src.drop d.aadLen) →
        ∃ t : State, exec (.gcmEncrypt f job d src) s = .next t
          ∧ JobEnds s t o j d 0 (ct ++ (gcmTag key iv (src.take d.aadLen) ct).take d.tagLen))
      ∧ (JobRuns s f job 2 o j d → ∀ ct, ct = slice src d.aadLen d.len →
        ∃ t : State, exec (.gcmDecrypt f job d src) s = .next t
          ∧ ((gcmTag key iv (src.take d.aadLen) ct).take d.tagLen = src.drop (d.aadLen + d.len) →
            JobEnds s t o j d 0 (gcmCrypt key iv ct))
          ∧ ((gcmTag key iv (src.take d.aadLen) ct).take d.tagLen ≠ src.drop (d.aadLen + d.len) → JobEnds s t o j d 1 []))
      ∧ (JobRuns s f job 3 o j d →
        ∃ t : State, exec (.gmacGenerate f job d src) s = .next t ∧ JobEnds s t o j d 0 ((gcmTag key iv src []).take d.tagLen))
      ∧ (JobRuns s f job 4 o j d →
        ∃ t : State, exec (.gmacVerify f job d src) s = .next t ∧ JobEnds s t o j d
          (if (gcmTag key iv (src.take d.len) []).take d.tagLen = src.drop d.len then 0 else 1) [])
      ∧ (JobRuns s f job 5 o j d →
        ∃ t : State, exec (.ctr f job d src) s = .next t ∧ JobEnds s t o j d 0 (ctrMode key 128 (ofBE d.iv) src))
      ∧ (JobRuns s f job 6 o j d →
        ∃ t : State, exec (.xtsEncrypt f job d src) s = .next t ∧ JobEnds s t o j d 0 (xts true key (xtsSize d.param) (ofLE d.iv) src))
      ∧ (JobRuns s f job 7 o j d →
        ∃ t : State, exec (.xtsDecrypt f job d src) s = .next t ∧ JobEnds s t o j d 0 (xts false key (xtsSize d.param) (ofLE d.iv) src))
      ∧ (JobRuns s f job 8 o j d →
        ∃ t : State, exec (.cmacGenerate f job d src) s = .next t ∧ JobEnds s t o j d 0 ((cmac key src).take d.tagLen))
      ∧ (JobRuns s f job 9 o j d →
        ∃ t : State, exec (.cmacVerify f job d src) s = .next t ∧ JobEnds s t o j d
          (if (cmac key (src.take d.len)).take d.tagLen = src.drop d.len then 0 else 1) [])
      ∧ (JobRuns s f job 10 o j d → ∀ x, j.aux = some x →
        ∃ t : State, exec (.wrap f job d) s = .next t ∧ JobEnds s t o j d 0 (keyWrap key x))
      ∧ ∀ use len, s.targetFree (o - 0x1000) d.aux = true → paramKey d.param = some (use, len) →
        (JobRuns s f job 11 o j d → ∃ t : State, exec (.unwrap f job d src) s = .next t
          ∧ (∀ k, keyUnwrap key src = some k → k ≠ [] → JobEnds s t o j d 0 [] ∧ KeyInstalled s t d.aux use k)
          ∧ (keyUnwrap key src = none → JobEnds s t o j d 1 [] ∧ t.saField d.aux 4 = 0))
        ∧ (JobRuns s f job 12 o j d → ∃ t : State, exec (.derive f job d src) s = .next t
          ∧ JobEnds s t o j d 0 [] ∧ KeyInstalled s t d.aux use (kdf key src len)))
    ∧ (JobRuns s f job 13 o j d → jobLimits d = true → ∀ i, i = j.lane.getD 0 % 4 → s.drbgWaits i = false →
        ∃ t : State, exec (.random f job d) s = .next t ∧ JobEnds s t o j d 0 (toBE d.len (Config.drbg i s.free d.len))
          ∧ t.drbgCount i = s.drbgCount i + 1)
    ∧ (∀ st, (st = 3 ∧ j.key = none ∨ st = 2 ∧ j.key = some key ∧ jobLimits d = false) →
        (JobRuns s f job 1 o j d → ∃ t : State, exec (.gcmEncrypt f job d src) s = .next t ∧ JobEnds s t o j d st [])
        ∧ (JobRuns s f job 2 o j d → ∃ t : State, exec (.gcmDecrypt f job d src) s = .next t ∧ JobEnds s t o j d st [])
        ∧ (JobRuns s f job 3 o j d → ∃ t : State, exec (.gmacGenerate f job d src) s = .next t ∧ JobEnds s t o j d st [])
        ∧ (JobRuns s f job 4 o j d → ∃ t : State, exec (.gmacVerify f job d src) s = .next t ∧ JobEnds s t o j d st [])
        ∧ (JobRuns s f job 5 o j d → ∃ t : State, exec (.ctr f job d src) s = .next t ∧ JobEnds s t o j d st [])
        ∧ (JobRuns s f job 6 o j d → ∃ t : State, exec (.xtsEncrypt f job d src) s = .next t ∧ JobEnds s t o j d st [])
        ∧ (JobRuns s f job 7 o j d → ∃ t : State, exec (.xtsDecrypt f job d src) s = .next t ∧ JobEnds s t o j d st [])
        ∧ (JobRuns s f job 8 o j d → ∃ t : State, exec (.cmacGenerate f job d src) s = .next t ∧ JobEnds s t o j d st [])
        ∧ (JobRuns s f job 9 o j d → ∃ t : State, exec (.cmacVerify f job d src) s = .next t ∧ JobEnds s t o j d st []))

/-- O45. LANE_STALL, 256 cycles after a mask key expired whose generator waits for its reseed, marks the lane in
0x6020:08 and counts in :09; its end, under a fresh key, takes the mark back and adds the time to 0x6000:18.
MASK_REFRESH, from 16,384 cycles after the last load, loads a key now at the cost of one generate request;
MASK_KEY_EXPIRY after 32,768 cycles marks it expired; DRBG_RESEED after 2^20 requests starts the count again. A failed
test stops the engine with its code, drops what is in the churns and counts it; ENGINE_RESTART by a holder whose
checks pass lets it run again, and with a check that fails it stays stopped. -/
def Obligations.CipherEngineStallsAndStops : Prop :=
  (∀ (s : State) (l : CipherLane) (d : CLane), d = s.clane l.val →
    (d.stalled = none → d.expired = true → d.keyLoaded + 33024 ≤ s.laneCycle → s.drbgWaits (l.val % 4) = true →
      ∃ t : State, exec (.laneStall l) s = .next t ∧ t.clane l.val = { d with stalled := some s.now }
      ∧ bit (t.ob 0x6020 8) l.val = true ∧ countsUp s t 0x6020 0 9 1 ∧ (∀ k, k ≠ l.val → t.clane k = s.clane k)
      ∧ Only (.cip :: told) (orLoud (fields 0x6020 0 [8, 9])) s t)
    ∧ (∀ t0, d.stalled = some t0 → d.expired = false →
      ∃ t : State, exec (.laneStallEnd l) s = .next t ∧ t.clane l.val = { d with stalled := none }
      ∧ bit (t.ob 0x6020 8) l.val = false ∧ countsUp s t 0x6000 0 0x18 (s.now - t0))
    ∧ (s.drbgWaits (l.val % 4) = false → s.engineRuns = true → d.keyLoaded + 16384 ≤ s.laneCycle →
      ∃ t : State, exec (.maskRefresh l) s = .next t
      ∧ t.clane l.val = { d with keyLoaded := s.laneCycle, expired := false }
      ∧ t.drbgCount (l.val % 4) = s.drbgCount (l.val % 4) + 1 ∧ Only [.cip] noField s t)
    ∧ (d.keyLoaded + 32768 ≤ s.laneCycle → ∃ t : State, exec (.maskKeyExpiry l) s = .next t
      ∧ t.clane l.val = { d with expired := true } ∧ (∀ k, k ≠ l.val → t.clane k = s.clane k) ∧ Only [.cip] noField s t))
  ∧ (∀ (s : State) (i : Fin 4), s.drbgWaits i.val = true → s.ob 0x6020 1 = 1 →
    ∃ t : State, exec (.drbgReseed i) s = .next t ∧ t.drbgCount i.val = 0 ∧ (∀ j, j ≠ i.val → t.drbgCount j = s.drbgCount j)
      ∧ countsUp s t 0x6020 0 7 1 ∧ Only [.cip] (fields 0x6020 0 [7]) s t)
  ∧ (∀ (s : State) (x : EntropyTest), s.ob 0x6000 1 ≤ 1 → s.pwr.inReset = false →
    ∃ t : State, exec (.entropyTestFailure x) s = .next t ∧ t.ob 0x6000 1 = (if x = .knownAnswer then 3 else 2)
      ∧ t.ob 0x6000 2 = testCode x ∧ t.ob 0x6020 1 = 2 ∧ t.engineRuns = false ∧ t.cip.passes = [] ∧ t.cip.work = []
      ∧ countsUp s t 0x6000 0 0x15 s.cip.passes.length)
  ∧ ∀ (s u : State) (v : Via) (data : Bytes), WriteRuns s v 0x6000 0 3 data u → u.startState = stOk → ofBE data = 1 →
    u.engineRuns = false →
    (∃ t : State, exec (.engineRestart v data none) s = .next (t.answer v 0x6000 3 stOk []) ∧ t.engineRuns = true ∧ t.ob 0x6020 1 = 1
      ∧ t.cip.drbg = [] ∧ Only (.cip :: told) (orLoud (objects [0x6000, 0x6020])) u t)
    ∧ ∀ x, ∃ t : State, exec (.engineRestart v data (some x)) s = .next (t.answer v 0x6000 3 stOk []) ∧ t.engineRuns = false
      ∧ t.ob 0x6000 2 = testCode x ∧ Only (.free :: told) (orLoud (objects [0x6000, 0x6020])) u t

/-- O46. A descriptor at the head of its queue, which the command names with what was read for it, with what it needs
and room for its record, takes its effect and ends with an OP_DONE record of status 0: CONN_ADD of a good record makes
the connection, ESTABLISHED, in the lowest free row; CONN_DEL removes it; CMD_READ and CMD_WRITE register a command
behind those of the connection; CMD_RETIRE quarantines a registered CID for the connection's time; RESYNC of a
connection in RESYNC names where it goes on. One that names no connection of its function ends with status 2.
QUARANTINE_END frees the slot. ENABLE of the queue pair clears its indexes and its descriptors; a doorbell stores the
tail. -/
def Obligations.StorageConnectionsAndCommands : Prop :=
  (∀ (s u : State) (f : Func) (o : Nat) (d : StorDesc) (list : Bytes) (p : Prep),
    (∀ (c : Conn) (row : Nat), StorRuns s f 1 o u d list p → c = connRecord (o - 0x1000) (fit 64 list) →
      u.connCheck (o - 0x1000) c = 0 → u.connRow (o - 0x1000) = some row →
      ∃ t : State, exec (.connAdd f d (fit 64 list)) s = .next t
        ∧ t.conn row = some { c with quar := if c.quar = 0 then 1000 else c.quar } ∧ t.cell 0x7000 row 4 = 1
        ∧ (∀ r, r ≠ row → t.conn r = u.conn r) ∧ OpDone u t o d 0 row)
    ∧ (∀ c, u.connFor o d = some c →
      (StorRuns s f 2 o u d list p → ∃ t : State, exec (.connDel f d) s = .next t ∧ t.conn d.conn = none
        ∧ t.cell 0x7000 d.conn 4 = 0 ∧ (∀ r, r ≠ d.conn → t.conn r = u.conn r) ∧ OpDone u t o d 0 d.conn)
      ∧ (∀ x : StorCmd, x = { cid := d.cid, write := x.write, len := d.len, segs := segList d.segments list, stage := d.stage,
                              dun := d.dun, xts := c.xtsFor d, cookie := d.cookie, gap := decide (u.cell 0x7000 d.conn 4 = 2) } →
        u.cmdCheck d (some c) (segList d.segments list) = 0 → p.all.any (·.isNone) = false →
        (StorRuns s f 3 o u d list p → x.write = false →
          ∃ t : State, exec (.cmdRead f d (segList d.segments list) p.all) s = .next t ∧ t.conn d.conn = some { c with cmds := c.cmds ++ [x] }
            ∧ (∀ r, r ≠ d.conn → t.conn r = u.conn r))
        ∧ (StorRuns s f 4 o u d list p → x.write = true → ∀ capsule data, capsule ++ data = p.all →
          ∃ t : State, exec (.cmdWrite f d (segList d.segments list) capsule data) s = .next t ∧ t.conn d.conn = some { c with cmds := c.cmds ++ [x] }
            ∧ (∀ r, r ≠ d.conn → t.conn r = u.conn r)))
      ∧ (StorRuns s f 5 o u d list p → ∀ x, c.cmds.find? (fun y => y.cid == d.cid) = some x → x.quarantine = none →
        ∃ t : State, exec (.cmdRetire f d) s = .next t ∧ t.conn d.conn = some { c with
          cmds := updFirst (fun y => y.cid == d.cid) (·.retired (s.now + c.quar * 1000000)) c.cmds } ∧ OpDone u t o d 0 d.conn)
      ∧ (StorRuns s f 6 o u d list p → u.cell 0x7000 d.conn 4 = 2 →
        ∃ t : State, exec (.resync f d) s = .next t ∧ t.conn d.conn = some { c with target := some d.len }
          ∧ (∀ r, r ≠ d.conn → t.conn r = u.conn r) ∧ OpDone u t o d 0 d.conn))
    ∧ (u.connFor o d = none →
      (StorRuns s f 2 o u d list p → ∃ t : State, exec (.connDel f d) s = .next t ∧ t.sto.conns = u.sto.conns ∧ OpDone u t o d 2 d.conn)
      ∧ (StorRuns s f 5 o u d list p → ∃ t : State, exec (.cmdRetire f d) s = .next t ∧ t.sto.conns = u.sto.conns
        ∧ OpDone u t o d 2 d.conn)
      ∧ (StorRuns s f 6 o u d list p → ∃ t : State, exec (.resync f d) s = .next t ∧ t.sto.conns = u.sto.conns
        ∧ OpDone u t o d 2 d.conn)))
  ∧ (∀ (s : State) (conn cid : Nat) (c : Conn), s.conn conn = some c →
    c.cmds.any (fun x => x.cid == cid && x.quarantine.any (· ≤ s.now)) = true →
    ∃ t : State, exec (.quarantineEnd conn cid) s = .next t
      ∧ t.conn conn = some { c with cmds := c.cmds.filter fun x => !(x.cid == cid && x.quarantine.any (· ≤ s.now)) }
      ∧ (∀ r, r ≠ conn → t.conn r = s.conn r) ∧ Only [.sto] (objects [0x7000]) s t)
  ∧ ∀ (s : State) (f : Func) (o : Nat) (x : Word), s.regionOf f = some o →
    (s.regBits o (sq 0x28) 0 0 = 0 → bit x.toNat 0 = true →
      ∃ t : State, exec (.storageQueueEnable f x) s = .next t ∧ t.regBits o (sq 0x28) 0 0 = 1 ∧ t.regN o (sq 0xC) = 0
        ∧ t.regN o (sq 0x10) = 0 ∧ t.regN o (sq 0x20) = 0 ∧ t.regN o (sq 0x24) = 0 ∧ t.storQ o = []
        ∧ ∀ o', o' ≠ o → t.storQ o' = s.storQ o')
    ∧ ∃ t : State, exec (.storageDoorbell f x) s = .next t ∧ t.reg o (sq 0xC) = (s.writeReg o (sq 0xC) x).reg o (sq 0xC)
      ∧ (∀ o', o' ≠ o → t.storQ o' = s.storQ o')

/-- O47. STORAGE_SEGMENT takes the head of the vport queue that delivery picks, once the command data that it needs is
there; it names that data and the descriptor at the head of the receive ring: what the connection makes of the segment
decides the records that are posted, the kind in the receive completion, and whether its payload was eaten (stated for
a frame that stage E leaves alone and is not encrypted, with room for its records and its completion). A segment with
a wrong checksum is kind 4 and counts; one of a FAILED connection is kind 3; one ahead of what is expected takes the
connection to RESYNC with kind 2; one wholly behind is kind 5 and changes nothing. -/
def Obligations.StorageSegmentsAreTaken : Prop :=
  (∀ (s u w x z : State) (f : Func) (o n q r kind cr : Nat) (d : Delivery) (c : QCopy) (rest : List QCopy) (conn : Conn)
      (g : Segment) (needs : List (Nat × Nat) × Nat) (p : Prep) (recs : List Bytes),
    s.inHold = false → s.regionOf f = some o → u = s.vPurgeAll → n < 65536 → q < 8 →
    u.hPick (s.portOf (o - 0x1000) - 1) = some (n, q, d) → n / 16 = o - 0x1000 →
    u.queue (vportRow n q) = c :: rest → c.eRow = none → c.sa = none →
    u.connOf n (u.deliveredBytes c) = some (cr, conn, g) → needs = u.segNeeds cr conn g →
    u.prepSegment o (vportRow n q) c.handle needs.1 needs.2 = (some p, x) →
    w = ({ x with net := { x.net with delivery := NMap.put {} x.net.delivery (s.portOf (o - 0x1000) - 1) d } } : State).setQueue
      (vportRow n q) rest →
    w.takeSegment o cr conn g p.all = (kind, recs, z) → recs.length ≤ z.cqRoom o → r = w.rxRing n c → z.rxReady o r = true →
    ∃ t : State, exec (.storageSegment f (vportRow n q) (u.rxDesc n c) p.all) s = .next t
      ∧ Received z t o n q r (cr * 2 ^ 48 + kind * 2 ^ 44 + if kind = 1 || kind = 5 then g.data.length else 0) c
        (if kind = 1 || kind = 5 then (w.dress c).take g.at_ else w.dress c)
      ∧ (recs ≠ [] → t.regN o (sq 0x20) = (z.regN o (sq 0x20) + recs.length) % z.cqSize o) ∧ t.segHeld o = none
      ∧ t.queue (vportRow n q) = rest)
  ∧ ∀ (s t : State) (o row e kind : Nat) (c : Conn) (g : Segment) (host : List (Option Bytes)) (recs : List Bytes), row < 65536 →
    s.takeSegment o row c g host = (kind, recs, t) → e = s.cell 0x7000 row 7 →
    (g.good = false → kind = 4 ∧ recs = [] ∧ countsUp s t 0x7000 row 0x10 1 ∧ Only [] (objects [0x7000]) s t)
    ∧ (g.good = true → s.cell 0x7000 row 4 = 3 → kind = 3 ∧ recs = [] ∧ t = s)
    ∧ (g.good = true → s.cell 0x7000 row 4 = 1 → 0 < (g.seq + 2 ^ 32 - e) % 2 ^ 32 →
        ((g.seq + 2 ^ 32 - e) % 2 ^ 32 < 2 ^ 31 → kind = 2 ∧ recs = [] ∧ t.cell 0x7000 row 4 = 2)
        ∧ (2 ^ 31 ≤ (g.seq + 2 ^ 32 - e) % 2 ^ 32 → g.data.length ≤ (e + 2 ^ 32 - g.seq) % 2 ^ 32 → kind = 5 ∧ recs = [] ∧ t = s))

/-- O48. HOST_LINK_UP of a link in training, or in Detect with its port enabled, enters L0 with a width and rate that
the settings in force allow, counts in :13 and applies the port's map; below x4 it stays in Detect. LINK_STATE_CHANGE
moves between L0, L0p, L1 and L2; only L0p reads a reduced width. A host-face reset frees every tag, clears state,
width and rate and counts in :14; after a hot reset or the loss of the data link an enabled port trains again.
HOST_PORT_DISABLE resets the port, HOST_PORT_ENABLE and PERST_N deasserted start training, which takes the written
settings. Writes of a tenant's enable, host port and uplink store their values, and :05 says whether the map is
pending. VF_ENABLE names the VFs that exist, and none without ARI Capable Hierarchy. -/
def Obligations.HostPortsAndTenantMaps : Prop :=
  (∀ (s : State) (hp : HostPort) (p : Nat) (now : LinkSetup), p = hpNo hp →
    now = { width := s.ob (hostIx p) 2, rate := s.ob (hostIx p) 3, clock := s.ob (hostIx p) 4, l0p := s.ob (hostIx p) 6 } →
    (∀ (width rate : Nat) (f : LinkSetup), (s.hport p).perst = false → s.ob (hostIx p) 1 ≠ 0 → (s.link p = 0 ∨ s.link p = 5) →
      s.devState ≠ 0 → s.flt.deadLinks.contains 0 = false → f = (if s.link p = 0 then now else (s.hport p).inForce) →
      ((width = 4 ∨ width = 8 ∨ width = 16) → width ≤ f.width → 1 ≤ rate → rate ≤ f.rate →
        ∃ t : State, exec (.hostLinkUp hp width rate) s = .next t ∧ t.link p = 1 ∧ t.ob (hostIx p) 0x11 = width
          ∧ t.ob (hostIx p) 0x12 = rate ∧ (t.hport p).trained = width ∧ countsUp s t (hostIx p) 0 0x13 1
          ∧ t.ob (hostIx p) 0x17 = 0 ∧ t.ob (hostIx p) 0x16 = (t.hport p).mapped.length
          ∧ ∀ k ∈ (t.hport p).mapped, t.ob (tenantIx k) 3 = p + 1 ∧ t.ob (tenantIx k) 4 = 0)
      ∧ (width < 4 → ∃ t : State, exec (.hostLinkUp hp width rate) s = .next t ∧ t.link p = 0
          ∧ t.ob (hostIx p) 0x13 = s.ob (hostIx p) 0x13))
    ∧ (s.configLive p = true →
      (∃ t : State, exec (.linkStateChange hp .l0) s = .next t ∧ t.link p = 1 ∧ t.ob (hostIx p) 0x11 = (s.hport p).trained)
      ∧ (∀ n, (s.hport p).inForce.l0p = 1 → (n = 8 ∨ n = 4) → n < (s.hport p).trained →
        ∃ t : State, exec (.linkStateChange hp (.l0p n)) s = .next t ∧ t.link p = 2 ∧ t.ob (hostIx p) 0x11 = n
          ∧ Only [] (pages 0x71 0x8F) s t)
      ∧ (∃ t : State, exec (.linkStateChange hp .l1) s = .next t ∧ t.link p = 3 ∧ t.ob (hostIx p) 0x11 = (s.hport p).trained
          ∧ Only [] (pages 0x71 0x8F) s t)
      ∧ (s.pwr.vaux = true →
        ∃ t : State, exec (.linkStateChange hp .l2) s = .next t ∧ t.link p = 4 ∧ t.ob (hostIx p) 0x11 = (s.hport p).trained
          ∧ Only [] (pages 0x71 0x8F) s t))
    ∧ (∀ why, ∃ t : State, exec (.hostFaceReset hp why) s = .next t ∧ t.tags p = [] ∧ countsUp s t (hostIx p) 0 0x14 1
      ∧ t.ob (hostIx p) 0x11 = 0 ∧ t.ob (hostIx p) 0x12 = 0
      ∧ (why = .perst ∨ why = .linkDisable → t.link p = 0) ∧ (why = .perst → (t.hport p).perst = true)
      ∧ (why = .hotReset ∨ why = .dlDown → t.link p = if s.ob (hostIx p) 1 = 1 ∧ (s.hport p).perst = false then 5 else 0))
    ∧ ((s.hport p).perst = true → ∃ t : State, exec (.perstDeassert hp) s = .next t ∧ (t.hport p).perst = false
      ∧ (s.ob (hostIx p) 1 = 1 → t.link p = 5 ∧ (t.hport p).inForce = now) ∧ (s.ob (hostIx p) 1 ≠ 1 → t.link p = s.link p)
      ∧ Only [.hst] (pages 0x71 0x8F) s t)
    ∧ (∀ n, s.configLive p = true → (s.func (p + 1)).inFlr = false →
      ∃ t : State, exec (.vfEnable hp n) s = .next t
        ∧ (bit (s.config (p + 1) (capSriov + 8)) 4 = false → t.ob (hostIx p) 0x17 = s.ob (hostIx p) 0x17)
        ∧ (bit (s.config (p + 1) (capSriov + 8)) 4 = true → t.ob (hostIx p) 0x17 = min n (s.hport p).mapped.length
          ∧ (t.hport p).vfOn = true
          ∧ ∀ k r, (s.hport p).mapped = k :: r → 1 ≤ n → k < 4096 → s.ob (tenantIx k) 3 = p + 1 → s.ob (tenantIx k) 4 = 0 →
            t.ob (tenantIx k) 4 = 1)))
  ∧ (∀ (s u : State) (v : Via) (hp : HostPort) (p : Nat), p = hpNo hp → u.startState = stOk →
    (WriteRuns s v (hostIx p) 0 1 [0] u →
      ∃ t : State, exec (.hostPortDisable v hp) s = .next (t.answer v (hostIx p) 1 stOk []) ∧ t.ob (hostIx p) 1 = 0
      ∧ (u.ob (hostIx p) 1 = 1 → t.link p = 0 ∧ t.tags p = []))
    ∧ (WriteRuns s v (hostIx p) 0 1 [1] u →
      ∃ t : State, exec (.hostPortEnable v hp) s = .next (t.answer v (hostIx p) 1 stOk []) ∧ t.ob (hostIx p) 1 = 1
      ∧ (u.ob (hostIx p) 1 = 0 → (u.hport p).perst = false → t.link p = 5)))
  ∧ ∀ (s u : State) (v : Via) (k : Tenant) (data : Bytes), k.val ≠ 0 → u.startState = stOk →
    (WriteRuns s v (tenantIx k.val) 0 1 data u → (tenantRule k.val 1).check u v (ofBE data) = stOk →
      ∃ t : State, exec (.tenantEnableWrite v k data) s = .next (t.answer v (tenantIx k.val) 1 stOk [])
        ∧ t.ob (tenantIx k.val) 1 = ofBE data ∧ t.ob (tenantIx k.val) 5
          = (if (if ofBE data = 0 then 0 else u.ob (tenantIx k.val) 2) ≠ u.ob (tenantIx k.val) 3 then 1 else 0)
        ∧ Only [] (fields (tenantIx k.val) 0 [1, 5]) u t)
    ∧ (WriteRuns s v (tenantIx k.val) 0 2 data u → (tenantRule k.val 2).check u v (ofBE data) = stOk →
      ∃ t : State, exec (.tenantHostPortWrite v k data) s = .next (t.answer v (tenantIx k.val) 2 stOk [])
        ∧ t.ob (tenantIx k.val) 2 = ofBE data ∧ t.ob (tenantIx k.val) 5
          = (if (if u.ob (tenantIx k.val) 1 = 0 then 0 else ofBE data) ≠ u.ob (tenantIx k.val) 3 then 1 else 0)
        ∧ Only [] (fields (tenantIx k.val) 0 [2, 5]) u t)
    ∧ ∀ target, WriteRuns s v (tenantIx k.val) 0 (if target then 7 else 6) data u →
      (uplinkRule k.val (if target then 7 else 6)).check u v (ofBE data) = stOk →
      ∃ t : State, exec (.uplinkWrite v k target data) s = .next (t.answer v (tenantIx k.val) (if target then 7 else 6) stOk [])
        ∧ t.ob (tenantIx k.val) (if target then 7 else 6) = ofBE data
        ∧ Only [] (fields (tenantIx k.val) 0 [if target then 7 else 6]) u t

/-- O49. A successful completion on an outstanding tag counts the bytes of its request in :1E, a failed one counts in
:1D; one that nothing waits for counts in :1C and leaves the tags. A timeout counts in :1B and quarantines the tag for
twice the function's timeout; TAG_QUARANTINE_END gives it back. Clearing Bus Master Enable halts the function's
queues; D_STATE_CHANGE sets the D-state; FLR puts the function, a PF0 with every VF of its port, into its reset;
FLR_COMPLETE takes it out in D0, with 0x8000+t:0D counted for a VF. -/
def Obligations.FunctionsReadResetAndSleep : Prop :=
  (∀ (s : State) (hp : HostPort) (p tag : Nat), p = hpNo hp →
    (∀ x, (s.tags p).find? (fun t => t.tag == tag) = some x → x.quarantine = none →
      (∀ data, ∃ t : State, exec (.completionReceived hp tag .success data) s = .next t ∧ countsUp s t (hostIx p) 0 0x1E x.len)
      ∧ ∀ st data, st ≠ .success →
        ∃ t : State, exec (.completionReceived hp tag st data) s = .next t ∧ countsUp s t (hostIx p) 0 0x1D 1)
    ∧ (∀ st data, (∀ x ∈ s.tags p, x.tag = tag → x.quarantine ≠ none) →
      ∃ t : State, exec (.completionReceived hp tag st data) s = .next t ∧ countsUp s t (hostIx p) 0 0x1C 1
        ∧ t.hst.tags = s.hst.tags ∧ t.hst.reads = s.hst.reads)
    ∧ (∀ x, (s.tags p).find? (fun t => t.tag == tag && t.quarantine.isNone) = some x → x.sent + s.timeoutOf x.master ≤ s.now →
      ∃ t : State, exec (.completionTimeout hp tag) s = .next t ∧ countsUp s t (hostIx p) 0 0x1B 1
        ∧ ∃ y ∈ t.tags p, y.tag = tag ∧ y.quarantine = some (s.now + 2 * s.timeoutOf x.master))
    ∧ ((s.tags p).any (fun t => t.tag == tag && t.quarantine.any (· ≤ s.now)) = true →
      ∃ t : State, exec (.tagQuarantineEnd hp tag) s = .next t
        ∧ (NMap.at [] s.hst.waits p = [] → t.tags p = (s.tags p).filter (fun x => x.tag != tag))
        ∧ Only [.hst, .out] (pages 0x71 0x8F) s t))
  ∧ (∀ (s : State) (f : Func) (m : Nat), s.funcThere f = some m →
    ((s.func m).busMaster = true →
      ∃ t : State, exec (.busMasterEnableClear f) s = .next t ∧ (t.func m).busMaster = false ∧ (t.func m).halted = true)
    ∧ (∀ d, (s.func m).dstate ≠ d → (d = .d3cold → m ≤ 2) →
      ∃ t : State, exec (.dStateChange f d) s = .next t ∧ (t.func m).dstate = d)
    ∧ ∃ t : State, exec (.flr f) s = .next t ∧ (t.func m).inFlr = true
      ∧ (m ≤ 2 → ∀ x ∈ s.functions (m - 1), (t.func x).inFlr = true))
  ∧ ∀ (s : State) (f : Func) (m : Nat), m = ownerOf f → m < 0x2000 → (s.func m).inFlr = true →
    ∃ t : State, exec (.flrComplete f) s = .next t ∧ t.func m = {} ∧ (2 < m → countsUp s t (tenantIx (m - 0x1000)) 0 0xD 1)

/-- O50. SEND_COMMIT with 1 appends the stage of a slot bound to a channel with room, as a notice with the channel's
next sequence number, reads OK in LAST and counts in 0x9000:0C; a full channel reads FULL and counts in :0D, an
unbound slot reads UNBOUND. RECEIVE_LATCH shows the head notice and leaves the channel; POP of its sequence number
removes it, POP of another leaves the channel; FLUSH removes the stale ones. Other channels keep their notices.
BINDING_LOCK of 1 locks the table. -/
def Obligations.NoticesAreSentLatchedAndPopped : Prop :=
  (∀ (s : State) (f : Func) (slot : RingNo) (val : Word) (o : Nat), s.slotOwner f = some o →
    (∀ ch, bit val.toNat 0 = true → s.sendChannel o slot.val = some ch →
      ((s.channel ch).notices.length < 16 →
        ∃ t : State, ∃ x, exec (.sendCommit f slot val) s = .next t ∧ (t.channel ch).notices = (s.channel ch).notices ++ [x]
          ∧ (t.channel ch).nextSeq = ((s.channel ch).nextSeq + 1) % 65536 ∧ x.seq = (s.channel ch).nextSeq
          ∧ x.w0 = s.reg o (slotOff slot.val 0) ∧ x.w1 = s.reg o (slotOff slot.val 4) ∧ x.w2 = s.reg o (slotOff slot.val 8)
          ∧ x.w3 = s.reg o (slotOff slot.val 12) ∧ t.regBits o (slotOff slot.val 0x14) 1 0 = 0
          ∧ countsUp s t 0x9000 ch 0xC 1 ∧ (∀ c, c ≠ ch → t.channel c = s.channel c))
      ∧ (16 ≤ (s.channel ch).notices.length →
        ∃ t : State, exec (.sendCommit f slot val) s = .next t ∧ t.regBits o (slotOff slot.val 0x14) 1 0 = 1
          ∧ countsUp s t 0x9000 ch 0xD 1 ∧ ∀ c, t.channel c = s.channel c))
    ∧ (bit val.toNat 0 = true → s.sendChannel o slot.val = none →
      ∃ t : State, exec (.sendCommit f slot val) s = .next t ∧ t.regBits o (slotOff slot.val 0x14) 1 0 = 2 ∧ Only [.regs] noField s t)
    ∧ ∀ ch x r, s.recvChannel o slot.val = some ch → (s.channel ch).notices = x :: r →
      (∃ t : State, exec (.receiveLatch f slot) s = .next t ∧ t.reg o (slotOff slot.val 0x40) = x.w0
        ∧ t.reg o (slotOff slot.val 0x4C) = x.w3 ∧ t.regBits o (slotOff slot.val 0x5C) 0 0 = 1
        ∧ t.out = .regRead (ownerOf f) (slotOff slot.val 0x40) x.w0.toNat :: s.out ∧ Only [.regs, .out] noField s t)
      ∧ (x.seq = val.toNat % 65536 →
        ∃ t : State, exec (.pop f slot val) s = .next t ∧ (t.channel ch).notices = r ∧ (t.channel ch).nextSeq = (s.channel ch).nextSeq
          ∧ (∀ c, c ≠ ch → t.channel c = s.channel c))
      ∧ (x.seq ≠ val.toNat % 65536 →
        ∃ t : State, exec (.pop f slot val) s = .next t ∧ t.regBits o (slotOff slot.val 0x5C) 1 1 = 1 ∧ Only [.regs] noField s t)
      ∧ (bit val.toNat 0 = true →
        ∃ t : State, exec (.flush f slot val) s = .next t
          ∧ (t.channel ch).notices = (s.channel ch).notices.filter (fun x => x.epoch == s.epoch o)
          ∧ (∀ c, c ≠ ch → t.channel c = s.channel c)))
  ∧ ∀ (s u : State) (v : Via) (data : Bytes), WriteRuns s v 0x9001 0 1 data u → u.startState = stOk → ofBE data = 1 →
    ∃ t : State, exec (.bindingLock v data) s = .next (t.answer v 0x9001 1 stOk []) ∧ t.ob 0x9001 1 = 1
      ∧ (u.ob 0x9001 1 = 0 → t.ob 0x9001 3 = u.tai) ∧ Only told (orLoud (fields 0x9001 0 [1, 3])) u t

/-- O51. An edge at an IDLE edge source, or an input at an IDLE level source, makes it PENDING and counts in
0x9100:0B; a further edge counts in :0C; the withdrawal of a PENDING level source makes it IDLE, and it is not
delivered. An edge at an ACTIVE source makes it ACTIVE_PENDING; a level input that is withdrawn or asserted leaves it
ACTIVE. CLAIM of a context with a source at its floor makes the best one ACTIVE, returns it and counts; with none it
returns 0. COMPLETE by the claiming context ends it: IDLE, or PENDING from ACTIVE_PENDING or with the input asserted.
Any other COMPLETE, or one of a source not ACTIVE, changes no source (but 0x7A3, which a log record raises), counts in
0x9101:05 and is logged as 0x0807 at most once a second. SET_PENDING of an IDLE software source in 0xE00 to 0xFFE by a
thread makes it PENDING; outside the range, or by a PF0 that may not, it counts in 0x9101:06. Formalises R276. -/
def Obligations.SourcesArePendingActiveAndIdle : Prop :=
  (∀ (s : State) (id : Fin 4096),
    (s.srcState id.val = 0 → (s.cell 0x9100 id.val 4 = 2 ∨ (s.cell 0x9100 id.val 4 = 1 ∧ s.rng.levels.contains id.val = false)) →
      ∃ t : State, exec (.sourceAssert id) s = .next t ∧ t.srcState id.val = 1 ∧ countsUp s t 0x9100 id.val 0xB 1
        ∧ (∀ k, k < 4096 → k ≠ id.val → t.srcState k = s.srcState k) ∧ Only [.hst, .rng, .thr, .out] (objects [0x9100, 0x93F0, 0x9400]) s t)
    ∧ (s.cell 0x9100 id.val 4 = 1 → s.srcState id.val = 1 →
      ∃ t : State, exec (.levelWithdrawn id) s = .next t ∧ t.srcState id.val = 0 ∧ t.rng.levels.contains id.val = false
        ∧ (∀ ctx floor, t.select ctx floor ≠ some id.val)
        ∧ (∀ k, k < 4096 → k ≠ id.val → t.srcState k = s.srcState k) ∧ Only [.hst, .rng, .thr, .out] (objects [0x9100, 0x93F0, 0x9400]) s t)
    ∧ (s.cell 0x9100 id.val 4 = 2 → s.srcState id.val = 1 →
      ∃ t : State, exec (.sourceAssert id) s = .next t ∧ countsUp s t 0x9100 id.val 0xC 1 ∧ Only [] (fields 0x9100 id.val [0xC]) s t)
    ∧ (s.cell 0x9100 id.val 4 = 2 → s.srcState id.val = 2 →
      ∃ t : State, exec (.sourceAssert id) s = .next t ∧ t.srcState id.val = 3 ∧ Only [.rng] (fields 0x9100 id.val [0xA]) s t)
    ∧ (s.cell 0x9100 id.val 4 = 1 → s.srcState id.val = 2 →
      (∃ t : State, exec (.levelWithdrawn id) s = .next t ∧ t.rng.levels.contains id.val = false ∧ Only [.rng] noField s t)
      ∧ ∃ t : State, exec (.sourceAssert id) s = .next t ∧ t.rng.levels.contains id.val = true ∧ Only [.rng] noField s t))
  ∧ (∀ (s : State) (c : EvCtx), s.ctxLive c = true →
    (∀ id, s.select (ctxNo c) (s.claimFloor (ctxNo c)) = some id → id < 4096 →
      ∃ t : State, exec (.claim c) s = .next t ∧ t.srcState id = 2 ∧ countsUp s t 0x9101 0 1 1
        ∧ NMap.at 0 t.rng.claimed id = ctxNo c + 1
        ∧ (match c with
          | .thread n => Output.thread n.val id 0
          | .pf0 p => Output.regRead (portMaster p) 0x800000 id) ∈ t.out)
    ∧ (s.select (ctxNo c) (s.claimFloor (ctxNo c)) = none → s.rng.delivered.contains (ctxNo c) = false →
      ∃ t : State, exec (.claim c) s = .next t ∧ countsUp s t 0x9101 0 1 1 ∧ (∀ k, t.srcState k = s.srcState k)
        ∧ (match c with
          | .thread n => Output.thread n.val 0 0
          | .pf0 p => Output.regRead (portMaster p) 0x800000 0) ∈ t.out)
    ∧ (∀ id, id < 4096 → 2 ≤ s.srcState id → NMap.at 0 s.rng.claimed id = ctxNo c + 1 →
      ∃ t : State, exec (.complete c id) s = .next t
        ∧ t.srcState id = (if s.srcState id = 3 ∨ s.rng.levels.contains id = true then 1 else 0)
        ∧ NMap.at 0 t.rng.claimed id = 0)
    ∧ ∀ id, NMap.at 0 s.rng.claimed id ≠ ctxNo c + 1 ∨ s.srcState id < 2 →
      ∃ t : State, exec (.complete c id) s = .next t ∧ countsUp s t 0x9101 0 5 1 ∧ t.rng.claimed = s.rng.claimed
        ∧ (∀ k, k < 4096 → k ≠ 0x7A3 → t.srcState k = s.srcState k)
        ∧ (∀ l, s.log.limits.find? (fun l => l.code == 0x0807 && l.key == 0) = some l → s.now - l.last < 1000000000 →
          t.log.staged = s.log.staged)
        ∧ (s.log.limits.find? (fun l => l.code == 0x0807 && l.key == 0) = none → s.log.staged.length < 4096 →
          t.log.staged.head?.map (fun e => (e.code, e.data)) = some (0x0807, [ctxNo c, id])))
  ∧ ∀ (s : State) (id : Nat),
    (∀ n : Thread, within 0xE00 0xFFE id = true → s.cell 0x9100 id 4 ≠ 0 → s.srcState id = 0 →
      ∃ t : State, exec (.setPending (.thread n) id) s = .next t ∧ t.srcState id = 1 ∧ countsUp s t 0x9100 id 0xB 1)
    ∧ (∀ n : Thread, within 0xE00 0xFFE id = false →
      ∃ t : State, exec (.setPending (.thread n) id) s = .next t ∧ countsUp s t 0x9101 0 6 1)
    ∧ ∀ p : HostPort, s.funcLive (portMaster p) = true → s.maySetPend (portMaster p) = false →
      ∃ t : State, exec (.setPending (.pf0 p) id) s = .next t ∧ countsUp s t 0x9101 0 6 1

/-- O52. A running thread: WAIT for bits that are set takes them and returns at once, else it waits with its mask and
deadline; JOIN of an exited child returns its code and frees it; SIGNAL sets bits of a live thread, and one that waits
for a bit of them becomes READY; FORK starts the first free thread in the order of R289 with role 5; EXIT leaves it
exited or free. A deadline that has come makes a waiting thread READY. A long access stalls it. INTERRUPT_ENTRY saves
the running priority and takes the source's; INTERRUPT_EXIT restores it. -/
def Obligations.ThreadsWaitForkAndEnter : Prop :=
  ∀ (s : State) (n : Thread),
    (s.thSt n.val = 2 →
      (∀ (mask : Word) (dl : Nat), s.deadlineOf n.val dl = none → exec (.wait n mask dl) s = .next (s.emit (.thread n.val 0 6)))
      ∧ (∀ (mask : Word) (dl : Nat) (x : Option Nat) (got : Nat), s.deadlineOf n.val dl = some x →
        got = (s.thread n.val).events &&& mask.toNat →
        (got ≠ 0 → ∃ t : State, exec (.wait n mask dl) s = .next t ∧ Output.thread n.val got 0 ∈ t.out
          ∧ (t.thread n.val).events = (s.thread n.val).events ^^^ got ∧ (∀ k, k ≠ n.val → t.thread k = s.thread k)
          ∧ Only [.thr, .out] noField s t)
        ∧ (got = 0 → x.all (s.now < ·) = true → ∃ t : State, exec (.wait n mask dl) s = .next t ∧ t.thSt n.val = 4
          ∧ (t.thread n.val).waits = 1 ∧ (t.thread n.val).deadline = x ∧ t.cell 0x93F0 n.val 7 = mask.toNat))
      ∧ (∀ (child dl : Nat) (x : Option Nat), child < 256 → s.cell 0x93F0 child 9 = n.val → s.deadlineOf n.val dl = some x →
        (s.thSt child = 5 → ∃ t : State, exec (.join n child dl) s = .next t ∧ t.thSt child = 0
          ∧ Output.thread n.val (s.thread child).exitCode 0 ∈ t.out ∧ Only [.thr, .out] (objects [0x93F0, 0x9400]) s t)
        ∧ (s.thSt child ≠ 5 → (s.thread child).killed = false → x.all (s.now < ·) = true →
          ∃ t : State, exec (.join n child dl) s = .next t ∧ t.thSt n.val = 4 ∧ (t.thread n.val).waits = 2))
      ∧ (∀ (target : Nat) (bits : Word), target < 256 → s.thSt target ≠ 0 → s.thSt target ≠ 5 → s.thSt target ≠ 4 →
        ∃ t : State, exec (.signal n target bits) s = .next t
          ∧ (t.thread target).events = (s.thread target).events ||| bits.toNat % 2 ^ 31
          ∧ Output.thread n.val 0 0 ∈ t.out ∧ (∀ k, k ≠ target → t.thread k = s.thread k) ∧ Only [.thr, .out] noField s t)
      ∧ (∀ (target : Nat) (bits : Word), target < 256 → s.thSt target = 4 → (s.thread target).waits = 1 →
        ((s.thread target).events ||| bits.toNat % 2 ^ 31) &&& s.cell 0x93F0 target 7 ≠ 0 →
        ∃ t : State, exec (.signal n target bits) s = .next t ∧ (t.thSt target = 1 ∨ t.thSt target = 2)
          ∧ Output.thread n.val 0 0 ∈ t.out)
      ∧ (∀ (entry arg k : Nat) (priv : Bool), s.freeThread (n.val / 16) = some k →
        ∃ t : State, exec (.fork n entry arg priv) s = .next t ∧ (t.thSt k = 1 ∨ t.thSt k = 2) ∧ t.role k = 5
          ∧ t.cell 0x93F0 k 9 = n.val ∧ (t.thread k).entry = entry ∧ (t.thread k).arg = arg
          ∧ (t.thread k).privilege = (priv && s.privileged n.val) ∧ Output.thread n.val k 0 ∈ t.out)
      ∧ (∀ code : Word, ∃ t : State, exec (.exit n code) s = .next t ∧ (t.thSt n.val = 5 ∨ t.thSt n.val = 0))
      ∧ (∃ t : State, exec (.accessStall n) s = .next t ∧ t.thSt n.val = 3)
      ∧ (∀ id, s.deliverable n.val = some id → s.inPhase n.val 1 = false → s.inPhase n.val 2 = false →
        ∃ t : State, exec (.interruptEntry n) s = .next t ∧ t.cell 0x93F0 n.val 6 = s.cell 0x9100 id 6
          ∧ (t.thread n.val).saved = s.cell 0x93F0 n.val 6 :: (s.thread n.val).saved ∧ (t.thread n.val).phase = 1
          ∧ (t.thread n.val).phaseEnd = s.ps + 12800 ∧ countsUp s t 0x93F0 n.val 0xF 1 ∧ t.rng.delivered.contains n.val = true
          ∧ Only [.rng, .thr] (fields 0x93F0 n.val [6, 0xF]) s t)
      ∧ ∀ p r, (s.thread n.val).saved = p :: r → p < 256 → s.select n.val (p + 1) = none →
        ∃ t : State, exec (.interruptExit n) s = .next t ∧ t.cell 0x93F0 n.val 6 = p ∧ (t.thread n.val).saved = r
          ∧ (t.thread n.val).phase = 2 ∧ (t.thread n.val).phaseEnd = s.ps + 9600)
    ∧ (s.thSt n.val = 3 → (s.thread n.val).stopAsked = false →
      ∃ t : State, exec (.accessComplete n) s = .next t ∧ (t.thSt n.val = 1 ∨ t.thSt n.val = 2))
    ∧ (s.thSt n.val = 4 → (s.thread n.val).deadline.any (· ≤ s.now) = true →
      ∃ t : State, exec (.waitDeadline n) s = .next t ∧ (t.thSt n.val = 1 ∨ t.thSt n.val = 2))

/-- O53. THREAD_FAULT leaves a thread FAULTED with its cause. The supervisor restarts a faulted thread at its entry,
or releases it. With debug unlocked a thread other than the active supervisor can be stopped, resumed in its prior
state and killed; an executor's role can be restarted. QUIESCENT_STALL shows the waiting threads in 0x9400:04 and
counts. SUPERVISOR_SILENT marks the active supervisor silent, unless the record of it wakes it, and
SUPERVISOR_TAKEOVER makes C08.T00 the active supervisor. -/
def Obligations.ThreadsFaultStopAndRestart : Prop :=
  (∀ (s : State) (n : Thread),
    (∀ cause, 1 ≤ cause → cause ≤ 5 → 1 ≤ s.thSt n.val → s.thSt n.val ≤ 4 →
      ∃ t : State, exec (.threadFault n cause) s = .next t ∧ t.thSt n.val = 7 ∧ t.cell 0x93F0 n.val 0xA = cause)
    ∧ (s.thSt n.val = 7 → ∃ t : State, exec (.threadRestart n) s = .next t ∧ (t.thSt n.val = 1 ∨ t.thSt n.val = 2)
      ∧ countsUp s t 0x93F0 n.val 0xC 1 ∧ (t.thread n.val).entry = (s.thread n.val).entry ∧ (t.thread n.val).arg = (s.thread n.val).arg)
    ∧ (s.thSt n.val = 7 → ∃ t : State, exec (.threadRelease n) s = .next t ∧ t.thSt n.val = 0)
    ∧ (s.mayDebug n.val = true →
      (s.thSt n.val ∈ [1, 2, 4, 7] → ∃ t : State, exec (.threadStop n) s = .next t ∧ t.thSt n.val = 6 ∧ countsUp s t 0x9400 0 8 1
        ∧ (t.thread n.val).prior = (if s.thSt n.val = 2 then 1 else s.thSt n.val))
      ∧ (s.thSt n.val = 3 → ∃ t : State, exec (.threadStop n) s = .next t
        ∧ t.thread n.val = { s.thread n.val with stopAsked := true } ∧ Only [.thr] noField s t)
      ∧ (s.thSt n.val = 6 → ∃ t : State, exec (.threadResume n) s = .next t ∧ countsUp s t 0x9400 0 8 1
        ∧ ((s.thread n.val).prior = 1 ∨ (s.thread n.val).prior = 4 → t.thSt n.val = 1 ∨ t.thSt n.val = 2)
        ∧ ((s.thread n.val).prior = 7 → t.thSt n.val = 7))
      ∧ (s.thSt n.val = 6 → ∃ t : State, exec (.threadKill n) s = .next t ∧ t.thSt n.val = 0 ∧ countsUp s t 0x9400 0 9 1))
    ∧ (s.thSt n.val = 0 → s.role n.val = 4 → ∃ t : State, exec (.executorRestart n) s = .next t ∧ (t.thSt n.val = 1 ∨ t.thSt n.val = 2)))
  ∧ (∀ (s : State) (ns : List Nat), ns = (List.range 256).filter s.watched → s.thr.armed = true → ns ≠ [] →
    (∀ n ∈ ns, s.thSt n = 4) → s.thr.quietFrom + s.thr.window * 1000000 ≤ s.now →
    ∃ t : State, exec .quiescentStall s = .next t ∧ t.thr.armed = false ∧ t.ob 0x9400 4 = waiterBits ns ∧ countsUp s t 0x9400 0 3 1)
  ∧ ∀ s : State,
    (s.thSt (s.ob 0x9400 1) = 4 → (s.thread (s.ob 0x9400 1)).deadline = none → s.ob 0x9400 5 = 0 → s.ob 0x9400 1 ≠ 128 →
      (s.thread (s.ob 0x9400 1)).waitFrom + 10 * (s.thr.window * 1000000) ≤ s.now →
      ∃ t : State, exec .supervisorSilent s = .next t ∧ (t.ob 0x9400 5 = 1 ∨ t.thSt (s.ob 0x9400 1) = 2))
    ∧ (s.thr.backup = true → s.ob 0x9400 1 < 128 →
      (s.ob 0x9400 0x10 = 1 ∨ bit (s.thread 128).events 31 = true ∨ s.thSt (s.ob 0x9400 1) = 7) →
      ∃ t : State, exec .supervisorTakeover s = .next t ∧ t.ob 0x9400 1 = 128 ∧ t.role 128 = 1 ∧ t.thr.backup = false
        ∧ t.moved (s.ob 0x9400 1) = 128 ∧ countsUp s t 0x1402 0 8 1)

/-- O54. CELL_RELEASE of a placed cell whose release is due starts a run when none is in progress and its executor can
run it, else it counts an overrun in :0E; in SAFE_HOLD it only takes the release and, of an Active cell, sends the
frames of the last run again. CELL_RUN evaluates the blocks on the inputs that the release took, commits outputs and
states, counts in :0D and hands a frame for each template to the pipeline in Active, none otherwise. A mode write that
passes its checks is the mode asked for; UNLOAD of a cell in Track leaves it without image and place, in mode 1. -/
def Obligations.CellsAreReleasedAndRun : Prop :=
  (∀ (s : State) (c : Cell) (i : CellImage) (k n at_ : Nat), (s.cellDyn c.val).image = some i → s.placeOf c.val = some (k, n) →
    s.devState ≠ 0 → s.devState ≠ 4 → s.dueRelease c.val (s.cellDyn c.val) i = some at_ →
    (s.devState ≠ 3 → (s.cellDyn c.val).running = false → s.executorUp (16 * k + n) = true →
      ∃ t : State, exec (.cellRelease c) s = .next t ∧ (t.cellDyn c.val).running = true ∧ (t.cellDyn c.val).release = at_
        ∧ (t.cellDyn c.val).inputs = i.inputs.map s.slot ∧ (t.cellDyn c.val).image = some i
        ∧ (t.cellDyn c.val).runMode = t.ob (cellIx c.val) 5 ∧ t.thSt (16 * k + n) ≠ 4)
    ∧ (s.devState ≠ 3 → (s.cellDyn c.val).running = true ∨ s.executorUp (16 * k + n) = false →
      ∃ t : State, exec (.cellRelease c) s = .next t ∧ countsUp s t (cellIx c.val) 0 0xE 1 ∧ (t.cellDyn c.val).overran = true
        ∧ (t.cellDyn c.val).outs = (s.cellDyn c.val).outs ∧ (t.cellDyn c.val).running = (s.cellDyn c.val).running)
    ∧ (s.devState = 3 →
      ∃ t : State, exec (.cellRelease c) s = .next t ∧ (t.cellDyn c.val).release = at_
        ∧ (t.cellDyn c.val).running = (s.cellDyn c.val).running ∧ (t.cellDyn c.val).outs = (s.cellDyn c.val).outs
        ∧ (s.ob (cellIx c.val) 5 = 3 → (∀ x ∈ i.templates, s.admitted x.stream = true) →
          (s.cellDyn c.val).lastFrames.length = i.templates.length →
          (t.net.waiting.drop s.net.waiting.length).map (fun w => (w.source, w.stream))
            = i.templates.map fun x => (⟨2, c.val⟩, some x.stream))
        ∧ (s.ob (cellIx c.val) 5 ≠ 3 → Only [.cells] noField s t)))
  ∧ (∀ (s : State) (c : Cell) (i : CellImage) (k n : Nat), (s.cellDyn c.val).image = some i → s.placeOf c.val = some (k, n) →
    (s.cellDyn c.val).running = true → s.executorUp (16 * k + n) = true → s.devState ≠ 3 →
    ∃ t : State, exec (.cellRun c) s = .next t ∧ (t.cellDyn c.val).running = false
      ∧ (t.cellDyn c.val).outs = (s.computeRun c.val (s.cellDyn c.val) i).outs
      ∧ (t.cellDyn c.val).states = (s.computeRun c.val (s.cellDyn c.val) i).states ∧ countsUp s t (cellIx c.val) 0 0xD 1
      ∧ t.ob (cellIx c.val) 0x11 = (s.cellDyn c.val).release
      ∧ ((s.cellDyn c.val).runMode = 3 → (∀ x ∈ i.templates, s.admitted x.stream = true) →
        (t.net.waiting.drop s.net.waiting.length).map (fun w => (w.source, w.stream))
          = i.templates.map fun x => (⟨2, c.val⟩, some x.stream))
      ∧ ((s.cellDyn c.val).runMode ≠ 3 → t.net = s.net))
  ∧ ∀ (s u : State) (v : Via) (c : Cell) (data : Bytes), u.startState = stOk →
    (WriteRuns s v (cellIx c.val) 0 4 data u → (cellModeRule c.val).check u v (ofBE data) = stOk →
      ∃ t : State, exec (.cellModeWrite v c data) s = .next (t.answer v (cellIx c.val) 4 stOk []) ∧ t.ob (cellIx c.val) 4 = ofBE data
        ∧ Only [] (fields (cellIx c.val) 0 [4]) u t)
    ∧ (WriteRuns s v (cellIx c.val) 0 0x1A data u → ofBE data = 1 → u.ob (cellIx c.val) 5 = 1 →
      (u.cellDyn c.val).image.isSome = true →
      ∃ t : State, exec (.unload v c data) s = .next (t.answer v (cellIx c.val) 0x1A stOk []) ∧ (t.cellDyn c.val).image = none
        ∧ t.placeOf c.val = none ∧ t.ob (cellIx c.val) 2 = 0 ∧ t.ob (cellIx c.val) 4 = 1 ∧ t.ob (cellIx c.val) 5 = 1)

/-- O55. START of an idle channel by a master that may use it, when its setup names the mode and the host sides that
the command names: in range, in permitted spaces, with its buffer and its host ports, the channel is busy with that
operation and names the master; else it ends with RANGE, SPACE, BUFFER or HOST. A busy channel shows the refusal; a
master that may not is counted and changes nothing of the engine. A cycle makes at most one write access; one into
shared SRAM writes the next bytes there; no holding register overflows. DMA_DONE ends an operation whose bytes are all
made with its length, and a COMPARE that differs with the offset. DMA_ABORT ends with status 6 and what was made. A
write of the station channel count stores it. -/
def Obligations.DmaOperationsRunAndEnd : Prop :=
  (∀ (s : State) (m : Nat) (ch : Channel) (c : Instr) (mode : Nat) (d : Dma),
    ((c = .copy m ch (s.hostSource ch.val) ∧ mode = 1) ∨ (c = .fill m ch ∧ mode = 2)
      ∨ (c = .compare m ch (s.hostSource ch.val) (s.hostTarget ch.val) ∧ mode = 3)) →
    d = s.dmaSetup ch.val → dmaMode d = mode →
    ((s.dmaMay m ch.val 0x18).1 = true → s.dmaBusy ch.val = false → m < 2 ^ 32 → ∀ code,
      code = (if !dmaRange d then 1 else if !s.dmaSpaces (s.dmaThread ch.val) d then 2 else if (s.dmaBuffer ch.val d).isNone then 5
        else if (dmaHosts d).any (fun p => !s.mayIssue (p + 1)) then 3 else 0) →
      (code = 0 → ∃ t : State, exec c s = .next t ∧ t.dmaOp ch.val = some d ∧ t.dmaBusy ch.val = true
        ∧ t.regN 0 (dmaOff ch.val 0x2C) = m ∧ (∀ k, k ≠ ch.val → t.dmaOp k = s.dmaOp k))
      ∧ (code ≠ 0 → ∃ t : State, exec c s = .next t ∧ t.dmaBusy ch.val = false ∧ t.regBits 0 (dmaOff ch.val 0x20) 15 8 = code
        ∧ t.regN 0 (dmaOff ch.val 0x24) = 0 ∧ countsUp s t 0x9200 0 3 1 ∧ (∀ k, k ≠ ch.val → t.dmaOp k = s.dmaOp k)))
    ∧ ((s.dmaMay m ch.val 0x18).1 = true → s.dmaBusy ch.val = true →
      ∃ t : State, exec c s = .next t ∧ t.regBits 0 (dmaOff ch.val 0x20) 2 2 = 1 ∧ ∀ k, t.dmaOp k = s.dmaOp k)
    ∧ ((s.dmaMay m ch.val 0x18).1 = false →
      ∃ t : State, exec c s = .next t ∧ t.regs = s.regs ∧ t.dma = s.dma
        ∧ (if s.stationCh ch.val then countsUp s t 0x1303 0 0xF4 1 else countsUp s t 0x9200 0 5 1)))
  ∧ (∀ s : State,
    (s.dmaCycle.cell 0x9200 0 4 = s.cell 0x9200 0 4 ∨ ∃ ch ∈ List.range 32, (s.dmaOp ch).any (fun d =>
      dmaWrites d && decide (s.dmaCycle.cell 0x9200 0 4 = (s.cell 0x9200 0 4 + dmaDw d) % 256 ^ cellLen 0x9200 4)) = true)
    ∧ (∀ ch d, nextChannel s.dma.lastWrite (fun k => (s.dmaOp k).any dmaWrites) = some ch → s.dmaOp ch = some d → dmaDs d = 2 →
      dmaMode d = 1 → s.dmaCycle.loop = NMap.putBytes s.loop ((d.place true).at_ d.made) (d.source.hold.take (dmaDw d)))
    ∧ (∀ fits : Dma → Bool, fits = (fun d => decide (d.source.hold.length ≤ d.room) && decide (d.target.hold.length ≤ d.room)) →
      (∀ ch ∈ List.range 32, (s.dmaOp ch).all fits = true) → ∀ ch ∈ List.range 32, (s.dmaCycle.dmaOp ch).all fits = true)
    ∧ ∀ (ch : Channel) (d : Dma), s.dmaOp ch.val = some d →
      (∀ i, d.differs = some i → ∃ t : State, exec (.dmaDone ch) s = .next t ∧ t.dmaOp ch.val = none ∧ t.dmaBusy ch.val = false
        ∧ t.regBits 0 (dmaOff ch.val 0x20) 15 8 = 4 ∧ t.regN 0 (dmaOff ch.val 0x24) = i % 2 ^ 32 ∧ countsUp s t 0x9200 0 2 1
        ∧ t.loop = s.loop ∧ t.coreMem = s.coreMem)
      ∧ (d.differs = none → d.len ≤ d.made → ∃ t : State, exec (.dmaDone ch) s = .next t ∧ t.dmaOp ch.val = none
        ∧ t.dmaBusy ch.val = false ∧ t.regBits 0 (dmaOff ch.val 0x20) 15 8 = 0 ∧ t.regN 0 (dmaOff ch.val 0x24) = d.len % 2 ^ 32
        ∧ countsUp s t 0x9200 0 2 1)
      ∧ ∀ m, (s.dmaMay m ch.val 0x1C).1 = true → ∃ t : State, exec (.dmaAbort m ch) s = .next t ∧ t.dmaOp ch.val = none
        ∧ t.dmaBusy ch.val = false ∧ t.regBits 0 (dmaOff ch.val 0x20) 15 8 = 6
        ∧ t.regN 0 (dmaOff ch.val 0x24) = (if dmaMode d = 3 then 0 else d.made % 2 ^ 32) ∧ countsUp s t 0x9200 0 3 1
        ∧ (∀ k, k ≠ ch.val → t.dmaOp k = s.dmaOp k))
  ∧ ∀ (s u : State) (v : Via) (data : Bytes), WriteRuns s v 0x9200 0 1 data u → stationChannelsRule.check u v (ofBE data) = stOk →
    ∃ t : State, exec (.stationChannelsWrite v data) s = .next (t.answer v 0x9200 1 stOk []) ∧ t.ob 0x9200 1 = ofBE data
      ∧ (∀ ch, ch < 32 → 32 ≤ ch + ofBE data → t.ob 0x9200 (0x10 + ch) = 0) ∧ Only [] (objects [0x9200]) u t

/-- O56. A PTP message at a port with PTP counts in 0x1220:0C; with PTP off it only counts in :0E. A Sync keeps its
timestamp; its Follow_Up on a slave gives the offset: a measurement in 0x1200:05 where the instance is the source (a
step while ACQUIRING when it is beyond the threshold), else the instance's own in 0x1210:0C. Delay responses set the
delay in 0x1220:0B, requests are answered. A port state is shown in :0A; what is sent counts in :0D. A pulse is
remembered and takes the waiting seconds; one that does not come is forgotten; a lost core reference switches the
PLLs; REF10M presence stands in 0x1202:08. HOLDOVER that has lasted too long without a source ends in state 0. A
sensor in range that changes shows its reading. A trip enters SAFE_HOLD, with no run going on, and the exit returns to
the state before. -/
def Obligations.TimeSourcesAreFollowed : Prop :=
  (∀ (s : State) (p : PtpPort), s.ptpUp p.val = true →
    (∀ m, s.cell 0x1220 p.val 4 ≠ 0 → ∃ t : State, exec (.ptpMessage p m) s = .next t ∧ countsUp s t 0x1220 p.val 0xC 1)
    ∧ (∀ m, s.cell 0x1220 p.val 4 = 0 → ∃ t : State, exec (.ptpMessage p m) s = .next t ∧ countsUp s t 0x1220 p.val 0xE 1
      ∧ Only [] (fields 0x1220 p.val [0xE]) s t)
    ∧ (s.ptpOn p.val = true →
      (∃ t : State, exec (.ptpMessage p (.sync none)) s = .next t ∧ (t.ptpDyn p.val).got = some (s.rxStamp p.val)
        ∧ Only [.clk] (fields 0x1220 p.val [0xC]) s t)
      ∧ (∀ (o g : Nat) (off : Int), (s.ptpDyn p.val).got = some g → s.cell 0x1220 p.val 0xA = 5 →
        off = (g : Int) - o - (s.cell 0x1220 p.val 0xB + decI 32 (s.cell 0x1220 p.val 9)) * 65536 →
        (s.ob 0x1200 3 ≠ s.ptpInst p.val + 1 → ∃ t : State, exec (.ptpMessage p (.followUp o)) s = .next t
          ∧ t.cell 0x1210 (s.ptpInst p.val) 0xC = encI 64 (-off) ∧ (t.ptpDyn p.val).got = none
          ∧ (t.ptpDyn p.val).sync = some (o, g) ∧ t.clk.tai = s.clk.tai)
        ∧ (s.ob 0x1200 3 = s.ptpInst p.val + 1 → ∃ t : State, exec (.ptpMessage p (.followUp o)) s = .next t
          ∧ t.ob 0x1200 5 = encI 64 off ∧ t.cell 0x1210 (s.ptpInst p.val) 0xC = 0
          ∧ (s.ob 0x1200 1 = 1 → s.ob 0x1201 6 * 65536 < off.natAbs →
            t.clk.tai = ((s.clk.tai : Int) - off).toNat % (2 ^ 48 * secondQ) ∧ countsUp s t 0x1200 0 7 1)))
      ∧ (∀ (turn sent : Nat), (s.ptpDyn p.val).sent = some sent → s.ptpProfile p.val ≠ 2 →
        ∃ t : State, exec (.ptpMessage p (.pdelayResp turn)) s = .next t
          ∧ t.cell 0x1220 p.val 0xB = (((s.rxStamp p.val : Int) - sent - turn) / 2 / 65536).toNat % 2 ^ 32
          ∧ Only [.clk] (fields 0x1220 p.val [0xB, 0xC]) s t)
      ∧ (∀ (at_ t1 t2 t3 : Nat), (s.ptpDyn p.val).sent = some t3 → (s.ptpDyn p.val).sync = some (t1, t2) → s.ptpProfile p.val = 2 →
        ∃ t : State, exec (.ptpMessage p (.delayResp at_)) s = .next t
          ∧ t.cell 0x1220 p.val 0xB = ((((t2 : Int) - t1) + ((at_ : Int) - t3)) / 2 / 65536).toNat % 2 ^ 32
          ∧ Only [.clk] (fields 0x1220 p.val [0xB, 0xC]) s t)
      ∧ (∀ src seq, s.ptpProfile p.val ≠ 2 → ∃ t : State, exec (.ptpMessage p (.pdelayReq src seq)) s = .next t
        ∧ countsUp s t 0x1220 p.val 0xD (if p.val < 1024 then 1 else 2))
      ∧ (∀ src seq, s.ptpProfile p.val = 2 → s.cell 0x1220 p.val 0xA = 2 →
        ∃ t : State, exec (.ptpMessage p (.delayReq src seq)) s = .next t ∧ countsUp s t 0x1220 p.val 0xD 1)
      ∧ (∀ utc, s.cell 0x1220 p.val 0xA = 5 → ∃ t : State, exec (.ptpMessage p (.announce utc)) s = .next t
        ∧ t.cell 0x1210 (s.ptpInst p.val) 0xD = encI 16 utc)
      ∧ (∀ st, ∃ t : State, exec (.ptpPortStateChange p st) s = .next t ∧ t.cell 0x1220 p.val 0xA = ptpCode st)
      ∧ (s.cell 0x1220 p.val 0xA = 2 → ∃ t : State, exec (.ptpSyncTransmit p) s = .next t
        ∧ countsUp s t 0x1220 p.val 0xD (if p.val < 1024 then 1 else 2)
        ∧ (p.val < 1024 → (t.net.waiting.drop s.net.waiting.length).map (fun w => (w.egress, w.queue)) = [(some p.val, 5)]))
      ∧ (s.ptpProfile p.val ≠ 2 → ∃ t : State, exec (.pdelayRequestTransmit p) s = .next t ∧ countsUp s t 0x1220 p.val 0xD 1
        ∧ (p.val < 1024 → (t.net.waiting.drop s.net.waiting.length).map (fun w => (w.egress, w.queue)) = [(some p.val, 5)])
        ∧ (1024 ≤ p.val → (t.ptpDyn p.val).sent = some (s.txStamp p.val s.ps)))))
  ∧ (∀ (s u : State) (v : Via) (data : Bytes), WriteRuns s v 0x1202 0 3 data u → u.startState = stOk →
    ∃ t : State, exec (.nextPpsSecondsWrite v data) s = .next (t.answer v 0x1202 3 stOk []) ∧ t.clk.ppsNext = some (ofBE data)
      ∧ Only [.clk] noField u t)
  ∧ (∀ s : State,
    (∃ t : State, exec .ppsEdge s = .next t ∧ t.clk.ppsLast = some s.now ∧ t.clk.ppsHere = true
      ∧ (s.ob 0x1202 1 = 1 → s.clk.ppsNext.isSome = true → t.clk.ppsNext = none ∧ t.clk.ppsTaken = true))
    ∧ (s.clk.ppsHere = true → s.clk.ppsLast.all (fun t => decide (t + 1000001000 < s.now)) = true →
      ∃ t : State, exec .ppsMissing s = .next t ∧ t.clk.ppsHere = false ∧ t.clk.ppsGood = false)
    ∧ (s.ob 0x1202 4 = 1 → ∃ t : State, exec .ppsOut s = .next t ∧ Output.pin "PPS_OUT" true ∈ t.out
      ∧ Only [.hst, .rng, .thr, .out] (objects [0x9100, 0x93F0, 0x9400]) s t)
    ∧ (∃ t : State, exec .ref10mPresent s = .next t ∧ t.ob 0x1202 8 = 1) ∧ (∃ t : State, exec .ref10mAbsent s = .next t ∧ t.ob 0x1202 8 = 0)
    ∧ (s.ob 0x1200 1 = 3 → s.clk.holdFrom + s.ob 0x1201 5 * 1000000000 ≤ s.now → s.firstSource = 0 →
      ∃ t : State, exec .holdoverLimit s = .next t ∧ t.ob 0x1200 1 = 0 ∧ t.ob 0x1200 3 = 0 ∧ t.timeValid = false)
    ∧ (∃ t : State, exec .timeCopyReload s = .next t ∧ t.clk = { s.clk with reloaded := s.tai } ∧ Only [.clk] noField s t)
    ∧ (s.ob 0x1203 2 ≤ 1 → s.coreRefHere (1 - s.ob 0x1203 2) = true → ∃ t : State, exec .coreReferenceLost s = .next t
      ∧ t.ob 0x1203 2 = 1 - s.ob 0x1203 2 ∧ countsUp s t 0x1203 0 3 1 ∧ Only told (orLoud (fields 0x1203 0 [2, 3])) s t)
    ∧ ∀ readings : List Int, ∃ t : State, exec (.temperatureSample readings) s = .next t
      ∧ (∀ i code, i < 26 → code = (readings.map (encI 16)).getD i 0 → s.clk.excluded.contains i = false →
          -480 ≤ decI 16 code → decI 16 code ≤ 1600 → code ≠ s.ob 0x1002 (2 + i) → t.ob 0x1002 (2 + i) = code)
      ∧ Only (.clk :: told) (orLoud (objects [0x1002])) s t)
  ∧ ∀ (s : State) (k : Fin 26),
    (s.pwr.inReset = false → s.devState < 3 → ∃ t : State, exec (.thermalTrip k) s = .next t ∧ t.devState = 3
      ∧ t.pwr.heldFrom = s.devState ∧ t.pwr.heldAt = s.now ∧ countsUp s t 0xB000 0 0x10 1 ∧ Output.pin "TRIP_N" false ∈ t.out
      ∧ (t.cells.any fun e => e.2.running) = false)
    ∧ (s.inHold = true → s.pwr.heldFrom ≠ 3 → s.clk.holdCool.any (fun t => decide (t + 1000000000 ≤ s.now)) = true →
      ∃ t : State, exec .safeHoldExit s = .next t ∧ t.devState = s.pwr.heldFrom ∧ countsUp s t 0xB000 0 0x11 (s.now - s.pwr.heldAt)
        ∧ Output.pin "TRIP_N" true ∈ t.out)

/-- O57. Each RAIL_ENABLE takes the next step of the sequence; a failure records the attempt, takes the rails off and
locks them at the third; a retry and a restart begin at the first step. A reset of a code of Table 15-2 leaves the
device in START with that code in 0x1300:02, the flash banks kept, and :03 countsUp (0 after POWER_ON). RESET_RELEASE
ends the reset: the newest usable bank boots, and with none the device is in FAULT; SERVICE_ENTRY enters SERVICE. A
watchdog write is remembered; its expiry is a reset of code 6. A hard reset request waits for its response; a warm one
commits first, and fails with the commit. -/
def Obligations.ResetsBeginAndAreReleased : Prop :=
  (∀ s : State,
    (∃ t : State, exec .powerOn s = .next t ∧ Restarted s t 1 ∧ t.pwr.vaux = true ∧ t.ob 0x1300 3 = 0)
    ∧ (∃ t : State, exec .vaux3v3Loss s = .next t ∧ Restarted s t 1 ∧ t.pwr.vaux = false ∧ t.ob 0x1300 3 = 0)
    ∧ (∃ t : State, exec .resetNAssert s = .next t ∧ Restarted s t 2 ∧ t.pwr.resetLow = true ∧ countsUp s t 0x1300 0 3 1)
    ∧ (s.pwr.pwrOk = true → ∃ t : State, exec .pwrOkLoss s = .next t ∧ Restarted s t 3 ∧ t.pwr.lossRec = some s.tai
      ∧ t.pwr.railStep = 0 ∧ countsUp s t 0x1300 0 3 1)
    ∧ (∀ cause, 4 ≤ cause → cause ≤ 7 → s.pwr.pendingReset = some cause →
      ∃ t : State, exec (.deviceReset cause) s = .next t ∧ Restarted s t cause ∧ countsUp s t 0x1300 0 3 1)
    ∧ (s.watchdogOut = true → ∃ t : State, exec .watchdogExpiry s = .next t ∧ Restarted s t 6 ∧ t.pwr.watchRec = some s.devState
      ∧ countsUp s t 0x1300 0 3 1)
    ∧ (∀ n : Thread, n.val = s.ob 0x9400 1 → s.thSt n.val = 2 → ∃ t : State, exec (.watchdogWrite n) s = .next t
      ∧ t.pwr = { s.pwr with watchdog := s.now } ∧ Only [.pwr] noField s t)
    ∧ (s.pwr.inReset = true → s.pwr.vaux = true →
      (s.pwr.lockout = false → s.pwr.railStep < 8 → ∃ t : State, exec .railEnable s = .next t
        ∧ t.pwr = { s.pwr with railStep := s.pwr.railStep + 1 } ∧ Only [.pwr, .out] noField s t)
      ∧ (s.pwr.railStep = 0 → 0 < s.pwr.seqTries → s.pwr.lockout = false → ∃ t : State, exec .sequenceRetry s = .next t
        ∧ t.pwr = { s.pwr with railStep := 1 } ∧ Only [.pwr, .out] noField s t)
      ∧ (s.pwr.railStep = 0 → s.pwr.lossRec.isSome = true → s.pwr.pwrOk = false → s.pwr.warnLow = false →
        ∃ t : State, exec .powerSequenceRestart s = .next t ∧ t.pwr = { s.pwr with railStep := 1 } ∧ Only [.pwr, .out] noField s t))
    ∧ (∀ rail status, s.pwr.inReset = true → s.pwr.railStep ≠ 0 → s.pwr.pwrOk = false →
      ∃ t : State, exec (.sequenceFailure rail status) s = .next t ∧ t.pwr.railStep = 0 ∧ t.pwr.seqTries = s.pwr.seqTries + 1
        ∧ t.pwr.lockout = decide (2 ≤ s.pwr.seqTries) ∧ Only [.pwr, .out] noField s t)
    ∧ (s.releasable = true → ∃ t : State, exec .resetRelease s = .next t ∧ t.pwr.inReset = false
      ∧ (s.pwr.attempts < 3 → (newest s.pwr.fwA s.pwr.fwB = none → t.devState = 4)
        ∧ ∀ n, newest s.pwr.fwA s.pwr.fwB = some n → t.pwr.booted = n))
    ∧ (s.pwr.inReset = false → s.devState = 0 → ∃ t : State, exec .serviceEntry s = .next t ∧ t.devState = 1 ∧ t.pwr.watchdog = s.now
      ∧ t.pwr.attempts = 0))
  ∧ ∀ (s u : State) (v : Via) (data : Bytes), WriteRuns s v 0x1300 0 1 data u → resetRule.check u v (ofBE data) = stOk →
    (ofBE data = 2 → ∃ t : State, exec (.hardResetRequest v data) s = .next (t.answer v 0x1300 1 stOk []) ∧ t.pwr.pendingReset = some 4
      ∧ Only [.pwr] noField u t)
    ∧ (ofBE data = 1 → ∃ t : State, exec (.warmResetRequest v data) s = .next (t.answer v 0x1300 1 stOk [])
      ∧ (t.ob 0x1301 5 ≤ cfgContent → t.pwr.commit.any (fun c => c.reset == some 5) = true ∧ t.ob 0x1300 8 = 1)
      ∧ (cfgContent < t.ob 0x1301 5 → t.pwr.commit = none ∧ t.ob 0x1301 2 = 3 ∧ t.ob 0x1301 9 = 1 ∧ t.ob 0x1300 8 = 0))

/-- O58. CONFIGURATION_COMMIT starts a commit, its bank no longer valid, or fails with cause 1 where the snapshot is
beyond the bank; a commit is one that COMMIT_END completes with the next sequence in its bank, or ends with its cause.
PROGRAM, PROGRAM_AND_ACTIVATE, ACTIVATE, SWITCH and DISCARD whose checks pass begin their work, and
FIRMWARE_PROGRAM_STEP takes the bank from erased through written and verified to activated. A supply warning flushes
the log and marks the device; its end measures it. A token that verifies unlocks debug and any other does not. The
core voltage moves by 5 mV, and alerts show their status words. -/
def Obligations.FlashIsCommittedAndProgrammed : Prop :=
  (∀ (s u : State) (v : Via),
    (∀ data, WriteRuns s v 0x1301 0 1 data u → commitRule.check u v (ofBE data) = stOk →
      ∃ t : State, exec (.configurationCommit v data) s = .next (t.answer v 0x1301 1 stOk [])
        ∧ (t.ob 0x1301 5 ≤ cfgContent → t.pwr.commit.any (fun c => c.reset.isNone && c.master == masterOf v) = true
          ∧ t.ob 0x1301 2 = 1 ∧ (t.cfgBank u.commitTarget).usable = false)
        ∧ (cfgContent < t.ob 0x1301 5 → t.pwr.commit = none ∧ t.ob 0x1301 2 = 3 ∧ t.ob 0x1301 9 = 1))
    ∧ (∀ x, WriteRuns s v 0x1302 0 2 (toBE 1 x) u → fwCommandRule.check u v x = stOk →
      (x = 1 → ∃ t : State, exec (.program v) s = .next (t.answer v 0x1302 2 stOk []) ∧ t.pwr.fwJob = some (1, u.otherBank) ∧ t.ob 0x1302 3 = 2)
      ∧ (x = 2 → ∃ t : State, exec (.activate v) s = .next (t.answer v 0x1302 2 stOk [])
        ∧ t.pwr.fwJob = u.inactive.map (fun n => (2, n)) ∧ u.inactive.isSome = true ∧ t.ob 0x1302 3 = 5)
      ∧ (x = 3 → ∃ t : State, exec (.programAndActivate v) s = .next (t.answer v 0x1302 2 stOk [])
        ∧ t.pwr.fwJob = some (3, u.otherBank) ∧ t.ob 0x1302 3 = 2)
      ∧ (x = 4 → ∃ t : State, exec (.switch v) s = .next (t.answer v 0x1302 2 stOk []) ∧ t.pwr.switching = some 1 ∧ t.ob 0x1302 3 = 7)
      ∧ (x = 5 → ∃ t : State, exec (.discard v) s = .next (t.answer v 0x1302 2 stOk []) ∧ t.pwr.staged = none ∧ t.ob 0x1302 3 = 0
        ∧ Only [.pwr] (fields 0x1302 0 [3, 0xB]) u t))
    ∧ (∀ token, WriteRuns s v 0x1300 0 0x11 token u → u.startState = stOk →
      ∃ t : State, exec (.debugUnlock (.dictionary v) token) s
          = .next (t.answer v 0x1300 0x11 (if u.tokenOk (toBE 128 (ofBE token)) then stOk else stRange) [])
        ∧ t.ob 0x1300 0x12 = (if u.tokenOk (toBE 128 (ofBE token)) then 1 else u.ob 0x1300 0x12)))
  ∧ ∀ s : State,
    (∀ token, s.pwr.inReset = false → ∃ t : State, exec (.debugUnlock .jtag token) s = .next t
      ∧ t.ob 0x1300 0x12 = (if s.tokenOk token then 1 else s.ob 0x1300 0x12)
      ∧ Only (.free :: told) (orLoud (fields 0x1300 0 [0x10, 0x12])) s t)
    ∧ (∀ c, s.pwr.commit = some c → s.pwr.warnLow = false → s.ob 0x1301 7 ≠ 1 → c.bank < 2 →
      ((s.cfgBank (1 - c.bank)).sequence < 0xFFFFFFFE → ∃ t : State, exec (.commitEnd none) s = .next t ∧ t.pwr.commit = none
        ∧ t.ob 0x1301 2 = 2 ∧ t.ob 0x1301 4 = c.bank ∧ (t.cfgBank c.bank).usable = true ∧ (t.cfgBank c.bank).cells = c.cells
        ∧ (t.cfgBank c.bank).sequence = (if (s.cfgBank (1 - c.bank)).usable then (s.cfgBank (1 - c.bank)).sequence + 1 else 1))
      ∧ ∀ cause, cause < 256 → ∃ t : State, exec (.commitEnd (some cause)) s = .next t ∧ t.pwr.commit = none ∧ t.ob 0x1301 2 = 3
        ∧ t.ob 0x1301 9 = cause)
    ∧ (∀ x n, s.pwr.fwJob = some (x, n) → n < 2 → s.pwr.warnLow = false →
      (s.ob 0x1302 3 = 2 → ∃ t : State, exec (.firmwareProgramStep none) s = .next t ∧ (t.fwBank n).state = 0xFE ∧ t.ob 0x1302 3 = 3)
      ∧ (s.ob 0x1302 3 = 3 → ∃ t : State, exec (.firmwareProgramStep none) s = .next t ∧ t.ob 0x1302 3 = 4)
      ∧ (s.ob 0x1302 3 = 4 → ∃ t : State, exec (.firmwareProgramStep none) s = .next t ∧ (t.fwBank n).state = 0xFC
        ∧ (t.fwBank n).good = true ∧ t.ob 0x1302 3 = 5 ∧ (x = 1 → t.pwr.fwJob = none))
      ∧ (s.ob 0x1302 3 = 5 → ∃ t : State, exec (.firmwareProgramStep none) s = .next t ∧ t.pwr.fwJob = none ∧ t.ob 0x1302 3 = 6
        ∧ (t.fwBank n).sequence = (s.fwBank s.pwr.booted).sequence + 1)
      ∧ ∀ cause, cause < 256 → ∃ t : State, exec (.firmwareProgramStep (some cause)) s = .next t ∧ t.pwr.fwJob = none
        ∧ t.ob 0x1302 3 = 8 ∧ t.ob 0x1302 0xC = cause)
    ∧ (∀ c, s.pwr.switching = some c → c < 16 →
      (∃ t : State, exec (.switchCoreDone true) s = .next t ∧ t.pwr.switching = none ∧ t.ob 0x1302 3 = 8)
      ∧ ∃ t : State, exec (.switchCoreDone false) s = .next t
        ∧ t.pwr.switching = (if c = 0 then none else if c = 15 then some 0 else some (c + 1)))
    ∧ (∃ t : State, exec .backgroundEraseDone s = .next t ∧ t.ob 0x1301 7 = 0
      ∧ (s.ob 0x1301 7 ≠ 0 → (t.cfgBank (1 - s.ob 0x1301 4)).usable = false))
    ∧ (s.pwr.warnLow = false → ∃ t : State, exec .supplyWarnAssert s = .next t ∧ t.pwr.warnLow = true ∧ t.pwr.warnFrom = s.now
      ∧ t.log.staged = [] ∧ countsUp s t 0xB000 0 8 1)
    ∧ (s.pwr.warnLow = true → ∃ t : State, exec .supplyWarnRelease s = .next t ∧ t.pwr.warnLow = false ∧ t.ob 0xB000 4 = 0)
    ∧ (∃ t : State, exec .logFlush s = .next t ∧ t.log.staged = []
      ∧ (s.log.staged.length + s.log.flash.length ≤ 2340864 → t.log.flash = s.log.staged ++ s.log.flash)
      ∧ Only [.log] (fields 0x1402 0 [0x10]) s t)
    ∧ (s.devState ≠ 0 → s.devState ≠ 4 → ∃ t : State, exec .imageBackup s = .next t
      ∧ t.backup = some (s.loop.filter fun e => decide (e.1 < 4194304)) ∧ Only [.backup] noField s t)
    ∧ (∀ sa, sa < 2 ^ 32 → NMap.at 0 s.cip.markWait sa ≠ 0 → NMap.at 0 s.cip.markWait sa < 2 ^ 64 →
      ∃ t : State, exec (.pnMarkWritten sa) s = .next t ∧ t.mark sa = NMap.at 0 s.cip.markWait sa ∧ NMap.at 0 t.cip.markWait sa = 0
      ∧ (∀ r, r ≠ sa → t.mark r = s.mark r) ∧ Only [.cip, .pwr] noField s t)
    ∧ (∀ lowest, s.devState ≠ 0 → s.devState ≠ 4 → s.pwr.avsOff = false → s.ob 0xB000 3 ≠ 0 → s.ob 0xB000 2 ≤ 800 →
      avsNext (s.ob 0xB000 2) lowest ≠ s.ob 0xB000 2 → ∃ t : State, exec (.avsStep lowest false) s = .next t
        ∧ t.ob 0xB000 2 = avsNext (s.ob 0xB000 2) lowest ∧ Output.pmbus 0x40 0x21 (avsNext (s.ob 0xB000 2) lowest) ∈ t.out
        ∧ Only [.pwr, .out] (fields 0xB000 0 [2]) s t)
    ∧ ∀ words, ∃ t : State, exec (.pmbusAlert words) s = .next t
        ∧ (∀ r, r < 9 → r < words.length → t.cell 0xB100 r 7 = words.getD r 0 % 65536) ∧ Only told (orLoud (objects [0xB100])) s t

/-- O59. A fault of a frame unit that serves a port holds the port; a fault of a cipher lane takes its role away; a
fault of a loop core marks the core failed: each is health 1 in 0x1401:06 and in recovery until its failover is
complete. Corrected errors count in :08, uncorrected ones of a unit in :09; one that a DMA channel finds ends its
operation with MEMORY, and one in the process image takes the backup's bytes. A ternary row, an entry and a link are
in repair until they return. A link that fails twice is retired; a failed HBM stack is marked. RECOVERY that lasts 100
ms asks for a warm reset. -/
def Obligations.FailedUnitsAreReplaced : Prop :=
  (∀ s : State,
    (∀ u : Fin 1088, s.unitGood u.val = true → ∃ t : State, exec (.frameUnitFault u) s = .next t ∧ t.health u.val = 1
      ∧ ∀ p, s.servedPort u.val = some p → (t.sched p).held = true ∧ (t.sched p).wire = none
        ∧ t.flt.recovering.contains u.val = true)
    ∧ (∀ p : Port, (s.sched p.val).held = true → ∃ t : State, exec (.failoverComplete p) s = .next t ∧ (t.sched p.val).held = false
      ∧ ∀ u ∈ (s.sched p.val).failed, t.flt.recovering.contains u = false)
    ∧ (∀ l : CipherLane, s.unitGood (laneRow l.val) = true → ∃ t : State, exec (.cipherLaneFault l) s = .next t
      ∧ t.health (laneRow l.val) = 1 ∧ t.cell 0x9311 l.val 4 = 4
      ∧ (s.cell 0x9311 l.val 4 ≠ 3 → t.flt.recovering.contains (laneRow l.val) = true))
    ∧ (∀ l : CipherLane, s.flt.recovering.contains (laneRow l.val) = true → ∃ t : State, exec (.cipherLaneRestartComplete l) s = .next t
      ∧ t.flt.recovering.contains (laneRow l.val) = false ∧ NMap.at none t.flt.taking l.val = none)
    ∧ (∀ c : Fin 16, s.unitGood (coreRow c.val) = true → ∃ t : State, exec (.loopCoreFault c) s = .next t
      ∧ t.health (coreRow c.val) = 1 ∧ t.ob 0x9400 (0x10 + c.val) = 1 ∧ t.flt.recovering.contains (coreRow c.val) = true)
    ∧ (∀ c : Fin 16, s.flt.recovering.contains (coreRow c.val) = true → s.ob 0x9400 1 / 16 ≠ c.val →
      ∃ t : State, exec (.loopCoreFailoverComplete c) s = .next t ∧ t.flt.recovering.contains (coreRow c.val) = false
        ∧ countsUp s t 0x1402 0 6 1)
    ∧ (∀ row : Fin 1148, ∃ t : State, exec (.correctableError row) s = .next t ∧ countsUp s t 0x1401 row.val 8 1)
    ∧ (∀ m : MemUnit, (∀ ch, m ≠ .dmaSource ch) → ∃ t : State, exec (.uncorrectableError m) s = .next t
      ∧ (∀ r, memRow m = some r → countsUp s t 0x1401 r 9 1) ∧ (∀ r, m = .ternaryRow r → t.flt.badRows.contains r = true)
      ∧ (∀ ix r, m = .actionRow ix r → t.reloads ix r = true)
      ∧ (∀ k, m = .imageSlot k → t.slot k.val = NMap.bytes (s.backup.getD []) (256 * k.val) 256))
    ∧ (∀ (ch : Channel) (m : MemUnit) (d : Dma), s.dmaSource ch.val = some m → s.dmaOp ch.val = some d →
      ∃ t : State, exec (.uncorrectableError (.dmaSource ch)) s = .next t ∧ t.dmaOp ch.val = none
        ∧ t.regBits 0 (dmaOff ch.val 0x20) 15 8 = 7 ∧ (∀ r, memRow m = some r → countsUp s t 0x1401 r 9 1))
    ∧ (∀ row, s.flt.badRows.contains row = true → ∃ t : State, exec (.ternaryRowRewrite row) s = .next t
      ∧ t.flt.badRows.contains row = false ∧ Only (.flt :: told) (orLoud noField) s t)
    ∧ (∀ ix row, ∃ t : State, exec (.entryReload (.actionRow ix row)) s = .next t ∧ t.reloads ix row = false ∧ Only [.flt] noField s t)
    ∧ (∀ row, row < 2 ^ 32 → s.reloads 0x3800 row = true → ∃ t : State, exec (.entryReload (.meterRow row)) s = .next t
      ∧ t.reloads 0x3800 row = false ∧ Only [.flt] (fields 0x3800 row [0x10, 0x11]) s t)
    ∧ (∀ k : Fin 5, s.flt.deadLinks.contains k.val = false → s.flt.training.contains k.val = false → ∀ lost,
      ∃ t : State, exec (.fabricLinkRepair k lost) s = .next t ∧ t.flt.training.contains k.val = true ∧ countsUp s t 0x1402 0 0xC lost)
    ∧ (∀ k : Fin 5, s.flt.training.contains k.val = true →
      (∃ t : State, exec (.fabricLinkRetrained k true) s = .next t ∧ t.flt.training.contains k.val = false ∧ countsUp s t 0x1402 0 7 1)
      ∧ (1 ≤ NMap.at 0 s.flt.retrains k.val → ∃ t : State, exec (.fabricLinkRetrained k false) s = .next t
        ∧ t.flt.deadLinks.contains k.val = true ∧ t.health (linkRow k.val) = 2))
    ∧ (∀ k : Fin 2, s.unitGood (hbmRow k.val) = true → ∃ t : State, exec (.hbmStackFailure k) s = .next t ∧ t.health (hbmRow k.val) = 1
      ∧ t.flt.deadHbm.contains k.val = true)
    ∧ (s.devState = 2 → s.flt.since + 100000000 ≤ s.now → s.pwr.pendingReset = none →
      ∃ t : State, exec .recoveryTimeout s = .next t
        ∧ (t.pwr.commit.any (fun c => c.reset == some 7) = true ∨ t.pwr.pendingReset = some 7))
    ∧ (∃ t : State, exec .scrub s = .next t ∧ t.flt = { s.flt with scrubbed := s.now } ∧ Only [.flt] noField s t)
    ∧ (∃ t : State, exec .availabilityUpdate s = .next t ∧ t.ob 0x1402 1 = s.serviceNs ∧ t.ob 0x1402 2 = s.outageNs
      ∧ t.flt.serviceQ = s.flt.serviceQ % 4 ∧ Only [.flt] (fields 0x1402 0 [1, 2, 3]) s t))

/-- O60. A change of the Fozon link is shown in 0xC000:03 and :04. With the pair on, a message from the partner makes
it PRESENT and shows what it says, one from another node changes nothing of it, and one is sent with the device's own
state; a partner that has been silent for 100 µs is LOST and counted. On a management lane that is UP a frame of the
device's own counts in :03 and is answered where it asks for an answer, counted in :05; any other, or one with a bad
check or below 64 bytes, counts in :04. -/
def Obligations.PairAndManagementMessages : Prop :=
  (∀ s : State,
    (∀ st width, st < 256 → width < 256 → (s.ob 0xC000 3 ≠ st ∨ s.ob 0xC000 4 ≠ width) →
      ∃ t : State, exec (.fozonLinkChange st width) s = .next t ∧ t.ob 0xC000 3 = st ∧ t.ob 0xC000 4 = width)
    ∧ (s.pairOn = true → ∃ t : State, exec .pairMessageSend s = .next t ∧ Only [.out] noField s t
      ∧ Output.pair ⟨s.ob 0x1010 1, s.devState, s.badUnits, s.ob 0x1301 3, s.ob 0x1000 5, s.tai, []⟩ ∈ t.out)
    ∧ (∀ m : PairMsg, s.pairOn = true → m.node = s.ob 0xC000 2 → ∃ t : State, exec (.pairMessage m) s = .next t ∧ t.ob 0xC000 5 = 1
      ∧ t.ob 0xC000 6 = m.devState % 256 ∧ t.ob 0xC000 9 = m.failed % 65536 ∧ t.flt.pairLast = s.now)
    ∧ (∀ m : PairMsg, s.pairOn = true → m.node ≠ s.ob 0xC000 2 → ∃ t : State, exec (.pairMessage m) s = .next t
      ∧ Only told (orLoud noField) s t ∧ ∀ k, within 5 0xA k = true → t.ob 0xC000 k = s.ob 0xC000 k)
    ∧ (s.ob 0xC000 5 = 1 → s.flt.pairLast + 100000 ≤ s.now → ∃ t : State, exec .partnerLost s = .next t ∧ t.ob 0xC000 5 = 2
      ∧ countsUp s t 0xC000 0 0xC 1))
  ∧ ∀ (s : State) (m : MgmtLane) (f : Bytes) (fcs : Nat) (l : Layer), s.ob (mgmtIx m) 2 = 4 → l = parseLayer f 0 →
    (60 ≤ f.length → crc32 f = fcs → ∀ k, s.deviceFrame l f = some k →
      ∃ t : State, exec (.managementFrameReceived m f fcs) s = .next t ∧ countsUp s t (mgmtIx m) 0 3 1
        ∧ (∀ x, k.reply (.mgmt m) l f = some x → Output.mgmt (mgmtNo m) x ∈ t.out ∧ countsUp s t (mgmtIx m) 0 5 1)
        ∧ (k.reply (.mgmt m) l f = none → Only [] (fields (mgmtIx m) 0 [3]) s t))
    ∧ (f.length < 60 ∨ crc32 f ≠ fcs ∨ s.deviceFrame l f = none →
      ∃ t : State, exec (.managementFrameReceived m f fcs) s = .next t ∧ countsUp s t (mgmtIx m) 0 4 1
        ∧ Only [] (fields (mgmtIx m) 0 [4]) s t)
end

