-- ==== Sys2Proof/Laws/Map.lean ====
section
/-! SUPPORT. Laws of the finite maps: a read after a write, and that every operation keeps the canonical form. -/

namespace Sys2Proof.Machine

variable {α : Type} {d : Nat → α}

/-- An unlisted key reads its default. -/
theorem NMap.get_of_not_mem (m : NMap α) (k : Nat) (h : ∀ e ∈ m, e.1 ≠ k) : NMap.get d m k = d k := by
  induction m with
  | nil => rfl
  | cons e m ih =>
    obtain ⟨a, v⟩ := e
    have ha : a ≠ k := h (a, v) (by simp)
    simp only [NMap.get, ha, if_false]
    exact ih fun e he => h e (by simp [he])

theorem NMap.get_erase_self (m : NMap α) (k : Nat) : NMap.get d (NMap.erase m k) k = d k :=
  NMap.get_of_not_mem _ _ fun e he => by simp [NMap.erase] at he; exact he.2

theorem NMap.get_erase_ne (m : NMap α) {k j : Nat} (h : j ≠ k) : NMap.get d (NMap.erase m k) j = NMap.get d m j := by
  induction m with
  | nil => rfl
  | cons e m ih =>
    obtain ⟨a, v⟩ := e
    by_cases ha : a = k
    · subst ha
      have hj : ¬ a = j := fun x => h x.symm
      simp only [NMap.erase, NMap.get, hj, if_false] at ih ⊢
      rw [List.filter_cons_of_neg (by simp)]
      exact ih
    · simp only [NMap.erase] at ih ⊢
      rw [List.filter_cons_of_pos (by simpa using ha)]
      simp only [NMap.get, ih]

theorem NMap.get_insert_self (m : NMap α) (k : Nat) (v : α) : NMap.get d (NMap.insert m k v) k = v := by
  induction m with
  | nil => simp [NMap.insert, NMap.get]
  | cons e m ih =>
    obtain ⟨a, w⟩ := e
    by_cases h1 : k < a
    · simp [NMap.insert, NMap.get, h1]
    · by_cases h2 : a = k
      · simp [NMap.insert, NMap.get, h2]
      · simp [NMap.insert, NMap.get, h1, h2, ih]

theorem NMap.get_insert_ne (m : NMap α) {k j : Nat} (v : α) (h : j ≠ k) :
    NMap.get d (NMap.insert m k v) j = NMap.get d m j := by
  have hk : ¬ k = j := fun x => h x.symm
  induction m with
  | nil => simp [NMap.insert, NMap.get, hk]
  | cons e m ih =>
    obtain ⟨a, w⟩ := e
    by_cases h1 : k < a
    · simp [NMap.insert, NMap.get, h1, hk]
    · by_cases h2 : a = k
      · subst h2; simp [NMap.insert, NMap.get, hk]
      · simp [NMap.insert, NMap.get, h1, h2, ih]

theorem NMap.mem_insert {m : NMap α} {k : Nat} {v : α} {e : Nat × α} (h : e ∈ NMap.insert m k v) :
    e = (k, v) ∨ e ∈ m := by
  induction m with
  | nil => simp [NMap.insert] at h; exact .inl h
  | cons f m ih =>
    obtain ⟨a, w⟩ := f
    unfold NMap.insert at h
    split at h
    · simpa using h
    · split at h
      · rcases List.mem_cons.1 h with h | h
        · exact .inl h
        · exact .inr (by simp [h])
      · rcases List.mem_cons.1 h with h | h
        · exact .inr (by simp [h])
        · rcases ih h with h | h
          · exact .inl h
          · exact .inr (by simp [h])

variable [DecidableEq α]

/-- A read of the key just written. -/
@[simp] theorem NMap.get_set_self (m : NMap α) (k : Nat) (v : α) : NMap.get d (NMap.set d m k v) k = v := by
  unfold NMap.set
  split
  · next h => rw [NMap.get_erase_self, h]
  · exact NMap.get_insert_self m k v

/-- A read of any other key. -/
theorem NMap.get_set_ne (m : NMap α) {k j : Nat} (v : α) (h : j ≠ k) :
    NMap.get d (NMap.set d m k v) j = NMap.get d m j := by
  unfold NMap.set
  split
  · exact NMap.get_erase_ne m h
  · exact NMap.get_insert_ne m v h

/-- A read after a write. -/
theorem NMap.get_set (m : NMap α) (k j : Nat) (v : α) :
    NMap.get d (NMap.set d m k v) j = if j = k then v else NMap.get d m j := by
  by_cases h : j = k
  · subst h; simp
  · simp [h, NMap.get_set_ne]

@[simp] theorem NMap.at_put_self (x : α) (m : NMap α) (k : Nat) (v : α) : NMap.at x (NMap.put x m k v) k = v :=
  NMap.get_set_self m k v

theorem NMap.at_put_ne (x : α) (m : NMap α) {k j : Nat} (v : α) (h : j ≠ k) :
    NMap.at x (NMap.put x m k v) j = NMap.at x m j := NMap.get_set_ne m v h

theorem NMap.at_put (x : α) (m : NMap α) (k j : Nat) (v : α) :
    NMap.at x (NMap.put x m k v) j = if j = k then v else NMap.at x m j := NMap.get_set m k j v

/-! ### The canonical form -/

theorem NMap.wf_cons {a : Nat} {v : α} {m : NMap α} :
    NMap.wf d ((a, v) :: m) = true ↔ v ≠ d a ∧ (∀ e ∈ m, a < e.1) ∧ NMap.wf d m = true := by
  simp [NMap.wf, and_assoc]

/-- Any selection of the entries is canonical again. -/
theorem NMap.wf_filter (p : Nat × α → Bool) {m : NMap α} (h : NMap.wf d m = true) : NMap.wf d (m.filter p) = true := by
  induction m with
  | nil => rfl
  | cons e m ih =>
    obtain ⟨a, v⟩ := e
    rw [NMap.wf_cons] at h
    by_cases hp : p (a, v) = true
    · rw [List.filter_cons_of_pos hp, NMap.wf_cons]
      exact ⟨h.1, fun e he => h.2.1 e ((List.mem_filter.1 he).1), ih h.2.2⟩
    · rw [List.filter_cons_of_neg hp]; exact ih h.2.2

theorem NMap.wf_erase {m : NMap α} (k : Nat) (h : NMap.wf d m = true) : NMap.wf d (NMap.erase m k) = true :=
  NMap.wf_filter _ h

theorem NMap.wf_insert {m : NMap α} (k : Nat) {v : α} (hv : v ≠ d k) (h : NMap.wf d m = true) :
    NMap.wf d (NMap.insert m k v) = true := by
  induction m with
  | nil => simp [NMap.insert, NMap.wf, hv]
  | cons f m ih =>
    obtain ⟨a, w⟩ := f
    have hc := NMap.wf_cons.1 h
    unfold NMap.insert
    split
    · next hk =>
      refine NMap.wf_cons.2 ⟨hv, fun e he => ?_, h⟩
      rcases List.mem_cons.1 he with he | he
      · subst he; exact hk
      · exact Nat.lt_trans hk (hc.2.1 e he)
    · next hk =>
      split
      · next ha => subst ha; exact NMap.wf_cons.2 ⟨hv, hc.2.1, hc.2.2⟩
      · next ha =>
        refine NMap.wf_cons.2 ⟨hc.1, fun e he => ?_, ih hc.2.2⟩
        rcases NMap.mem_insert he with he | he
        · subst he; exact Nat.lt_of_le_of_ne (Nat.le_of_not_lt hk) ha
        · exact hc.2.1 e he

/-- A write keeps the canonical form. -/
theorem NMap.wf_set {m : NMap α} (k : Nat) (v : α) (h : NMap.wf d m = true) : NMap.wf d (NMap.set d m k v) = true := by
  unfold NMap.set
  split
  · exact NMap.wf_erase k h
  · next hv => exact NMap.wf_insert k hv h

/-- A run of bytes keeps the canonical form: every write to a byte memory does. -/
theorem Memory.wf_putBytes (bs : Bytes) {m : NMap Byte} (a : Nat) (h : Memory.wf m = true) :
    Memory.wf (NMap.putBytes m a bs) = true := by
  induction bs generalizing m a with
  | nil => exact h
  | cons b bs ih => exact ih (a + 1) (NMap.wf_set a b h)

/-- Reading a byte outside a run written. -/
theorem NMap.at_putBytes_out (bs : Bytes) (m : NMap Byte) (a k : Nat) (h : k < a ∨ a + bs.length ≤ k) :
    NMap.at 0 (NMap.putBytes m a bs) k = NMap.at 0 m k := by
  induction bs generalizing m a with
  | nil => rfl
  | cons b bs ih =>
    have hk : k ≠ a := by simp at h; omega
    have h' : k < a + 1 ∨ a + 1 + bs.length ≤ k := by simp at h; omega
    exact (ih _ _ h').trans (NMap.at_put_ne 0 m b hk)

end Sys2Proof.Machine
end

