-- ==== Sys2Proof/Laws/State.lean ====
section
/-! SUPPORT. What each elementary update of the state leaves as it was: one lemma per update and field, and a read of
what an update wrote. -/

namespace Sys2Proof.Machine

variable (s : State)

/-! ### One field replaced -/

theorem State.pending_of_dict (x : NMap Nat) : State.pending { s with dict := x } = s.pending := rfl
theorem State.regs_of_dict (x : NMap Nat) : State.regs { s with dict := x } = s.regs := rfl
theorem State.loop_of_dict (x : NMap Nat) : State.loop { s with dict := x } = s.loop := rfl
theorem State.coreMem_of_dict (x : NMap Nat) : State.coreMem { s with dict := x } = s.coreMem := rfl
theorem State.backup_of_dict (x : NMap Nat) : State.backup { s with dict := x } = s.backup := rfl
theorem State.dwBuf_of_dict (x : NMap Nat) : State.dwBuf { s with dict := x } = s.dwBuf := rfl
theorem State.clk_of_dict (x : NMap Nat) : State.clk { s with dict := x } = s.clk := rfl
theorem State.acc_of_dict (x : NMap Nat) : State.acc { s with dict := x } = s.acc := rfl
theorem State.net_of_dict (x : NMap Nat) : State.net { s with dict := x } = s.net := rfl
theorem State.adm_of_dict (x : NMap Nat) : State.adm { s with dict := x } = s.adm := rfl
theorem State.cip_of_dict (x : NMap Nat) : State.cip { s with dict := x } = s.cip := rfl
theorem State.sto_of_dict (x : NMap Nat) : State.sto { s with dict := x } = s.sto := rfl
theorem State.hst_of_dict (x : NMap Nat) : State.hst { s with dict := x } = s.hst := rfl
theorem State.rng_of_dict (x : NMap Nat) : State.rng { s with dict := x } = s.rng := rfl
theorem State.thr_of_dict (x : NMap Nat) : State.thr { s with dict := x } = s.thr := rfl
theorem State.cells_of_dict (x : NMap Nat) : State.cells { s with dict := x } = s.cells := rfl
theorem State.dma_of_dict (x : NMap Nat) : State.dma { s with dict := x } = s.dma := rfl
theorem State.pwr_of_dict (x : NMap Nat) : State.pwr { s with dict := x } = s.pwr := rfl
theorem State.flt_of_dict (x : NMap Nat) : State.flt { s with dict := x } = s.flt := rfl
theorem State.log_of_dict (x : NMap Nat) : State.log { s with dict := x } = s.log := rfl
theorem State.out_of_dict (x : NMap Nat) : State.out { s with dict := x } = s.out := rfl
theorem State.free_of_dict (x : NMap Nat) : State.free { s with dict := x } = s.free := rfl
theorem State.pending_of_regs (x : NMap Word) : State.pending { s with regs := x } = s.pending := rfl
theorem State.dict_of_regs (x : NMap Word) : State.dict { s with regs := x } = s.dict := rfl
theorem State.loop_of_regs (x : NMap Word) : State.loop { s with regs := x } = s.loop := rfl
theorem State.coreMem_of_regs (x : NMap Word) : State.coreMem { s with regs := x } = s.coreMem := rfl
theorem State.backup_of_regs (x : NMap Word) : State.backup { s with regs := x } = s.backup := rfl
theorem State.dwBuf_of_regs (x : NMap Word) : State.dwBuf { s with regs := x } = s.dwBuf := rfl
theorem State.clk_of_regs (x : NMap Word) : State.clk { s with regs := x } = s.clk := rfl
theorem State.acc_of_regs (x : NMap Word) : State.acc { s with regs := x } = s.acc := rfl
theorem State.net_of_regs (x : NMap Word) : State.net { s with regs := x } = s.net := rfl
theorem State.adm_of_regs (x : NMap Word) : State.adm { s with regs := x } = s.adm := rfl
theorem State.cip_of_regs (x : NMap Word) : State.cip { s with regs := x } = s.cip := rfl
theorem State.sto_of_regs (x : NMap Word) : State.sto { s with regs := x } = s.sto := rfl
theorem State.hst_of_regs (x : NMap Word) : State.hst { s with regs := x } = s.hst := rfl
theorem State.rng_of_regs (x : NMap Word) : State.rng { s with regs := x } = s.rng := rfl
theorem State.thr_of_regs (x : NMap Word) : State.thr { s with regs := x } = s.thr := rfl
theorem State.cells_of_regs (x : NMap Word) : State.cells { s with regs := x } = s.cells := rfl
theorem State.dma_of_regs (x : NMap Word) : State.dma { s with regs := x } = s.dma := rfl
theorem State.pwr_of_regs (x : NMap Word) : State.pwr { s with regs := x } = s.pwr := rfl
theorem State.flt_of_regs (x : NMap Word) : State.flt { s with regs := x } = s.flt := rfl
theorem State.log_of_regs (x : NMap Word) : State.log { s with regs := x } = s.log := rfl
theorem State.out_of_regs (x : NMap Word) : State.out { s with regs := x } = s.out := rfl
theorem State.free_of_regs (x : NMap Word) : State.free { s with regs := x } = s.free := rfl
theorem State.pending_of_clk (x : Clock) : State.pending { s with clk := x } = s.pending := rfl
theorem State.dict_of_clk (x : Clock) : State.dict { s with clk := x } = s.dict := rfl
theorem State.regs_of_clk (x : Clock) : State.regs { s with clk := x } = s.regs := rfl
theorem State.loop_of_clk (x : Clock) : State.loop { s with clk := x } = s.loop := rfl
theorem State.coreMem_of_clk (x : Clock) : State.coreMem { s with clk := x } = s.coreMem := rfl
theorem State.backup_of_clk (x : Clock) : State.backup { s with clk := x } = s.backup := rfl
theorem State.dwBuf_of_clk (x : Clock) : State.dwBuf { s with clk := x } = s.dwBuf := rfl
theorem State.acc_of_clk (x : Clock) : State.acc { s with clk := x } = s.acc := rfl
theorem State.net_of_clk (x : Clock) : State.net { s with clk := x } = s.net := rfl
theorem State.adm_of_clk (x : Clock) : State.adm { s with clk := x } = s.adm := rfl
theorem State.cip_of_clk (x : Clock) : State.cip { s with clk := x } = s.cip := rfl
theorem State.sto_of_clk (x : Clock) : State.sto { s with clk := x } = s.sto := rfl
theorem State.hst_of_clk (x : Clock) : State.hst { s with clk := x } = s.hst := rfl
theorem State.rng_of_clk (x : Clock) : State.rng { s with clk := x } = s.rng := rfl
theorem State.thr_of_clk (x : Clock) : State.thr { s with clk := x } = s.thr := rfl
theorem State.cells_of_clk (x : Clock) : State.cells { s with clk := x } = s.cells := rfl
theorem State.dma_of_clk (x : Clock) : State.dma { s with clk := x } = s.dma := rfl
theorem State.pwr_of_clk (x : Clock) : State.pwr { s with clk := x } = s.pwr := rfl
theorem State.flt_of_clk (x : Clock) : State.flt { s with clk := x } = s.flt := rfl
theorem State.log_of_clk (x : Clock) : State.log { s with clk := x } = s.log := rfl
theorem State.out_of_clk (x : Clock) : State.out { s with clk := x } = s.out := rfl
theorem State.free_of_clk (x : Clock) : State.free { s with clk := x } = s.free := rfl
theorem State.pending_of_acc (x : Access) : State.pending { s with acc := x } = s.pending := rfl
theorem State.dict_of_acc (x : Access) : State.dict { s with acc := x } = s.dict := rfl
theorem State.regs_of_acc (x : Access) : State.regs { s with acc := x } = s.regs := rfl
theorem State.loop_of_acc (x : Access) : State.loop { s with acc := x } = s.loop := rfl
theorem State.coreMem_of_acc (x : Access) : State.coreMem { s with acc := x } = s.coreMem := rfl
theorem State.backup_of_acc (x : Access) : State.backup { s with acc := x } = s.backup := rfl
theorem State.dwBuf_of_acc (x : Access) : State.dwBuf { s with acc := x } = s.dwBuf := rfl
theorem State.clk_of_acc (x : Access) : State.clk { s with acc := x } = s.clk := rfl
theorem State.net_of_acc (x : Access) : State.net { s with acc := x } = s.net := rfl
theorem State.adm_of_acc (x : Access) : State.adm { s with acc := x } = s.adm := rfl
theorem State.cip_of_acc (x : Access) : State.cip { s with acc := x } = s.cip := rfl
theorem State.sto_of_acc (x : Access) : State.sto { s with acc := x } = s.sto := rfl
theorem State.hst_of_acc (x : Access) : State.hst { s with acc := x } = s.hst := rfl
theorem State.rng_of_acc (x : Access) : State.rng { s with acc := x } = s.rng := rfl
theorem State.thr_of_acc (x : Access) : State.thr { s with acc := x } = s.thr := rfl
theorem State.cells_of_acc (x : Access) : State.cells { s with acc := x } = s.cells := rfl
theorem State.dma_of_acc (x : Access) : State.dma { s with acc := x } = s.dma := rfl
theorem State.pwr_of_acc (x : Access) : State.pwr { s with acc := x } = s.pwr := rfl
theorem State.flt_of_acc (x : Access) : State.flt { s with acc := x } = s.flt := rfl
theorem State.log_of_acc (x : Access) : State.log { s with acc := x } = s.log := rfl
theorem State.out_of_acc (x : Access) : State.out { s with acc := x } = s.out := rfl
theorem State.free_of_acc (x : Access) : State.free { s with acc := x } = s.free := rfl
theorem State.pending_of_net (x : Net) : State.pending { s with net := x } = s.pending := rfl
theorem State.dict_of_net (x : Net) : State.dict { s with net := x } = s.dict := rfl
theorem State.regs_of_net (x : Net) : State.regs { s with net := x } = s.regs := rfl
theorem State.loop_of_net (x : Net) : State.loop { s with net := x } = s.loop := rfl
theorem State.coreMem_of_net (x : Net) : State.coreMem { s with net := x } = s.coreMem := rfl
theorem State.backup_of_net (x : Net) : State.backup { s with net := x } = s.backup := rfl
theorem State.dwBuf_of_net (x : Net) : State.dwBuf { s with net := x } = s.dwBuf := rfl
theorem State.clk_of_net (x : Net) : State.clk { s with net := x } = s.clk := rfl
theorem State.acc_of_net (x : Net) : State.acc { s with net := x } = s.acc := rfl
theorem State.adm_of_net (x : Net) : State.adm { s with net := x } = s.adm := rfl
theorem State.cip_of_net (x : Net) : State.cip { s with net := x } = s.cip := rfl
theorem State.sto_of_net (x : Net) : State.sto { s with net := x } = s.sto := rfl
theorem State.hst_of_net (x : Net) : State.hst { s with net := x } = s.hst := rfl
theorem State.rng_of_net (x : Net) : State.rng { s with net := x } = s.rng := rfl
theorem State.thr_of_net (x : Net) : State.thr { s with net := x } = s.thr := rfl
theorem State.cells_of_net (x : Net) : State.cells { s with net := x } = s.cells := rfl
theorem State.dma_of_net (x : Net) : State.dma { s with net := x } = s.dma := rfl
theorem State.pwr_of_net (x : Net) : State.pwr { s with net := x } = s.pwr := rfl
theorem State.flt_of_net (x : Net) : State.flt { s with net := x } = s.flt := rfl
theorem State.log_of_net (x : Net) : State.log { s with net := x } = s.log := rfl
theorem State.out_of_net (x : Net) : State.out { s with net := x } = s.out := rfl
theorem State.free_of_net (x : Net) : State.free { s with net := x } = s.free := rfl
theorem State.pending_of_hst (x : HostFace) : State.pending { s with hst := x } = s.pending := rfl
theorem State.dict_of_hst (x : HostFace) : State.dict { s with hst := x } = s.dict := rfl
theorem State.regs_of_hst (x : HostFace) : State.regs { s with hst := x } = s.regs := rfl
theorem State.loop_of_hst (x : HostFace) : State.loop { s with hst := x } = s.loop := rfl
theorem State.coreMem_of_hst (x : HostFace) : State.coreMem { s with hst := x } = s.coreMem := rfl
theorem State.backup_of_hst (x : HostFace) : State.backup { s with hst := x } = s.backup := rfl
theorem State.dwBuf_of_hst (x : HostFace) : State.dwBuf { s with hst := x } = s.dwBuf := rfl
theorem State.clk_of_hst (x : HostFace) : State.clk { s with hst := x } = s.clk := rfl
theorem State.acc_of_hst (x : HostFace) : State.acc { s with hst := x } = s.acc := rfl
theorem State.net_of_hst (x : HostFace) : State.net { s with hst := x } = s.net := rfl
theorem State.adm_of_hst (x : HostFace) : State.adm { s with hst := x } = s.adm := rfl
theorem State.cip_of_hst (x : HostFace) : State.cip { s with hst := x } = s.cip := rfl
theorem State.sto_of_hst (x : HostFace) : State.sto { s with hst := x } = s.sto := rfl
theorem State.rng_of_hst (x : HostFace) : State.rng { s with hst := x } = s.rng := rfl
theorem State.thr_of_hst (x : HostFace) : State.thr { s with hst := x } = s.thr := rfl
theorem State.cells_of_hst (x : HostFace) : State.cells { s with hst := x } = s.cells := rfl
theorem State.dma_of_hst (x : HostFace) : State.dma { s with hst := x } = s.dma := rfl
theorem State.pwr_of_hst (x : HostFace) : State.pwr { s with hst := x } = s.pwr := rfl
theorem State.flt_of_hst (x : HostFace) : State.flt { s with hst := x } = s.flt := rfl
theorem State.log_of_hst (x : HostFace) : State.log { s with hst := x } = s.log := rfl
theorem State.out_of_hst (x : HostFace) : State.out { s with hst := x } = s.out := rfl
theorem State.free_of_hst (x : HostFace) : State.free { s with hst := x } = s.free := rfl
theorem State.pending_of_rng (x : Rings) : State.pending { s with rng := x } = s.pending := rfl
theorem State.dict_of_rng (x : Rings) : State.dict { s with rng := x } = s.dict := rfl
theorem State.regs_of_rng (x : Rings) : State.regs { s with rng := x } = s.regs := rfl
theorem State.loop_of_rng (x : Rings) : State.loop { s with rng := x } = s.loop := rfl
theorem State.coreMem_of_rng (x : Rings) : State.coreMem { s with rng := x } = s.coreMem := rfl
theorem State.backup_of_rng (x : Rings) : State.backup { s with rng := x } = s.backup := rfl
theorem State.dwBuf_of_rng (x : Rings) : State.dwBuf { s with rng := x } = s.dwBuf := rfl
theorem State.clk_of_rng (x : Rings) : State.clk { s with rng := x } = s.clk := rfl
theorem State.acc_of_rng (x : Rings) : State.acc { s with rng := x } = s.acc := rfl
theorem State.net_of_rng (x : Rings) : State.net { s with rng := x } = s.net := rfl
theorem State.adm_of_rng (x : Rings) : State.adm { s with rng := x } = s.adm := rfl
theorem State.cip_of_rng (x : Rings) : State.cip { s with rng := x } = s.cip := rfl
theorem State.sto_of_rng (x : Rings) : State.sto { s with rng := x } = s.sto := rfl
theorem State.hst_of_rng (x : Rings) : State.hst { s with rng := x } = s.hst := rfl
theorem State.thr_of_rng (x : Rings) : State.thr { s with rng := x } = s.thr := rfl
theorem State.cells_of_rng (x : Rings) : State.cells { s with rng := x } = s.cells := rfl
theorem State.dma_of_rng (x : Rings) : State.dma { s with rng := x } = s.dma := rfl
theorem State.pwr_of_rng (x : Rings) : State.pwr { s with rng := x } = s.pwr := rfl
theorem State.flt_of_rng (x : Rings) : State.flt { s with rng := x } = s.flt := rfl
theorem State.log_of_rng (x : Rings) : State.log { s with rng := x } = s.log := rfl
theorem State.out_of_rng (x : Rings) : State.out { s with rng := x } = s.out := rfl
theorem State.free_of_rng (x : Rings) : State.free { s with rng := x } = s.free := rfl
theorem State.pending_of_cells (x : NMap CellDyn) : State.pending { s with cells := x } = s.pending := rfl
theorem State.dict_of_cells (x : NMap CellDyn) : State.dict { s with cells := x } = s.dict := rfl
theorem State.regs_of_cells (x : NMap CellDyn) : State.regs { s with cells := x } = s.regs := rfl
theorem State.loop_of_cells (x : NMap CellDyn) : State.loop { s with cells := x } = s.loop := rfl
theorem State.coreMem_of_cells (x : NMap CellDyn) : State.coreMem { s with cells := x } = s.coreMem := rfl
theorem State.backup_of_cells (x : NMap CellDyn) : State.backup { s with cells := x } = s.backup := rfl
theorem State.dwBuf_of_cells (x : NMap CellDyn) : State.dwBuf { s with cells := x } = s.dwBuf := rfl
theorem State.clk_of_cells (x : NMap CellDyn) : State.clk { s with cells := x } = s.clk := rfl
theorem State.acc_of_cells (x : NMap CellDyn) : State.acc { s with cells := x } = s.acc := rfl
theorem State.net_of_cells (x : NMap CellDyn) : State.net { s with cells := x } = s.net := rfl
theorem State.adm_of_cells (x : NMap CellDyn) : State.adm { s with cells := x } = s.adm := rfl
theorem State.cip_of_cells (x : NMap CellDyn) : State.cip { s with cells := x } = s.cip := rfl
theorem State.sto_of_cells (x : NMap CellDyn) : State.sto { s with cells := x } = s.sto := rfl
theorem State.hst_of_cells (x : NMap CellDyn) : State.hst { s with cells := x } = s.hst := rfl
theorem State.rng_of_cells (x : NMap CellDyn) : State.rng { s with cells := x } = s.rng := rfl
theorem State.thr_of_cells (x : NMap CellDyn) : State.thr { s with cells := x } = s.thr := rfl
theorem State.dma_of_cells (x : NMap CellDyn) : State.dma { s with cells := x } = s.dma := rfl
theorem State.pwr_of_cells (x : NMap CellDyn) : State.pwr { s with cells := x } = s.pwr := rfl
theorem State.flt_of_cells (x : NMap CellDyn) : State.flt { s with cells := x } = s.flt := rfl
theorem State.log_of_cells (x : NMap CellDyn) : State.log { s with cells := x } = s.log := rfl
theorem State.out_of_cells (x : NMap CellDyn) : State.out { s with cells := x } = s.out := rfl
theorem State.free_of_cells (x : NMap CellDyn) : State.free { s with cells := x } = s.free := rfl
theorem State.pending_of_pwr (x : Power) : State.pending { s with pwr := x } = s.pending := rfl
theorem State.dict_of_pwr (x : Power) : State.dict { s with pwr := x } = s.dict := rfl
theorem State.regs_of_pwr (x : Power) : State.regs { s with pwr := x } = s.regs := rfl
theorem State.loop_of_pwr (x : Power) : State.loop { s with pwr := x } = s.loop := rfl
theorem State.coreMem_of_pwr (x : Power) : State.coreMem { s with pwr := x } = s.coreMem := rfl
theorem State.backup_of_pwr (x : Power) : State.backup { s with pwr := x } = s.backup := rfl
theorem State.dwBuf_of_pwr (x : Power) : State.dwBuf { s with pwr := x } = s.dwBuf := rfl
theorem State.clk_of_pwr (x : Power) : State.clk { s with pwr := x } = s.clk := rfl
theorem State.acc_of_pwr (x : Power) : State.acc { s with pwr := x } = s.acc := rfl
theorem State.net_of_pwr (x : Power) : State.net { s with pwr := x } = s.net := rfl
theorem State.adm_of_pwr (x : Power) : State.adm { s with pwr := x } = s.adm := rfl
theorem State.cip_of_pwr (x : Power) : State.cip { s with pwr := x } = s.cip := rfl
theorem State.sto_of_pwr (x : Power) : State.sto { s with pwr := x } = s.sto := rfl
theorem State.hst_of_pwr (x : Power) : State.hst { s with pwr := x } = s.hst := rfl
theorem State.rng_of_pwr (x : Power) : State.rng { s with pwr := x } = s.rng := rfl
theorem State.thr_of_pwr (x : Power) : State.thr { s with pwr := x } = s.thr := rfl
theorem State.cells_of_pwr (x : Power) : State.cells { s with pwr := x } = s.cells := rfl
theorem State.dma_of_pwr (x : Power) : State.dma { s with pwr := x } = s.dma := rfl
theorem State.flt_of_pwr (x : Power) : State.flt { s with pwr := x } = s.flt := rfl
theorem State.log_of_pwr (x : Power) : State.log { s with pwr := x } = s.log := rfl
theorem State.out_of_pwr (x : Power) : State.out { s with pwr := x } = s.out := rfl
theorem State.free_of_pwr (x : Power) : State.free { s with pwr := x } = s.free := rfl
theorem State.pending_of_flt (x : Faults) : State.pending { s with flt := x } = s.pending := rfl
theorem State.dict_of_flt (x : Faults) : State.dict { s with flt := x } = s.dict := rfl
theorem State.regs_of_flt (x : Faults) : State.regs { s with flt := x } = s.regs := rfl
theorem State.loop_of_flt (x : Faults) : State.loop { s with flt := x } = s.loop := rfl
theorem State.coreMem_of_flt (x : Faults) : State.coreMem { s with flt := x } = s.coreMem := rfl
theorem State.backup_of_flt (x : Faults) : State.backup { s with flt := x } = s.backup := rfl
theorem State.dwBuf_of_flt (x : Faults) : State.dwBuf { s with flt := x } = s.dwBuf := rfl
theorem State.clk_of_flt (x : Faults) : State.clk { s with flt := x } = s.clk := rfl
theorem State.acc_of_flt (x : Faults) : State.acc { s with flt := x } = s.acc := rfl
theorem State.net_of_flt (x : Faults) : State.net { s with flt := x } = s.net := rfl
theorem State.adm_of_flt (x : Faults) : State.adm { s with flt := x } = s.adm := rfl
theorem State.cip_of_flt (x : Faults) : State.cip { s with flt := x } = s.cip := rfl
theorem State.sto_of_flt (x : Faults) : State.sto { s with flt := x } = s.sto := rfl
theorem State.hst_of_flt (x : Faults) : State.hst { s with flt := x } = s.hst := rfl
theorem State.rng_of_flt (x : Faults) : State.rng { s with flt := x } = s.rng := rfl
theorem State.thr_of_flt (x : Faults) : State.thr { s with flt := x } = s.thr := rfl
theorem State.cells_of_flt (x : Faults) : State.cells { s with flt := x } = s.cells := rfl
theorem State.dma_of_flt (x : Faults) : State.dma { s with flt := x } = s.dma := rfl
theorem State.pwr_of_flt (x : Faults) : State.pwr { s with flt := x } = s.pwr := rfl
theorem State.log_of_flt (x : Faults) : State.log { s with flt := x } = s.log := rfl
theorem State.out_of_flt (x : Faults) : State.out { s with flt := x } = s.out := rfl
theorem State.free_of_flt (x : Faults) : State.free { s with flt := x } = s.free := rfl
theorem State.pending_of_out (x : List Output) : State.pending { s with out := x } = s.pending := rfl
theorem State.dict_of_out (x : List Output) : State.dict { s with out := x } = s.dict := rfl
theorem State.regs_of_out (x : List Output) : State.regs { s with out := x } = s.regs := rfl
theorem State.loop_of_out (x : List Output) : State.loop { s with out := x } = s.loop := rfl
theorem State.coreMem_of_out (x : List Output) : State.coreMem { s with out := x } = s.coreMem := rfl
theorem State.backup_of_out (x : List Output) : State.backup { s with out := x } = s.backup := rfl
theorem State.dwBuf_of_out (x : List Output) : State.dwBuf { s with out := x } = s.dwBuf := rfl
theorem State.clk_of_out (x : List Output) : State.clk { s with out := x } = s.clk := rfl
theorem State.acc_of_out (x : List Output) : State.acc { s with out := x } = s.acc := rfl
theorem State.net_of_out (x : List Output) : State.net { s with out := x } = s.net := rfl
theorem State.adm_of_out (x : List Output) : State.adm { s with out := x } = s.adm := rfl
theorem State.cip_of_out (x : List Output) : State.cip { s with out := x } = s.cip := rfl
theorem State.sto_of_out (x : List Output) : State.sto { s with out := x } = s.sto := rfl
theorem State.hst_of_out (x : List Output) : State.hst { s with out := x } = s.hst := rfl
theorem State.rng_of_out (x : List Output) : State.rng { s with out := x } = s.rng := rfl
theorem State.thr_of_out (x : List Output) : State.thr { s with out := x } = s.thr := rfl
theorem State.cells_of_out (x : List Output) : State.cells { s with out := x } = s.cells := rfl
theorem State.dma_of_out (x : List Output) : State.dma { s with out := x } = s.dma := rfl
theorem State.pwr_of_out (x : List Output) : State.pwr { s with out := x } = s.pwr := rfl
theorem State.flt_of_out (x : List Output) : State.flt { s with out := x } = s.flt := rfl
theorem State.log_of_out (x : List Output) : State.log { s with out := x } = s.log := rfl
theorem State.free_of_out (x : List Output) : State.free { s with out := x } = s.free := rfl

/-! ### setCell -/

@[simp] theorem State.setCell_pending (ix row sub v : Nat) : (s.setCell ix row sub v).pending = s.pending := s.pending_of_dict _
@[simp] theorem State.setCell_regs (ix row sub v : Nat) : (s.setCell ix row sub v).regs = s.regs := s.regs_of_dict _
@[simp] theorem State.setCell_loop (ix row sub v : Nat) : (s.setCell ix row sub v).loop = s.loop := s.loop_of_dict _
@[simp] theorem State.setCell_coreMem (ix row sub v : Nat) : (s.setCell ix row sub v).coreMem = s.coreMem := s.coreMem_of_dict _
@[simp] theorem State.setCell_backup (ix row sub v : Nat) : (s.setCell ix row sub v).backup = s.backup := s.backup_of_dict _
@[simp] theorem State.setCell_dwBuf (ix row sub v : Nat) : (s.setCell ix row sub v).dwBuf = s.dwBuf := s.dwBuf_of_dict _
@[simp] theorem State.setCell_clk (ix row sub v : Nat) : (s.setCell ix row sub v).clk = s.clk := s.clk_of_dict _
@[simp] theorem State.setCell_acc (ix row sub v : Nat) : (s.setCell ix row sub v).acc = s.acc := s.acc_of_dict _
@[simp] theorem State.setCell_net (ix row sub v : Nat) : (s.setCell ix row sub v).net = s.net := s.net_of_dict _
@[simp] theorem State.setCell_adm (ix row sub v : Nat) : (s.setCell ix row sub v).adm = s.adm := s.adm_of_dict _
@[simp] theorem State.setCell_cip (ix row sub v : Nat) : (s.setCell ix row sub v).cip = s.cip := s.cip_of_dict _
@[simp] theorem State.setCell_sto (ix row sub v : Nat) : (s.setCell ix row sub v).sto = s.sto := s.sto_of_dict _
@[simp] theorem State.setCell_hst (ix row sub v : Nat) : (s.setCell ix row sub v).hst = s.hst := s.hst_of_dict _
@[simp] theorem State.setCell_rng (ix row sub v : Nat) : (s.setCell ix row sub v).rng = s.rng := s.rng_of_dict _
@[simp] theorem State.setCell_thr (ix row sub v : Nat) : (s.setCell ix row sub v).thr = s.thr := s.thr_of_dict _
@[simp] theorem State.setCell_cells (ix row sub v : Nat) : (s.setCell ix row sub v).cells = s.cells := s.cells_of_dict _
@[simp] theorem State.setCell_dma (ix row sub v : Nat) : (s.setCell ix row sub v).dma = s.dma := s.dma_of_dict _
@[simp] theorem State.setCell_pwr (ix row sub v : Nat) : (s.setCell ix row sub v).pwr = s.pwr := s.pwr_of_dict _
@[simp] theorem State.setCell_flt (ix row sub v : Nat) : (s.setCell ix row sub v).flt = s.flt := s.flt_of_dict _
@[simp] theorem State.setCell_log (ix row sub v : Nat) : (s.setCell ix row sub v).log = s.log := s.log_of_dict _
@[simp] theorem State.setCell_out (ix row sub v : Nat) : (s.setCell ix row sub v).out = s.out := s.out_of_dict _
@[simp] theorem State.setCell_free (ix row sub v : Nat) : (s.setCell ix row sub v).free = s.free := s.free_of_dict _

/-! ### setOb -/

@[simp] theorem State.setOb_pending (ix sub v : Nat) : (s.setOb ix sub v).pending = s.pending := s.pending_of_dict _
@[simp] theorem State.setOb_regs (ix sub v : Nat) : (s.setOb ix sub v).regs = s.regs := s.regs_of_dict _
@[simp] theorem State.setOb_loop (ix sub v : Nat) : (s.setOb ix sub v).loop = s.loop := s.loop_of_dict _
@[simp] theorem State.setOb_coreMem (ix sub v : Nat) : (s.setOb ix sub v).coreMem = s.coreMem := s.coreMem_of_dict _
@[simp] theorem State.setOb_backup (ix sub v : Nat) : (s.setOb ix sub v).backup = s.backup := s.backup_of_dict _
@[simp] theorem State.setOb_dwBuf (ix sub v : Nat) : (s.setOb ix sub v).dwBuf = s.dwBuf := s.dwBuf_of_dict _
@[simp] theorem State.setOb_clk (ix sub v : Nat) : (s.setOb ix sub v).clk = s.clk := s.clk_of_dict _
@[simp] theorem State.setOb_acc (ix sub v : Nat) : (s.setOb ix sub v).acc = s.acc := s.acc_of_dict _
@[simp] theorem State.setOb_net (ix sub v : Nat) : (s.setOb ix sub v).net = s.net := s.net_of_dict _
@[simp] theorem State.setOb_adm (ix sub v : Nat) : (s.setOb ix sub v).adm = s.adm := s.adm_of_dict _
@[simp] theorem State.setOb_cip (ix sub v : Nat) : (s.setOb ix sub v).cip = s.cip := s.cip_of_dict _
@[simp] theorem State.setOb_sto (ix sub v : Nat) : (s.setOb ix sub v).sto = s.sto := s.sto_of_dict _
@[simp] theorem State.setOb_hst (ix sub v : Nat) : (s.setOb ix sub v).hst = s.hst := s.hst_of_dict _
@[simp] theorem State.setOb_rng (ix sub v : Nat) : (s.setOb ix sub v).rng = s.rng := s.rng_of_dict _
@[simp] theorem State.setOb_thr (ix sub v : Nat) : (s.setOb ix sub v).thr = s.thr := s.thr_of_dict _
@[simp] theorem State.setOb_cells (ix sub v : Nat) : (s.setOb ix sub v).cells = s.cells := s.cells_of_dict _
@[simp] theorem State.setOb_dma (ix sub v : Nat) : (s.setOb ix sub v).dma = s.dma := s.dma_of_dict _
@[simp] theorem State.setOb_pwr (ix sub v : Nat) : (s.setOb ix sub v).pwr = s.pwr := s.pwr_of_dict _
@[simp] theorem State.setOb_flt (ix sub v : Nat) : (s.setOb ix sub v).flt = s.flt := s.flt_of_dict _
@[simp] theorem State.setOb_log (ix sub v : Nat) : (s.setOb ix sub v).log = s.log := s.log_of_dict _
@[simp] theorem State.setOb_out (ix sub v : Nat) : (s.setOb ix sub v).out = s.out := s.out_of_dict _
@[simp] theorem State.setOb_free (ix sub v : Nat) : (s.setOb ix sub v).free = s.free := s.free_of_dict _

/-! ### setReg -/

@[simp] theorem State.setReg_pending (owner off : Nat) (v : Word) : (s.setReg owner off v).pending = s.pending := s.pending_of_regs _
@[simp] theorem State.setReg_dict (owner off : Nat) (v : Word) : (s.setReg owner off v).dict = s.dict := s.dict_of_regs _
@[simp] theorem State.setReg_loop (owner off : Nat) (v : Word) : (s.setReg owner off v).loop = s.loop := s.loop_of_regs _
@[simp] theorem State.setReg_coreMem (owner off : Nat) (v : Word) : (s.setReg owner off v).coreMem = s.coreMem := s.coreMem_of_regs _
@[simp] theorem State.setReg_backup (owner off : Nat) (v : Word) : (s.setReg owner off v).backup = s.backup := s.backup_of_regs _
@[simp] theorem State.setReg_dwBuf (owner off : Nat) (v : Word) : (s.setReg owner off v).dwBuf = s.dwBuf := s.dwBuf_of_regs _
@[simp] theorem State.setReg_clk (owner off : Nat) (v : Word) : (s.setReg owner off v).clk = s.clk := s.clk_of_regs _
@[simp] theorem State.setReg_acc (owner off : Nat) (v : Word) : (s.setReg owner off v).acc = s.acc := s.acc_of_regs _
@[simp] theorem State.setReg_net (owner off : Nat) (v : Word) : (s.setReg owner off v).net = s.net := s.net_of_regs _
@[simp] theorem State.setReg_adm (owner off : Nat) (v : Word) : (s.setReg owner off v).adm = s.adm := s.adm_of_regs _
@[simp] theorem State.setReg_cip (owner off : Nat) (v : Word) : (s.setReg owner off v).cip = s.cip := s.cip_of_regs _
@[simp] theorem State.setReg_sto (owner off : Nat) (v : Word) : (s.setReg owner off v).sto = s.sto := s.sto_of_regs _
@[simp] theorem State.setReg_hst (owner off : Nat) (v : Word) : (s.setReg owner off v).hst = s.hst := s.hst_of_regs _
@[simp] theorem State.setReg_rng (owner off : Nat) (v : Word) : (s.setReg owner off v).rng = s.rng := s.rng_of_regs _
@[simp] theorem State.setReg_thr (owner off : Nat) (v : Word) : (s.setReg owner off v).thr = s.thr := s.thr_of_regs _
@[simp] theorem State.setReg_cells (owner off : Nat) (v : Word) : (s.setReg owner off v).cells = s.cells := s.cells_of_regs _
@[simp] theorem State.setReg_dma (owner off : Nat) (v : Word) : (s.setReg owner off v).dma = s.dma := s.dma_of_regs _
@[simp] theorem State.setReg_pwr (owner off : Nat) (v : Word) : (s.setReg owner off v).pwr = s.pwr := s.pwr_of_regs _
@[simp] theorem State.setReg_flt (owner off : Nat) (v : Word) : (s.setReg owner off v).flt = s.flt := s.flt_of_regs _
@[simp] theorem State.setReg_log (owner off : Nat) (v : Word) : (s.setReg owner off v).log = s.log := s.log_of_regs _
@[simp] theorem State.setReg_out (owner off : Nat) (v : Word) : (s.setReg owner off v).out = s.out := s.out_of_regs _
@[simp] theorem State.setReg_free (owner off : Nat) (v : Word) : (s.setReg owner off v).free = s.free := s.free_of_regs _

/-! ### emit -/

@[simp] theorem State.emit_pending (o : Output) : (s.emit o).pending = s.pending := s.pending_of_out _
@[simp] theorem State.emit_dict (o : Output) : (s.emit o).dict = s.dict := s.dict_of_out _
@[simp] theorem State.emit_regs (o : Output) : (s.emit o).regs = s.regs := s.regs_of_out _
@[simp] theorem State.emit_loop (o : Output) : (s.emit o).loop = s.loop := s.loop_of_out _
@[simp] theorem State.emit_coreMem (o : Output) : (s.emit o).coreMem = s.coreMem := s.coreMem_of_out _
@[simp] theorem State.emit_backup (o : Output) : (s.emit o).backup = s.backup := s.backup_of_out _
@[simp] theorem State.emit_dwBuf (o : Output) : (s.emit o).dwBuf = s.dwBuf := s.dwBuf_of_out _
@[simp] theorem State.emit_clk (o : Output) : (s.emit o).clk = s.clk := s.clk_of_out _
@[simp] theorem State.emit_acc (o : Output) : (s.emit o).acc = s.acc := s.acc_of_out _
@[simp] theorem State.emit_net (o : Output) : (s.emit o).net = s.net := s.net_of_out _
@[simp] theorem State.emit_adm (o : Output) : (s.emit o).adm = s.adm := s.adm_of_out _
@[simp] theorem State.emit_cip (o : Output) : (s.emit o).cip = s.cip := s.cip_of_out _
@[simp] theorem State.emit_sto (o : Output) : (s.emit o).sto = s.sto := s.sto_of_out _
@[simp] theorem State.emit_hst (o : Output) : (s.emit o).hst = s.hst := s.hst_of_out _
@[simp] theorem State.emit_rng (o : Output) : (s.emit o).rng = s.rng := s.rng_of_out _
@[simp] theorem State.emit_thr (o : Output) : (s.emit o).thr = s.thr := s.thr_of_out _
@[simp] theorem State.emit_cells (o : Output) : (s.emit o).cells = s.cells := s.cells_of_out _
@[simp] theorem State.emit_dma (o : Output) : (s.emit o).dma = s.dma := s.dma_of_out _
@[simp] theorem State.emit_pwr (o : Output) : (s.emit o).pwr = s.pwr := s.pwr_of_out _
@[simp] theorem State.emit_flt (o : Output) : (s.emit o).flt = s.flt := s.flt_of_out _
@[simp] theorem State.emit_log (o : Output) : (s.emit o).log = s.log := s.log_of_out _
@[simp] theorem State.emit_free (o : Output) : (s.emit o).free = s.free := s.free_of_out _

/-! ### withAcc -/

@[simp] theorem State.withAcc_pending (f : Access → Access) : (s.withAcc f).pending = s.pending := s.pending_of_acc _
@[simp] theorem State.withAcc_dict (f : Access → Access) : (s.withAcc f).dict = s.dict := s.dict_of_acc _
@[simp] theorem State.withAcc_regs (f : Access → Access) : (s.withAcc f).regs = s.regs := s.regs_of_acc _
@[simp] theorem State.withAcc_loop (f : Access → Access) : (s.withAcc f).loop = s.loop := s.loop_of_acc _
@[simp] theorem State.withAcc_coreMem (f : Access → Access) : (s.withAcc f).coreMem = s.coreMem := s.coreMem_of_acc _
@[simp] theorem State.withAcc_backup (f : Access → Access) : (s.withAcc f).backup = s.backup := s.backup_of_acc _
@[simp] theorem State.withAcc_dwBuf (f : Access → Access) : (s.withAcc f).dwBuf = s.dwBuf := s.dwBuf_of_acc _
@[simp] theorem State.withAcc_clk (f : Access → Access) : (s.withAcc f).clk = s.clk := s.clk_of_acc _
@[simp] theorem State.withAcc_net (f : Access → Access) : (s.withAcc f).net = s.net := s.net_of_acc _
@[simp] theorem State.withAcc_adm (f : Access → Access) : (s.withAcc f).adm = s.adm := s.adm_of_acc _
@[simp] theorem State.withAcc_cip (f : Access → Access) : (s.withAcc f).cip = s.cip := s.cip_of_acc _
@[simp] theorem State.withAcc_sto (f : Access → Access) : (s.withAcc f).sto = s.sto := s.sto_of_acc _
@[simp] theorem State.withAcc_hst (f : Access → Access) : (s.withAcc f).hst = s.hst := s.hst_of_acc _
@[simp] theorem State.withAcc_rng (f : Access → Access) : (s.withAcc f).rng = s.rng := s.rng_of_acc _
@[simp] theorem State.withAcc_thr (f : Access → Access) : (s.withAcc f).thr = s.thr := s.thr_of_acc _
@[simp] theorem State.withAcc_cells (f : Access → Access) : (s.withAcc f).cells = s.cells := s.cells_of_acc _
@[simp] theorem State.withAcc_dma (f : Access → Access) : (s.withAcc f).dma = s.dma := s.dma_of_acc _
@[simp] theorem State.withAcc_pwr (f : Access → Access) : (s.withAcc f).pwr = s.pwr := s.pwr_of_acc _
@[simp] theorem State.withAcc_flt (f : Access → Access) : (s.withAcc f).flt = s.flt := s.flt_of_acc _
@[simp] theorem State.withAcc_log (f : Access → Access) : (s.withAcc f).log = s.log := s.log_of_acc _
@[simp] theorem State.withAcc_out (f : Access → Access) : (s.withAcc f).out = s.out := s.out_of_acc _
@[simp] theorem State.withAcc_free (f : Access → Access) : (s.withAcc f).free = s.free := s.free_of_acc _

/-! ### withClk -/

@[simp] theorem State.withClk_pending (f : Clock → Clock) : (s.withClk f).pending = s.pending := s.pending_of_clk _
@[simp] theorem State.withClk_dict (f : Clock → Clock) : (s.withClk f).dict = s.dict := s.dict_of_clk _
@[simp] theorem State.withClk_regs (f : Clock → Clock) : (s.withClk f).regs = s.regs := s.regs_of_clk _
@[simp] theorem State.withClk_loop (f : Clock → Clock) : (s.withClk f).loop = s.loop := s.loop_of_clk _
@[simp] theorem State.withClk_coreMem (f : Clock → Clock) : (s.withClk f).coreMem = s.coreMem := s.coreMem_of_clk _
@[simp] theorem State.withClk_backup (f : Clock → Clock) : (s.withClk f).backup = s.backup := s.backup_of_clk _
@[simp] theorem State.withClk_dwBuf (f : Clock → Clock) : (s.withClk f).dwBuf = s.dwBuf := s.dwBuf_of_clk _
@[simp] theorem State.withClk_acc (f : Clock → Clock) : (s.withClk f).acc = s.acc := s.acc_of_clk _
@[simp] theorem State.withClk_net (f : Clock → Clock) : (s.withClk f).net = s.net := s.net_of_clk _
@[simp] theorem State.withClk_adm (f : Clock → Clock) : (s.withClk f).adm = s.adm := s.adm_of_clk _
@[simp] theorem State.withClk_cip (f : Clock → Clock) : (s.withClk f).cip = s.cip := s.cip_of_clk _
@[simp] theorem State.withClk_sto (f : Clock → Clock) : (s.withClk f).sto = s.sto := s.sto_of_clk _
@[simp] theorem State.withClk_hst (f : Clock → Clock) : (s.withClk f).hst = s.hst := s.hst_of_clk _
@[simp] theorem State.withClk_rng (f : Clock → Clock) : (s.withClk f).rng = s.rng := s.rng_of_clk _
@[simp] theorem State.withClk_thr (f : Clock → Clock) : (s.withClk f).thr = s.thr := s.thr_of_clk _
@[simp] theorem State.withClk_cells (f : Clock → Clock) : (s.withClk f).cells = s.cells := s.cells_of_clk _
@[simp] theorem State.withClk_dma (f : Clock → Clock) : (s.withClk f).dma = s.dma := s.dma_of_clk _
@[simp] theorem State.withClk_pwr (f : Clock → Clock) : (s.withClk f).pwr = s.pwr := s.pwr_of_clk _
@[simp] theorem State.withClk_flt (f : Clock → Clock) : (s.withClk f).flt = s.flt := s.flt_of_clk _
@[simp] theorem State.withClk_log (f : Clock → Clock) : (s.withClk f).log = s.log := s.log_of_clk _
@[simp] theorem State.withClk_out (f : Clock → Clock) : (s.withClk f).out = s.out := s.out_of_clk _
@[simp] theorem State.withClk_free (f : Clock → Clock) : (s.withClk f).free = s.free := s.free_of_clk _

/-! ### withPwr -/

@[simp] theorem State.withPwr_pending (f : Power → Power) : (s.withPwr f).pending = s.pending := s.pending_of_pwr _
@[simp] theorem State.withPwr_dict (f : Power → Power) : (s.withPwr f).dict = s.dict := s.dict_of_pwr _
@[simp] theorem State.withPwr_regs (f : Power → Power) : (s.withPwr f).regs = s.regs := s.regs_of_pwr _
@[simp] theorem State.withPwr_loop (f : Power → Power) : (s.withPwr f).loop = s.loop := s.loop_of_pwr _
@[simp] theorem State.withPwr_coreMem (f : Power → Power) : (s.withPwr f).coreMem = s.coreMem := s.coreMem_of_pwr _
@[simp] theorem State.withPwr_backup (f : Power → Power) : (s.withPwr f).backup = s.backup := s.backup_of_pwr _
@[simp] theorem State.withPwr_dwBuf (f : Power → Power) : (s.withPwr f).dwBuf = s.dwBuf := s.dwBuf_of_pwr _
@[simp] theorem State.withPwr_clk (f : Power → Power) : (s.withPwr f).clk = s.clk := s.clk_of_pwr _
@[simp] theorem State.withPwr_acc (f : Power → Power) : (s.withPwr f).acc = s.acc := s.acc_of_pwr _
@[simp] theorem State.withPwr_net (f : Power → Power) : (s.withPwr f).net = s.net := s.net_of_pwr _
@[simp] theorem State.withPwr_adm (f : Power → Power) : (s.withPwr f).adm = s.adm := s.adm_of_pwr _
@[simp] theorem State.withPwr_cip (f : Power → Power) : (s.withPwr f).cip = s.cip := s.cip_of_pwr _
@[simp] theorem State.withPwr_sto (f : Power → Power) : (s.withPwr f).sto = s.sto := s.sto_of_pwr _
@[simp] theorem State.withPwr_hst (f : Power → Power) : (s.withPwr f).hst = s.hst := s.hst_of_pwr _
@[simp] theorem State.withPwr_rng (f : Power → Power) : (s.withPwr f).rng = s.rng := s.rng_of_pwr _
@[simp] theorem State.withPwr_thr (f : Power → Power) : (s.withPwr f).thr = s.thr := s.thr_of_pwr _
@[simp] theorem State.withPwr_cells (f : Power → Power) : (s.withPwr f).cells = s.cells := s.cells_of_pwr _
@[simp] theorem State.withPwr_dma (f : Power → Power) : (s.withPwr f).dma = s.dma := s.dma_of_pwr _
@[simp] theorem State.withPwr_flt (f : Power → Power) : (s.withPwr f).flt = s.flt := s.flt_of_pwr _
@[simp] theorem State.withPwr_log (f : Power → Power) : (s.withPwr f).log = s.log := s.log_of_pwr _
@[simp] theorem State.withPwr_out (f : Power → Power) : (s.withPwr f).out = s.out := s.out_of_pwr _
@[simp] theorem State.withPwr_free (f : Power → Power) : (s.withPwr f).free = s.free := s.free_of_pwr _

/-! ### withFlt -/

@[simp] theorem State.withFlt_pending (f : Faults → Faults) : (s.withFlt f).pending = s.pending := s.pending_of_flt _
@[simp] theorem State.withFlt_dict (f : Faults → Faults) : (s.withFlt f).dict = s.dict := s.dict_of_flt _
@[simp] theorem State.withFlt_regs (f : Faults → Faults) : (s.withFlt f).regs = s.regs := s.regs_of_flt _
@[simp] theorem State.withFlt_loop (f : Faults → Faults) : (s.withFlt f).loop = s.loop := s.loop_of_flt _
@[simp] theorem State.withFlt_coreMem (f : Faults → Faults) : (s.withFlt f).coreMem = s.coreMem := s.coreMem_of_flt _
@[simp] theorem State.withFlt_backup (f : Faults → Faults) : (s.withFlt f).backup = s.backup := s.backup_of_flt _
@[simp] theorem State.withFlt_dwBuf (f : Faults → Faults) : (s.withFlt f).dwBuf = s.dwBuf := s.dwBuf_of_flt _
@[simp] theorem State.withFlt_clk (f : Faults → Faults) : (s.withFlt f).clk = s.clk := s.clk_of_flt _
@[simp] theorem State.withFlt_acc (f : Faults → Faults) : (s.withFlt f).acc = s.acc := s.acc_of_flt _
@[simp] theorem State.withFlt_net (f : Faults → Faults) : (s.withFlt f).net = s.net := s.net_of_flt _
@[simp] theorem State.withFlt_adm (f : Faults → Faults) : (s.withFlt f).adm = s.adm := s.adm_of_flt _
@[simp] theorem State.withFlt_cip (f : Faults → Faults) : (s.withFlt f).cip = s.cip := s.cip_of_flt _
@[simp] theorem State.withFlt_sto (f : Faults → Faults) : (s.withFlt f).sto = s.sto := s.sto_of_flt _
@[simp] theorem State.withFlt_hst (f : Faults → Faults) : (s.withFlt f).hst = s.hst := s.hst_of_flt _
@[simp] theorem State.withFlt_rng (f : Faults → Faults) : (s.withFlt f).rng = s.rng := s.rng_of_flt _
@[simp] theorem State.withFlt_thr (f : Faults → Faults) : (s.withFlt f).thr = s.thr := s.thr_of_flt _
@[simp] theorem State.withFlt_cells (f : Faults → Faults) : (s.withFlt f).cells = s.cells := s.cells_of_flt _
@[simp] theorem State.withFlt_dma (f : Faults → Faults) : (s.withFlt f).dma = s.dma := s.dma_of_flt _
@[simp] theorem State.withFlt_pwr (f : Faults → Faults) : (s.withFlt f).pwr = s.pwr := s.pwr_of_flt _
@[simp] theorem State.withFlt_log (f : Faults → Faults) : (s.withFlt f).log = s.log := s.log_of_flt _
@[simp] theorem State.withFlt_out (f : Faults → Faults) : (s.withFlt f).out = s.out := s.out_of_flt _
@[simp] theorem State.withFlt_free (f : Faults → Faults) : (s.withFlt f).free = s.free := s.free_of_flt _

/-! ### setCellDyn -/

@[simp] theorem State.setCellDyn_pending (c : Nat) (d : CellDyn) : (s.setCellDyn c d).pending = s.pending := s.pending_of_cells _
@[simp] theorem State.setCellDyn_dict (c : Nat) (d : CellDyn) : (s.setCellDyn c d).dict = s.dict := s.dict_of_cells _
@[simp] theorem State.setCellDyn_regs (c : Nat) (d : CellDyn) : (s.setCellDyn c d).regs = s.regs := s.regs_of_cells _
@[simp] theorem State.setCellDyn_loop (c : Nat) (d : CellDyn) : (s.setCellDyn c d).loop = s.loop := s.loop_of_cells _
@[simp] theorem State.setCellDyn_coreMem (c : Nat) (d : CellDyn) : (s.setCellDyn c d).coreMem = s.coreMem := s.coreMem_of_cells _
@[simp] theorem State.setCellDyn_backup (c : Nat) (d : CellDyn) : (s.setCellDyn c d).backup = s.backup := s.backup_of_cells _
@[simp] theorem State.setCellDyn_dwBuf (c : Nat) (d : CellDyn) : (s.setCellDyn c d).dwBuf = s.dwBuf := s.dwBuf_of_cells _
@[simp] theorem State.setCellDyn_clk (c : Nat) (d : CellDyn) : (s.setCellDyn c d).clk = s.clk := s.clk_of_cells _
@[simp] theorem State.setCellDyn_acc (c : Nat) (d : CellDyn) : (s.setCellDyn c d).acc = s.acc := s.acc_of_cells _
@[simp] theorem State.setCellDyn_net (c : Nat) (d : CellDyn) : (s.setCellDyn c d).net = s.net := s.net_of_cells _
@[simp] theorem State.setCellDyn_adm (c : Nat) (d : CellDyn) : (s.setCellDyn c d).adm = s.adm := s.adm_of_cells _
@[simp] theorem State.setCellDyn_cip (c : Nat) (d : CellDyn) : (s.setCellDyn c d).cip = s.cip := s.cip_of_cells _
@[simp] theorem State.setCellDyn_sto (c : Nat) (d : CellDyn) : (s.setCellDyn c d).sto = s.sto := s.sto_of_cells _
@[simp] theorem State.setCellDyn_hst (c : Nat) (d : CellDyn) : (s.setCellDyn c d).hst = s.hst := s.hst_of_cells _
@[simp] theorem State.setCellDyn_rng (c : Nat) (d : CellDyn) : (s.setCellDyn c d).rng = s.rng := s.rng_of_cells _
@[simp] theorem State.setCellDyn_thr (c : Nat) (d : CellDyn) : (s.setCellDyn c d).thr = s.thr := s.thr_of_cells _
@[simp] theorem State.setCellDyn_dma (c : Nat) (d : CellDyn) : (s.setCellDyn c d).dma = s.dma := s.dma_of_cells _
@[simp] theorem State.setCellDyn_pwr (c : Nat) (d : CellDyn) : (s.setCellDyn c d).pwr = s.pwr := s.pwr_of_cells _
@[simp] theorem State.setCellDyn_flt (c : Nat) (d : CellDyn) : (s.setCellDyn c d).flt = s.flt := s.flt_of_cells _
@[simp] theorem State.setCellDyn_log (c : Nat) (d : CellDyn) : (s.setCellDyn c d).log = s.log := s.log_of_cells _
@[simp] theorem State.setCellDyn_out (c : Nat) (d : CellDyn) : (s.setCellDyn c d).out = s.out := s.out_of_cells _
@[simp] theorem State.setCellDyn_free (c : Nat) (d : CellDyn) : (s.setCellDyn c d).free = s.free := s.free_of_cells _

/-! ### setLane -/

@[simp] theorem State.setLane_pending (l : Nat) (d : LaneDyn) : (s.setLane l d).pending = s.pending := s.pending_of_net _
@[simp] theorem State.setLane_dict (l : Nat) (d : LaneDyn) : (s.setLane l d).dict = s.dict := s.dict_of_net _
@[simp] theorem State.setLane_regs (l : Nat) (d : LaneDyn) : (s.setLane l d).regs = s.regs := s.regs_of_net _
@[simp] theorem State.setLane_loop (l : Nat) (d : LaneDyn) : (s.setLane l d).loop = s.loop := s.loop_of_net _
@[simp] theorem State.setLane_coreMem (l : Nat) (d : LaneDyn) : (s.setLane l d).coreMem = s.coreMem := s.coreMem_of_net _
@[simp] theorem State.setLane_backup (l : Nat) (d : LaneDyn) : (s.setLane l d).backup = s.backup := s.backup_of_net _
@[simp] theorem State.setLane_dwBuf (l : Nat) (d : LaneDyn) : (s.setLane l d).dwBuf = s.dwBuf := s.dwBuf_of_net _
@[simp] theorem State.setLane_clk (l : Nat) (d : LaneDyn) : (s.setLane l d).clk = s.clk := s.clk_of_net _
@[simp] theorem State.setLane_acc (l : Nat) (d : LaneDyn) : (s.setLane l d).acc = s.acc := s.acc_of_net _
@[simp] theorem State.setLane_adm (l : Nat) (d : LaneDyn) : (s.setLane l d).adm = s.adm := s.adm_of_net _
@[simp] theorem State.setLane_cip (l : Nat) (d : LaneDyn) : (s.setLane l d).cip = s.cip := s.cip_of_net _
@[simp] theorem State.setLane_sto (l : Nat) (d : LaneDyn) : (s.setLane l d).sto = s.sto := s.sto_of_net _
@[simp] theorem State.setLane_hst (l : Nat) (d : LaneDyn) : (s.setLane l d).hst = s.hst := s.hst_of_net _
@[simp] theorem State.setLane_rng (l : Nat) (d : LaneDyn) : (s.setLane l d).rng = s.rng := s.rng_of_net _
@[simp] theorem State.setLane_thr (l : Nat) (d : LaneDyn) : (s.setLane l d).thr = s.thr := s.thr_of_net _
@[simp] theorem State.setLane_cells (l : Nat) (d : LaneDyn) : (s.setLane l d).cells = s.cells := s.cells_of_net _
@[simp] theorem State.setLane_dma (l : Nat) (d : LaneDyn) : (s.setLane l d).dma = s.dma := s.dma_of_net _
@[simp] theorem State.setLane_pwr (l : Nat) (d : LaneDyn) : (s.setLane l d).pwr = s.pwr := s.pwr_of_net _
@[simp] theorem State.setLane_flt (l : Nat) (d : LaneDyn) : (s.setLane l d).flt = s.flt := s.flt_of_net _
@[simp] theorem State.setLane_log (l : Nat) (d : LaneDyn) : (s.setLane l d).log = s.log := s.log_of_net _
@[simp] theorem State.setLane_out (l : Nat) (d : LaneDyn) : (s.setLane l d).out = s.out := s.out_of_net _
@[simp] theorem State.setLane_free (l : Nat) (d : LaneDyn) : (s.setLane l d).free = s.free := s.free_of_net _

/-! ### setSched -/

@[simp] theorem State.setSched_pending (p : Nat) (d : Sched) : (s.setSched p d).pending = s.pending := s.pending_of_net _
@[simp] theorem State.setSched_dict (p : Nat) (d : Sched) : (s.setSched p d).dict = s.dict := s.dict_of_net _
@[simp] theorem State.setSched_regs (p : Nat) (d : Sched) : (s.setSched p d).regs = s.regs := s.regs_of_net _
@[simp] theorem State.setSched_loop (p : Nat) (d : Sched) : (s.setSched p d).loop = s.loop := s.loop_of_net _
@[simp] theorem State.setSched_coreMem (p : Nat) (d : Sched) : (s.setSched p d).coreMem = s.coreMem := s.coreMem_of_net _
@[simp] theorem State.setSched_backup (p : Nat) (d : Sched) : (s.setSched p d).backup = s.backup := s.backup_of_net _
@[simp] theorem State.setSched_dwBuf (p : Nat) (d : Sched) : (s.setSched p d).dwBuf = s.dwBuf := s.dwBuf_of_net _
@[simp] theorem State.setSched_clk (p : Nat) (d : Sched) : (s.setSched p d).clk = s.clk := s.clk_of_net _
@[simp] theorem State.setSched_acc (p : Nat) (d : Sched) : (s.setSched p d).acc = s.acc := s.acc_of_net _
@[simp] theorem State.setSched_adm (p : Nat) (d : Sched) : (s.setSched p d).adm = s.adm := s.adm_of_net _
@[simp] theorem State.setSched_cip (p : Nat) (d : Sched) : (s.setSched p d).cip = s.cip := s.cip_of_net _
@[simp] theorem State.setSched_sto (p : Nat) (d : Sched) : (s.setSched p d).sto = s.sto := s.sto_of_net _
@[simp] theorem State.setSched_hst (p : Nat) (d : Sched) : (s.setSched p d).hst = s.hst := s.hst_of_net _
@[simp] theorem State.setSched_rng (p : Nat) (d : Sched) : (s.setSched p d).rng = s.rng := s.rng_of_net _
@[simp] theorem State.setSched_thr (p : Nat) (d : Sched) : (s.setSched p d).thr = s.thr := s.thr_of_net _
@[simp] theorem State.setSched_cells (p : Nat) (d : Sched) : (s.setSched p d).cells = s.cells := s.cells_of_net _
@[simp] theorem State.setSched_dma (p : Nat) (d : Sched) : (s.setSched p d).dma = s.dma := s.dma_of_net _
@[simp] theorem State.setSched_pwr (p : Nat) (d : Sched) : (s.setSched p d).pwr = s.pwr := s.pwr_of_net _
@[simp] theorem State.setSched_flt (p : Nat) (d : Sched) : (s.setSched p d).flt = s.flt := s.flt_of_net _
@[simp] theorem State.setSched_log (p : Nat) (d : Sched) : (s.setSched p d).log = s.log := s.log_of_net _
@[simp] theorem State.setSched_out (p : Nat) (d : Sched) : (s.setSched p d).out = s.out := s.out_of_net _
@[simp] theorem State.setSched_free (p : Nat) (d : Sched) : (s.setSched p d).free = s.free := s.free_of_net _

/-! ### setQueue -/

@[simp] theorem State.setQueue_pending (row : Nat) (q : List QCopy) : (s.setQueue row q).pending = s.pending := s.pending_of_net _
@[simp] theorem State.setQueue_dict (row : Nat) (q : List QCopy) : (s.setQueue row q).dict = s.dict := s.dict_of_net _
@[simp] theorem State.setQueue_regs (row : Nat) (q : List QCopy) : (s.setQueue row q).regs = s.regs := s.regs_of_net _
@[simp] theorem State.setQueue_loop (row : Nat) (q : List QCopy) : (s.setQueue row q).loop = s.loop := s.loop_of_net _
@[simp] theorem State.setQueue_coreMem (row : Nat) (q : List QCopy) : (s.setQueue row q).coreMem = s.coreMem := s.coreMem_of_net _
@[simp] theorem State.setQueue_backup (row : Nat) (q : List QCopy) : (s.setQueue row q).backup = s.backup := s.backup_of_net _
@[simp] theorem State.setQueue_dwBuf (row : Nat) (q : List QCopy) : (s.setQueue row q).dwBuf = s.dwBuf := s.dwBuf_of_net _
@[simp] theorem State.setQueue_clk (row : Nat) (q : List QCopy) : (s.setQueue row q).clk = s.clk := s.clk_of_net _
@[simp] theorem State.setQueue_acc (row : Nat) (q : List QCopy) : (s.setQueue row q).acc = s.acc := s.acc_of_net _
@[simp] theorem State.setQueue_adm (row : Nat) (q : List QCopy) : (s.setQueue row q).adm = s.adm := s.adm_of_net _
@[simp] theorem State.setQueue_cip (row : Nat) (q : List QCopy) : (s.setQueue row q).cip = s.cip := s.cip_of_net _
@[simp] theorem State.setQueue_sto (row : Nat) (q : List QCopy) : (s.setQueue row q).sto = s.sto := s.sto_of_net _
@[simp] theorem State.setQueue_hst (row : Nat) (q : List QCopy) : (s.setQueue row q).hst = s.hst := s.hst_of_net _
@[simp] theorem State.setQueue_rng (row : Nat) (q : List QCopy) : (s.setQueue row q).rng = s.rng := s.rng_of_net _
@[simp] theorem State.setQueue_thr (row : Nat) (q : List QCopy) : (s.setQueue row q).thr = s.thr := s.thr_of_net _
@[simp] theorem State.setQueue_cells (row : Nat) (q : List QCopy) : (s.setQueue row q).cells = s.cells := s.cells_of_net _
@[simp] theorem State.setQueue_dma (row : Nat) (q : List QCopy) : (s.setQueue row q).dma = s.dma := s.dma_of_net _
@[simp] theorem State.setQueue_pwr (row : Nat) (q : List QCopy) : (s.setQueue row q).pwr = s.pwr := s.pwr_of_net _
@[simp] theorem State.setQueue_flt (row : Nat) (q : List QCopy) : (s.setQueue row q).flt = s.flt := s.flt_of_net _
@[simp] theorem State.setQueue_log (row : Nat) (q : List QCopy) : (s.setQueue row q).log = s.log := s.log_of_net _
@[simp] theorem State.setQueue_out (row : Nat) (q : List QCopy) : (s.setQueue row q).out = s.out := s.out_of_net _
@[simp] theorem State.setQueue_free (row : Nat) (q : List QCopy) : (s.setQueue row q).free = s.free := s.free_of_net _

/-! ### setFunc -/

@[simp] theorem State.setFunc_pending (m : Nat) (f : FuncDyn) : (s.setFunc m f).pending = s.pending := s.pending_of_hst _
@[simp] theorem State.setFunc_dict (m : Nat) (f : FuncDyn) : (s.setFunc m f).dict = s.dict := s.dict_of_hst _
@[simp] theorem State.setFunc_regs (m : Nat) (f : FuncDyn) : (s.setFunc m f).regs = s.regs := s.regs_of_hst _
@[simp] theorem State.setFunc_loop (m : Nat) (f : FuncDyn) : (s.setFunc m f).loop = s.loop := s.loop_of_hst _
@[simp] theorem State.setFunc_coreMem (m : Nat) (f : FuncDyn) : (s.setFunc m f).coreMem = s.coreMem := s.coreMem_of_hst _
@[simp] theorem State.setFunc_backup (m : Nat) (f : FuncDyn) : (s.setFunc m f).backup = s.backup := s.backup_of_hst _
@[simp] theorem State.setFunc_dwBuf (m : Nat) (f : FuncDyn) : (s.setFunc m f).dwBuf = s.dwBuf := s.dwBuf_of_hst _
@[simp] theorem State.setFunc_clk (m : Nat) (f : FuncDyn) : (s.setFunc m f).clk = s.clk := s.clk_of_hst _
@[simp] theorem State.setFunc_acc (m : Nat) (f : FuncDyn) : (s.setFunc m f).acc = s.acc := s.acc_of_hst _
@[simp] theorem State.setFunc_net (m : Nat) (f : FuncDyn) : (s.setFunc m f).net = s.net := s.net_of_hst _
@[simp] theorem State.setFunc_adm (m : Nat) (f : FuncDyn) : (s.setFunc m f).adm = s.adm := s.adm_of_hst _
@[simp] theorem State.setFunc_cip (m : Nat) (f : FuncDyn) : (s.setFunc m f).cip = s.cip := s.cip_of_hst _
@[simp] theorem State.setFunc_sto (m : Nat) (f : FuncDyn) : (s.setFunc m f).sto = s.sto := s.sto_of_hst _
@[simp] theorem State.setFunc_rng (m : Nat) (f : FuncDyn) : (s.setFunc m f).rng = s.rng := s.rng_of_hst _
@[simp] theorem State.setFunc_thr (m : Nat) (f : FuncDyn) : (s.setFunc m f).thr = s.thr := s.thr_of_hst _
@[simp] theorem State.setFunc_cells (m : Nat) (f : FuncDyn) : (s.setFunc m f).cells = s.cells := s.cells_of_hst _
@[simp] theorem State.setFunc_dma (m : Nat) (f : FuncDyn) : (s.setFunc m f).dma = s.dma := s.dma_of_hst _
@[simp] theorem State.setFunc_pwr (m : Nat) (f : FuncDyn) : (s.setFunc m f).pwr = s.pwr := s.pwr_of_hst _
@[simp] theorem State.setFunc_flt (m : Nat) (f : FuncDyn) : (s.setFunc m f).flt = s.flt := s.flt_of_hst _
@[simp] theorem State.setFunc_log (m : Nat) (f : FuncDyn) : (s.setFunc m f).log = s.log := s.log_of_hst _
@[simp] theorem State.setFunc_out (m : Nat) (f : FuncDyn) : (s.setFunc m f).out = s.out := s.out_of_hst _
@[simp] theorem State.setFunc_free (m : Nat) (f : FuncDyn) : (s.setFunc m f).free = s.free := s.free_of_hst _

/-! ### setHport -/

@[simp] theorem State.setHport_pending (p : Nat) (d : PortDyn) : (s.setHport p d).pending = s.pending := s.pending_of_hst _
@[simp] theorem State.setHport_dict (p : Nat) (d : PortDyn) : (s.setHport p d).dict = s.dict := s.dict_of_hst _
@[simp] theorem State.setHport_regs (p : Nat) (d : PortDyn) : (s.setHport p d).regs = s.regs := s.regs_of_hst _
@[simp] theorem State.setHport_loop (p : Nat) (d : PortDyn) : (s.setHport p d).loop = s.loop := s.loop_of_hst _
@[simp] theorem State.setHport_coreMem (p : Nat) (d : PortDyn) : (s.setHport p d).coreMem = s.coreMem := s.coreMem_of_hst _
@[simp] theorem State.setHport_backup (p : Nat) (d : PortDyn) : (s.setHport p d).backup = s.backup := s.backup_of_hst _
@[simp] theorem State.setHport_dwBuf (p : Nat) (d : PortDyn) : (s.setHport p d).dwBuf = s.dwBuf := s.dwBuf_of_hst _
@[simp] theorem State.setHport_clk (p : Nat) (d : PortDyn) : (s.setHport p d).clk = s.clk := s.clk_of_hst _
@[simp] theorem State.setHport_acc (p : Nat) (d : PortDyn) : (s.setHport p d).acc = s.acc := s.acc_of_hst _
@[simp] theorem State.setHport_net (p : Nat) (d : PortDyn) : (s.setHport p d).net = s.net := s.net_of_hst _
@[simp] theorem State.setHport_adm (p : Nat) (d : PortDyn) : (s.setHport p d).adm = s.adm := s.adm_of_hst _
@[simp] theorem State.setHport_cip (p : Nat) (d : PortDyn) : (s.setHport p d).cip = s.cip := s.cip_of_hst _
@[simp] theorem State.setHport_sto (p : Nat) (d : PortDyn) : (s.setHport p d).sto = s.sto := s.sto_of_hst _
@[simp] theorem State.setHport_rng (p : Nat) (d : PortDyn) : (s.setHport p d).rng = s.rng := s.rng_of_hst _
@[simp] theorem State.setHport_thr (p : Nat) (d : PortDyn) : (s.setHport p d).thr = s.thr := s.thr_of_hst _
@[simp] theorem State.setHport_cells (p : Nat) (d : PortDyn) : (s.setHport p d).cells = s.cells := s.cells_of_hst _
@[simp] theorem State.setHport_dma (p : Nat) (d : PortDyn) : (s.setHport p d).dma = s.dma := s.dma_of_hst _
@[simp] theorem State.setHport_pwr (p : Nat) (d : PortDyn) : (s.setHport p d).pwr = s.pwr := s.pwr_of_hst _
@[simp] theorem State.setHport_flt (p : Nat) (d : PortDyn) : (s.setHport p d).flt = s.flt := s.flt_of_hst _
@[simp] theorem State.setHport_log (p : Nat) (d : PortDyn) : (s.setHport p d).log = s.log := s.log_of_hst _
@[simp] theorem State.setHport_out (p : Nat) (d : PortDyn) : (s.setHport p d).out = s.out := s.out_of_hst _
@[simp] theorem State.setHport_free (p : Nat) (d : PortDyn) : (s.setHport p d).free = s.free := s.free_of_hst _

/-! ### setRing -/

@[simp] theorem State.setRing_pending (owner : Nat) (tx : Bool) (r : Nat) (d : RingDyn) : (s.setRing owner tx r d).pending = s.pending := s.pending_of_rng _
@[simp] theorem State.setRing_dict (owner : Nat) (tx : Bool) (r : Nat) (d : RingDyn) : (s.setRing owner tx r d).dict = s.dict := s.dict_of_rng _
@[simp] theorem State.setRing_regs (owner : Nat) (tx : Bool) (r : Nat) (d : RingDyn) : (s.setRing owner tx r d).regs = s.regs := s.regs_of_rng _
@[simp] theorem State.setRing_loop (owner : Nat) (tx : Bool) (r : Nat) (d : RingDyn) : (s.setRing owner tx r d).loop = s.loop := s.loop_of_rng _
@[simp] theorem State.setRing_coreMem (owner : Nat) (tx : Bool) (r : Nat) (d : RingDyn) : (s.setRing owner tx r d).coreMem = s.coreMem := s.coreMem_of_rng _
@[simp] theorem State.setRing_backup (owner : Nat) (tx : Bool) (r : Nat) (d : RingDyn) : (s.setRing owner tx r d).backup = s.backup := s.backup_of_rng _
@[simp] theorem State.setRing_dwBuf (owner : Nat) (tx : Bool) (r : Nat) (d : RingDyn) : (s.setRing owner tx r d).dwBuf = s.dwBuf := s.dwBuf_of_rng _
@[simp] theorem State.setRing_clk (owner : Nat) (tx : Bool) (r : Nat) (d : RingDyn) : (s.setRing owner tx r d).clk = s.clk := s.clk_of_rng _
@[simp] theorem State.setRing_acc (owner : Nat) (tx : Bool) (r : Nat) (d : RingDyn) : (s.setRing owner tx r d).acc = s.acc := s.acc_of_rng _
@[simp] theorem State.setRing_net (owner : Nat) (tx : Bool) (r : Nat) (d : RingDyn) : (s.setRing owner tx r d).net = s.net := s.net_of_rng _
@[simp] theorem State.setRing_adm (owner : Nat) (tx : Bool) (r : Nat) (d : RingDyn) : (s.setRing owner tx r d).adm = s.adm := s.adm_of_rng _
@[simp] theorem State.setRing_cip (owner : Nat) (tx : Bool) (r : Nat) (d : RingDyn) : (s.setRing owner tx r d).cip = s.cip := s.cip_of_rng _
@[simp] theorem State.setRing_sto (owner : Nat) (tx : Bool) (r : Nat) (d : RingDyn) : (s.setRing owner tx r d).sto = s.sto := s.sto_of_rng _
@[simp] theorem State.setRing_hst (owner : Nat) (tx : Bool) (r : Nat) (d : RingDyn) : (s.setRing owner tx r d).hst = s.hst := s.hst_of_rng _
@[simp] theorem State.setRing_thr (owner : Nat) (tx : Bool) (r : Nat) (d : RingDyn) : (s.setRing owner tx r d).thr = s.thr := s.thr_of_rng _
@[simp] theorem State.setRing_cells (owner : Nat) (tx : Bool) (r : Nat) (d : RingDyn) : (s.setRing owner tx r d).cells = s.cells := s.cells_of_rng _
@[simp] theorem State.setRing_dma (owner : Nat) (tx : Bool) (r : Nat) (d : RingDyn) : (s.setRing owner tx r d).dma = s.dma := s.dma_of_rng _
@[simp] theorem State.setRing_pwr (owner : Nat) (tx : Bool) (r : Nat) (d : RingDyn) : (s.setRing owner tx r d).pwr = s.pwr := s.pwr_of_rng _
@[simp] theorem State.setRing_flt (owner : Nat) (tx : Bool) (r : Nat) (d : RingDyn) : (s.setRing owner tx r d).flt = s.flt := s.flt_of_rng _
@[simp] theorem State.setRing_log (owner : Nat) (tx : Bool) (r : Nat) (d : RingDyn) : (s.setRing owner tx r d).log = s.log := s.log_of_rng _
@[simp] theorem State.setRing_out (owner : Nat) (tx : Bool) (r : Nat) (d : RingDyn) : (s.setRing owner tx r d).out = s.out := s.out_of_rng _
@[simp] theorem State.setRing_free (owner : Nat) (tx : Bool) (r : Nat) (d : RingDyn) : (s.setRing owner tx r d).free = s.free := s.free_of_rng _

/-! ### setBlob -/

@[simp] theorem State.setBlob_pending (ix sub : Nat) (b : Bytes) : (s.setBlob ix sub b).pending = s.pending := s.pending_of_acc _
@[simp] theorem State.setBlob_dict (ix sub : Nat) (b : Bytes) : (s.setBlob ix sub b).dict = s.dict := s.dict_of_acc _
@[simp] theorem State.setBlob_regs (ix sub : Nat) (b : Bytes) : (s.setBlob ix sub b).regs = s.regs := s.regs_of_acc _
@[simp] theorem State.setBlob_loop (ix sub : Nat) (b : Bytes) : (s.setBlob ix sub b).loop = s.loop := s.loop_of_acc _
@[simp] theorem State.setBlob_coreMem (ix sub : Nat) (b : Bytes) : (s.setBlob ix sub b).coreMem = s.coreMem := s.coreMem_of_acc _
@[simp] theorem State.setBlob_backup (ix sub : Nat) (b : Bytes) : (s.setBlob ix sub b).backup = s.backup := s.backup_of_acc _
@[simp] theorem State.setBlob_dwBuf (ix sub : Nat) (b : Bytes) : (s.setBlob ix sub b).dwBuf = s.dwBuf := s.dwBuf_of_acc _
@[simp] theorem State.setBlob_clk (ix sub : Nat) (b : Bytes) : (s.setBlob ix sub b).clk = s.clk := s.clk_of_acc _
@[simp] theorem State.setBlob_net (ix sub : Nat) (b : Bytes) : (s.setBlob ix sub b).net = s.net := s.net_of_acc _
@[simp] theorem State.setBlob_adm (ix sub : Nat) (b : Bytes) : (s.setBlob ix sub b).adm = s.adm := s.adm_of_acc _
@[simp] theorem State.setBlob_cip (ix sub : Nat) (b : Bytes) : (s.setBlob ix sub b).cip = s.cip := s.cip_of_acc _
@[simp] theorem State.setBlob_sto (ix sub : Nat) (b : Bytes) : (s.setBlob ix sub b).sto = s.sto := s.sto_of_acc _
@[simp] theorem State.setBlob_hst (ix sub : Nat) (b : Bytes) : (s.setBlob ix sub b).hst = s.hst := s.hst_of_acc _
@[simp] theorem State.setBlob_rng (ix sub : Nat) (b : Bytes) : (s.setBlob ix sub b).rng = s.rng := s.rng_of_acc _
@[simp] theorem State.setBlob_thr (ix sub : Nat) (b : Bytes) : (s.setBlob ix sub b).thr = s.thr := s.thr_of_acc _
@[simp] theorem State.setBlob_cells (ix sub : Nat) (b : Bytes) : (s.setBlob ix sub b).cells = s.cells := s.cells_of_acc _
@[simp] theorem State.setBlob_dma (ix sub : Nat) (b : Bytes) : (s.setBlob ix sub b).dma = s.dma := s.dma_of_acc _
@[simp] theorem State.setBlob_pwr (ix sub : Nat) (b : Bytes) : (s.setBlob ix sub b).pwr = s.pwr := s.pwr_of_acc _
@[simp] theorem State.setBlob_flt (ix sub : Nat) (b : Bytes) : (s.setBlob ix sub b).flt = s.flt := s.flt_of_acc _
@[simp] theorem State.setBlob_log (ix sub : Nat) (b : Bytes) : (s.setBlob ix sub b).log = s.log := s.log_of_acc _
@[simp] theorem State.setBlob_out (ix sub : Nat) (b : Bytes) : (s.setBlob ix sub b).out = s.out := s.out_of_acc _
@[simp] theorem State.setBlob_free (ix sub : Nat) (b : Bytes) : (s.setBlob ix sub b).free = s.free := s.free_of_acc _

/-! ### setKey -/

@[simp] theorem State.setKey_pending (k : Nat) (d : DoluxKey) : (s.setKey k d).pending = s.pending := s.pending_of_acc _
@[simp] theorem State.setKey_dict (k : Nat) (d : DoluxKey) : (s.setKey k d).dict = s.dict := s.dict_of_acc _
@[simp] theorem State.setKey_regs (k : Nat) (d : DoluxKey) : (s.setKey k d).regs = s.regs := s.regs_of_acc _
@[simp] theorem State.setKey_loop (k : Nat) (d : DoluxKey) : (s.setKey k d).loop = s.loop := s.loop_of_acc _
@[simp] theorem State.setKey_coreMem (k : Nat) (d : DoluxKey) : (s.setKey k d).coreMem = s.coreMem := s.coreMem_of_acc _
@[simp] theorem State.setKey_backup (k : Nat) (d : DoluxKey) : (s.setKey k d).backup = s.backup := s.backup_of_acc _
@[simp] theorem State.setKey_dwBuf (k : Nat) (d : DoluxKey) : (s.setKey k d).dwBuf = s.dwBuf := s.dwBuf_of_acc _
@[simp] theorem State.setKey_clk (k : Nat) (d : DoluxKey) : (s.setKey k d).clk = s.clk := s.clk_of_acc _
@[simp] theorem State.setKey_net (k : Nat) (d : DoluxKey) : (s.setKey k d).net = s.net := s.net_of_acc _
@[simp] theorem State.setKey_adm (k : Nat) (d : DoluxKey) : (s.setKey k d).adm = s.adm := s.adm_of_acc _
@[simp] theorem State.setKey_cip (k : Nat) (d : DoluxKey) : (s.setKey k d).cip = s.cip := s.cip_of_acc _
@[simp] theorem State.setKey_sto (k : Nat) (d : DoluxKey) : (s.setKey k d).sto = s.sto := s.sto_of_acc _
@[simp] theorem State.setKey_hst (k : Nat) (d : DoluxKey) : (s.setKey k d).hst = s.hst := s.hst_of_acc _
@[simp] theorem State.setKey_rng (k : Nat) (d : DoluxKey) : (s.setKey k d).rng = s.rng := s.rng_of_acc _
@[simp] theorem State.setKey_thr (k : Nat) (d : DoluxKey) : (s.setKey k d).thr = s.thr := s.thr_of_acc _
@[simp] theorem State.setKey_cells (k : Nat) (d : DoluxKey) : (s.setKey k d).cells = s.cells := s.cells_of_acc _
@[simp] theorem State.setKey_dma (k : Nat) (d : DoluxKey) : (s.setKey k d).dma = s.dma := s.dma_of_acc _
@[simp] theorem State.setKey_pwr (k : Nat) (d : DoluxKey) : (s.setKey k d).pwr = s.pwr := s.pwr_of_acc _
@[simp] theorem State.setKey_flt (k : Nat) (d : DoluxKey) : (s.setKey k d).flt = s.flt := s.flt_of_acc _
@[simp] theorem State.setKey_log (k : Nat) (d : DoluxKey) : (s.setKey k d).log = s.log := s.log_of_acc _
@[simp] theorem State.setKey_out (k : Nat) (d : DoluxKey) : (s.setKey k d).out = s.out := s.out_of_acc _
@[simp] theorem State.setKey_free (k : Nat) (d : DoluxKey) : (s.setKey k d).free = s.free := s.free_of_acc _

/-! ### setVerdict -/

@[simp] theorem State.setVerdict_pending (m : Nat) (d : Verdict) : (s.setVerdict m d).pending = s.pending := s.pending_of_acc _
@[simp] theorem State.setVerdict_dict (m : Nat) (d : Verdict) : (s.setVerdict m d).dict = s.dict := s.dict_of_acc _
@[simp] theorem State.setVerdict_regs (m : Nat) (d : Verdict) : (s.setVerdict m d).regs = s.regs := s.regs_of_acc _
@[simp] theorem State.setVerdict_loop (m : Nat) (d : Verdict) : (s.setVerdict m d).loop = s.loop := s.loop_of_acc _
@[simp] theorem State.setVerdict_coreMem (m : Nat) (d : Verdict) : (s.setVerdict m d).coreMem = s.coreMem := s.coreMem_of_acc _
@[simp] theorem State.setVerdict_backup (m : Nat) (d : Verdict) : (s.setVerdict m d).backup = s.backup := s.backup_of_acc _
@[simp] theorem State.setVerdict_dwBuf (m : Nat) (d : Verdict) : (s.setVerdict m d).dwBuf = s.dwBuf := s.dwBuf_of_acc _
@[simp] theorem State.setVerdict_clk (m : Nat) (d : Verdict) : (s.setVerdict m d).clk = s.clk := s.clk_of_acc _
@[simp] theorem State.setVerdict_net (m : Nat) (d : Verdict) : (s.setVerdict m d).net = s.net := s.net_of_acc _
@[simp] theorem State.setVerdict_adm (m : Nat) (d : Verdict) : (s.setVerdict m d).adm = s.adm := s.adm_of_acc _
@[simp] theorem State.setVerdict_cip (m : Nat) (d : Verdict) : (s.setVerdict m d).cip = s.cip := s.cip_of_acc _
@[simp] theorem State.setVerdict_sto (m : Nat) (d : Verdict) : (s.setVerdict m d).sto = s.sto := s.sto_of_acc _
@[simp] theorem State.setVerdict_hst (m : Nat) (d : Verdict) : (s.setVerdict m d).hst = s.hst := s.hst_of_acc _
@[simp] theorem State.setVerdict_rng (m : Nat) (d : Verdict) : (s.setVerdict m d).rng = s.rng := s.rng_of_acc _
@[simp] theorem State.setVerdict_thr (m : Nat) (d : Verdict) : (s.setVerdict m d).thr = s.thr := s.thr_of_acc _
@[simp] theorem State.setVerdict_cells (m : Nat) (d : Verdict) : (s.setVerdict m d).cells = s.cells := s.cells_of_acc _
@[simp] theorem State.setVerdict_dma (m : Nat) (d : Verdict) : (s.setVerdict m d).dma = s.dma := s.dma_of_acc _
@[simp] theorem State.setVerdict_pwr (m : Nat) (d : Verdict) : (s.setVerdict m d).pwr = s.pwr := s.pwr_of_acc _
@[simp] theorem State.setVerdict_flt (m : Nat) (d : Verdict) : (s.setVerdict m d).flt = s.flt := s.flt_of_acc _
@[simp] theorem State.setVerdict_log (m : Nat) (d : Verdict) : (s.setVerdict m d).log = s.log := s.log_of_acc _
@[simp] theorem State.setVerdict_out (m : Nat) (d : Verdict) : (s.setVerdict m d).out = s.out := s.out_of_acc _
@[simp] theorem State.setVerdict_free (m : Nat) (d : Verdict) : (s.setVerdict m d).free = s.free := s.free_of_acc _

/-! ### Reads after writes -/

/-- Distinct cells have distinct keys. -/
theorem cellKey_inj {ix row sub ix' row' sub' : Nat} (hr : row < 2 ^ 32) (hr' : row' < 2 ^ 32) (hs : sub < 256)
    (hs' : sub' < 256) : Machine.cellKey ix row sub = Machine.cellKey ix' row' sub' ↔ ix = ix' ∧ row = row' ∧ sub = sub' := by
  unfold Machine.cellKey; omega

/-- A cell after a write of a cell. -/
theorem State.cell_setCell (ix row sub v ix' row' sub' : Nat) :
    (s.setCell ix row sub v).cell ix' row' sub'
      = if Machine.cellKey ix' row' sub' = Machine.cellKey ix row sub then v else s.cell ix' row' sub' :=
  NMap.get_set s.dict _ _ v

/-- The cell just written. -/
@[simp] theorem State.cell_setCell_self (ix row sub v : Nat) : (s.setCell ix row sub v).cell ix row sub = v :=
  NMap.get_set_self s.dict _ v

/-- The scalar just written. -/
@[simp] theorem State.ob_setOb_self (ix sub v : Nat) : (s.setOb ix sub v).ob ix sub = v := s.cell_setCell_self ix 0 sub v

/-- A write of a register leaves every cell. -/
@[simp] theorem State.setReg_cell (owner off : Nat) (v : Word) (ix row sub : Nat) :
    (s.setReg owner off v).cell ix row sub = s.cell ix row sub := by
  simp only [State.cell, State.setReg_dict]

/-- A write of a cell leaves every register. -/
@[simp] theorem State.setCell_reg (ix row sub v owner off : Nat) :
    (s.setCell ix row sub v).reg owner off = s.reg owner off := by
  simp only [State.reg, State.setCell_regs]

/-- The register just written. -/
@[simp] theorem State.reg_setReg_self (owner off : Nat) (v : Word) : (s.setReg owner off v).reg owner off = v :=
  NMap.get_set_self s.regs _ v

/-- A register after a write of a register. -/
theorem State.reg_setReg (owner off : Nat) (v : Word) (owner' off' : Nat) :
    (s.setReg owner off v).reg owner' off' = if regKey owner' off' = regKey owner off then v else s.reg owner' off' :=
  NMap.get_set s.regs _ _ v

end Sys2Proof.Machine
end

