-- ==== Sys2Proof/Laws/Quiet.lean ====
section
/-! SUPPORT. What records, sources, messages, thread selection and answers can do, said once for each shared operation:
they leave every cell outside the loud objects, every memory and every unit's state as it was. -/

namespace Sys2Proof.Machine

/-! ### Cells of different objects -/

/-- A write of one object leaves the cells of every other. -/
theorem State.cell_setCell_ix (s : State) {ix ix' : Nat} (row sub v row' sub' : Nat) (h : ix' ≠ ix) :
    (s.setCell ix row sub v).cell ix' row' sub' = s.cell ix' row' sub' := by
  rw [s.cell_setCell, if_neg]
  unfold Machine.cellKey
  omega

/-- A write of one subindex leaves the others of the object. -/
theorem State.cell_setCell_sub (s : State) (ix row v row' : Nat) {sub sub' : Nat} (h : sub' % 256 ≠ sub % 256) :
    (s.setCell ix row sub v).cell ix row' sub' = s.cell ix row' sub' := by
  rw [s.cell_setCell, if_neg]
  unfold Machine.cellKey
  omega

/-- A write of one row leaves the others of the object. -/
theorem State.cell_setCell_row (s : State) (ix sub v sub' : Nat) {row row' : Nat} (h : row' % 2 ^ 32 ≠ row % 2 ^ 32) :
    (s.setCell ix row sub v).cell ix row' sub' = s.cell ix row' sub' := by
  rw [s.cell_setCell, if_neg]
  unfold Machine.cellKey
  omega

/-! ### The frame of what accompanies an effect -/

/-- What answers, records and sources leave as it was. -/
structure Still (s t : State) : Prop where
  pending : t.pending = s.pending
  loop : t.loop = s.loop
  coreMem : t.coreMem = s.coreMem
  backup : t.backup = s.backup
  clk : t.clk = s.clk
  net : Part.net.same s t
  adm : t.adm = s.adm
  cip : t.cip = s.cip
  sto : t.sto = s.sto
  cells : t.cells = s.cells
  dma : t.dma = s.dma
  pwr : t.pwr = s.pwr
  flt : t.flt = s.flt
  free : t.free = s.free
  cell : ∀ ix row sub, loud ix sub = false → t.cell ix row sub = s.cell ix row sub

/-- What records and sources leave as it was: besides, the registers, the windows, the object server and the frames that wait
for a slot. -/
structure Quiet (s t : State) : Prop extends Still s t where
  regs : t.regs = s.regs
  dwBuf : t.dwBuf = s.dwBuf
  acc : t.acc = s.acc
  waiting : t.net = s.net

theorem Still.refl (s : State) : Still s s :=
  ⟨rfl, rfl, rfl, rfl, rfl, rfl, rfl, rfl, rfl, rfl, rfl, rfl, rfl, rfl, fun _ _ _ _ => rfl⟩

theorem Quiet.refl (s : State) : Quiet s s := ⟨Still.refl s, rfl, rfl, rfl, rfl⟩

theorem Still.trans {s t u : State} (h : Still s t) (k : Still t u) : Still s u :=
  ⟨k.pending.trans h.pending, k.loop.trans h.loop, k.coreMem.trans h.coreMem, k.backup.trans h.backup,
   k.clk.trans h.clk, Eq.trans k.net h.net, k.adm.trans h.adm, k.cip.trans h.cip, k.sto.trans h.sto,
   k.cells.trans h.cells, k.dma.trans h.dma, k.pwr.trans h.pwr, k.flt.trans h.flt, k.free.trans h.free,
   fun ix row sub l => (k.cell ix row sub l).trans (h.cell ix row sub l)⟩

theorem Quiet.trans {s t u : State} (h : Quiet s t) (k : Quiet t u) : Quiet s u :=
  ⟨h.toStill.trans k.toStill, k.regs.trans h.regs, k.dwBuf.trans h.dwBuf, k.acc.trans h.acc, k.waiting.trans h.waiting⟩

theorem Quiet.ite {s t u : State} {p : Prop} [Decidable p] (h : Quiet s t) (k : Quiet s u) :
    Quiet s (if p then t else u) := by
  split
  · exact h
  · exact k

/-- A scalar outside the loud fields. -/
theorem Still.ob {s t : State} (h : Still s t) (ix sub : Nat) (l : loud ix sub = false) : t.ob ix sub = s.ob ix sub :=
  h.cell ix 0 sub l

theorem Quiet.reg {s t : State} (h : Quiet s t) (owner off : Nat) : t.reg owner off = s.reg owner off := by
  unfold State.reg
  rw [h.regs]

theorem Still.kept {s t : State} (h : Still s t) : FieldsKept (orLoud noField) s t :=
  fun ix row sub _ _ l => h.cell ix row sub (by simpa [orLoud, noField] using l)

/-! ### Sources, threads, messages -/

variable (s : State)

theorem State.emit_quiet (o : Output) : Quiet s (s.emit o) :=
  ⟨⟨rfl, rfl, rfl, rfl, rfl, rfl, rfl, rfl, rfl, rfl, rfl, rfl, rfl, rfl, fun _ _ _ _ => rfl⟩, rfl, rfl, rfl, rfl⟩

/-- An object all of whose fields are loud. -/
def loudIx (ix : Nat) : Bool := [0x1402, 0x9100, 0x9101, 0x93F0, 0x9400, 0xC000].contains ix

theorem loud_of_ix {ix : Nat} (h : loudIx ix = true) (sub : Nat) : loud ix sub = true := by
  unfold loud
  unfold loudIx at h
  rw [h]
  rfl

/-- A write of a loud object. -/
theorem State.setCell_quiet (ix row sub v : Nat) (h : loudIx ix = true) : Quiet s (s.setCell ix row sub v) :=
  ⟨⟨rfl, rfl, rfl, rfl, rfl, rfl, rfl, rfl, rfl, rfl, rfl, rfl, rfl, rfl, fun ix' row' sub' l =>
    s.cell_setCell_ix row sub v row' sub' (fun e => by rw [e, loud_of_ix h] at l; exact absurd l (by decide))⟩, rfl, rfl, rfl, rfl⟩

theorem State.setCells_quiet (ix row : Nat) (l : List (Nat × Nat)) (h : loudIx ix = true) : Quiet s (s.setCells ix row l) := by
  induction l generalizing s with
  | nil => exact Quiet.refl s
  | cons e l ih => exact (s.setCell_quiet ix row e.1 e.2 h).trans (ih _)

theorem State.bump_quiet (ix row sub n : Nat) (h : loudIx ix = true) : Quiet s (s.bump ix row sub n) :=
  s.setCell_quiet ix row sub _ h

theorem State.inc_quiet (ix sub : Nat) (h : loudIx ix = true) : Quiet s (s.inc ix sub) := s.setCell_quiet ix 0 sub _ h

theorem State.withRng_quiet (x : Rings) : Quiet s { s with rng := x } :=
  ⟨⟨rfl, rfl, rfl, rfl, rfl, rfl, rfl, rfl, rfl, rfl, rfl, rfl, rfl, rfl, fun _ _ _ _ => rfl⟩, rfl, rfl, rfl, rfl⟩

theorem State.withThr_quiet (x : Threads) : Quiet s { s with thr := x } :=
  ⟨⟨rfl, rfl, rfl, rfl, rfl, rfl, rfl, rfl, rfl, rfl, rfl, rfl, rfl, rfl, fun _ _ _ _ => rfl⟩, rfl, rfl, rfl, rfl⟩

theorem State.withLog_quiet (x : EventLog) : Quiet s { s with log := x } :=
  ⟨⟨rfl, rfl, rfl, rfl, rfl, rfl, rfl, rfl, rfl, rfl, rfl, rfl, rfl, rfl, fun _ _ _ _ => rfl⟩, rfl, rfl, rfl, rfl⟩

theorem State.setFunc_quiet (m : Nat) (f : FuncDyn) : Quiet s (s.setFunc m f) :=
  ⟨⟨rfl, rfl, rfl, rfl, rfl, rfl, rfl, rfl, rfl, rfl, rfl, rfl, rfl, rfl, fun _ _ _ _ => rfl⟩, rfl, rfl, rfl, rfl⟩

theorem State.msix_quiet (m v : Nat) : Quiet s (s.msix m v) := by
  unfold State.msix
  dsimp only
  split
  · exact Quiet.refl s
  · split
    · exact s.emit_quiet _
    · exact s.setFunc_quiet _ _

theorem State.setSrc_quiet (id st : Nat) : Quiet s (s.setSrc id st) :=
  (s.setCell_quiet 0x9100 id 0xA st rfl).trans (State.withRng_quiet _ _)

theorem State.setThread_quiet (n : Nat) (d : ThreadDyn) : Quiet s (s.setThread n d) := s.withThr_quiet _

theorem State.vacate_quiet (n : Nat) : Quiet s (s.vacate n) :=
  ((s.setCells_quiet 0x93F0 n _ rfl).trans (State.inc_quiet _ 0x9400 6 rfl)).trans (State.setThread_quiet _ n _)

theorem State.finishWait_quiet (n : Nat) : Quiet s (s.finishWait n) := by
  unfold State.finishWait
  dsimp only
  have h0 : Quiet s (s.setThread n { s.thread n with waits := 0, deadline := none, ranFrom := s.now, timedOut := false }) :=
    s.setThread_quiet n _
  split
  · have h1 := h0.trans (State.setCell_quiet _ 0x93F0 n 7 0 rfl)
    split
    · exact (h1.trans (State.setThread_quiet _ n _)).trans (State.emit_quiet _ _)
    · split
      · exact (h1.trans (State.setThread_quiet _ n _)).trans (State.emit_quiet _ _)
      · exact h1.trans (State.emit_quiet _ _)
  · split
    · have h1 := h0.trans (State.setCell_quiet _ 0x93F0 n 7 0 rfl)
      split
      · exact (h1.trans (State.vacate_quiet _ _)).trans (State.emit_quiet _ _)
      · split
        · exact ((h1.trans (State.setThread_quiet _ _ _)).trans (State.setCell_quiet _ 0x93F0 _ 9 _ rfl)).trans
            (State.emit_quiet _ _)
        · split
          · exact (h1.trans (State.setThread_quiet _ n _)).trans (State.emit_quiet _ _)
          · exact h1.trans (State.emit_quiet _ _)
    · exact h0

theorem State.setThSt_quiet (n st : Nat) : Quiet s (s.setThSt n st) := s.setCell_quiet 0x93F0 n 5 st rfl

theorem State.runThread_quiet (n : Nat) : Quiet s (s.runThread n) := by
  unfold State.runThread
  dsimp only
  have h0 := (s.setThSt_quiet n 2).trans (State.withThr_quiet (s.setThSt n 2)
    { (s.setThSt n 2).thr with last := NMap.put 15 (s.setThSt n 2).thr.last (n / 16) (n % 16) })
  split
  · have h1 := h0.trans (State.setCell_quiet _ 0x9400 0 5 0 rfl)
    split
    · split
      · exact h1
      · exact h1.trans (State.finishWait_quiet _ n)
    · exact h1
  · split
    · split
      · exact h0
      · exact h0.trans (State.finishWait_quiet _ n)
    · exact h0

theorem State.dispatch_quiet (c : Nat) : Quiet s (s.dispatch c) := by
  unfold State.dispatch
  split
  · exact Quiet.refl s
  · split
    · exact Quiet.refl s
    · exact s.runThread_quiet _

theorem State.makeReady_quiet (n : Nat) : Quiet s (s.makeReady n) := (s.setThSt_quiet n 1).trans (State.dispatch_quiet _ _)

theorem State.wakeThread_quiet (n : Nat) : Quiet s (s.wakeThread n) := by
  unfold State.wakeThread
  split
  · exact s.makeReady_quiet n
  · exact Quiet.refl s

theorem State.deliver_quiet (ctx : Nat) : Quiet s (s.deliver ctx) := by
  unfold State.deliver
  split
  · exact s.wakeThread_quiet ctx
  · split
    · exact Quiet.refl s
    · split
      · exact Quiet.refl s
      · exact (s.withRng_quiet _).trans (State.msix_quiet _ _ _)

theorem State.deliverFor_quiet (id : Nat) : Quiet s (s.deliverFor id) := by
  unfold State.deliverFor
  split
  · exact Quiet.refl s
  · exact s.deliver_quiet _

theorem State.edge_quiet (id : Nat) : Quiet s (s.edge id) := by
  unfold State.edge
  split
  · exact Quiet.refl s
  · split
    · exact ((s.setSrc_quiet id 1).trans (State.bump_quiet _ 0x9100 id 0xB 1 rfl)).trans (State.deliverFor_quiet _ id)
    · split
      · exact s.bump_quiet 0x9100 id 0xC 1 rfl
      · split
        · exact s.setSrc_quiet id 3
        · exact s.bump_quiet 0x9100 id 0xC 1 rfl

theorem State.levelOn_quiet (id : Nat) : Quiet s (s.levelOn id) := by
  unfold State.levelOn
  dsimp only
  have h0 := s.withRng_quiet { s.rng with levels := insertId s.rng.levels id }
  split
  · exact ((h0.trans (State.setSrc_quiet _ id 1)).trans (State.bump_quiet _ 0x9100 id 0xB 1 rfl)).trans
      (State.deliverFor_quiet _ id)
  · exact h0

theorem State.levelOff_quiet (id : Nat) : Quiet s (s.levelOff id) := by
  unfold State.levelOff
  dsimp only
  have h0 := s.withRng_quiet { s.rng with levels := s.rng.levels.filter (· != id) }
  split
  · exact (h0.trans (State.setSrc_quiet _ id 0)).trans (State.deliverFor_quiet _ id)
  · exact h0

theorem State.level_quiet (id : Nat) (on : Bool) : Quiet s (s.level id on) := by
  cases on
  · exact s.levelOff_quiet id
  · exact s.levelOn_quiet id

/-! ### Records -/

theorem State.stageRecord_quiet (e : Event) : Quiet s (s.stageRecord e) := by
  unfold State.stageRecord
  split
  · exact s.inc_quiet 0x1402 0x12 rfl
  · exact ((s.withLog_quiet _).trans (State.setCell_quiet _ 0x1402 0 0x11 _ rfl)).trans (State.edge_quiet _ 0x7A3)

theorem State.record_quiet (code sup : Nat) (data : List Nat) : Quiet s (s.record code sup data) := by
  unfold State.record
  dsimp only
  refine Quiet.trans (Quiet.ite ?_ ?_) (State.stageRecord_quiet _ _)
  · exact (s.emit_quiet _).trans (State.inc_quiet _ 0xC000 0xB rfl)
  · exact Quiet.refl s

theorem State.event_quiet (code : Nat) (data : List Nat) : Quiet s (s.event code data) := s.record_quiet code 0 data

theorem State.setLimit_quiet (code key last held : Nat) : Quiet s (s.setLimit code key last held) := s.withLog_quiet _

theorem State.eventGap_quiet (gap code key : Nat) (data : List Nat) : Quiet s (s.eventGap gap code key data) := by
  unfold State.eventGap
  split
  · exact (s.setLimit_quiet _ _ _ _).trans (State.record_quiet _ _ _ _)
  · split
    · exact s.setLimit_quiet _ _ _ _
    · exact (s.setLimit_quiet _ _ _ _).trans (State.record_quiet _ _ _ _)

theorem State.eventLim_quiet (code key : Nat) (data : List Nat) : Quiet s (s.eventLim code key data) :=
  s.eventGap_quiet _ code key data

/-! ### Answers -/

theorem State.setReg_still (owner off : Nat) (v : Word) : Still s (s.setReg owner off v) :=
  ⟨s.setReg_pending _ _ _, s.setReg_loop _ _ _, s.setReg_coreMem _ _ _, s.setReg_backup _ _ _, s.setReg_clk _ _ _,
   (congrArg (fun n : Net => ({ n with waiting := [] } : Net)) (s.setReg_net owner off v) :
     Part.net.same s (s.setReg owner off v)), s.setReg_adm _ _ _, s.setReg_cip _ _ _, s.setReg_sto _ _ _, s.setReg_cells _ _ _,
   s.setReg_dma _ _ _, s.setReg_pwr _ _ _, s.setReg_flt _ _ _, s.setReg_free _ _ _,
   fun _ _ _ _ => s.setReg_cell _ _ _ _ _ _⟩

theorem State.withAcc_still (x : Access) : Still s { s with acc := x } :=
  ⟨rfl, rfl, rfl, rfl, rfl, rfl, rfl, rfl, rfl, rfl, rfl, rfl, rfl, rfl, fun _ _ _ _ => rfl⟩

theorem State.withDwBuf_still (x : NMap Byte) : Still s { s with dwBuf := x } :=
  ⟨rfl, rfl, rfl, rfl, rfl, rfl, rfl, rfl, rfl, rfl, rfl, rfl, rfl, rfl, fun _ _ _ _ => rfl⟩

theorem State.dwLevel_quiet : Quiet s s.dwLevel := s.level_quiet _ _

theorem State.setSession_still (k : Nat) (d : Option Session) : Still s (s.setSession k d) :=
  (s.withAcc_still _).trans (State.level_quiet _ _ _).toStill

theorem State.setKey_still (k : Nat) (d : DoluxKey) : Still s (s.setKey k d) := s.withAcc_still _

theorem State.dwDone_still (p : HostPort) : Still s (s.dwDone p) := by
  unfold State.dwDone
  dsimp only
  have h0 : Still s (((s.setSession (winSlot p) none).setRegBits (portMaster p) (dw 0x10) 1 0 2).dwLevel) :=
    ((s.setSession_still _ _).trans (State.setReg_still _ _ _ _)).trans (State.dwLevel_quiet _).toStill
  split
  · exact h0.trans (State.msix_quiet _ _ _).toStill
  · exact h0

theorem State.dwAnswer_still (p : HostPort) (b : Bytes) : Still s (s.dwAnswer p b) := by
  unfold State.dwAnswer
  dsimp only
  split
  · exact Still.refl s
  · next d _ =>
    split
    · exact (((s.withDwBuf_still _).trans (State.setReg_still _ (portMaster p) (dw 0x14) _)).trans
        (State.setReg_still _ (portMaster p) (dw 0x10) _)).trans (State.dwDone_still _ p)
    · exact (((s.withDwBuf_still _).trans (State.setReg_still _ (portMaster p) (dw 0x14) _)).trans
        (State.setReg_still _ (portMaster p) (dw 0x10) _)).trans (State.setSession_still _ _ _)

/-- A frame more that waits for a slot. -/
theorem State.withWaiting_still (x : List Waiting) : Still s { s with net := { s.net with waiting := x } } :=
  ⟨rfl, rfl, rfl, rfl, rfl, rfl, rfl, rfl, rfl, rfl, rfl, rfl, rfl, rfl, fun _ _ _ _ => rfl⟩

theorem State.sendMgmt_still (m : MgmtLane) (frame : Bytes) : Still s (s.sendMgmt m frame) := by
  refine (s.emit_quiet (.mgmt (mgmtNo m) frame)).toStill.trans ?_
  refine ⟨rfl, rfl, rfl, rfl, rfl, rfl, rfl, rfl, rfl, rfl, rfl, rfl, rfl, rfl, fun ix row sub l => ?_⟩
  unfold State.sendMgmt State.bump
  rw [State.cell_setCell, if_neg]
  intro e
  have hs : sub % 256 = 5 := by
    unfold Machine.cellKey at e
    omega
  have hi : ix = mgmtIx m := by
    unfold Machine.cellKey at e
    omega
  rw [hi] at l
  unfold loud at l
  cases m <;> simp [mgmtIx, hs] at l

theorem State.sendBack_still (at_ : DoluxPlace) (frame : Bytes) : Still s (s.sendBack at_ frame) := by
  unfold State.sendBack
  split
  · exact s.withWaiting_still _
  · exact s.sendMgmt_still _ _
  · exact s.withWaiting_still _

theorem State.respond_still (k : Nat) (d : Session) : Still s (s.respond k d) := by
  unfold State.respond
  split
  · exact Still.refl s
  · dsimp only
    split
    · exact ((s.setKey_still k _).trans (State.sendBack_still _ _ _)).trans (State.setSession_still _ k none)
    · exact (((s.setKey_still k _).trans (State.sendBack_still _ _ _)).trans (State.withAcc_still _ _)).trans
        (State.setSession_still _ k _)

theorem State.doluxAnswer_still (k status : Nat) (b : Bytes) : Still s (s.doluxAnswer k status b) := by
  unfold State.doluxAnswer
  split
  · exact Still.refl s
  · dsimp only
    split
    · exact s.respond_still _ _
    · exact s.setSession_still _ _

/-- An answer changes no cell outside the loud fields, no memory and no unit but the frames that wait for a slot. -/
theorem State.answer_still (v : Via) (ix sub status : Nat) (data : Bytes) : Still s (s.answer v ix sub status data) := by
  unfold State.answer
  split
  · exact s.dwAnswer_still _ _
  · exact s.doluxAnswer_still _ _ _
  · exact (s.emit_quiet _).toStill
  · exact s.setReg_still _ _ _

end Sys2Proof.Machine
end

