-- ==== Sys2Proof/Laws/Within.lean ====
section
/-! SUPPORT. What an operation can touch: the parts of State it may change, that it leaves the queue of commands alone and
keeps every memory canonical. -/

namespace Sys2Proof.Machine

/-- A set of parts as bits 0 to 21; the bits above stand for the pages of the dictionary. -/
def Part.bit : Part → Nat
  | .regs => 1
  | .loop => 2
  | .coreMem => 4
  | .backup => 8
  | .dwBuf => 16
  | .clk => 32
  | .acc => 64
  | .net => 128
  | .adm => 256
  | .cip => 512
  | .sto => 1024
  | .hst => 2048
  | .rng => 4096
  | .thr => 8192
  | .cells => 16384
  | .dma => 32768
  | .pwr => 65536
  | .flt => 131072
  | .log => 262144
  | .out => 524288
  | .free => 1048576
  | .waiting => 2097152

/-- The set of the listed parts. -/
def foot (l : List Part) : Nat := l.foldl (fun n p => n ||| p.bit) 0

/-- The bit of an object's page, the upper byte of its index; one bit stands for all indices from 0xD000 on, which no object has. -/
def pageNo (ix : Nat) : Nat := 22 + min (ix / 256) 208

/-- The set of the page of an object. -/
def pageBit (ix : Nat) : Nat := 2 ^ pageNo ix

/-- The set of the listed parts and of every page of the dictionary. -/
def dfoot (l : List Part) : Nat := foot l ||| (2 ^ 231 - 2 ^ 22)

/-- A part is in a set. -/
def hasPart (f : Nat) (p : Part) : Bool := f &&& p.bit != 0

/-- The page of an object is in a set. -/
def hasPage (f ix : Nat) : Bool := f.testBit (pageNo ix)

/-- All of `g` is in `f`. -/
def subFoot (g f : Nat) : Bool := g &&& f == g

/-- From `s` to `t` only the parts and the pages of `f` change; the queue stays; canonical memories stay canonical. -/
structure Within (f : Nat) (s t : State) : Prop where
  pending : t.pending = s.pending
  parts : ∀ p : Part, hasPart f p = false → p.same s t
  dict : ∀ ix, hasPage f ix = false → ∀ row sub, t.cell ix row sub = s.cell ix row sub
  canon : s.canonical = true → t.canonical = true

theorem Part.same_refl (p : Part) (s : State) : p.same s s := by cases p <;> rfl

theorem Part.same_trans {p : Part} {s t u : State} (h : p.same s t) (k : p.same t u) : p.same s u := by
  cases p <;> exact Eq.trans k h

theorem subFoot_part {g f : Nat} (h : subFoot g f = true) (p : Part) (k : hasPart f p = false) : hasPart g p = false := by
  unfold subFoot at h
  unfold hasPart at *
  simp only [beq_iff_eq, bne_eq_false_iff_eq] at *
  rw [← h, Nat.and_assoc, k, Nat.and_zero]

theorem subFoot_page {g f : Nat} (h : subFoot g f = true) (ix : Nat) (k : hasPage f ix = false) : hasPage g ix = false := by
  unfold subFoot at h
  unfold hasPage at *
  simp only [beq_iff_eq] at h
  rw [← h, Nat.testBit_and, k, Bool.and_false]

theorem hasPage_pageBit (ix : Nat) : hasPage (pageBit ix) ix = true := by
  unfold hasPage pageBit
  exact Nat.testBit_two_pow_self

theorem subFoot_trans {g f k : Nat} (h : subFoot g f = true) (e : subFoot f k = true) : subFoot g k = true := by
  unfold subFoot at *
  simp only [beq_iff_eq] at *
  rw [← h, Nat.and_assoc, e]

/-! ### Pages of the objects that are numbered -/

theorem subFoot_self (f : Nat) : subFoot f f = true := by
  unfold subFoot
  simp

theorem subFoot_left {g f k : Nat} (h : subFoot g f = true) : subFoot g (f ||| k) = true := by
  unfold subFoot at *
  simp only [beq_iff_eq] at *
  rw [Nat.and_or_distrib_left, h]
  apply Nat.eq_of_testBit_eq
  intro i
  simp only [Nat.testBit_or, Nat.testBit_and]
  cases g.testBit i <;> simp

theorem subFoot_right (f k : Nat) : subFoot k (f ||| k) = true := by
  rw [Nat.or_comm]
  exact subFoot_left (subFoot_self k)

theorem subFoot_or {a b f : Nat} (h : subFoot a f = true) (k : subFoot b f = true) : subFoot (a ||| b) f = true := by
  unfold subFoot at *
  simp only [beq_iff_eq] at *
  rw [Nat.and_or_distrib_right, h, k]

theorem subFoot_ite {f a b : Nat} {p : Prop} [Decidable p] (h : subFoot (pageBit a) f = true)
    (k : subFoot (pageBit b) f = true) : subFoot (pageBit (if p then a else b)) f = true := by
  split
  · exact h
  · exact k

/-- A page is in a set that holds the pages of a range. -/
theorem subFoot_pages {f g : Nat} (lo n : Nat) (hg : ∀ k, k < n → subFoot (2 ^ (22 + (lo + k))) g = true)
    (h : subFoot g f = true) (ix : Nat) (k : lo ≤ ix / 256) (l : ix / 256 < lo + n) (m : ix / 256 ≤ 208) :
    subFoot (pageBit ix) f = true := by
  refine subFoot_trans ?_ h
  have := hg (ix / 256 - lo) (by omega)
  unfold pageBit pageNo
  rw [Nat.min_eq_left m]
  rwa [show lo + (ix / 256 - lo) = ix / 256 by omega] at this

theorem subFoot_laneIx {f : Nat} {l : Nat} (h : subFoot 0x4000000000000000000000000000000000000000000400000000000000 f = true) : subFoot (pageBit (laneIx l)) f = true := by
  unfold laneIx
  split
  · exact subFoot_pages 0x24 1 (by decide) h _ (by omega) (by omega) (by omega)
  · exact subFoot_trans (by decide) h

theorem subFoot_portIx {f : Nat} {p : Nat} (h : subFoot 0x40000000000000000000000000000000000000000003C0000000000000 f = true) : subFoot (pageBit (portIx p)) f = true := by
  unfold portIx
  split
  · exact subFoot_pages 0x20 4 (by decide) h _ (by omega) (by omega) (by omega)
  · exact subFoot_trans (by decide) h

theorem subFoot_schedIx {f : Nat} {p : Nat} (h : subFoot 0x4000000000000000000000000000000000000003C00000000000000000 f = true) : subFoot (pageBit (schedIx p)) f = true := by
  unfold schedIx
  split
  · exact subFoot_pages 0x30 4 (by decide) h _ (by omega) (by omega) (by omega)
  · exact subFoot_trans (by decide) h

theorem subFoot_gateIx {f : Nat} {p : Nat} (h : subFoot 0x400000000000000000000000000000000000003C000000000000000000 f = true) : subFoot (pageBit (gateIx p)) f = true := by
  unfold gateIx
  split
  · exact subFoot_pages 0x34 4 (by decide) h _ (by omega) (by omega) (by omega)
  · exact subFoot_trans (by decide) h

theorem subFoot_hostIx {f : Nat} {p : Nat} (h : subFoot 0x4000000000000000000000008000000000000000000000000000000000 f = true) : subFoot (pageBit (hostIx p)) f = true := by
  unfold hostIx
  split
  · exact subFoot_pages 0x71 1 (by decide) h _ (by omega) (by omega) (by omega)
  · exact subFoot_trans (by decide) h

theorem subFoot_tenantIx {f : Nat} {t : Nat} (h : subFoot 0x40000000000000003FFFC0000000000000000000000000000000000000 f = true) : subFoot (pageBit (tenantIx t)) f = true := by
  unfold tenantIx
  split
  · exact subFoot_pages 0x80 16 (by decide) h _ (by omega) (by omega) (by omega)
  · exact subFoot_trans (by decide) h

theorem subFoot_cellIx {f : Nat} {c : Nat} (h : subFoot 0x400000003FFFC000000000000000000000000000000000000000000000 f = true) : subFoot (pageBit (cellIx c)) f = true := by
  unfold cellIx
  split
  · exact subFoot_pages 0xA0 16 (by decide) h _ (by omega) (by omega) (by omega)
  · exact subFoot_trans (by decide) h

theorem subFoot_mgmtIx {f : Nat} {m : MgmtLane} (h : subFoot 0x8000000000 f = true) : subFoot (pageBit (mgmtIx m)) f = true := by
  cases m <;> exact subFoot_trans (by decide) h

theorem subFoot_headIx {f : Nat} {x : Nat} (h : subFoot 0x400000003FFFC0003FFFC00000000000000000000007C0020000000000 f = true) : subFoot (pageBit (headIx x)) f = true := by
  unfold headIx
  split
  · rename_i k
    simp only [Bool.or_eq_true, Bool.and_eq_true, decide_eq_true_eq] at k
    rcases k with ((rfl | k) | k) | k
    · exact subFoot_trans (by decide) h
    · exact subFoot_pages 0x20 5 (by decide) h _ (by omega) (by omega) (by omega)
    · exact subFoot_pages 0x80 16 (by decide) h _ (by omega) (by omega) (by omega)
    · exact subFoot_pages 0xA0 16 (by decide) h _ (by omega) (by omega) (by omega)
  · exact subFoot_trans (by decide) h

theorem subFoot_domain {f : Nat} {s : State} {ix row : Nat} (h : subFoot 0x400000003FFFC0003FFFC00000000000000000000007C0020000000000 f = true) :
    subFoot (pageBit (s.domain ix row)) f = true := by
  have h20 : ∀ x, 0x2000 ≤ x → x < 0x2440 → subFoot (pageBit x) f = true := fun x a b =>
    subFoot_pages 0x20 5 (by decide) h _ (by omega) (by omega) (by omega)
  unfold State.domain
  repeat' split
  · exact h20 _ (by simp_all) (by simp_all; omega)
  · exact h20 _ (by simp_all; omega) (by simp_all)
  · exact h20 _ (by simp_all; omega) (by simp_all; omega)
  · exact h20 _ (by simp_all; omega) (by simp_all; omega)
  · exact subFoot_pages 0x80 16 (by decide) h _ (by simp_all; omega) (by simp_all; omega) (by simp_all; omega)
  · exact subFoot_pages 0xA0 16 (by decide) h _ (by simp_all; omega) (by simp_all; omega) (by simp_all; omega)
  · exact subFoot_trans (by decide) h
  · exact subFoot_tenantIx (subFoot_trans (by decide) h)
  · exact subFoot_trans (by decide) h

/-- Every page is in the set of all pages. -/
theorem hasPage_all {f : Nat} (h : subFoot ((2 ^ 209 - 1) <<< 22) f = true) (ix : Nat) : hasPage f ix = true := by
  unfold hasPage pageNo
  unfold subFoot at h
  simp only [beq_iff_eq] at h
  have : Nat.testBit ((2 ^ 209 - 1) <<< 22) (22 + min (ix / 256) 208) = true := by
    rw [Nat.testBit_shiftLeft, Nat.testBit_two_pow_sub_one]
    simp only [Bool.and_eq_true, decide_eq_true_eq]
    omega
  rw [← h, Nat.testBit_and] at this
  exact (Bool.and_eq_true_iff.mp this).2

theorem subFoot_all {f ix : Nat} (h : subFoot ((2 ^ 209 - 1) <<< 22) f = true) : subFoot (pageBit ix) f = true := by
  have := hasPage_all h ix
  unfold hasPage at this
  unfold subFoot pageBit
  simp only [beq_iff_eq]
  apply Nat.eq_of_testBit_eq
  intro i
  rw [Nat.testBit_and, Nat.testBit_two_pow]
  by_cases e : pageNo ix = i
  · rw [← e, this, Bool.and_true]
  · simp [e]

theorem Within.refl (f : Nat) (s : State) : Within f s s := ⟨rfl, fun p _ => p.same_refl s, fun _ _ _ _ => rfl, id⟩

theorem Within.trans {f : Nat} {s t u : State} (h : Within f s t) (k : Within f t u) : Within f s u :=
  ⟨k.pending.trans h.pending, fun p e => Part.same_trans (h.parts p e) (k.parts p e), fun ix e row sub => (k.dict ix e row sub).trans (h.dict ix e row sub),
   fun e => k.canon (h.canon e)⟩

theorem Within.mono {g f : Nat} {s t : State} (h : Within g s t) (e : subFoot g f = true) : Within f s t :=
  ⟨h.pending, fun p k => h.parts p (subFoot_part e p k), fun ix k => h.dict ix (subFoot_page e ix k), h.canon⟩

/-- One more operation. -/
theorem Within.step {f g : Nat} {s t u : State} (h : Within f s t) (k : Within g t u)
    (e : subFoot g f = true) : Within f s u := h.trans (k.mono e)

theorem Within.ite {f : Nat} {s t u : State} {p : Prop} [Decidable p] (h : Within f s t) (k : Within f s u) :
    Within f s (if p then t else u) := by
  split
  · exact h
  · exact k

theorem Within.foldl {f : Nat} {s t : State} {α : Type} {g : State → α → State} {l : List α} (h : Within f s t)
    (k : ∀ s x, Within f s (g s x)) : Within f s (l.foldl g t) := by
  induction l generalizing t with
  | nil => exact h
  | cons x l ih => exact ih (h.trans (k t x))

theorem Within.foldlSnd {f : Nat} {s : State} {α β : Type} {g : β × State → α → β × State} {l : List α} {t : β × State}
    (h : Within f s t.2) (k : ∀ x a, Within f x.2 (g x a).2) : Within f s (l.foldl g t).2 := by
  induction l generalizing t with
  | nil => exact h
  | cons a l ih => exact ih (h.trans (k t a))

theorem Within.iteSnd {f : Nat} {α : Type} {s : State} {t u : α × State} {p : Prop} [Decidable p] (h : Within f s t.2)
    (k : Within f s u.2) : Within f s (if p then t else u).2 := by
  split
  · exact h
  · exact k

theorem Within.pairSnd {f : Nat} {α : Type} {a : α} {s t : State} (h : Within f s t) : Within f s (a, t).2 := h

theorem Within.ofPair {f : Nat} {α : Type} {a : α} {s t : State} {p : α × State} (e : p = (a, t)) (h : Within f s p.2) :
    Within f s t := by
  rw [e] at h
  exact h

/-- What is known of a state computed on the way. -/
theorem Within.cut (f : Nat) (s t : State) {P : Prop} (h : Within f s t) (k : Within f s t → P) : P := k h

theorem Within.cutPair (f : Nat) (s : State) {α : Type} (t : α × State) {P : Prop} (h : Within f s t.2)
    (k : Within f s t.2 → P) : P := k h

/-! ### Answers that carry a state -/

/-- The state of an item's end. -/
def Ended.state : Ended → State
  | .done _ _ s => s
  | .later s => s

/-- The state of an item's beginning. -/
def Begun.state : Begun → State
  | .run s => s
  | .auth s => s
  | .no s => s

/-- The state after a message's arrival. -/
def Arrival.state : Arrival → State
  | .dropped s => s
  | .accepted s => s

/-- A step that answers a next state stays within a set. -/
def WithinOut (f : Nat) (s : State) (o : Host.Outcome State Fault Refusal) : Prop := ∀ t, o = .next t → Within f s t

/-- A state, if there is one, stays within a set. -/
def WithinOpt (f : Nat) (s : State) (o : Option State) : Prop := ∀ t, o = some t → Within f s t

theorem Within.out {f : Nat} {s t : State} (h : Within f s t) : WithinOut f s (.next t) := by
  intro u e
  cases e
  exact h

theorem Within.ended {f st : Nat} {d : Bytes} {s t : State} (h : Within f s t) : Within f s (Ended.done st d t).state := h

theorem Within.later {f : Nat} {s t : State} (h : Within f s t) : Within f s (Ended.later t).state := h

theorem Within.iteState {f : Nat} {s : State} {t u : Ended} {p : Prop} [Decidable p] (h : Within f s t.state)
    (k : Within f s u.state) : Within f s (if p then t else u).state := by
  split
  · exact h
  · exact k

theorem Within.iteBegun {f : Nat} {s : State} {t u : Begun} {p : Prop} [Decidable p] (h : Within f s t.state)
    (k : Within f s u.state) : Within f s (if p then t else u).state := by
  split
  · exact h
  · exact k

theorem Within.iteArrival {f : Nat} {s : State} {t u : Arrival} {p : Prop} [Decidable p] (h : Within f s t.state)
    (k : Within f s u.state) : Within f s (if p then t else u).state := by
  split
  · exact h
  · exact k

theorem Within.ofDone {f st : Nat} {d : Bytes} {s t : State} {x : Ended} (e : x = .done st d t) (h : Within f s x.state) :
    Within f s t := by
  rw [e] at h
  exact h

theorem Within.ofLater {f : Nat} {s t : State} {x : Ended} (e : x = .later t) (h : Within f s x.state) : Within f s t := by
  rw [e] at h
  exact h

theorem Within.ofRun {f : Nat} {s t : State} {x : Begun} (e : x = .run t) (h : Within f s x.state) : Within f s t := by
  rw [e] at h
  exact h

theorem Within.ofAuth {f : Nat} {s t : State} {x : Begun} (e : x = .auth t) (h : Within f s x.state) : Within f s t := by
  rw [e] at h
  exact h

theorem Within.ofNo {f : Nat} {s t : State} {x : Begun} (e : x = .no t) (h : Within f s x.state) : Within f s t := by
  rw [e] at h
  exact h

theorem Within.ofDropped {f : Nat} {s t : State} {x : Arrival} (e : x = .dropped t) (h : Within f s x.state) :
    Within f s t := by
  rw [e] at h
  exact h

theorem Within.ofAccepted {f : Nat} {s t : State} {x : Arrival} (e : x = .accepted t) (h : Within f s x.state) :
    Within f s t := by
  rw [e] at h
  exact h

theorem Within.run {f : Nat} {s t : State} (h : Within f s t) : Within f s (Begun.run t).state := h

theorem Within.auth {f : Nat} {s t : State} (h : Within f s t) : Within f s (Begun.auth t).state := h

theorem Within.no {f : Nat} {s t : State} (h : Within f s t) : Within f s (Begun.no t).state := h

theorem Within.dropped {f : Nat} {s t : State} (h : Within f s t) : Within f s (Arrival.dropped t).state := h

theorem Within.accepted {f : Nat} {s t : State} (h : Within f s t) : Within f s (Arrival.accepted t).state := h

theorem Within.ofFirst {f : Nat} {α : Type} {a : α} {s t : State} {p : State × α} (e : p = (t, a)) (h : Within f s p.1) :
    Within f s t := by
  rw [e] at h
  exact h

theorem Within.iteFirst {f : Nat} {α : Type} {s : State} {t u : State × α} {p : Prop} [Decidable p] (h : Within f s t.1)
    (k : Within f s u.1) : Within f s (if p then t else u).1 := by
  split
  · exact h
  · exact k

theorem Within.ofOpt {f : Nat} {s t : State} {o : Option State} (e : o = some t) (h : WithinOpt f s o) : Within f s t := h t e

/-! ### One part changes -/

variable (s : State)

theorem State.putClk_within (x : Clock) : Within (foot [.clk]) s { s with clk := x } :=
  ⟨rfl, fun p e => by cases p <;> first | rfl | exact absurd e (by decide), fun _ _ _ _ => rfl, id⟩

theorem State.putAcc_within (x : Access) : Within (foot [.acc]) s { s with acc := x } :=
  ⟨rfl, fun p e => by cases p <;> first | rfl | exact absurd e (by decide), fun _ _ _ _ => rfl, id⟩

theorem State.putNet_within (x : Net) : Within (foot [.net, .waiting]) s { s with net := x } :=
  ⟨rfl, fun p e => by cases p <;> first | rfl | exact absurd e (by decide), fun _ _ _ _ => rfl, id⟩

theorem State.putAdm_within (x : List AdmWait) : Within (foot [.adm]) s { s with adm := x } :=
  ⟨rfl, fun p e => by cases p <;> first | rfl | exact absurd e (by decide), fun _ _ _ _ => rfl, id⟩

theorem State.putCip_within (x : Cipher) : Within (foot [.cip]) s { s with cip := x } :=
  ⟨rfl, fun p e => by cases p <;> first | rfl | exact absurd e (by decide), fun _ _ _ _ => rfl, id⟩

theorem State.putSto_within (x : Storage) : Within (foot [.sto]) s { s with sto := x } :=
  ⟨rfl, fun p e => by cases p <;> first | rfl | exact absurd e (by decide), fun _ _ _ _ => rfl, id⟩

theorem State.putHst_within (x : HostFace) : Within (foot [.hst]) s { s with hst := x } :=
  ⟨rfl, fun p e => by cases p <;> first | rfl | exact absurd e (by decide), fun _ _ _ _ => rfl, id⟩

theorem State.putRng_within (x : Rings) : Within (foot [.rng]) s { s with rng := x } :=
  ⟨rfl, fun p e => by cases p <;> first | rfl | exact absurd e (by decide), fun _ _ _ _ => rfl, id⟩

theorem State.putThr_within (x : Threads) : Within (foot [.thr]) s { s with thr := x } :=
  ⟨rfl, fun p e => by cases p <;> first | rfl | exact absurd e (by decide), fun _ _ _ _ => rfl, id⟩

theorem State.putCells_within (x : NMap CellDyn) : Within (foot [.cells]) s { s with cells := x } :=
  ⟨rfl, fun p e => by cases p <;> first | rfl | exact absurd e (by decide), fun _ _ _ _ => rfl, id⟩

theorem State.putDma_within (x : DmaEngine) : Within (foot [.dma]) s { s with dma := x } :=
  ⟨rfl, fun p e => by cases p <;> first | rfl | exact absurd e (by decide), fun _ _ _ _ => rfl, id⟩

theorem State.putPwr_within (x : Power) : Within (foot [.pwr]) s { s with pwr := x } :=
  ⟨rfl, fun p e => by cases p <;> first | rfl | exact absurd e (by decide), fun _ _ _ _ => rfl, id⟩

theorem State.putFlt_within (x : Faults) : Within (foot [.flt]) s { s with flt := x } :=
  ⟨rfl, fun p e => by cases p <;> first | rfl | exact absurd e (by decide), fun _ _ _ _ => rfl, id⟩

theorem State.putLog_within (x : EventLog) : Within (foot [.log]) s { s with log := x } :=
  ⟨rfl, fun p e => by cases p <;> first | rfl | exact absurd e (by decide), fun _ _ _ _ => rfl, id⟩

theorem State.putOut_within (x : List Output) : Within (foot [.out]) s { s with out := x } :=
  ⟨rfl, fun p e => by cases p <;> first | rfl | exact absurd e (by decide), fun _ _ _ _ => rfl, id⟩

theorem State.putFree_within (x : Nat) : Within (foot [.free]) s { s with free := x } :=
  ⟨rfl, fun p e => by cases p <;> first | rfl | exact absurd e (by decide), fun _ _ _ _ => rfl, id⟩

theorem State.putCipPwr_within (x : Cipher) (y : Power) : Within (foot [.cip, .pwr]) s { s with cip := x, pwr := y } :=
  ⟨rfl, fun p e => by cases p <;> first | rfl | exact absurd e (by decide), fun _ _ _ _ => rfl, id⟩

theorem State.putPwrFlt_within (x : Power) (y : Faults) : Within (foot [.pwr, .flt]) s { s with pwr := x, flt := y } :=
  ⟨rfl, fun p e => by cases p <;> first | rfl | exact absurd e (by decide), fun _ _ _ _ => rfl, id⟩

theorem State.putCipSto_within (x : Cipher) (y : Storage) : Within (foot [.cip, .sto]) s { s with cip := x, sto := y } :=
  ⟨rfl, fun p e => by cases p <;> first | rfl | exact absurd e (by decide), fun _ _ _ _ => rfl, id⟩

/-! ### Canonical memories -/

theorem State.canonical_iff : s.canonical = true ↔
    NMap.wf dictDefault s.dict = true ∧ NMap.wf regDefault s.regs = true ∧ Memory.wf s.loop = true ∧
      Memory.wf s.coreMem = true ∧ Memory.wf s.dwBuf = true ∧ s.backup.all Memory.wf = true := by
  unfold State.canonical
  simp only [Bool.and_eq_true, and_assoc]

theorem State.setCell_within (ix row sub v : Nat) : Within (pageBit ix) s (s.setCell ix row sub v) := by
  refine ⟨rfl, fun p _ => by cases p <;> rfl, fun ix' h row' sub' => ?_, fun h => ?_⟩
  · exact s.cell_setCell_ix row sub v row' sub' (fun e => by rw [e, hasPage_pageBit] at h; exact absurd h (by decide))
  rw [State.canonical_iff] at *
  exact ⟨NMap.wf_set _ _ h.1, h.2⟩

theorem State.wf_setReg (owner off : Nat) (v : Word) (h : NMap.wf regDefault s.regs = true) :
    NMap.wf regDefault (s.setReg owner off v).regs = true := by
  unfold State.setReg
  exact NMap.wf_set _ _ h

theorem State.setReg_within (owner off : Nat) (v : Word) : Within (foot [.regs]) s (s.setReg owner off v) := by
  refine ⟨s.setReg_pending _ _ _, fun p e => ?_, fun _ _ _ _ => by unfold State.cell; rw [s.setReg_dict], fun h => ?_⟩
  · cases p <;> first | exact absurd e (by decide) | (unfold Part.same; simp only [State.setReg_loop, State.setReg_coreMem, State.setReg_backup, State.setReg_dwBuf, State.setReg_clk, State.setReg_acc, State.setReg_net,
      State.setReg_adm, State.setReg_cip, State.setReg_sto, State.setReg_hst, State.setReg_rng, State.setReg_thr, State.setReg_cells,
      State.setReg_dma, State.setReg_pwr, State.setReg_flt, State.setReg_log, State.setReg_out, State.setReg_free])
  · rw [State.canonical_iff] at *
    simp only [State.setReg_dict, State.setReg_loop, State.setReg_coreMem, State.setReg_dwBuf, State.setReg_backup]
    exact ⟨h.1, State.wf_setReg s owner off v h.2.1, h.2.2⟩

theorem State.filterRegs_within (p : Nat × Word → Bool) : Within (foot [.regs]) s { s with regs := s.regs.filter p } := by
  refine ⟨rfl, fun p e => by cases p <;> first | rfl | exact absurd e (by decide), fun _ _ _ _ => rfl, fun h => ?_⟩
  rw [State.canonical_iff] at *
  exact ⟨h.1, NMap.wf_filter _ h.2.1, h.2.2⟩

theorem State.putLoop_within (a : Nat) (b : Bytes) :
    Within (foot [.loop]) s { s with loop := NMap.putBytes s.loop a b } := by
  refine ⟨rfl, fun p e => by cases p <;> first | rfl | exact absurd e (by decide), fun _ _ _ _ => rfl, fun h => ?_⟩
  rw [State.canonical_iff] at *
  exact ⟨h.1, h.2.1, Memory.wf_putBytes _ _ h.2.2.1, h.2.2.2⟩

theorem State.putCoreMem_within (a : Nat) (b : Bytes) :
    Within (foot [.coreMem]) s { s with coreMem := NMap.putBytes s.coreMem a b } := by
  refine ⟨rfl, fun p e => by cases p <;> first | rfl | exact absurd e (by decide), fun _ _ _ _ => rfl, fun h => ?_⟩
  rw [State.canonical_iff] at *
  exact ⟨h.1, h.2.1, h.2.2.1, Memory.wf_putBytes _ _ h.2.2.2.1, h.2.2.2.2⟩

theorem State.putDwBuf_within (a : Nat) (b : Bytes) :
    Within (foot [.dwBuf]) s { s with dwBuf := NMap.putBytes s.dwBuf a b } := by
  refine ⟨rfl, fun p e => by cases p <;> first | rfl | exact absurd e (by decide), fun _ _ _ _ => rfl, fun h => ?_⟩
  rw [State.canonical_iff] at *
  exact ⟨h.1, h.2.1, h.2.2.1, h.2.2.2.1, Memory.wf_putBytes _ _ h.2.2.2.2.1, h.2.2.2.2.2⟩

/-! ### The same after what went before -/

variable {s} {f : Nat} {z : State}

theorem State.putClk_to (x : Clock) (h : Within f z s) (e : subFoot (foot [.clk]) f = true) : Within f z { s with clk := x } :=
  h.step (s.putClk_within x) e

theorem State.putAcc_to (x : Access) (h : Within f z s) (e : subFoot (foot [.acc]) f = true) : Within f z { s with acc := x } :=
  h.step (s.putAcc_within x) e

theorem State.putNet_to (x : Net) (h : Within f z s) (e : subFoot (foot [.net, .waiting]) f = true) : Within f z { s with net := x } :=
  h.step (s.putNet_within x) e

theorem State.putAdm_to (x : List AdmWait) (h : Within f z s) (e : subFoot (foot [.adm]) f = true) : Within f z { s with adm := x } :=
  h.step (s.putAdm_within x) e

theorem State.putCip_to (x : Cipher) (h : Within f z s) (e : subFoot (foot [.cip]) f = true) : Within f z { s with cip := x } :=
  h.step (s.putCip_within x) e

theorem State.putSto_to (x : Storage) (h : Within f z s) (e : subFoot (foot [.sto]) f = true) : Within f z { s with sto := x } :=
  h.step (s.putSto_within x) e

theorem State.putHst_to (x : HostFace) (h : Within f z s) (e : subFoot (foot [.hst]) f = true) : Within f z { s with hst := x } :=
  h.step (s.putHst_within x) e

theorem State.putRng_to (x : Rings) (h : Within f z s) (e : subFoot (foot [.rng]) f = true) : Within f z { s with rng := x } :=
  h.step (s.putRng_within x) e

theorem State.putThr_to (x : Threads) (h : Within f z s) (e : subFoot (foot [.thr]) f = true) : Within f z { s with thr := x } :=
  h.step (s.putThr_within x) e

theorem State.putCells_to (x : NMap CellDyn) (h : Within f z s) (e : subFoot (foot [.cells]) f = true) : Within f z { s with cells := x } :=
  h.step (s.putCells_within x) e

theorem State.putDma_to (x : DmaEngine) (h : Within f z s) (e : subFoot (foot [.dma]) f = true) : Within f z { s with dma := x } :=
  h.step (s.putDma_within x) e

theorem State.putPwr_to (x : Power) (h : Within f z s) (e : subFoot (foot [.pwr]) f = true) : Within f z { s with pwr := x } :=
  h.step (s.putPwr_within x) e

theorem State.putFlt_to (x : Faults) (h : Within f z s) (e : subFoot (foot [.flt]) f = true) : Within f z { s with flt := x } :=
  h.step (s.putFlt_within x) e

theorem State.putLog_to (x : EventLog) (h : Within f z s) (e : subFoot (foot [.log]) f = true) : Within f z { s with log := x } :=
  h.step (s.putLog_within x) e

theorem State.putOut_to (x : List Output) (h : Within f z s) (e : subFoot (foot [.out]) f = true) : Within f z { s with out := x } :=
  h.step (s.putOut_within x) e

theorem State.putFree_to (x : Nat) (h : Within f z s) (e : subFoot (foot [.free]) f = true) : Within f z { s with free := x } :=
  h.step (s.putFree_within x) e

theorem State.setCell_to (ix row sub v : Nat) (h : Within f z s) (e : subFoot (pageBit ix) f = true) :
    Within f z (s.setCell ix row sub v) := h.step (s.setCell_within ix row sub v) e

theorem State.setReg_to (owner off : Nat) (v : Word) (h : Within f z s) (e : subFoot (foot [.regs]) f = true) :
    Within f z (s.setReg owner off v) := h.step (s.setReg_within owner off v) e

theorem State.putLoop_to (a : Nat) (b : Bytes) (h : Within f z s) (e : subFoot (foot [.loop]) f = true) :
    Within f z { s with loop := NMap.putBytes s.loop a b } := h.step (s.putLoop_within a b) e

theorem State.putCoreMem_to (a : Nat) (b : Bytes) (h : Within f z s) (e : subFoot (foot [.coreMem]) f = true) :
    Within f z { s with coreMem := NMap.putBytes s.coreMem a b } := h.step (s.putCoreMem_within a b) e

theorem State.putDwBuf_to (a : Nat) (b : Bytes) (h : Within f z s) (e : subFoot (foot [.dwBuf]) f = true) :
    Within f z { s with dwBuf := NMap.putBytes s.dwBuf a b } := h.step (s.putDwBuf_within a b) e

end Sys2Proof.Machine
end

