-- ==== Sys2Proof/Laws/WithinOps.lean ====
section
/-! SUPPORT. What the operations of Machine/Ops.lean can touch. -/

namespace Sys2Proof.Machine

variable {F : Nat} {z s : State}

theorem State.setFunc_to (m : Nat) (f : FuncDyn) (h : Within F z s) (e : subFoot (0x800) F = true) :
    Within F z (s.setFunc m f) := by
  refine h.step ?_ e
  unfold State.setFunc
  try lift_lets
  with_reducible repeat' first
    | apply Within.refl | apply State.putHst_to
  all_goals rfl

theorem State.emit_to (o : Output) (h : Within F z s) (e : subFoot (0x80000) F = true) :
    Within F z (s.emit o) := by
  refine h.step ?_ e
  unfold State.emit
  try lift_lets
  with_reducible repeat' first
    | apply Within.refl | apply State.putOut_to
  all_goals rfl

theorem State.msix_to (m v : Nat) (h : Within F z s) (e : subFoot (0x80800) F = true) :
    Within F z (s.msix m v) := by
  refine h.step ?_ e
  unfold State.msix
  try lift_lets
  with_reducible repeat' first
    | apply Within.refl | apply State.setFunc_to | apply State.emit_to | apply Within.ite
  all_goals rfl

theorem State.setOb_to (ix sub v : Nat) (h : Within F z s) (e : subFoot (pageBit ix) F = true) :
    Within F z (s.setOb ix sub v) := by
  refine h.step ?_ e
  unfold State.setOb
  try dsimp -proj -iota only
  with_reducible repeat' first
    | apply Within.refl | (apply Within.ofPair; case e => assumption) | intro x | apply State.setCell_to
    | apply Within.ite | refine Within.foldl ?_ fun s x => ?_ | apply Within.iteSnd | split
  all_goals repeat' first
    | with_reducible apply subFoot_or
    | with_reducible apply subFoot_laneIx
    | with_reducible apply subFoot_portIx
    | with_reducible apply subFoot_schedIx
    | with_reducible apply subFoot_gateIx
    | with_reducible apply subFoot_hostIx
    | with_reducible apply subFoot_tenantIx
    | with_reducible apply subFoot_cellIx
    | with_reducible apply subFoot_mgmtIx
    | with_reducible apply subFoot_domain
    | with_reducible apply subFoot_headIx
    | with_reducible apply subFoot_ite
    | exact subFoot_self _
    | exact subFoot_right _ _
    | exact subFoot_left (by rfl)
    | rfl
    | exact subFoot_all (by rfl)

theorem State.setThread_to (n : Nat) (d : ThreadDyn) (h : Within F z s) (e : subFoot (0x2000) F = true) :
    Within F z (s.setThread n d) := by
  refine h.step ?_ e
  unfold State.setThread
  try lift_lets
  with_reducible repeat' first
    | apply Within.refl | apply State.putThr_to
  all_goals rfl

theorem State.bump_to (ix row sub n : Nat) (h : Within F z s) (e : subFoot (pageBit ix) F = true) :
    Within F z (s.bump ix row sub n) := by
  refine h.step ?_ e
  unfold State.bump
  try dsimp -proj -iota only
  with_reducible repeat' first
    | apply Within.refl | (apply Within.ofPair; case e => assumption) | intro x | apply State.setCell_to
    | apply Within.ite | refine Within.foldl ?_ fun s x => ?_ | apply Within.iteSnd | split
  all_goals repeat' first
    | with_reducible apply subFoot_or
    | with_reducible apply subFoot_laneIx
    | with_reducible apply subFoot_portIx
    | with_reducible apply subFoot_schedIx
    | with_reducible apply subFoot_gateIx
    | with_reducible apply subFoot_hostIx
    | with_reducible apply subFoot_tenantIx
    | with_reducible apply subFoot_cellIx
    | with_reducible apply subFoot_mgmtIx
    | with_reducible apply subFoot_domain
    | with_reducible apply subFoot_headIx
    | with_reducible apply subFoot_ite
    | exact subFoot_self _
    | exact subFoot_right _ _
    | exact subFoot_left (by rfl)
    | rfl
    | exact subFoot_all (by rfl)

theorem State.inc_to (ix sub : Nat) (h : Within F z s) (e : subFoot (pageBit ix) F = true) :
    Within F z (s.inc ix sub) := by
  refine h.step ?_ e
  unfold State.inc
  try dsimp -proj -iota only
  with_reducible repeat' first
    | apply Within.refl | (apply Within.ofPair; case e => assumption) | intro x | apply State.bump_to
    | apply Within.ite | refine Within.foldl ?_ fun s x => ?_ | apply Within.iteSnd | split
  all_goals repeat' first
    | with_reducible apply subFoot_or
    | with_reducible apply subFoot_laneIx
    | with_reducible apply subFoot_portIx
    | with_reducible apply subFoot_schedIx
    | with_reducible apply subFoot_gateIx
    | with_reducible apply subFoot_hostIx
    | with_reducible apply subFoot_tenantIx
    | with_reducible apply subFoot_cellIx
    | with_reducible apply subFoot_mgmtIx
    | with_reducible apply subFoot_domain
    | with_reducible apply subFoot_headIx
    | with_reducible apply subFoot_ite
    | exact subFoot_self _
    | exact subFoot_right _ _
    | exact subFoot_left (by rfl)
    | rfl
    | exact subFoot_all (by rfl)

theorem State.setCells_to (ix row : Nat) (l : List (Nat × Nat)) (h : Within F z s) (e : subFoot (pageBit ix) F =
    true) :
    Within F z (s.setCells ix row l) := by
  induction l generalizing s with
  | nil => exact h
  | cons x l ih => exact ih (State.setCell_to ix row x.1 x.2 h e)

theorem State.vacate_to (n : Nat) (h : Within F z s) (e : subFoot (0x6000000000000000000000000000000000000002000) F =
    true) :
    Within F z (s.vacate n) := by
  refine h.step ?_ e
  unfold State.vacate
  try lift_lets
  with_reducible repeat' first
    | apply Within.refl | apply State.inc_to | apply State.setThread_to | apply State.setCells_to
  all_goals rfl

theorem State.finishWait_to (n : Nat) (h : Within F z s) (e : subFoot (0x6000000000000000000000000000000000000082000)
    F = true) :
    Within F z (s.finishWait n) := by
  refine h.step ?_ e
  unfold State.finishWait
  try lift_lets
  with_reducible repeat' first
    | apply Within.refl | apply State.setThread_to | apply State.vacate_to | apply State.setCell_to
    | apply State.emit_to | apply Within.ite
  all_goals rfl

theorem State.setThSt_to (n st : Nat) (h : Within F z s) (e : subFoot (0x2000000000000000000000000000000000000000000)
    F = true) :
    Within F z (s.setThSt n st) := by
  refine h.step ?_ e
  unfold State.setThSt
  try lift_lets
  with_reducible repeat' first
    | apply Within.refl | apply State.setCell_to
  all_goals rfl

theorem State.runThread_to (n : Nat) (h : Within F z s) (e : subFoot (0x6000000000000000000000000000000000000082000)
    F = true) :
    Within F z (s.runThread n) := by
  refine h.step ?_ e
  unfold State.runThread
  try lift_lets
  with_reducible repeat' first
    | apply Within.refl | apply State.setOb_to | apply State.finishWait_to | apply State.setThSt_to
    | apply Within.ite | apply State.putThr_to
  all_goals rfl

theorem State.dispatch_to (c : Nat) (h : Within F z s) (e : subFoot (0x6000000000000000000000000000000000000082000) F
    = true) :
    Within F z (s.dispatch c) := by
  refine h.step ?_ e
  unfold State.dispatch
  try lift_lets
  with_reducible repeat' first
    | apply Within.refl | apply State.runThread_to | split
  all_goals rfl

theorem State.makeReady_to (n : Nat) (h : Within F z s) (e : subFoot (0x6000000000000000000000000000000000000082000)
    F = true) :
    Within F z (s.makeReady n) := by
  refine h.step ?_ e
  unfold State.makeReady
  try lift_lets
  with_reducible repeat' first
    | apply Within.refl | apply State.dispatch_to | apply State.setThSt_to
  all_goals rfl

theorem State.wakeThread_to (n : Nat) (h : Within F z s) (e : subFoot (0x6000000000000000000000000000000000000082000)
    F = true) :
    Within F z (s.wakeThread n) := by
  refine h.step ?_ e
  unfold State.wakeThread
  try lift_lets
  with_reducible repeat' first
    | apply Within.refl | apply State.makeReady_to | apply Within.ite
  all_goals rfl

theorem State.deliver_to (ctx : Nat) (h : Within F z s) (e : subFoot (0x6000000000000000000000000000000000000083800)
    F = true) :
    Within F z (s.deliver ctx) := by
  refine h.step ?_ e
  unfold State.deliver
  try lift_lets
  with_reducible repeat' first
    | apply Within.refl | apply State.msix_to | apply State.wakeThread_to | split | apply State.putRng_to
  all_goals rfl

theorem State.deliverFor_to (id : Nat) (h : Within F z s) (e : subFoot
    (0x6000000000000000000000000000000000000083800) F = true) :
    Within F z (s.deliverFor id) := by
  refine h.step ?_ e
  unfold State.deliverFor
  try lift_lets
  with_reducible repeat' first
    | apply Within.refl | apply State.deliver_to | split
  all_goals rfl

theorem State.setSrc_to (id st : Nat) (h : Within F z s) (e : subFoot (0x800000000000000000000000000000000000001000)
    F = true) :
    Within F z (s.setSrc id st) := by
  refine h.step ?_ e
  unfold State.setSrc
  try lift_lets
  with_reducible repeat' first
    | apply Within.refl | apply State.setCell_to | apply State.putRng_to
  all_goals rfl

theorem State.edge_to (id : Nat) (h : Within F z s) (e : subFoot (0x6800000000000000000000000000000000000083800) F =
    true) :
    Within F z (s.edge id) := by
  refine h.step ?_ e
  unfold State.edge
  try lift_lets
  with_reducible repeat' first
    | apply Within.refl | apply State.deliverFor_to | apply State.bump_to | apply State.setSrc_to
    | apply Within.ite
  all_goals rfl

theorem State.stageRecord_to (e0 : Event) (h : Within F z s) (e : subFoot
    (0x68000000000000000000000000000000400000C3800) F = true) :
    Within F z (s.stageRecord e0) := by
  refine h.step ?_ e
  unfold State.stageRecord
  try lift_lets
  with_reducible repeat' first
    | apply Within.refl | apply State.edge_to | apply State.inc_to | apply State.setOb_to | apply Within.ite
    | apply State.putLog_to
  all_goals rfl

theorem State.record_to (code sup : Nat) (data : List Nat) (h : Within F z s) (e : subFoot
    (0x4000000000068000000000000000000000000000000400000C3800) F = true) :
    Within F z (s.record code sup data) := by
  refine h.step ?_ e
  unfold State.record
  try lift_lets
  with_reducible repeat' first
    | apply Within.refl | apply State.inc_to | apply State.stageRecord_to | apply State.emit_to | apply Within.ite
  all_goals rfl

theorem State.event_to (code : Nat) (data : List Nat) (h : Within F z s) (e : subFoot
    (0x4000000000068000000000000000000000000000000400000C3800) F = true) :
    Within F z (s.event code data) := by
  refine h.step ?_ e
  unfold State.event
  try lift_lets
  with_reducible repeat' first
    | apply Within.refl | apply State.record_to
  all_goals rfl

theorem State.endLease_to (head : Nat) (h : Within F z s) (e : subFoot (0x20000000000 ||| pageBit head) F = true) :
    Within F z (s.endLease head) := by
  refine h.step ?_ e
  unfold State.endLease
  try dsimp -proj -iota only
  with_reducible repeat' first
    | apply Within.refl | (apply Within.ofPair; case e => assumption) | intro x | apply State.inc_to
    | apply State.setOb_to | apply Within.ite | refine Within.foldl ?_ fun s x => ?_ | apply Within.iteSnd | split
  all_goals repeat' first
    | with_reducible apply subFoot_or
    | with_reducible apply subFoot_laneIx
    | with_reducible apply subFoot_portIx
    | with_reducible apply subFoot_schedIx
    | with_reducible apply subFoot_gateIx
    | with_reducible apply subFoot_hostIx
    | with_reducible apply subFoot_tenantIx
    | with_reducible apply subFoot_cellIx
    | with_reducible apply subFoot_mgmtIx
    | with_reducible apply subFoot_domain
    | with_reducible apply subFoot_headIx
    | with_reducible apply subFoot_ite
    | exact subFoot_self _
    | exact subFoot_right _ _
    | exact subFoot_left (by rfl)
    | rfl
    | exact subFoot_all (by rfl)

theorem State.endLeases_to (m cause : Nat) (heads : List Nat) (h : Within F z s) (e : subFoot
    (0x400040003FFFC006BFFFC00000000000000000000007C00600000C3800) F = true) :
    Within F z (s.endLeases m cause heads) := by
  refine h.step ?_ e
  unfold State.endLeases
  try lift_lets
  with_reducible repeat' first
    | apply Within.refl | apply State.event_to | apply State.endLease_to | apply Within.ite
    | refine Within.foldl ?_ fun s x => ?_
  all_goals repeat' first | with_reducible apply subFoot_or | with_reducible apply subFoot_headIx | rfl

theorem State.endLeasesOf_to (m cause : Nat) (h : Within F z s) (e : subFoot
    (0x400040003FFFC006BFFFC00000000000000000000007C00600000C3800) F = true) :
    Within F z (s.endLeasesOf m cause) := by
  refine h.step ?_ e
  unfold State.endLeasesOf
  try lift_lets
  with_reducible repeat' first
    | apply Within.refl | apply State.endLeases_to
  all_goals rfl

theorem State.lapse_to (head : Nat) (h : Within F z s) (e : subFoot
    (0x4000000000068000000000000000000000000000000600000C3800 ||| pageBit head) F = true) :
    Within F z (s.lapse head) := by
  refine h.step ?_ e
  unfold State.lapse
  try dsimp -proj -iota only
  with_reducible repeat' first
    | apply Within.refl | (apply Within.ofPair; case e => assumption) | intro x | apply State.event_to
    | apply State.endLease_to | apply Within.ite | refine Within.foldl ?_ fun s x => ?_ | apply Within.iteSnd
    | split
  all_goals repeat' first
    | with_reducible apply subFoot_or
    | with_reducible apply subFoot_laneIx
    | with_reducible apply subFoot_portIx
    | with_reducible apply subFoot_schedIx
    | with_reducible apply subFoot_gateIx
    | with_reducible apply subFoot_hostIx
    | with_reducible apply subFoot_tenantIx
    | with_reducible apply subFoot_cellIx
    | with_reducible apply subFoot_mgmtIx
    | with_reducible apply subFoot_domain
    | with_reducible apply subFoot_headIx
    | with_reducible apply subFoot_ite
    | exact subFoot_self _
    | exact subFoot_right _ _
    | exact subFoot_left (by rfl)
    | rfl
    | exact subFoot_all (by rfl)

theorem State.setRegBits_to (owner off hi lo v : Nat) (h : Within F z s) (e : subFoot (0x1) F = true) :
    Within F z (s.setRegBits owner off hi lo v) := by
  refine h.step ?_ e
  unfold State.setRegBits
  try lift_lets
  with_reducible repeat' first
    | apply Within.refl | apply State.setReg_to
  all_goals rfl

theorem State.setLane_to (l : Nat) (d : LaneDyn) (h : Within F z s) (e : subFoot (0x200080) F = true) :
    Within F z (s.setLane l d) := by
  refine h.step ?_ e
  unfold State.setLane
  try lift_lets
  with_reducible repeat' first
    | apply Within.refl | apply State.putNet_to
  all_goals rfl

theorem State.setQueue_to (row : Nat) (q : List QCopy) (h : Within F z s) (e : subFoot (0x200080) F = true) :
    Within F z (s.setQueue row q) := by
  refine h.step ?_ e
  unfold State.setQueue
  try lift_lets
  with_reducible repeat' first
    | apply Within.refl | apply State.putNet_to
  all_goals rfl

theorem State.setLimit_to (code key last held : Nat) (h : Within F z s) (e : subFoot (0x40000) F = true) :
    Within F z (s.setLimit code key last held) := by
  refine h.step ?_ e
  unfold State.setLimit
  try lift_lets
  with_reducible repeat' first
    | apply Within.refl | apply State.putLog_to
  all_goals rfl

theorem State.eventGap_to (gap code key : Nat) (data : List Nat) (h : Within F z s) (e : subFoot
    (0x4000000000068000000000000000000000000000000400000C3800) F = true) :
    Within F z (s.eventGap gap code key data) := by
  refine h.step ?_ e
  unfold State.eventGap
  try lift_lets
  with_reducible repeat' first
    | apply Within.refl | apply State.record_to | apply State.setLimit_to | split
  all_goals rfl

theorem State.eventLim_to (code key : Nat) (data : List Nat) (h : Within F z s) (e : subFoot
    (0x4000000000068000000000000000000000000000000400000C3800) F = true) :
    Within F z (s.eventLim code key data) := by
  refine h.step ?_ e
  unfold State.eventLim
  try lift_lets
  with_reducible repeat' first
    | apply Within.refl | apply State.eventGap_to
  all_goals rfl

theorem State.setDev_to (st : Nat) (h : Within F z s) (e : subFoot
    (0x4000000000068000000000000000000000000000000600000C3800) F = true) :
    Within F z (s.setDev st) := by
  refine h.step ?_ e
  unfold State.setDev
  try lift_lets
  with_reducible repeat' first
    | apply Within.refl | apply State.setOb_to | apply State.event_to | apply Within.ite
  all_goals rfl

theorem State.draw_to (h : Within F z s) (e : subFoot (0x100000) F = true) :
    Within F z (s.draw).2 := by
  refine h.step ?_ e
  unfold State.draw
  try lift_lets
  with_reducible repeat' first
    | apply Within.refl | apply State.putFree_to
  all_goals rfl

theorem State.passTime_to (h : Within F z s) (e : subFoot (0x20020) F = true) :
    Within F z (s.passTime) :=
  h.step ⟨rfl, fun p e => by cases p <;> first | rfl | exact absurd e (by decide), fun _ _ _ _ => rfl, id⟩ e

theorem State.levelOff_to (id : Nat) (h : Within F z s) (e : subFoot (0x6800000000000000000000000000000000000083800)
    F = true) :
    Within F z (s.levelOff id) := by
  refine h.step ?_ e
  unfold State.levelOff
  try lift_lets
  with_reducible repeat' first
    | apply Within.refl | apply State.deliverFor_to | apply State.setSrc_to | apply Within.ite
    | apply State.putRng_to
  all_goals rfl

theorem State.levelOn_to (id : Nat) (h : Within F z s) (e : subFoot (0x6800000000000000000000000000000000000083800) F
    = true) :
    Within F z (s.levelOn id) := by
  refine h.step ?_ e
  unfold State.levelOn
  try lift_lets
  with_reducible repeat' first
    | apply Within.refl | apply State.deliverFor_to | apply State.bump_to | apply State.setSrc_to
    | apply Within.ite | apply State.putRng_to
  all_goals rfl

theorem State.level_to (id : Nat) (on : Bool) (h : Within F z s) (e : subFoot
    (0x6800000000000000000000000000000000000083800) F = true) :
    Within F z (s.level id on) := by
  refine h.step ?_ e
  unfold State.level
  try lift_lets
  with_reducible repeat' first
    | apply Within.refl | apply State.levelOff_to | apply State.levelOn_to | apply Within.ite
  all_goals rfl

theorem State.setSched_to (p : Nat) (d : Sched) (h : Within F z s) (e : subFoot (0x200080) F = true) :
    Within F z (s.setSched p d) := by
  refine h.step ?_ e
  unfold State.setSched
  try lift_lets
  with_reducible repeat' first
    | apply Within.refl | apply State.putNet_to
  all_goals rfl

theorem State.bumpReg_to (owner off n : Nat) (h : Within F z s) (e : subFoot (0x1) F = true) :
    Within F z (s.bumpReg owner off n) := by
  refine h.step ?_ e
  unfold State.bumpReg
  try lift_lets
  with_reducible repeat' first
    | apply Within.refl | apply State.setReg_to
  all_goals rfl

theorem State.aer_to (m i : Nat) (what : String) (advisory : Bool) (h : Within F z s) (e : subFoot (0x80001) F =
    true) :
    Within F z (s.aer m i what advisory) := by
  refine h.step ?_ e
  unfold State.aer
  try lift_lets
  with_reducible repeat' first
    | apply Within.refl | apply State.setReg_to | apply State.emit_to | apply Within.ite
  all_goals rfl

end Sys2Proof.Machine
end

