-- ==== Sys2Proof/Laws/WithinAccess.lean ====
section
/-! SUPPORT. What the operations of Machine/Access.lean can touch. -/

namespace Sys2Proof.Machine

variable {F : Nat} {z s : State}

theorem plainRule_act {u : State} (ix sub : Nat) (w : Via) (x : Nat) (h : Within F z u) (e : subFoot (pageBit ix) F =
    true) :
    Within F z ((plainRule ix sub).act u w x).state := by
  refine h.step ?_ e
  unfold plainRule
  try dsimp only
  try lift_lets
  with_reducible repeat' first
    | apply Within.refl | assumption | (apply Within.ofPair; case e => assumption) | apply Within.ended
    | apply Within.later | apply Within.iteState
    | (intro x; refine Within.cut (pageBit ix) u x ?_ ?_; rotate_left; intro hx; clear_value x)
    | (intro x; clear_value x) | apply State.setOb_to | apply Within.ite | refine Within.foldl ?_ fun s x => ?_
    | split
  all_goals repeat' first
    | with_reducible apply subFoot_or
    | with_reducible apply subFoot_laneIx
    | with_reducible apply subFoot_portIx
    | with_reducible apply subFoot_schedIx
    | with_reducible apply subFoot_gateIx
    | with_reducible apply subFoot_hostIx
    | with_reducible apply subFoot_tenantIx
    | with_reducible apply subFoot_cellIx
    | with_reducible apply subFoot_mgmtIx
    | with_reducible apply subFoot_domain
    | with_reducible apply subFoot_headIx
    | with_reducible apply subFoot_ite
    | exact subFoot_self _
    | exact subFoot_right _ _
    | exact subFoot_left (by rfl)
    | rfl
    | exact subFoot_all (by rfl)

theorem State.lapses_to (head : Nat) (h : Within F z s) (e : subFoot
    (0x4000000000068000000000000000000000000000000600000C3800 ||| pageBit head) F = true) :
    Within F z (s.lapses head) := by
  refine h.step ?_ e
  unfold State.lapses
  try dsimp -proj -iota only
  with_reducible repeat' first
    | apply Within.refl | (apply Within.ofPair; case e => assumption) | intro x | apply State.lapse_to
    | apply Within.ite | refine Within.foldl ?_ fun s x => ?_ | apply Within.iteSnd | split
  all_goals repeat' first
    | with_reducible apply subFoot_or
    | with_reducible apply subFoot_laneIx
    | with_reducible apply subFoot_portIx
    | with_reducible apply subFoot_schedIx
    | with_reducible apply subFoot_gateIx
    | with_reducible apply subFoot_hostIx
    | with_reducible apply subFoot_tenantIx
    | with_reducible apply subFoot_cellIx
    | with_reducible apply subFoot_mgmtIx
    | with_reducible apply subFoot_domain
    | with_reducible apply subFoot_headIx
    | with_reducible apply subFoot_ite
    | exact subFoot_self _
    | exact subFoot_right _ _
    | exact subFoot_left (by rfl)
    | rfl
    | exact subFoot_all (by rfl)

theorem State.noteRefused_to (v : Via) (head ix sub : Nat) (h : Within F z s) (e : subFoot
    (0x4000000000068000000000000000000000000000000400000C3800 ||| pageBit head) F = true) :
    Within F z (s.noteRefused v head ix sub) := by
  refine h.step ?_ e
  unfold State.noteRefused
  try dsimp -proj -iota only
  with_reducible repeat' first
    | apply Within.refl | (apply Within.ofPair; case e => assumption) | intro x | apply State.inc_to
    | apply State.eventLim_to | apply Within.ite | refine Within.foldl ?_ fun s x => ?_ | apply Within.iteSnd
    | split
  all_goals repeat' first
    | with_reducible apply subFoot_or
    | with_reducible apply subFoot_laneIx
    | with_reducible apply subFoot_portIx
    | with_reducible apply subFoot_schedIx
    | with_reducible apply subFoot_gateIx
    | with_reducible apply subFoot_hostIx
    | with_reducible apply subFoot_tenantIx
    | with_reducible apply subFoot_cellIx
    | with_reducible apply subFoot_mgmtIx
    | with_reducible apply subFoot_domain
    | with_reducible apply subFoot_headIx
    | with_reducible apply subFoot_ite
    | exact subFoot_self _
    | exact subFoot_right _ _
    | exact subFoot_left (by rfl)
    | rfl
    | exact subFoot_all (by rfl)

theorem State.tryWriteAt_to (v : Via) (ix row sub : Nat) (data : Bytes) (r : WriteRule) (h : Within F z s)
    (k : ∀ u x, Within F z u → Within F z (r.act u v x).state)
    (e : subFoot (0x400040003FFFC006BFFFC00000000000000000000007C00600000C3800) F = true) : Within F z (s.tryWriteAt v ix row sub data r).state := by
  unfold State.tryWriteAt
  have h1 : Within F z (s.lapses (s.domain ix row)) := State.lapses_to _ h (subFoot_or (subFoot_trans (by rfl) e) (subFoot_domain (subFoot_trans (by rfl) e)))
  dsimp only
  generalize s.lapses (s.domain ix row) = u at *
  split
  · exact State.noteRefused_to _ _ _ _ h1 (subFoot_or (subFoot_trans (by rfl) e) (subFoot_domain (subFoot_trans (by rfl) e)))
  · split
    · exact h1
    · split
      · exact State.noteRefused_to _ _ _ _ h1 (subFoot_or (subFoot_trans (by rfl) e) (subFoot_domain (subFoot_trans (by rfl) e)))
      · split
        · exact h1
        · exact k _ _ h1

theorem State.setSession_to (k : Nat) (d : Option Session) (h : Within F z s) (e : subFoot
    (0x6800000000000000000000000000000000000083840) F = true) :
    Within F z (s.setSession k d) := by
  refine h.step ?_ e
  unfold State.setSession
  try lift_lets
  with_reducible repeat' first
    | apply Within.refl | apply State.level_to | apply State.putAcc_to
  all_goals rfl

theorem State.dwLevel_to (h : Within F z s) (e : subFoot (0x6800000000000000000000000000000000000083800) F = true) :
    Within F z (s.dwLevel) := by
  refine h.step ?_ e
  unfold State.dwLevel
  try lift_lets
  with_reducible repeat' first
    | apply Within.refl | apply State.level_to
  all_goals rfl

theorem State.dwDone_to (p : HostPort) (h : Within F z s) (e : subFoot
    (0x6800000000000000000000000000000000000083841) F = true) :
    Within F z (s.dwDone p) := by
  refine h.step ?_ e
  unfold State.dwDone
  try lift_lets
  with_reducible repeat' first
    | apply Within.refl | apply State.setRegBits_to | apply State.setSession_to | apply State.msix_to
    | apply State.dwLevel_to | apply Within.ite
  all_goals rfl

theorem State.setKey_to (k : Nat) (d : DoluxKey) (h : Within F z s) (e : subFoot (0x40) F = true) :
    Within F z (s.setKey k d) := by
  refine h.step ?_ e
  unfold State.setKey
  try lift_lets
  with_reducible repeat' first
    | apply Within.refl | apply State.putAcc_to
  all_goals rfl

theorem State.sendMgmt_to (m : MgmtLane) (frame : Bytes) (h : Within F z s) (e : subFoot (0x8000080000) F = true) :
    Within F z (s.sendMgmt m frame) := by
  refine h.step ?_ e
  unfold State.sendMgmt
  try lift_lets
  with_reducible repeat' first
    | apply Within.refl | apply State.bump_to | apply State.emit_to
  all_goals repeat' first | with_reducible apply subFoot_mgmtIx | rfl

theorem State.originate_to (p : Nat) (frame : Bytes) (h : Within F z s) (e : subFoot (0x200000) F = true) :
    Within F z (s.originate p frame) :=
  h.step ⟨rfl, fun p e => by cases p <;> first | rfl | exact absurd e (by decide), fun _ _ _ _ => rfl, id⟩ e

theorem State.originateVport_to (n q : Nat) (frame : Bytes) (h : Within F z s) (e : subFoot (0x200000) F = true) :
    Within F z (s.originateVport n q frame) :=
  h.step ⟨rfl, fun p e => by cases p <;> first | rfl | exact absurd e (by decide), fun _ _ _ _ => rfl, id⟩ e

theorem State.sendBack_to (at_ : DoluxPlace) (frame : Bytes) (h : Within F z s) (e : subFoot (0x8000280000) F = true)
    :
    Within F z (s.sendBack at_ frame) := by
  refine h.step ?_ e
  unfold State.sendBack
  try lift_lets
  with_reducible repeat' first
    | apply Within.refl | apply State.sendMgmt_to | apply State.originate_to | apply State.originateVport_to
    | split
  all_goals rfl

theorem State.respond_to (k : Nat) (d : Session) (h : Within F z s) (e : subFoot
    (0x6800000000000000000000000000000008000283840) F = true) :
    Within F z (s.respond k d) := by
  refine h.step ?_ e
  unfold State.respond
  try lift_lets
  with_reducible repeat' first
    | apply Within.refl | apply State.setKey_to | apply State.setSession_to | apply State.sendBack_to | split
    | apply State.putAcc_to
  all_goals rfl

theorem State.stopBefore_to (v : Via) (h : Within F z s) (e : subFoot (0x6800000000000000000000000000000008000283841)
    F = true) :
    Within F z (s.stopBefore v) := by
  refine h.step ?_ e
  unfold State.stopBefore
  try lift_lets
  with_reducible repeat' first
    | apply Within.refl | apply State.dwDone_to | apply State.respond_to | split
  all_goals rfl

theorem State.underRate_to (h : Within F z s) (e : subFoot (0x40) F = true) : WithinOpt F z s.underRate := by
  unfold State.underRate
  intro t ht
  simp only [Option.ite_none_left_eq_some, Option.some.injEq] at ht
  obtain ⟨_, rfl⟩ := ht
  exact State.putAcc_to _ h e

theorem State.noteCounter_to (k c : Nat) (h : Within F z s) (e : subFoot (0x8000000040) F = true) :
    Within F z (s.noteCounter k c) := by
  refine h.step ?_ e
  unfold State.noteCounter
  try lift_lets
  with_reducible repeat' first
    | apply Within.refl | apply State.setKey_to | apply State.setCell_to
  all_goals rfl

theorem State.authenticate_to (m : DoluxMsg) (h : Within F z s) (e : subFoot
    (0x4000000000068000000000000000000000000000000480000C3840) F = true) :
    Within F z (s.authenticate m).state := by
  refine h.step ?_ e
  unfold State.authenticate
  try dsimp -proj -iota only
  with_reducible repeat' first
    | apply Within.refl | assumption | (apply Within.ofPair; case e => assumption)
    | (apply Within.ofDropped; case e => assumption) | (apply Within.ofAccepted; case e => assumption)
    | apply Within.dropped | apply Within.accepted | apply Within.iteArrival | intro x | apply State.inc_to
    | apply State.eventLim_to | apply State.noteCounter_to | apply State.event_to | apply Within.ite
    | refine Within.foldl ?_ fun s x => ?_ | apply Within.iteSnd | split
  all_goals rfl

theorem State.arrive_to (m : DoluxMsg) (h : Within F z s) (e : subFoot
    (0x4000000000068000000000000000000000000000000480000C3840) F = true) :
    Within F z (s.arrive m).state := by
  refine h.step ?_ e
  unfold State.arrive
  try dsimp -proj -iota only
  with_reducible repeat' first
    | apply Within.refl | assumption | (apply Within.ofPair; case e => assumption)
    | (apply Within.ofDropped; case e => assumption) | (apply Within.ofAccepted; case e => assumption)
    | apply Within.dropped | apply Within.accepted | apply Within.iteArrival
    | (apply Within.ofOpt; case e => assumption) | intro x | apply State.inc_to | apply State.underRate_to
    | apply State.eventGap_to | apply State.authenticate_to | apply Within.ite
    | refine Within.foldl ?_ fun s x => ?_ | apply Within.iteSnd | split
  all_goals rfl

theorem State.openSession_to (m : DoluxMsg) (h : Within F z s) (e : subFoot
    (0x6800000000000000000000000000000000000083840) F = true) :
    Within F z (s.openSession m) := by
  refine h.step ?_ e
  unfold State.openSession
  try lift_lets
  with_reducible repeat' first
    | apply Within.refl | apply State.setSession_to | apply Within.ite | apply State.putAcc_to
  all_goals rfl

theorem State.admitMsg_to (m : DoluxMsg) (h : Within F z s) (e : subFoot
    (0x4000000000068000000000000000000000000000000480000C3840) F = true) :
    Within F z (s.admitMsg m) := by
  refine h.step ?_ e
  unfold State.admitMsg
  try dsimp -proj -iota only
  with_reducible repeat' first
    | apply Within.refl | assumption | (apply Within.ofPair; case e => assumption)
    | (apply Within.ofDropped; case e => assumption) | (apply Within.ofAccepted; case e => assumption) | intro x
    | apply State.arrive_to | apply State.openSession_to | apply Within.ite | refine Within.foldl ?_ fun s x => ?_
    | apply Within.iteSnd | split
  all_goals rfl

theorem State.beginItem_to (k item : Nat) (q : ReqItem) (h : Within F z s) (e : subFoot
    (0x6800000000000000000000000000000000000083840) F = true) :
    Within F z (s.beginItem k item q).state := by
  refine h.step ?_ e
  unfold State.beginItem
  try dsimp -proj -iota only
  with_reducible repeat' first
    | apply Within.refl | assumption | (apply Within.ofPair; case e => assumption)
    | (apply Within.ofRun; case e => assumption) | (apply Within.ofAuth; case e => assumption)
    | (apply Within.ofNo; case e => assumption) | apply Within.run | apply Within.auth | apply Within.no
    | apply Within.iteBegun | intro x | apply State.setSession_to | apply Within.ite
    | refine Within.foldl ?_ fun s x => ?_ | apply Within.iteSnd | split
  all_goals rfl

theorem State.answerBare_to (m : DoluxMsg) (h : Within F z s) (e : subFoot
    (0x6800000000000000000000000000000008000283840) F = true) :
    Within F z (s.answerBare m) := by
  refine h.step ?_ e
  unfold State.answerBare
  try lift_lets
  with_reducible repeat' first
    | apply Within.refl | apply State.respond_to | split
  all_goals rfl

theorem State.beginDolux_to (m : DoluxMsg) (item : Nat) (q : ReqItem) (h : Within F z s) (e : subFoot
    (0x4000000000068000000000000000000000000000000480002C3840) F = true) :
    Within F z (s.beginDolux m item q).state := by
  refine h.step ?_ e
  unfold State.beginDolux
  try dsimp -proj -iota only
  with_reducible repeat' first
    | apply Within.refl | assumption | (apply Within.ofPair; case e => assumption)
    | (apply Within.ofRun; case e => assumption) | (apply Within.ofAuth; case e => assumption)
    | (apply Within.ofNo; case e => assumption) | apply Within.run | apply Within.auth | apply Within.no
    | apply Within.iteBegun | intro x | apply State.admitMsg_to | apply State.beginItem_to
    | apply State.answerBare_to | apply Within.ite | refine Within.foldl ?_ fun s x => ?_ | apply Within.iteSnd
    | split
  all_goals rfl

theorem State.begin_to (v : Via) (q : ReqItem) (h : Within F z s) (e : subFoot
    (0x4000000000068000000000000000000000000000000480002C3840) F = true) :
    Within F z (s.begin v q).state := by
  refine h.step ?_ e
  unfold State.begin
  try dsimp -proj -iota only
  with_reducible repeat' first
    | apply Within.refl | assumption | (apply Within.ofPair; case e => assumption)
    | (apply Within.ofRun; case e => assumption) | (apply Within.ofAuth; case e => assumption)
    | (apply Within.ofNo; case e => assumption) | apply Within.run | apply Within.auth | apply Within.no
    | apply Within.iteBegun | intro x | apply State.beginDolux_to | apply State.beginItem_to | apply Within.ite
    | refine Within.foldl ?_ fun s x => ?_ | apply Within.iteSnd | split
  all_goals rfl

theorem State.doluxAnswer_to (k status : Nat) (b : Bytes) (h : Within F z s) (e : subFoot
    (0x6800000000000000000000000000000008000283840) F = true) :
    Within F z (s.doluxAnswer k status b) := by
  refine h.step ?_ e
  unfold State.doluxAnswer
  try dsimp -proj -iota only
  with_reducible repeat' first
    | apply Within.refl | apply State.respond_to | apply State.setSession_to | apply Within.ite | split
  all_goals rfl

theorem State.dwAnswer_to (p : HostPort) (b : Bytes) (h : Within F z s) (e : subFoot
    (0x6800000000000000000000000000000000000083851) F = true) :
    Within F z (s.dwAnswer p b) := by
  refine h.step ?_ e
  unfold State.dwAnswer
  try lift_lets
  with_reducible repeat' first
    | apply Within.refl | apply State.setRegBits_to | apply State.dwDone_to | apply State.setSession_to
    | apply State.setReg_to | split | apply State.putDwBuf_to
  all_goals rfl

theorem State.answer_to (v : Via) (ix sub status : Nat) (data : Bytes) (h : Within F z s) (e : subFoot
    (0x6800000000000000000000000000000008000283851) F = true) :
    Within F z (s.answer v ix sub status data) := by
  refine h.step ?_ e
  unfold State.answer
  try lift_lets
  with_reducible repeat' first
    | apply Within.refl | apply State.setRegBits_to | apply State.doluxAnswer_to | apply State.dwAnswer_to
    | apply State.emit_to | split
  all_goals rfl

theorem State.item_to (v : Via) (q : ReqItem) (body : State → Nat → Ended) (h : Within F z s)
    (k : ∀ u r, Within F z u → Within F z (body u r).state)
    (e : subFoot (0x4000000000068000000000000000000000000000000480002C3851) F = true) : Within F z (s.item v q body) := by
  unfold State.item
  split
  · rename_i w hw
    refine Within.ofNo hw ?_
    split
    · exact State.begin_to v q h (subFoot_trans (by rfl) e)
    · exact h
  · rename_i w hw
    refine State.answer_to _ _ _ _ _ (Within.ofAuth hw ?_) ?_
    · split
      · exact State.begin_to v q h (subFoot_trans (by rfl) e)
      · exact h
    · exact subFoot_trans (by rfl) e
  · rename_i w hw
    have hw' : Within F z w := by
      refine Within.ofRun hw ?_
      split
      · exact State.begin_to v q h (subFoot_trans (by rfl) e)
      · exact h
    split
    · exact State.stopBefore_to _ hw' (subFoot_trans (by rfl) e)
    · rename_i room _
      split
      · rename_i t ht
        exact Within.ofLater ht (k _ _ hw')
      · rename_i st d t ht
        split
        · exact State.answer_to _ _ _ _ _ (Within.ofDone ht (k _ _ hw')) (subFoot_trans (by rfl) e)
        · exact State.stopBefore_to _ hw' (subFoot_trans (by rfl) e)

theorem State.writeRowItem_to (v : Via) (ix row sub : Nat) (data : Bytes) (r : WriteRule) (h : Within F z s)
    (k : ∀ u x, Within F z u → Within F z (r.act u v x).state)
    (e : subFoot (0x400040003FFFC006BFFFC00000000000000000000007C00680002C3851) F = true) : Within F z (s.writeRowItem v ix row sub data r) :=
  State.item_to _ _ _ h (fun _ _ hu => State.tryWriteAt_to _ _ _ _ _ _ hu k (subFoot_trans (by rfl) e)) (subFoot_trans (by rfl) e)

theorem State.noteSlot_to (v : Via) (head : Nat) (h : Within F z s) (e : subFoot (0x40) F = true) :
    Within F z (s.noteSlot v head) := by
  refine h.step ?_ e
  unfold State.noteSlot
  try lift_lets
  with_reducible repeat' first
    | apply Within.refl | apply State.putAcc_to
  all_goals rfl

theorem State.grantLease_to (head m ms : Nat) (h : Within F z s) (e : subFoot
    (0x4000000000068000000000000000000000000000000600000C3800 ||| pageBit head) F = true) :
    Within F z (s.grantLease head m ms) := by
  refine h.step ?_ e
  unfold State.grantLease
  try dsimp -proj -iota only
  with_reducible repeat' first
    | apply Within.refl | (apply Within.ofPair; case e => assumption) | intro x | apply State.inc_to
    | apply State.setOb_to | apply State.event_to | apply Within.ite | refine Within.foldl ?_ fun s x => ?_
    | apply Within.iteSnd | split
  all_goals repeat' first
    | with_reducible apply subFoot_or
    | with_reducible apply subFoot_laneIx
    | with_reducible apply subFoot_portIx
    | with_reducible apply subFoot_schedIx
    | with_reducible apply subFoot_gateIx
    | with_reducible apply subFoot_hostIx
    | with_reducible apply subFoot_tenantIx
    | with_reducible apply subFoot_cellIx
    | with_reducible apply subFoot_mgmtIx
    | with_reducible apply subFoot_domain
    | with_reducible apply subFoot_headIx
    | with_reducible apply subFoot_ite
    | exact subFoot_self _
    | exact subFoot_right _ _
    | exact subFoot_left (by rfl)
    | rfl
    | exact subFoot_all (by rfl)

theorem State.leaseAct_to (head m : Nat) (op : LeaseOp) (ms : Nat) (h : Within F z s) (e : subFoot
    (0x4000000000068000000000000000000000000000000600000C3800 ||| pageBit head) F = true) :
    Within F z (s.leaseAct head m op ms) := by
  refine h.step ?_ e
  unfold State.leaseAct
  try dsimp -proj -iota only
  with_reducible repeat' first
    | apply Within.refl | (apply Within.ofPair; case e => assumption) | intro x | apply State.event_to
    | apply State.endLease_to | apply State.grantLease_to | apply Within.ite | refine Within.foldl ?_ fun s x => ?_
    | apply Within.iteSnd | split
  all_goals repeat' first
    | with_reducible apply subFoot_or
    | with_reducible apply subFoot_laneIx
    | with_reducible apply subFoot_portIx
    | with_reducible apply subFoot_schedIx
    | with_reducible apply subFoot_gateIx
    | with_reducible apply subFoot_hostIx
    | with_reducible apply subFoot_tenantIx
    | with_reducible apply subFoot_cellIx
    | with_reducible apply subFoot_mgmtIx
    | with_reducible apply subFoot_domain
    | with_reducible apply subFoot_headIx
    | with_reducible apply subFoot_ite
    | exact subFoot_self _
    | exact subFoot_right _ _
    | exact subFoot_left (by rfl)
    | rfl
    | exact subFoot_all (by rfl)

theorem State.takeOwn_to (k : DeviceFrame) (at_ : DoluxPlace) (l : Layer) (bs : Bytes) (h : Within F z s) (e :
    subFoot (0x8000280000) F = true) :
    Within F z (s.takeOwn k at_ l bs) := by
  refine h.step ?_ e
  unfold State.takeOwn
  try lift_lets
  with_reducible repeat' first
    | apply Within.refl | apply State.sendBack_to | split
  all_goals rfl

theorem State.answerTo_to (v : Option Via) (ix sub status : Nat) (h : Within F z s) (e : subFoot
    (0x6800000000000000000000000000000008000283851) F = true) :
    Within F z (s.answerTo v ix sub status) := by
  refine h.step ?_ e
  unfold State.answerTo
  try lift_lets
  with_reducible repeat' first
    | apply Within.refl | apply State.answer_to | split
  all_goals rfl

theorem State.dwGo_to (p : HostPort) (h : Within F z s) (e : subFoot (0x6800000000000000000000000000000000000083841)
    F = true) :
    Within F z (s.dwGo p) := by
  refine h.step ?_ e
  unfold State.dwGo
  try lift_lets
  with_reducible repeat' first
    | apply Within.refl | apply State.setRegBits_to | apply State.dwDone_to | apply State.setSession_to
    | apply State.setReg_to | apply State.dwLevel_to | apply Within.ite
  all_goals rfl

theorem State.tryWrite_to (v : Via) (ix sub : Nat) (data : Bytes) (r : WriteRule) (h : Within F z s)
    (k : ∀ u x, Within F z u → Within F z (r.act u v x).state)
    (e : subFoot (0x400040003FFFC006BFFFC00000000000000000000007C00600000C3800) F = true) : Within F z (s.tryWrite v ix sub data r).state :=
  State.tryWriteAt_to _ _ _ _ _ _ h k e

theorem State.writeItem_to (v : Via) (ix sub : Nat) (data : Bytes) (r : WriteRule) (h : Within F z s)
    (k : ∀ u x, Within F z u → Within F z (r.act u v x).state)
    (e : subFoot (0x400040003FFFC006BFFFC00000000000000000000007C00680002C3851) F = true) : Within F z (s.writeItem v ix sub data r) :=
  State.item_to _ _ _ h (fun _ _ hu => State.tryWrite_to _ _ _ _ _ hu k (subFoot_trans (by rfl) e)) (subFoot_trans (by rfl) e)

theorem State.lease_to (v : Via) (head code ms len : Nat) (h : Within F z s) (e : subFoot
    (0x4000000000068000000000000000000000000000000600000C3840 ||| pageBit head) F = true) :
    Within F z (s.lease v head code ms len).state := by
  refine h.step ?_ e
  unfold State.lease
  try lift_lets
  with_reducible repeat' first
    | apply Within.refl | assumption | (apply Within.ofPair; case e => assumption) | apply Within.ended
    | apply Within.later | apply Within.iteState
    | (intro x; refine Within.cut (0x4000000000068000000000000000000000000000000600000C3840 ||| pageBit head) s x ?_ ?_; rotate_left; intro hx; clear_value x)
    | (intro x; clear_value x) | apply State.lapses_to | apply State.noteSlot_to | apply State.leaseAct_to
    | apply State.deliver_to | apply Within.ite | refine Within.foldl ?_ fun s x => ?_ | split
  all_goals repeat' first
    | with_reducible apply subFoot_or
    | with_reducible apply subFoot_laneIx
    | with_reducible apply subFoot_portIx
    | with_reducible apply subFoot_schedIx
    | with_reducible apply subFoot_gateIx
    | with_reducible apply subFoot_hostIx
    | with_reducible apply subFoot_tenantIx
    | with_reducible apply subFoot_cellIx
    | with_reducible apply subFoot_mgmtIx
    | with_reducible apply subFoot_domain
    | with_reducible apply subFoot_headIx
    | with_reducible apply subFoot_ite
    | exact subFoot_self _
    | exact subFoot_right _ _
    | exact subFoot_left (by rfl)
    | rfl
    | exact subFoot_all (by rfl)

theorem State.endWindow_to (p : HostPort) (h : Within F z s) (e : subFoot
    (0x6800000000000000000000000000000000000083940) F = true) :
    Within F z (s.endWindow p) := by
  refine h.step ?_ e
  unfold State.endWindow
  try lift_lets
  with_reducible repeat' first
    | apply Within.refl | apply State.setSession_to | apply State.putAdm_to | apply State.putAcc_to
  all_goals rfl

end Sys2Proof.Machine
end

