-- ==== Sys2Proof/Laws/WithinBuffers.lean ====
section
/-! SUPPORT. What the operations of Machine/Buffers.lean can touch. -/

namespace Sys2Proof.Machine

variable {F : Nat} {z s : State}

theorem State.askPool_to (r : PoolReq) (h : Within F z s) (e : subFoot (0x200080) F = true) :
    Within F z (s.askPool r) := by
  refine h.step ?_ e
  unfold State.askPool
  try lift_lets
  with_reducible repeat' first
    | apply Within.refl | apply State.putNet_to
  all_goals rfl

theorem execFree_within (n : Thread) (handle : Nat) (s : State) :
    WithinOut (0x200080) s (execFree n handle s) := by
  unfold execFree
  apply Within.out
  try lift_lets
  with_reducible repeat' first
    | apply Within.refl | apply State.askPool_to | apply Within.ite
  all_goals rfl

theorem State.freeBuf_to (h0 : Nat) (h : Within F z s) (e : subFoot (0x2000000000000000000000000000000000000200080) F
    = true) :
    Within F z (s.freeBuf h0) := by
  refine h.step ?_ e
  unfold State.freeBuf
  try lift_lets
  with_reducible repeat' first
    | apply Within.refl | apply State.setOb_to | apply State.setCell_to | apply Within.ite | apply State.putNet_to
  all_goals rfl

theorem State.poolMode_to (mode : Nat) (h : Within F z s) (e : subFoot
    (0x4000000000068000000000000000000000000000000400000C3800) F = true) :
    Within F z (s.poolMode mode) := by
  refine h.step ?_ e
  unfold State.poolMode
  try lift_lets
  with_reducible repeat' first
    | apply Within.refl | apply State.inc_to | apply State.setOb_to | apply State.event_to | apply Within.ite
  all_goals rfl

theorem State.setRequester_to (row sub v : Nat) (h : Within F z s) (e : subFoot
    (0x2000000000000000000000000000000000000000000) F = true) :
    Within F z (s.setRequester row sub v) := by
  refine h.step ?_ e
  unfold State.setRequester
  try lift_lets
  with_reducible repeat' first
    | apply Within.refl | apply State.setCell_to | apply Within.ite
  all_goals rfl

theorem State.setBuf_to (b : Buffer) (h : Within F z s) (e : subFoot (0x200080) F = true) :
    Within F z (s.setBuf b) := by
  refine h.step ?_ e
  unfold State.setBuf
  try lift_lets
  with_reducible repeat' first
    | apply Within.refl | apply State.putNet_to
  all_goals rfl

theorem State.popHandle_to (c : Nat) (h : Within F z s) (e : subFoot (0x200080) F = true) :
    Within F z (s.popHandle c).2 := by
  refine h.step ?_ e
  unfold State.popHandle
  try lift_lets
  with_reducible repeat' first
    | apply Within.refl | split | apply State.putNet_to
  all_goals rfl

theorem State.allocBuf_to (row c : Nat) (stream : Bool) (h : Within F z s) (e : subFoot
    (0x4000000000068000000000000000000000000000000400002C3880) F = true) :
    Within F z (s.allocBuf row c stream).2 := by
  refine h.step ?_ e
  unfold State.allocBuf
  try lift_lets
  with_reducible repeat' first
    | apply Within.refl | apply State.setOb_to | apply State.bump_to | apply State.popHandle_to
    | apply State.eventLim_to | split
  all_goals rfl

theorem State.takeBuf_to (row c : Nat) (h : Within F z s) (e : subFoot
    (0x4000000000068000000000000000000000000000000400002C3880) F = true) :
    Within F z (s.takeBuf row c).2 := by
  refine h.step ?_ e
  unfold State.takeBuf
  try dsimp -proj -iota only
  with_reducible repeat' first
    | apply Within.refl | apply State.setBuf_to | apply State.allocBuf_to | apply Within.ite | split
  all_goals rfl

theorem State.noteHolder_to (h0 : Nat) (n : Option Nat) (h : Within F z s) (e : subFoot (0x2000) F = true) :
    Within F z (s.noteHolder h0 n) := by
  refine h.step ?_ e
  unfold State.noteHolder
  try lift_lets
  with_reducible repeat' first
    | apply Within.refl | apply State.putThr_to
  all_goals rfl

theorem State.decideOne_to (r : PoolReq) (h : Within F z s) (e : subFoot
    (0x4000000000068000000000000000000000000000000400002C3880) F = true) :
    Within F z (s.decideOne r) := by
  refine h.step ?_ e
  unfold State.decideOne
  try lift_lets
  with_reducible repeat' first
    | apply Within.refl | apply State.freeBuf_to | apply State.poolMode_to | apply State.takeBuf_to
    | apply State.noteHolder_to | split | apply State.putNet_to
  all_goals rfl

theorem State.poolCycle_to (h : Within F z s) (e : subFoot (0x4000000000068000000000000000000000000000000400002C3880)
    F = true) :
    Within F z (s.poolCycle) := by
  refine h.step ?_ e
  unfold State.poolCycle
  try lift_lets
  with_reducible repeat' first
    | apply Within.refl | apply State.decideOne_to | apply Within.ite | refine Within.foldl ?_ fun s x => ?_
    | apply State.putNet_to
  all_goals rfl

theorem State.freeHeld_to (n : Nat) (h : Within F z s) (e : subFoot (0x2000000000000000000000000000000000000202080) F
    = true) :
    Within F z (s.freeHeld n) := by
  refine h.step ?_ e
  unfold State.freeHeld
  try lift_lets
  with_reducible repeat' first
    | apply Within.refl | apply State.freeBuf_to | apply State.noteHolder_to | apply Within.ite
    | refine Within.foldl ?_ fun s x => ?_
  all_goals rfl

theorem State.updCopy_to (row : Nat) (p : QCopy → Bool) (f : QCopy → QCopy) (h : Within F z s) (e : subFoot
    (0x200080) F = true) :
    Within F z (s.updCopy row p f) := by
  refine h.step ?_ e
  unfold State.updCopy
  try lift_lets
  with_reducible repeat' first
    | apply Within.refl | apply State.setQueue_to
  all_goals rfl

theorem State.poolAnswers_to (h : Within F z s) (e : subFoot (0x280080) F = true) :
    Within F z (s.poolAnswers) := by
  refine h.step ?_ e
  unfold State.poolAnswers
  try lift_lets
  with_reducible repeat' first
    | apply Within.refl | apply State.emit_to | apply Within.ite | refine Within.foldl ?_ fun s x => ?_
    | apply State.putNet_to
  all_goals rfl

theorem State.dropCopy_to (h0 : Nat) (h : Within F z s) (e : subFoot (0x2000000000000000000000000000000000000200080)
    F = true) :
    Within F z (s.dropCopy h0) := by
  refine h.step ?_ e
  unfold State.dropCopy
  try lift_lets
  with_reducible repeat' first
    | apply Within.refl | apply State.freeBuf_to | apply State.setBuf_to | split
  all_goals rfl

theorem requesterRule_act {u : State} (row sub : Nat) (w : Via) (x : Nat) (h : Within F z u) (e : subFoot
    (0x2000000000000000000000000000000000000000000) F = true) :
    Within F z ((requesterRule row sub).act u w x).state := by
  refine h.step ?_ e
  unfold requesterRule
  try dsimp only
  try lift_lets
  with_reducible repeat' first
    | apply Within.refl | apply Within.ended | apply Within.later | apply Within.iteState
    | apply State.setRequester_to
  all_goals rfl

theorem execBaseMinimumWrite_within (v : Via) (row : Nat) (cls : BufClass) (data : Bytes) (s : State) :
    WithinOut (0x400040003FFFC006BFFFC00000000000000000000007C00680002C3851) s (execBaseMinimumWrite v row cls data s) := by
  unfold execBaseMinimumWrite
  apply Within.out
  try lift_lets
  with_reducible repeat' first
    | apply Within.refl | assumption | (intro u x hu; apply requesterRule_act)
    | (intro x; refine Within.cut (0x400040003FFFC006BFFFC00000000000000000000007C00680002C3851) s x ?_ ?_; rotate_left; intro hx; clear_value x)
    | apply State.writeRowItem_to | apply requesterRule_act | apply Within.ite
  all_goals rfl

theorem execSpillFetch_within (place : QueuePlace) (q : QueueNo) (s : State) :
    WithinOut (0x200080) s (execSpillFetch place q s) := by
  unfold execSpillFetch
  apply Within.out
  try lift_lets
  with_reducible repeat' first
    | apply Within.refl | apply State.updCopy_to | apply Within.ite
  all_goals rfl

theorem execAlloc_within (n : Thread) (row : Nat) (cls : BufClass) (s : State) :
    WithinOut (0x200080) s (execAlloc n row cls s) := by
  unfold execAlloc
  apply Within.out
  try lift_lets
  with_reducible repeat' first
    | apply Within.refl | apply State.askPool_to | apply Within.ite
  all_goals rfl

theorem execQuotaWrite_within (v : Via) (row : Nat) (cls : BufClass) (data : Bytes) (s : State) :
    WithinOut (0x400040003FFFC006BFFFC00000000000000000000007C00680002C3851) s (execQuotaWrite v row cls data s) := by
  unfold execQuotaWrite
  apply Within.out
  try lift_lets
  with_reducible repeat' first
    | apply Within.refl | assumption | (intro u x hu; apply requesterRule_act)
    | (intro x; refine Within.cut (0x400040003FFFC006BFFFC00000000000000000000007C00680002C3851) s x ?_ ?_; rotate_left; intro hx; clear_value x)
    | apply State.writeRowItem_to | apply requesterRule_act | apply Within.ite
  all_goals rfl

theorem execSpillFetchComplete_within (handle : Nat) (s : State) :
    WithinOut (0x200080) s (execSpillFetchComplete handle s) := by
  unfold execSpillFetchComplete
  apply Within.out
  try lift_lets
  with_reducible repeat' first
    | apply Within.refl | apply State.putNet_to
  all_goals rfl

theorem execPoolModeSwitch_within (quota : Bool) (s : State) :
    WithinOut (0x200080) s (execPoolModeSwitch quota s) := by
  unfold execPoolModeSwitch
  apply Within.out
  try lift_lets
  with_reducible repeat' first
    | apply Within.refl | apply State.askPool_to
  all_goals rfl

theorem State.addCopy_to (h0 : Nat) (h : Within F z s) (e : subFoot (0x200080) F = true) :
    Within F z (s.addCopy h0) := by
  refine h.step ?_ e
  unfold State.addCopy
  try lift_lets
  with_reducible repeat' first
    | apply Within.refl | apply State.setBuf_to | split
  all_goals rfl

end Sys2Proof.Machine
end

