-- ==== Sys2Proof/Laws/WithinQueues.lean ====
section
/-! SUPPORT. What the operations of Machine/Queues.lean can touch. -/

namespace Sys2Proof.Machine

variable {F : Nat} {z s : State}

theorem State.appendCopy_to (row : Nat) (c : QCopy) (h : Within F z s) (e : subFoot (0x200080) F = true) :
    Within F z (s.appendCopy row c) := by
  refine h.step ?_ e
  unfold State.appendCopy
  try lift_lets
  with_reducible repeat' first
    | apply Within.refl | apply State.setQueue_to
  all_goals rfl

theorem State.setCredit_to (p q : Nat) (c : Int) (h : Within F z s) (e : subFoot
    (0x4000000000000000000000000000000000000003C00000000000000000) F = true) :
    Within F z (s.setCredit p q c) := by
  refine h.step ?_ e
  unfold State.setCredit
  try lift_lets
  with_reducible repeat' first
    | apply Within.refl | apply State.setOb_to
  all_goals repeat' first | with_reducible apply subFoot_schedIx | rfl

theorem State.settleTo_to (p t : Nat) (h : Within F z s) (e : subFoot
    (0x4000000000000000000000000000000000000003C00000000000200080) F = true) :
    Within F z (s.settleTo p t) := by
  refine h.step ?_ e
  unfold State.settleTo
  try lift_lets
  with_reducible repeat' first
    | apply Within.refl | apply State.setSched_to | apply State.setCredit_to | apply Within.ite
    | refine Within.foldl ?_ fun s x => ?_
  all_goals rfl

theorem State.settle_to (p : Nat) (h : Within F z s) (e : subFoot
    (0x4000000000000000000000000000000000000003C00000000000200080) F = true) :
    Within F z (s.settle p) := by
  refine h.step ?_ e
  unfold State.settle
  try lift_lets
  with_reducible repeat' first
    | apply Within.refl | apply State.settleTo_to
  all_goals rfl

theorem State.setHport_to (p : Nat) (d : PortDyn) (h : Within F z s) (e : subFoot (0x800) F = true) :
    Within F z (s.setHport p d) := by
  refine h.step ?_ e
  unfold State.setHport
  try lift_lets
  with_reducible repeat' first
    | apply Within.refl | apply State.putHst_to
  all_goals rfl

theorem State.pmeSource_to (t master port source : Nat) (h : Within F z s) (e : subFoot
    (0x4000000000068000000000000000000000000000000400000C3800) F = true) :
    Within F z (s.pmeSource t master port source) := by
  refine h.step ?_ e
  unfold State.pmeSource
  try lift_lets
  with_reducible repeat' first
    | apply Within.refl | apply State.setHport_to | apply State.setFunc_to | apply State.event_to
    | apply State.emit_to | apply Within.ite
  all_goals rfl

theorem State.pmeTenant_to (t source : Nat) (h : Within F z s) (e : subFoot
    (0x4000000000068000000000000000000000000000000400000C3800) F = true) :
    Within F z (s.pmeTenant t source) := by
  refine h.step ?_ e
  unfold State.pmeTenant
  try lift_lets
  with_reducible repeat' first
    | apply Within.refl | apply State.pmeSource_to
  all_goals rfl

theorem State.countDiscard_to (row : Nat) (h : Within F z s) (e : subFoot
    (0x4000000000000000000000000000000000000043C00000000000000000) F = true) :
    Within F z (s.countDiscard row) := by
  refine h.step ?_ e
  unfold State.countDiscard
  try lift_lets
  with_reducible repeat' first
    | apply Within.refl | apply State.bump_to | apply Within.ite
  all_goals repeat' first | with_reducible apply subFoot_schedIx | rfl

theorem State.discardCopy_to (row : Nat) (c : QCopy) (h : Within F z s) (e : subFoot
    (0x4000000000000002000000000000000000000043C00000000000200080) F = true) :
    Within F z (s.discardCopy row c) := by
  refine h.step ?_ e
  unfold State.discardCopy
  try lift_lets
  with_reducible repeat' first
    | apply Within.refl | apply State.countDiscard_to | apply State.dropCopy_to
  all_goals rfl

theorem State.enqueue_to (row : Nat) (c : QCopy) (h : Within F z s) (e : subFoot
    (0x4000400040000006800000000000000000000043C003C00400002C3880) F = true) :
    Within F z (s.enqueue row c) := by
  refine h.step ?_ e
  unfold State.enqueue
  try dsimp -proj -iota only
  with_reducible repeat' first
    | apply Within.refl | apply State.inc_to | apply State.appendCopy_to | apply State.settle_to
    | apply State.pmeTenant_to | apply State.eventLim_to | apply State.discardCopy_to | apply Within.ite | split
  all_goals repeat' first | with_reducible apply subFoot_portIx | rfl

theorem State.setBlob_to (ix sub : Nat) (b : Bytes) (h : Within F z s) (e : subFoot (0x40) F = true) :
    Within F z (s.setBlob ix sub b) := by
  refine h.step ?_ e
  unfold State.setBlob
  try lift_lets
  with_reducible repeat' first
    | apply Within.refl | apply State.putAcc_to
  all_goals rfl

theorem State.police_to (m t b : Nat) (p : Parsed) (h : Within F z s) (e : subFoot (0x40000000000000200080) F = true)
    :
    Within F z (s.police m t b p).2 := by
  refine h.step ?_ e
  unfold State.police
  try dsimp -proj -iota only
  with_reducible repeat' first
    | apply Within.refl | apply State.bump_to | apply State.setCell_to | apply Within.ite | split
    | apply State.putNet_to
  all_goals rfl

end Sys2Proof.Machine
end

