-- ==== Sys2Proof/Laws/WithinPtp.lean ====
section
/-! SUPPORT. What the operations of Machine/Ptp.lean can touch. -/

namespace Sys2Proof.Machine

variable {F : Nat} {z s : State}

theorem State.ptpOut_to (row : Nat) (frame : Bytes) (h : Within F z s) (e : subFoot (0x18000280000) F = true) :
    Within F z (s.ptpOut row frame) := by
  refine h.step ?_ e
  unfold State.ptpOut
  try lift_lets
  with_reducible repeat' first
    | apply Within.refl | apply State.sendMgmt_to | apply State.bump_to | apply State.originate_to | split
  all_goals rfl

theorem State.ptpGeneral_to (row typ seq corr : Nat) (body : Bytes) (h : Within F z s) (e : subFoot (0x18000280000) F
    = true) :
    Within F z (s.ptpGeneral row typ seq corr body) := by
  refine h.step ?_ e
  unfold State.ptpGeneral
  try lift_lets
  with_reducible repeat' first
    | apply Within.refl | apply State.ptpOut_to
  all_goals rfl

theorem State.ptpAnnounce_to (row : Nat) (h : Within F z s) (e : subFoot (0x18000280000) F = true) :
    Within F z (s.ptpAnnounce row) := by
  refine h.step ?_ e
  unfold State.ptpAnnounce
  try lift_lets
  with_reducible repeat' first
    | apply Within.refl | apply State.ptpGeneral_to | apply Within.ite
  all_goals rfl

theorem State.announceAll_to (h : Within F z s) (e : subFoot (0x18000280000) F = true) :
    Within F z (s.announceAll) := by
  refine h.step ?_ e
  unfold State.announceAll
  try lift_lets
  with_reducible repeat' first
    | apply Within.refl | apply State.ptpAnnounce_to | apply Within.ite | refine Within.foldl ?_ fun s x => ?_
  all_goals rfl

theorem State.setPtpDyn_to (row : Nat) (d : PtpDyn) (h : Within F z s) (e : subFoot (0x20) F = true) :
    Within F z (s.setPtpDyn row d) := by
  refine h.step ?_ e
  unfold State.setPtpDyn
  try lift_lets
  with_reducible repeat' first
    | apply Within.refl | apply State.putClk_to
  all_goals rfl

theorem State.ptpStarts_to (row start : Nat) (frame : Bytes) (h : Within F z s) (e : subFoot (0x18000280020) F =
    true) :
    Within F z (s.ptpStarts row start frame) := by
  refine h.step ?_ e
  unfold State.ptpStarts
  try dsimp -proj -iota only
  with_reducible repeat' first
    | apply Within.refl | apply State.setPtpDyn_to | apply State.ptpGeneral_to | apply Within.ite | split
  all_goals rfl

theorem State.ptpEvent_to (row typ seq : Nat) (body : Bytes) (h : Within F z s) (e : subFoot (0x18000280020) F =
    true) :
    Within F z (s.ptpEvent row typ seq body) := by
  refine h.step ?_ e
  unfold State.ptpEvent
  try lift_lets
  with_reducible repeat' first
    | apply Within.refl | apply State.ptpStarts_to | apply State.ptpOut_to | apply Within.ite
  all_goals rfl

end Sys2Proof.Machine
end

