-- ==== Sys2Proof/Laws/WithinInline.lean ====
section
/-! SUPPORT. What the operations of Machine/Inline.lean can touch. -/

namespace Sys2Proof.Machine

variable {F : Nat} {z s : State}

theorem State.setMark_to (row v : Nat) (h : Within F z s) (e : subFoot (0x10000) F = true) :
    Within F z (s.setMark row v) := by
  refine h.step ?_ e
  unfold State.setMark
  try lift_lets
  with_reducible repeat' first
    | apply Within.refl | apply State.putPwr_to
  all_goals rfl

theorem execPnMarkWritten_within (sa : Nat) (s : State) : WithinOut (0x10200) s (execPnMarkWritten sa s) := by
  unfold execPnMarkWritten
  apply Within.out
  dsimp only
  split
  · exact .refl _ _
  · exact ⟨rfl, fun p e => by cases p <;> first | rfl | exact absurd e (by decide), fun _ _ _ _ => rfl, id⟩

theorem State.dropOlds_to (h : Within F z s) (e : subFoot (0x200) F = true) :
    Within F z (s.dropOlds) := by
  refine h.step ?_ e
  unfold State.dropOlds
  try lift_lets
  with_reducible repeat' first
    | apply Within.refl | apply State.putCip_to
  all_goals rfl

theorem State.serveLane_to (cycle lane : Nat) (h : Within F z s) (e : subFoot (0x200) F = true) :
    Within F z (s.serveLane cycle lane) := by
  refine h.step ?_ e
  unfold State.serveLane
  try lift_lets
  with_reducible repeat' first
    | apply Within.refl | split | apply State.putCip_to
  all_goals rfl

theorem State.cpEvent_to (t b : Nat) (h : Within F z s) (e : subFoot
    (0x4000000000068000000000000000000000000000000400000C3801) F = true) :
    Within F z (s.cpEvent t b) := by
  refine h.step ?_ e
  unfold State.cpEvent
  try lift_lets
  with_reducible repeat' first
    | apply Within.refl | apply State.setRegBits_to | apply State.pmeTenant_to | apply State.msix_to
    | apply Within.ite
  all_goals rfl

theorem State.pnMoved_to (row : Nat) (h : Within F z s) (e : subFoot
    (0x4000000000068000000000004000000000000000000400000C3A01) F = true) :
    Within F z (s.pnMoved row) := by
  refine h.step ?_ e
  unfold State.pnMoved
  try lift_lets
  with_reducible repeat' first
    | apply Within.refl | apply State.cpEvent_to | apply State.event_to | apply State.setCell_to | apply Within.ite
    | apply State.putCip_to
  all_goals rfl

theorem State.assignPn_to (row : Nat) (h : Within F z s) (e : subFoot
    (0x4000000000068000000000004000000000000000000400000C3A01) F = true) :
    Within F z (s.assignPn row).2 := by
  refine h.step ?_ e
  unfold State.assignPn
  try lift_lets
  with_reducible repeat' first
    | apply Within.refl | apply State.setCells_to | apply State.bump_to | apply State.pnMoved_to
  all_goals rfl

theorem State.countSa_to (x1 : Sa) (sub : Nat) (h : Within F z s) (e : subFoot (0x400000000000000000000000000000) F =
    true) :
    Within F z (s.countSa x1 sub) := by
  refine h.step ?_ e
  unfold State.countSa
  try lift_lets
  with_reducible repeat' first
    | apply Within.refl | apply State.bump_to | apply Within.ite
  all_goals rfl

theorem State.serveCycle_to (cycle : Nat) (h : Within F z s) (e : subFoot (0x200) F = true) :
    Within F z (s.serveCycle cycle) := by
  refine h.step ?_ e
  unfold State.serveCycle
  try lift_lets
  with_reducible repeat' first
    | apply Within.refl | apply State.serveLane_to | apply Within.ite | refine Within.foldl ?_ fun s x => ?_
  all_goals rfl

theorem State.setClane_to (l : Nat) (d : CLane) (h : Within F z s) (e : subFoot (0x200) F = true) :
    Within F z (s.setClane l d) := by
  refine h.step ?_ e
  unfold State.setClane
  try lift_lets
  with_reducible repeat' first
    | apply Within.refl | apply State.putCip_to
  all_goals rfl

theorem State.endWork_to (p : LaneWork → Bool) (h : Within F z s) (e : subFoot (0x200) F = true) :
    Within F z (s.endWork p) := by
  refine h.step ?_ e
  unfold State.endWork
  try lift_lets
  with_reducible repeat' first
    | apply Within.refl | apply State.putCip_to
  all_goals rfl

theorem State.noteReceive_to (row high : Nat) (h : Within F z s) (e : subFoot (0x10000) F = true) :
    Within F z (s.noteReceive row high) := by
  refine h.step ?_ e
  unfold State.noteReceive
  try lift_lets
  with_reducible repeat' first
    | apply Within.refl | apply State.setMark_to | apply Within.ite
  all_goals rfl

theorem State.serveLanes_to (h : Within F z s) (e : subFoot (0x200) F = true) :
    Within F z (s.serveLanes) := by
  refine h.step ?_ e
  unfold State.serveLanes
  try lift_lets
  with_reducible repeat' first
    | apply Within.refl | apply State.serveCycle_to | apply Within.ite
  all_goals rfl

theorem State.slotFailed_to (row : Nat) (h : Within F z s) (e : subFoot
    (0x4000000000068000000000004000000000000000000400000C3800) F = true) :
    Within F z (s.slotFailed row) := by
  refine h.step ?_ e
  unfold State.slotFailed
  try lift_lets
  with_reducible repeat' first
    | apply Within.refl | apply State.bump_to | apply State.event_to
  all_goals rfl

theorem State.countCipherDrop_to (h : Within F z s) (e : subFoot (0x400000000000000000000000000000) F = true) :
    Within F z (s.countCipherDrop) := by
  refine h.step ?_ e
  unfold State.countCipherDrop
  try lift_lets
  with_reducible repeat' first
    | apply Within.refl | apply State.inc_to
  all_goals rfl

theorem State.accept_to (x1 : Sa) (pn octets : Nat) (h : Within F z s) (e : subFoot
    (0x400000000000000000000000010200) F = true) :
    Within F z (s.accept x1 pn octets) := by
  refine h.step ?_ e
  unfold State.accept
  try lift_lets
  with_reducible repeat' first
    | apply Within.refl | apply State.bump_to | apply State.noteReceive_to | apply State.setCell_to | split
    | apply State.putCip_to
  all_goals rfl

theorem State.setSlot_to (row : Nat) (key : Bytes) (h : Within F z s) (e : subFoot (0x200) F = true) :
    Within F z (s.setSlot row key) := by
  refine h.step ?_ e
  unfold State.setSlot
  try lift_lets
  with_reducible repeat' first
    | apply Within.refl | apply State.putCip_to
  all_goals rfl

theorem State.retireSa_to (row : Nat) (h : Within F z s) (e : subFoot (0x200) F = true) :
    Within F z (s.retireSa row) := by
  refine h.step ?_ e
  unfold State.retireSa
  try lift_lets
  with_reducible repeat' first
    | apply Within.refl | apply State.putCip_to
  all_goals rfl

theorem State.addWork_to (lane : Nat) (kind : WorkKind) (stream : Bool) (bytes : Nat) (h : Within F z s) (e : subFoot
    (0x200) F = true) :
    Within F z (s.addWork lane kind stream bytes).2 := by
  refine h.step ?_ e
  unfold State.addWork
  try lift_lets
  with_reducible repeat' first
    | apply Within.refl | apply State.putCip_to
  all_goals rfl

end Sys2Proof.Machine
end

