-- ==== Sys2Proof/Laws/WithinRingOps.lean ====
section
/-! SUPPORT. What the operations of Machine/RingOps.lean can touch. -/

namespace Sys2Proof.Machine

variable {F : Nat} {z s : State}

theorem State.setRing_to (owner : Nat) (tx : Bool) (r : Nat) (d : RingDyn) (h : Within F z s) (e : subFoot (0x1000) F
    = true) :
    Within F z (s.setRing owner tx r d) := by
  refine h.step ?_ e
  unfold State.setRing
  try lift_lets
  with_reducible repeat' first
    | apply Within.refl | apply State.putRng_to
  all_goals rfl

theorem State.postRuns_to (m size addr fuel : Nat) (x5 : Bytes) (h : Within F z s) (e : subFoot (0x80000) F = true) :
    Within F z (s.postRuns m size addr fuel x5) := by
  induction fuel generalizing s m size addr x5 with
  | zero => exact h
  | succ fuel ih =>
    unfold State.postRuns
    try dsimp -proj -iota only
    with_reducible repeat' first
      | exact h | apply ih | apply Within.refl | apply State.emit_to | apply Within.ite
    all_goals exact subFoot_trans (by rfl) e

theorem State.dmaWrite_to (owner addr : Nat) (data : Bytes) (h : Within F z s) (e : subFoot
    (0x4000000000000000000000008000000000000000000000000000080000) F = true) :
    Within F z (s.dmaWrite owner addr data) := by
  refine h.step ?_ e
  unfold State.dmaWrite
  try lift_lets
  with_reducible repeat' first
    | apply Within.refl | apply State.bump_to | apply State.postRuns_to | apply Within.ite
  all_goals repeat' first | with_reducible apply subFoot_hostIx | rfl

theorem State.queueMsg_to (owner ctrl : Nat) (h : Within F z s) (e : subFoot (0x80800) F = true) :
    Within F z (s.queueMsg owner ctrl) := by
  refine h.step ?_ e
  unfold State.queueMsg
  try lift_lets
  with_reducible repeat' first
    | apply Within.refl | apply State.msix_to
  all_goals rfl

theorem State.ringMsg_to (owner : Nat) (tx : Bool) (r : Nat) (h : Within F z s) (e : subFoot (0x81800) F = true) :
    Within F z (s.ringMsg owner tx r) := by
  refine h.step ?_ e
  unfold State.ringMsg
  try lift_lets
  with_reducible repeat' first
    | apply Within.refl | apply State.queueMsg_to | apply State.setRing_to
  all_goals rfl

theorem State.noteFull_to (owner : Nat) (tx : Bool) (r : Nat) (h : Within F z s) (e : subFoot (0x1) F = true) :
    Within F z (s.noteFull owner tx r) := by
  refine h.step ?_ e
  unfold State.noteFull
  try lift_lets
  with_reducible repeat' first
    | apply Within.refl | apply State.setRegBits_to
  all_goals rfl

theorem State.ringComplete_to (owner : Nat) (tx : Bool) (r : Nat) (bytes : Nat → Bytes) (irq : Bool) (h : Within F z
    s) (e : subFoot (0x4000000000000000000000008000000000000000000000000000081801) F = true) :
    Within F z (s.ringComplete owner tx r bytes irq) := by
  refine h.step ?_ e
  unfold State.ringComplete
  try lift_lets
  with_reducible repeat' first
    | apply Within.refl | apply State.dmaWrite_to | apply State.ringMsg_to | apply State.noteFull_to
    | apply State.setReg_to | apply State.setRing_to | apply Within.ite
  all_goals rfl

theorem State.completeTx_to (t : TxDone) (time status : Nat) (h : Within F z s) (e : subFoot
    (0x4000000000000000000000008000000000000000000000000000081801) F = true) :
    Within F z (s.completeTx t time status) := by
  refine h.step ?_ e
  unfold State.completeTx
  try lift_lets
  with_reducible repeat' first
    | apply Within.refl | apply State.ringComplete_to
  all_goals rfl

theorem State.payOwed_to (owner r fuel : Nat) (h : Within F z s) (e : subFoot
    (0x4000000000000000000000008000000000000000000000000000081801) F = true) :
    Within F z (s.payOwed owner r fuel) := by
  induction fuel generalizing s owner r with
  | zero => exact h
  | succ fuel ih =>
    unfold State.payOwed
    try dsimp -proj -iota only
    with_reducible repeat' first
      | exact h | apply ih | apply Within.refl | apply State.setRing_to | apply State.completeTx_to | split
    all_goals exact subFoot_trans (by rfl) e

theorem State.noteBusy_to (owner r : Nat) (h : Within F z s) (e : subFoot (0x1) F = true) :
    Within F z (s.noteBusy owner r) := by
  refine h.step ?_ e
  unfold State.noteBusy
  try lift_lets
  with_reducible repeat' first
    | apply Within.refl | apply State.setRegBits_to
  all_goals rfl

theorem State.settleRing_to (owner r : Nat) (h : Within F z s) (e : subFoot
    (0x4000000000000000000000008000000000000000000000000000081801) F = true) :
    Within F z (s.settleRing owner r) := by
  refine h.step ?_ e
  unfold State.settleRing
  try lift_lets
  with_reducible repeat' first
    | apply Within.refl | apply State.payOwed_to | apply State.noteBusy_to
  all_goals rfl

theorem State.owePush_to (t : TxDone) (status n : Nat) (h : Within F z s) (e : subFoot
    (0x4000000000000000000000008000000000000000000000000000081801) F = true) :
    Within F z (s.owePush t status n) := by
  refine h.step ?_ e
  unfold State.owePush
  try lift_lets
  with_reducible repeat' first
    | apply Within.refl | apply State.settleRing_to | apply State.setRing_to
  all_goals rfl

theorem State.flushPba_to (m : Nat) (h : Within F z s) (e : subFoot (0x80800) F = true) :
    Within F z (s.flushPba m) := by
  refine h.step ?_ e
  unfold State.flushPba
  try lift_lets
  with_reducible repeat' first
    | apply Within.refl | apply State.setFunc_to | apply State.emit_to | apply Within.ite
    | refine Within.foldl ?_ fun s x => ?_
  all_goals rfl

theorem State.setDesc_to (owner : Nat) (tx : Bool) (r slot : Nat) (b : Bytes) (h : Within F z s) (e : subFoot
    (0x1000) F = true) :
    Within F z (s.setDesc owner tx r slot b) := by
  refine h.step ?_ e
  unfold State.setDesc
  try lift_lets
  with_reducible repeat' first
    | apply Within.refl | apply State.setRing_to
  all_goals rfl

theorem State.ringDescs_to (owner : Nat) (tx : Bool) (r slot n : Nat) (data : Bytes) (h : Within F z s) (e : subFoot
    (0x1000) F = true) :
    Within F z (s.ringDescs owner tx r slot n data) := by
  refine h.step ?_ e
  unfold State.ringDescs
  try lift_lets
  with_reducible repeat' first
    | apply Within.refl | apply State.setDesc_to | apply Within.ite | refine Within.foldl ?_ fun s x => ?_
  all_goals rfl

theorem State.dropDesc_to (owner : Nat) (tx : Bool) (r slot : Nat) (h : Within F z s) (e : subFoot (0x1000) F = true)
    :
    Within F z (s.dropDesc owner tx r slot) := by
  refine h.step ?_ e
  unfold State.dropDesc
  try lift_lets
  with_reducible repeat' first
    | apply Within.refl | apply State.setDesc_to
  all_goals rfl

theorem State.haltRing_to (owner : Nat) (tx : Bool) (r cause : Nat) (h : Within F z s) (e : subFoot
    (0x4000000000068000000000000000000000000000000400000C3801) F = true) :
    Within F z (s.haltRing owner tx r cause) := by
  refine h.step ?_ e
  unfold State.haltRing
  try lift_lets
  with_reducible repeat' first
    | apply Within.refl | apply State.setRegBits_to | apply State.setFunc_to | apply State.event_to
  all_goals rfl

theorem State.descsRead_to (o r n : Nat) (waits : Bool) (h : Within F z s) (e : subFoot (0x201080) F = true) :
    Within F z (s.descsRead o r n waits) := by
  refine h.step ?_ e
  unfold State.descsRead
  try lift_lets
  with_reducible repeat' first
    | apply Within.refl | apply State.setRing_to | apply State.putNet_to
  all_goals rfl

theorem State.writeReg_to (owner off : Nat) (v : Word) (h : Within F z s) (e : subFoot (0x1) F = true) :
    Within F z (s.writeReg owner off v) := by
  refine h.step ?_ e
  unfold State.writeReg
  try lift_lets
  with_reducible repeat' first
    | apply Within.refl | apply State.setReg_to | split
  all_goals rfl

theorem State.entered_to (t : TxDone) (h : Within F z s) (e : subFoot
    (0x4000000000000000000000008000000000000000000000000000081801) F = true) :
    Within F z (s.entered t) := by
  refine h.step ?_ e
  unfold State.entered
  try lift_lets
  with_reducible repeat' first
    | apply Within.refl | apply State.settleRing_to | apply State.setRing_to | apply State.completeTx_to
  all_goals rfl

theorem State.oweFrame_to (t : TxDone) (status : Nat) (h : Within F z s) (e : subFoot
    (0x4000000000000000000000008000000000000000000000000000081801) F = true) :
    Within F z (s.oweFrame t status) := by
  refine h.step ?_ e
  unfold State.oweFrame
  try lift_lets
  with_reducible repeat' first
    | apply Within.refl | apply State.settleRing_to | apply State.setRing_to
  all_goals rfl

end Sys2Proof.Machine
end

