-- ==== Sys2Proof/Laws/WithinHostDma.lean ====
section
/-! SUPPORT. What the operations of Machine/HostDma.lean can touch. -/

namespace Sys2Proof.Machine

variable {F : Nat} {z s : State}

theorem State.endReads_to (mine : Nat → Purpose → Bool) (h : Within F z s) (e : subFoot (0x800) F = true) :
    Within F z (s.endReads mine) := by
  refine h.step ?_ e
  unfold State.endReads
  try lift_lets
  with_reducible repeat' first
    | apply Within.refl | apply State.putHst_to
  all_goals rfl

theorem State.endQueue_to (mine : Purpose → Bool) (h : Within F z s) (e : subFoot (0x800) F = true) :
    Within F z (s.endQueue mine) := by
  refine h.step ?_ e
  unfold State.endQueue
  try lift_lets
  with_reducible repeat' first
    | apply Within.refl | apply State.endReads_to
  all_goals rfl

theorem State.waitRead_to (hp : Nat) (r : ReadWait) (h : Within F z s) (e : subFoot (0x800) F = true) :
    Within F z (s.waitRead hp r) := by
  refine h.step ?_ e
  unfold State.waitRead
  try lift_lets
  with_reducible repeat' first
    | apply Within.refl | apply State.putHst_to
  all_goals rfl

theorem State.showTags_to (hp m : Nat) (h : Within F z s) (e : subFoot
    (0x40000000000000003FFFC0000000000000000000000000000000000000) F = true) :
    Within F z (s.showTags hp m) := by
  refine h.step ?_ e
  unfold State.showTags
  try lift_lets
  with_reducible repeat' first
    | apply Within.refl | apply State.setCells_to | split
  all_goals repeat' first | with_reducible apply subFoot_tenantIx | rfl

theorem State.setTags_to (hp : Nat) (ts : List Tag) (h : Within F z s) (e : subFoot
    (0x40000000000000003FFFC0008000000000000000000000000000000800) F = true) :
    Within F z (s.setTags hp ts) := by
  refine h.step ?_ e
  unfold State.setTags
  try lift_lets
  with_reducible repeat' first
    | apply Within.refl | apply State.setOb_to | apply State.setCells_to | apply State.showTags_to
    | apply Within.ite | refine Within.foldl ?_ fun s x => ?_ | apply State.putHst_to
  all_goals repeat' first | with_reducible apply subFoot_hostIx | rfl

theorem State.sendRead_to (hp : Nat) (r : ReadWait) (h : Within F z s) (e : subFoot
    (0x40000000000000003FFFC0008000000000000000000000000000080800) F = true) :
    Within F z (s.sendRead hp r) := by
  refine h.step ?_ e
  unfold State.sendRead
  try lift_lets
  with_reducible repeat' first
    | apply Within.refl | apply State.setTags_to | apply State.emit_to | apply State.putHst_to
  all_goals rfl

theorem State.issueOne_to (r : ReadWait) (h : Within F z s) (e : subFoot
    (0x40000000000000003FFFC0008000000000000000000000000000080800) F = true) :
    Within F z (s.issueOne r) := by
  refine h.step ?_ e
  unfold State.issueOne
  try lift_lets
  with_reducible repeat' first
    | apply Within.refl | apply State.waitRead_to | apply State.sendRead_to | apply Within.ite
  all_goals rfl

theorem State.issueRead_to (m : Nat) (why : Purpose) (addr len : Nat) (h : Within F z s) (e : subFoot
    (0x40000000000000003FFFC0008000000000000000000000000000080800) F = true) :
    Within F z (s.issueRead m why addr len) := by
  refine h.step ?_ e
  unfold State.issueRead
  try lift_lets
  with_reducible repeat' first
    | apply Within.refl | apply State.issueOne_to | apply Within.ite | refine Within.foldl ?_ fun s x => ?_
    | apply State.putHst_to
  all_goals rfl

theorem State.fetchRun_to (owner base size bytes start stop : Nat) (why : Nat → Nat → Purpose) (h : Within F z s)
    (e : subFoot (0x40000000000000003FFFC0008000000000000000000000000000080800) F = true) :
    Within F z (s.fetchRun owner base size bytes start stop why) := by
  have one : ∀ u a n, Within F z u → Within F z (if n = 0 then u else u.issueRead (s.funcMaster owner) (why a n)
      (base + bytes * a) (bytes * n)) := by
    intro u a n hu
    split
    · exact hu
    · exact State.issueRead_to _ _ _ _ hu e
  unfold State.fetchRun
  dsimp only
  split
  · exact one _ _ _ h
  · exact one _ _ _ (one _ _ _ h)

theorem State.dropRead_to (t : Tag) (h : Within F z s) (e : subFoot (0x800) F = true) :
    Within F z (s.dropRead t).2 := by
  refine h.step ?_ e
  unfold State.dropRead
  try lift_lets
  with_reducible repeat' first
    | apply Within.refl | split | apply State.putHst_to
  all_goals rfl

theorem State.drainReads_to (hp : Nat) (h : Within F z s) (e : subFoot
    (0x40000000000000003FFFC0008000000000000000000000000000080800) F = true) :
    Within F z (s.drainReads hp) := by
  refine h.step ?_ e
  unfold State.drainReads
  try lift_lets
  with_reducible repeat' first
    | apply Within.refl | apply State.issueOne_to | apply Within.ite | refine Within.foldl ?_ fun s x => ?_
    | apply State.putHst_to
  all_goals rfl

theorem State.freeTag_to (hp tag : Nat) (h : Within F z s) (e : subFoot
    (0x40000000000000003FFFC0008000000000000000000000000000080800) F = true) :
    Within F z (s.freeTag hp tag) := by
  refine h.step ?_ e
  unfold State.freeTag
  try lift_lets
  with_reducible repeat' first
    | apply Within.refl | apply State.setTags_to | apply State.drainReads_to
  all_goals rfl

theorem State.takePiece_to (t : Tag) (data : Bytes) (h : Within F z s) (e : subFoot (0x800) F = true) :
    Within F z (s.takePiece t data).2 := by
  refine h.step ?_ e
  unfold State.takePiece
  try lift_lets
  with_reducible repeat' first
    | apply Within.refl | split | apply State.putHst_to
  all_goals rfl

theorem State.noteFunction_to (t : Nat) (h : Within F z s) (e : subFoot
    (0x40000000000000003FFFC0000000000000000000000000000000000000) F = true) :
    Within F z (s.noteFunction t) := by
  refine h.step ?_ e
  unfold State.noteFunction
  try lift_lets
  with_reducible repeat' first
    | apply Within.refl | apply State.setOb_to
  all_goals repeat' first | with_reducible apply subFoot_tenantIx | rfl

theorem State.issueAll_to (m : Nat) (reads : List (Nat × Nat)) (why : Nat → Purpose) (h : Within F z s) (e : subFoot
    (0x40000000000000003FFFC0008000000000000000000000000000080800) F = true) :
    Within F z (s.issueAll m reads why) := by
  refine h.step ?_ e
  unfold State.issueAll
  try lift_lets
  with_reducible repeat' first
    | apply Within.refl | apply State.issueRead_to | apply Within.ite | refine Within.foldl ?_ fun s x => ?_
  all_goals rfl

theorem State.noteHalted_to (owner : Nat) (h : Within F z s) (e : subFoot
    (0x40000000000000003FFFC0000000000000000000000000000000000800) F = true) :
    Within F z (s.noteHalted owner) := by
  refine h.step ?_ e
  unfold State.noteHalted
  try lift_lets
  with_reducible repeat' first
    | apply Within.refl | apply State.noteFunction_to | apply State.setFunc_to
  all_goals rfl

end Sys2Proof.Machine
end

