-- ==== Sys2Proof/Laws/WithinFramePath.lean ====
section
/-! SUPPORT. What the operations of Machine/FramePath.lean can touch. -/

namespace Sys2Proof.Machine

variable {F : Nat} {z s : State}

theorem State.countIn_to (w : Waiting) (sub : Nat) (h : Within F z s) (e : subFoot
    (0x40000000000000000000000000000000000000000003C0000000000000) F = true) :
    Within F z (s.countIn w sub) := by
  refine h.step ?_ e
  unfold State.countIn
  try lift_lets
  with_reducible repeat' first
    | apply Within.refl | apply State.inc_to | split
  all_goals repeat' first | with_reducible apply subFoot_portIx | rfl

theorem State.processData_to (c : Ctx) (bs : Bytes) (h : Within F z s) (e : subFoot
    (0x40004000000000068000000000000000000000000003C00400000C3802) F = true) :
    Within F z (s.processData c bs) := by
  refine h.step ?_ e
  unfold State.processData
  try dsimp -proj -iota only
  with_reducible repeat' first
    | apply Within.refl | apply State.eventGap_to | apply State.countIn_to | apply Within.ite | split
    | apply State.putLoop_to
  all_goals rfl

theorem State.countMirrors_to (c : Ctx) (h : Within F z s) (e : subFoot
    (0x40000000000000000000000000000000000000000003C0000000000000) F = true) :
    Within F z (s.countMirrors c) := by
  refine h.step ?_ e
  unfold State.countMirrors
  try lift_lets
  with_reducible repeat' first
    | apply Within.refl | apply State.countIn_to | apply Within.ite
  all_goals rfl

theorem State.allocFirst_to (row : Nat) (stream : Bool) (x3 : List Nat) (h : Within F z s) (e : subFoot
    (0x4000000000068000000000000000000000000000000400002C3880) F = true) :
    Within F z (s.allocFirst row stream x3).2 := by
  induction x3 generalizing s row stream with
  | nil => exact h
  | cons y x3 ih =>
    unfold State.allocFirst
    try dsimp -proj -iota only
    with_reducible repeat' first
      | exact h | apply ih | apply Within.refl | apply State.allocBuf_to | split
    all_goals exact subFoot_trans (by rfl) e

theorem State.writeFrame_to (c : Ctx) (n : Nat) (queues : Option (List Nat)) (bs : Bytes) (h : Within F z s) (e :
    subFoot (0x4000000000068000000000000000000000000000000400002C3880) F = true) :
    Within F z (s.writeFrame c n queues bs).2 := by
  refine h.step ?_ e
  unfold State.writeFrame
  try dsimp -proj -iota only
  with_reducible repeat' first
    | apply Within.refl | apply State.setBuf_to | apply State.allocFirst_to | apply Within.ite | split
  all_goals rfl

theorem State.violation_to (i sub : Nat) (h : Within F z s) (e : subFoot
    (0x4000000000068000000000000000000040000000000400000C3800) F = true) :
    Within F z (s.violation i sub) := by
  refine h.step ?_ e
  unfold State.violation
  try lift_lets
  with_reducible repeat' first
    | apply Within.refl | apply State.bump_to | apply State.eventLim_to
  all_goals rfl

theorem State.withdrawnDrop_to (w : Waiting) (h : Within F z s) (e : subFoot
    (0x40000000000000000000000000000000000000000003C0000000000000) F = true) :
    Within F z (s.withdrawnDrop w) := by
  refine h.step ?_ e
  unfold State.withdrawnDrop
  try lift_lets
  with_reducible repeat' first
    | apply Within.refl | apply State.countIn_to
  all_goals rfl

theorem State.sendCopy_to (c : Ctx) (h0 : Nat) (e0 : Option EgressRow) (base edited : Bytes) (t : Target) (h : Within
    F z s) (e : subFoot (0x400040007FFFC006800000000000000000004043C003C00400002C3880) F = true) :
    Within F z (s.sendCopy c h0 e0 base edited t) := by
  refine h.step ?_ e
  unfold State.sendCopy
  try dsimp -proj -iota only
  with_reducible repeat' first
    | apply Within.refl | apply State.enqueue_to | apply State.inc_to | apply State.bump_to
    | apply State.dropCopy_to | apply State.violation_to | apply State.withdrawnDrop_to | apply State.countIn_to
    | apply Within.ite | refine Within.foldl ?_ fun s x => ?_ | split
  all_goals repeat' first | with_reducible apply subFoot_cellIx | rfl

theorem State.sendCopies_to (c : Ctx) (h0 : Nat) (e0 : Option EgressRow) (base edited : Bytes) (x6 : List Target) (h
    : Within F z s) (e : subFoot (0x400040007FFFC006800000000000000000004043C003C00400002C3880) F = true) :
    Within F z (s.sendCopies c h0 e0 base edited x6) := by
  induction x6 generalizing s c h0 e0 base edited with
  | nil => exact h
  | cons y x6 ih =>
    unfold State.sendCopies
    try dsimp -proj -iota only
    with_reducible repeat' first
      | exact h | apply ih | apply Within.refl | apply State.sendCopy_to
    all_goals exact subFoot_trans (by rfl) e

theorem State.send_to (c : Ctx) (base edited : Bytes) (ts : List Target) (h : Within F z s) (e : subFoot
    (0x400040007FFFC006800000000000000000004043C003C00400002C3880) F = true) :
    Within F z (s.send c base edited ts) := by
  refine h.step ?_ e
  unfold State.send
  try dsimp -proj -iota only
  with_reducible repeat' first
    | apply Within.refl | (apply Within.ofPair; case e => assumption) | apply State.writeFrame_to
    | apply State.sendCopies_to | apply Within.ite | refine Within.foldl ?_ fun s x => ?_ | split
  all_goals rfl

theorem State.dropWith_to (c : Ctx) (edited : Bytes) (h : Within F z s) (e : subFoot
    (0x400040007FFFC006800000000000000000004043C003C00400002C3880) F = true) :
    Within F z (s.dropWith c edited) := by
  refine h.step ?_ e
  unfold State.dropWith
  try lift_lets
  with_reducible repeat' first
    | apply Within.refl | apply State.countMirrors_to | apply State.send_to
  all_goals rfl

theorem State.meterFrame_to (c : Ctx) (m : Option Nat) (h : Within F z s) (e : subFoot (0x40000000000000200080) F =
    true) :
    Within F z (s.meterFrame c m).2 := by
  refine h.step ?_ e
  unfold State.meterFrame
  try lift_lets
  with_reducible repeat' first
    | apply Within.refl | apply State.police_to | split
  all_goals rfl

theorem State.trapFrame_to (c : Ctx) (reason : Nat) (base edited : Bytes) (h : Within F z s) (e : subFoot
    (0x400040007FFFC006800000000000000040004043C003C00400002C3880) F = true) :
    Within F z (s.trapFrame c reason base edited) := by
  refine h.step ?_ e
  unfold State.trapFrame
  try lift_lets
  with_reducible repeat' first
    | apply Within.refl | apply State.bump_to | apply State.countMirrors_to | apply State.send_to
    | apply State.countIn_to
  all_goals rfl

theorem State.toRecirc_to (c : Ctx) (stream : Option Nat) (edited : Bytes) (t : Option Target) (h : Within F z s) (e
    : subFoot (0x400040007FFFC006800000000000000000004043C003C00400002C3880) F = true) :
    Within F z (s.toRecirc c stream edited t) := by
  refine h.step ?_ e
  unfold State.toRecirc
  try dsimp -proj -iota only
  with_reducible repeat' first
    | apply Within.refl | (apply Within.ofPair; case e => assumption) | apply State.countMirrors_to
    | apply State.writeFrame_to | apply State.sendCopies_to | apply State.addCopy_to | apply Within.ite
    | refine Within.foldl ?_ fun s x => ?_ | split | apply State.putNet_to
  all_goals rfl

theorem State.deliverFwd_to (c : Ctx) (stream : Option Nat) (f : Fwd) (base edited : Bytes) (h : Within F z s) (e :
    subFoot (0x400040007FFFC006800000000000000040004043C003C00400002C3880) F = true) :
    Within F z (s.deliverFwd c stream f base edited) := by
  refine h.step ?_ e
  unfold State.deliverFwd
  try dsimp -proj -iota only
  with_reducible repeat' first
    | apply Within.refl | apply State.bump_to | apply State.dropWith_to | apply State.countMirrors_to
    | apply State.eventGap_to | apply State.toRecirc_to | apply State.send_to | apply State.countIn_to
    | apply Within.ite | refine Within.foldl ?_ fun s x => ?_ | split
  all_goals rfl

theorem State.edit_to (c : Ctx) (bs : Bytes) (h : Within F z s) (e : subFoot
    (0x40004000000000068000000000000000000000000003C00400000C3800) F = true) :
    Within F z (s.edit c bs).2 := by
  refine h.step ?_ e
  unfold State.edit
  try dsimp -proj -iota only
  with_reducible repeat' first
    | apply Within.refl | apply State.eventLim_to | apply State.countIn_to | apply Within.ite | split
  all_goals rfl

theorem State.setCompound_to (c : Nat) (d : Compound) (h : Within F z s) (e : subFoot (0x200080) F = true) :
    Within F z (s.setCompound c d) := by
  refine h.step ?_ e
  unfold State.setCompound
  try lift_lets
  with_reducible repeat' first
    | apply Within.refl | apply State.putNet_to
  all_goals rfl

theorem State.number_to (r : Option Replica) (h : Within F z s) (e : subFoot (0x200080) F = true) :
    Within F z (s.number r).2 := by
  refine h.step ?_ e
  unfold State.number
  try lift_lets
  with_reducible repeat' first
    | apply Within.refl | apply State.setCompound_to | split
  all_goals rfl

theorem State.afterStages_to (c : Ctx) (stream meter : Option Nat) (r : Option Replica) (h : Within F z s) (e :
    subFoot (0x400040007FFFC006800000000000000040004043C003C00400002C3882) F = true) :
    Within F z (s.afterStages c stream meter r) := by
  refine h.step ?_ e
  unfold State.afterStages
  try dsimp -proj -iota only
  with_reducible repeat' first
    | apply Within.refl | (apply Within.ofPair; case e => assumption) | apply State.processData_to
    | apply State.dropWith_to | apply State.meterFrame_to | apply State.trapFrame_to | apply State.deliverFwd_to
    | apply State.edit_to | apply State.countIn_to | apply State.number_to | apply Within.ite
    | refine Within.foldl ?_ fun s x => ?_ | split
  all_goals rfl

theorem execFrerRecoveryReset_within (compound : Fin 4096) (s : State) :
    WithinOut (0x4000000000068000000000000000000040000000000400002C3880) s (execFrerRecoveryReset compound s) := by
  unfold execFrerRecoveryReset
  apply Within.out
  try lift_lets
  with_reducible repeat' first
    | apply Within.refl | apply State.bump_to | apply State.setCompound_to | apply State.event_to
    | apply Within.ite | refine Within.foldl ?_ fun s x => ?_
  all_goals rfl

theorem State.startPass_to (x : Pass) (h : Within F z s) (e : subFoot (0x200) F = true) :
    Within F z (s.startPass x) := by
  refine h.step ?_ e
  unfold State.startPass
  try lift_lets
  with_reducible repeat' first
    | apply Within.refl | apply State.putCip_to
  all_goals rfl

theorem State.startPasses_to (lane fuel : Nat) (h : Within F z s) (e : subFoot (0x200) F = true) :
    Within F z (s.startPasses lane fuel) := by
  induction fuel generalizing s lane with
  | zero => exact h
  | succ fuel ih =>
    unfold State.startPasses
    try dsimp -proj -iota only
    with_reducible repeat' first
      | exact h | apply ih | apply Within.refl | apply State.startPass_to | split
    all_goals exact subFoot_trans (by rfl) e

theorem State.wakeLane_to (lane : Nat) (h : Within F z s) (e : subFoot (0x200) F = true) :
    Within F z (s.wakeLane lane) := by
  refine h.step ?_ e
  unfold State.wakeLane
  try lift_lets
  with_reducible repeat' first
    | apply Within.refl | apply State.startPasses_to
  all_goals rfl

theorem State.freeOwn_to (w : Waiting) (h : Within F z s) (e : subFoot
    (0x2000000000000000000000000000000000000200080) F = true) :
    Within F z (s.freeOwn w) := by
  refine h.step ?_ e
  unfold State.freeOwn
  try lift_lets
  with_reducible repeat' first
    | apply Within.refl | apply State.freeBuf_to | split
  all_goals rfl

theorem State.beginDecrypt_to (c : Ctx) (rows : List Nat) (h : Within F z s) (e : subFoot
    (0x4000000000068000000000004000000000000000000400002C3A80) F = true) :
    Within F z (s.beginDecrypt c rows) := by
  refine h.step ?_ e
  unfold State.beginDecrypt
  try lift_lets
  with_reducible repeat' first
    | apply Within.refl | apply State.inc_to | apply State.wakeLane_to | apply State.slotFailed_to
    | apply State.eventGap_to | apply State.countCipherDrop_to | apply State.addWork_to | apply State.freeOwn_to
    | split | apply State.putCip_to
  all_goals rfl

theorem State.hit_to (ix row : Nat) (h : Within F z s) (e : subFoot (pageBit ix) F = true) :
    Within F z (s.hit ix row) := by
  refine h.step ?_ e
  unfold State.hit
  try dsimp -proj -iota only
  with_reducible repeat' first
    | apply Within.refl | (apply Within.ofPair; case e => assumption) | intro x | apply State.bump_to
    | apply Within.ite | refine Within.foldl ?_ fun s x => ?_ | apply Within.iteSnd | split
  all_goals repeat' first
    | with_reducible apply subFoot_or
    | with_reducible apply subFoot_laneIx
    | with_reducible apply subFoot_portIx
    | with_reducible apply subFoot_schedIx
    | with_reducible apply subFoot_gateIx
    | with_reducible apply subFoot_hostIx
    | with_reducible apply subFoot_tenantIx
    | with_reducible apply subFoot_cellIx
    | with_reducible apply subFoot_mgmtIx
    | with_reducible apply subFoot_domain
    | with_reducible apply subFoot_headIx
    | with_reducible apply subFoot_ite
    | exact subFoot_self _
    | exact subFoot_right _ _
    | exact subFoot_left (by rfl)
    | rfl
    | exact subFoot_all (by rfl)

theorem State.countClassified_to (tenant : Nat) (rows : List Nat) (h : Within F z s) (e : subFoot
    (0x40000000000000000000000000) F = true) :
    Within F z (s.countClassified tenant rows) := by
  refine h.step ?_ e
  unfold State.countClassified
  try lift_lets
  with_reducible repeat' first
    | apply Within.refl | apply State.bump_to | apply State.hit_to | apply Within.ite
    | refine Within.foldl ?_ fun s x => ?_
  all_goals rfl

theorem State.linkLocalPass_to (c : Ctx) (row : Option Nat) (h : Within F z s) (e : subFoot
    (0x400040007FFFC006800000000000000040004043C003C00400002C3880) F = true) :
    Within F z (s.linkLocalPass c row) := by
  refine h.step ?_ e
  unfold State.linkLocalPass
  try dsimp -proj -iota only
  with_reducible repeat' first
    | apply Within.refl | apply State.hit_to | apply State.trapFrame_to | apply State.countIn_to | apply Within.ite
    | split
  all_goals rfl

theorem State.stageA_to (c : Ctx) (h : Within F z s) (e : subFoot (0x40000000000000000000000000) F = true) :
    Within F z (s.stageA c).2 := by
  refine h.step ?_ e
  unfold State.stageA
  try dsimp -proj -iota only
  with_reducible repeat' first
    | apply Within.refl | apply State.hit_to | apply Within.ite | split
  all_goals rfl

theorem State.replicate_to (c : Ctx) (m : Nat) (h : Within F z s) (e : subFoot
    (0x400040007FFFC006800000000000000040004043C003C00400002C3882) F = true) :
    Within F z (s.replicate c m) := by
  refine h.step ?_ e
  unfold State.replicate
  try lift_lets
  with_reducible repeat' first
    | apply Within.refl | apply State.afterStages_to
  all_goals rfl

theorem State.withStream_to (c : Ctx) (row : Option Nat) (h : Within F z s) (e : subFoot
    (0x400040007FFFC006800000000000000040004043C003C00400002C3882) F = true) :
    Within F z (s.withStream c row) := by
  refine h.step ?_ e
  unfold State.withStream
  try lift_lets
  with_reducible repeat' first
    | apply Within.refl | apply State.afterStages_to | apply State.withdrawnDrop_to | split
  all_goals rfl

theorem State.recover_to (c : Ctx) (m : Nat) (h : Within F z s) (e : subFoot
    (0x4000000000068000000000000000000040000000000400002C3880) F = true) :
    Within F z (s.recover c m).2 := by
  refine h.step ?_ e
  unfold State.recover
  try dsimp -proj -iota only
  with_reducible repeat' first
    | apply Within.refl | apply State.bump_to | apply State.eventLim_to | apply State.setCompound_to
    | apply Within.ite | split
  all_goals rfl

theorem State.frer_to (c : Ctx) (h : Within F z s) (e : subFoot
    (0x400040007FFFC006800000000000000040004043C003C00400002C3882) F = true) :
    Within F z (s.frer c) := by
  refine h.step ?_ e
  unfold State.frer
  try dsimp -proj -iota only
  with_reducible repeat' first
    | apply Within.refl | (apply Within.ofPair; case e => assumption) | apply State.replicate_to
    | apply State.withStream_to | apply State.recover_to | apply Within.ite | refine Within.foldl ?_ fun s x => ?_
    | split
  all_goals rfl

theorem State.stageX_to (c : Ctx) (h : Within F z s) (e : subFoot (0x40000000000000000000000000) F = true) :
    Within F z (s.stageX c).2 := by
  refine h.step ?_ e
  unfold State.stageX
  try dsimp -proj -iota only
  with_reducible repeat' first
    | apply Within.refl | apply State.hit_to | apply Within.ite | split
  all_goals rfl

theorem State.runPass_to (c : Ctx) (h : Within F z s) (e : subFoot
    (0x400040007FFFC006800000000000000040004043C003C00400002C3882) F = true) :
    Within F z (s.runPass c) := by
  refine h.step ?_ e
  unfold State.runPass
  try lift_lets
  with_reducible repeat' first
    | apply Within.refl | apply State.bump_to | apply State.dropWith_to | apply State.stageA_to
    | apply State.frer_to | apply State.stageX_to | apply State.countIn_to | apply Within.ite
  all_goals rfl

theorem State.lookupPass_to (c : Ctx) (h : Within F z s) (e : subFoot
    (0x400040007FFFC006800000000000400040004043C003C00400002C3A82) F = true) :
    Within F z (s.lookupPass c) := by
  refine h.step ?_ e
  unfold State.lookupPass
  try lift_lets
  with_reducible repeat' first
    | apply Within.refl | apply State.bump_to | apply State.beginDecrypt_to | apply State.countClassified_to
    | apply State.linkLocalPass_to | apply State.countIn_to | apply State.runPass_to | apply State.freeOwn_to
    | apply Within.ite
  all_goals rfl

theorem State.released_to (x : Pass) (pn : Nat) (bs : Bytes) (h : Within F z s) (e : subFoot
    (0x400040007FFFC006800000000000400040004043C003C00400002D3A82) F = true) :
    Within F z (s.released x pn bs) := by
  refine h.step ?_ e
  unfold State.released
  try lift_lets
  with_reducible repeat' first
    | apply Within.refl | apply State.accept_to | apply State.countClassified_to | apply State.runPass_to
  all_goals rfl

theorem State.decryptFault_to (x : Pass) (x2 : Receipt) (h : Within F z s) (e : subFoot
    (0x4000000000068000000000004000000000000000000400000C3800) F = true) :
    Within F z (s.decryptFault x x2) := by
  refine h.step ?_ e
  unfold State.decryptFault
  try lift_lets
  with_reducible repeat' first
    | apply Within.refl | apply State.inc_to | apply State.countSa_to | apply State.eventLim_to | split
  all_goals rfl

theorem State.endPass_to (x : Pass) (h : Within F z s) (e : subFoot
    (0x400040007FFFC006800000000000400040004043C003C00400002D3A82) F = true) :
    Within F z (s.endPass x) := by
  refine h.step ?_ e
  unfold State.endPass
  try lift_lets
  with_reducible repeat' first
    | apply Within.refl | apply State.dropOlds_to | apply State.released_to | apply State.wakeLane_to
    | apply State.decryptFault_to | apply State.freeOwn_to | split | apply State.putCip_to
  all_goals rfl

theorem execReleaseDecrypted_within (pass : Nat) (s : State) :
    WithinOut (0x400040007FFFC006800000000000400040004043C003C00400002D3A82) s (execReleaseDecrypted pass s) := by
  unfold execReleaseDecrypted
  apply Within.out
  try lift_lets
  with_reducible repeat' first
    | apply Within.refl | apply State.endPass_to | split
  all_goals rfl

theorem State.grantDone_to (w : Waiting) (h : Within F z s) (e : subFoot
    (0x4000000000000000000000008000000000000000000000000000081801) F = true) :
    Within F z (s.grantDone w) := by
  refine h.step ?_ e
  unfold State.grantDone
  try lift_lets
  with_reducible repeat' first
    | apply Within.refl | apply State.entered_to | split
  all_goals rfl

theorem State.devicePass_to (w : Waiting) (h : Within F z s) (e : subFoot
    (0x400040007FFFC006800000000000000040004043C003C00400002C3882) F = true) :
    Within F z (s.devicePass w) := by
  refine h.step ?_ e
  unfold State.devicePass
  try lift_lets
  with_reducible repeat' first
    | apply Within.refl | apply State.withStream_to
  all_goals rfl

theorem State.pass_to (w : Waiting) (h : Within F z s) (e : subFoot
    (0x400040007FFFC006800000000000400040004043C003C00480002C3A82) F = true) :
    Within F z (s.pass w) := by
  refine h.step ?_ e
  unfold State.pass
  try dsimp -proj -iota only
  with_reducible repeat' first
    | apply Within.refl | apply State.lookupPass_to | apply State.inc_to | apply State.takeOwn_to
    | apply State.devicePass_to | apply State.freeOwn_to | apply Within.ite | split
  all_goals rfl

theorem execIngressSlotGrant_within (k : Octet) (s : State) :
    WithinOut (0x400040007FFFC006800000008000400040004043C003C00480002C3A83) s (execIngressSlotGrant k s) := by
  unfold execIngressSlotGrant
  apply Within.out
  try lift_lets
  with_reducible repeat' first
    | apply Within.refl | apply State.grantDone_to | apply State.pass_to | split | apply State.putNet_to
  all_goals rfl

theorem State.releaseAll_to (h : Within F z s) (e : subFoot
    (0x400040007FFFC006800000000000400040004043C003C00400002D3A82) F = true) :
    Within F z (s.releaseAll) := by
  refine h.step ?_ e
  unfold State.releaseAll
  try lift_lets
  with_reducible repeat' first
    | apply Within.refl | apply State.endPass_to | apply Within.ite | refine Within.foldl ?_ fun s x => ?_
  all_goals rfl

theorem State.withdrawnNamed_to (i : Nat) (h : Within F z s) (e : subFoot
    (0x4000000000068000000000000000000000000000000400000C3800) F = true) :
    Within F z (s.withdrawnNamed i) := by
  refine h.step ?_ e
  unfold State.withdrawnNamed
  try lift_lets
  with_reducible repeat' first
    | apply Within.refl | apply State.event_to | apply Within.ite
  all_goals rfl

end Sys2Proof.Machine
end

