-- ==== Sys2Proof/Laws/WithinEgress.lean ====
section
/-! SUPPORT. What the operations of Machine/Egress.lean can touch. -/

namespace Sys2Proof.Machine

variable {F : Nat} {z s : State}

theorem State.discardFrom_to (row : Option Nat) (c : QCopy) (h : Within F z s) (e : subFoot
    (0x4000000000000002000000000000000000000043C00000000000200080) F = true) :
    Within F z (s.discardFrom row c) := by
  refine h.step ?_ e
  unfold State.discardFrom
  try lift_lets
  with_reducible repeat' first
    | apply Within.refl | apply State.dropCopy_to | apply State.discardCopy_to | split
  all_goals rfl

theorem State.countBuf_to (h0 sub : Nat) (h : Within F z s) (e : subFoot
    (0x40000000000000000000000000000000000000000003C0000000000000) F = true) :
    Within F z (s.countBuf h0 sub) := by
  refine h.step ?_ e
  unfold State.countBuf
  try lift_lets
  with_reducible repeat' first
    | apply Within.refl | apply State.inc_to | split
  all_goals repeat' first | with_reducible apply subFoot_portIx | rfl

theorem State.discardAll_to (row : Nat) (x2 : List QCopy) (h : Within F z s) (e : subFoot
    (0x4000000000000002000000000000000000000043C00000000000200080) F = true) :
    Within F z (s.discardAll row x2) := by
  induction x2 generalizing s row with
  | nil => exact h
  | cons y x2 ih =>
    unfold State.discardAll
    try dsimp -proj -iota only
    with_reducible repeat' first
      | exact h | apply ih | apply Within.refl | apply State.discardCopy_to
    all_goals exact subFoot_trans (by rfl) e

theorem State.flushRow_to (row : Nat) (h : Within F z s) (e : subFoot
    (0x4000000000000002000000000000000000000043C00000000000200080) F = true) :
    Within F z (s.flushRow row) := by
  refine h.step ?_ e
  unfold State.flushRow
  try lift_lets
  with_reducible repeat' first
    | apply Within.refl | apply State.setQueue_to | apply State.discardAll_to
  all_goals rfl

theorem State.setDeficits_to (p : Nat) (ds : List Nat) (h : Within F z s) (e : subFoot
    (0x4000000000000000000000000000000000000003C00000000000000000) F = true) :
    Within F z (s.setDeficits p ds) := by
  refine h.step ?_ e
  unfold State.setDeficits
  try lift_lets
  with_reducible repeat' first
    | apply Within.refl | apply State.setOb_to | apply Within.ite | refine Within.foldl ?_ fun s x => ?_
  all_goals repeat' first | with_reducible apply subFoot_schedIx | rfl

theorem State.putBack_to (p : Nat) (x2 : List Slot) (h : Within F z s) (e : subFoot
    (0x400000000000000000000000200080) F = true) :
    Within F z (s.putBack p x2) := by
  induction x2 generalizing s p with
  | nil => exact h
  | cons y x2 ih =>
    unfold State.putBack
    try dsimp -proj -iota only
    with_reducible repeat' first
      | exact h | apply ih | apply Within.refl | apply State.bump_to | apply State.setQueue_to | split
    all_goals exact subFoot_trans (by rfl) e

theorem State.unselect_to (p : Nat) (h : Within F z s) (e : subFoot
    (0x4000000000000000000000000000400000000003C00000000000200280) F = true) :
    Within F z (s.unselect p) := by
  refine h.step ?_ e
  unfold State.unselect
  try dsimp -proj -iota only
  with_reducible repeat' first
    | apply Within.refl | apply State.setDeficits_to | apply State.endWork_to | apply State.setSched_to
    | apply State.putBack_to | apply Within.ite | split
  all_goals rfl

theorem State.flushPort_to (p : Nat) (h : Within F z s) (e : subFoot
    (0x4000000000000002000000000000400000000043C003C0000000200280) F = true) :
    Within F z (s.flushPort p) := by
  refine h.step ?_ e
  unfold State.flushPort
  try lift_lets
  with_reducible repeat' first
    | apply Within.refl | apply State.bump_to | apply State.flushRow_to | apply State.unselect_to
    | apply State.setSched_to | apply Within.ite | refine Within.foldl ?_ fun s x => ?_
  all_goals repeat' first | with_reducible apply subFoot_portIx | rfl

theorem execPortDownDiscard_within (p : Port) (s : State) :
    WithinOut (0x4000000000000002000000000000400000000043C003C0000000200280) s (execPortDownDiscard p s) := by
  unfold execPortDownDiscard
  apply Within.out
  try lift_lets
  with_reducible repeat' first
    | apply Within.refl | apply State.flushPort_to | apply Within.ite
  all_goals rfl

theorem State.countCoding_to (p : Nat) (c : Coding) (h : Within F z s) (e : subFoot
    (0x4000000000000000000000000000000000000000000400000000000000) F = true) :
    Within F z (s.countCoding p c) := by
  refine h.step ?_ e
  unfold State.countCoding
  try lift_lets
  with_reducible repeat' first
    | apply Within.refl | apply State.bump_to
  all_goals repeat' first | with_reducible apply subFoot_laneIx | rfl

theorem State.setPause_to (p fin : Nat) (h : Within F z s) (e : subFoot
    (0x40000000000000000000000000000000000000000003C0000000200080) F = true) :
    Within F z (s.setPause p fin) := by
  refine h.step ?_ e
  unfold State.setPause
  try lift_lets
  with_reducible repeat' first
    | apply Within.refl | apply State.setOb_to | apply State.bump_to | apply State.setSched_to
  all_goals repeat' first | with_reducible apply subFoot_portIx | rfl

theorem State.pauseFrame_to (p quanta : Nat) (h : Within F z s) (e : subFoot
    (0x4000000000000000000000000000400000000003C003C0000000200280) F = true) :
    Within F z (s.pauseFrame p quanta) := by
  refine h.step ?_ e
  unfold State.pauseFrame
  try lift_lets
  with_reducible repeat' first
    | apply Within.refl | apply State.inc_to | apply State.settle_to | apply State.unselect_to
    | apply State.setPause_to | apply Within.ite
  all_goals repeat' first | with_reducible apply subFoot_portIx | rfl

theorem execTransmitStart_within (p : Port) (s : State) :
    WithinOut (0x4000000000000000000000000000400000000003C003C00180002802A0) s (execTransmitStart p s) := by
  unfold execTransmitStart
  apply Within.out
  try dsimp -proj -iota only
  with_reducible repeat' first
    | apply Within.refl | apply State.inc_to | apply State.bump_to | apply State.settle_to
    | apply State.settleTo_to | apply State.unselect_to | apply State.ptpStarts_to | apply State.setSched_to
    | apply Within.ite | split
  all_goals repeat' first | with_reducible apply subFoot_portIx | with_reducible apply subFoot_schedIx | rfl

theorem State.countSent_to (p : Nat) (x : Slot) (h : Within F z s) (e : subFoot
    (0x40004000000000068000000000000000000000000003C00400000C3800) F = true) :
    Within F z (s.countSent p x) := by
  refine h.step ?_ e
  unfold State.countSent
  try lift_lets
  with_reducible repeat' first
    | apply Within.refl | apply State.inc_to | apply State.bump_to | apply State.eventLim_to | apply Within.ite
  all_goals repeat' first | with_reducible apply subFoot_portIx | rfl

theorem execFrameTransmitted_within (p : Port) (s : State) :
    WithinOut (0x4000400000000006800000000000000000000003C003C00400002C3880) s (execFrameTransmitted p s) := by
  unfold execFrameTransmitted
  apply Within.out
  try lift_lets
  with_reducible repeat' first
    | apply Within.refl | apply State.countSent_to | apply State.settle_to | apply State.dropCopy_to
    | apply State.setSched_to | apply State.emit_to | split
  all_goals rfl

theorem State.refuseRecirc_to (k : Nat) (c : QCopy) (w : Waiting) (cause : Nat) (h : Within F z s) (e : subFoot
    (0x40004000000000068000000000000000000000000003C00400002C3880) F = true) :
    Within F z (s.refuseRecirc k c w cause) := by
  refine h.step ?_ e
  unfold State.refuseRecirc
  try lift_lets
  with_reducible repeat' first
    | apply Within.refl | apply State.dropCopy_to | apply State.eventGap_to | apply State.countIn_to
  all_goals rfl

theorem State.encryptCopy_to (c : QCopy) (bs : Bytes) (h : Within F z s) (e : subFoot
    (0x4000000000068000000000004000000000000000000400000C3A01) F = true) :
    Within F z (s.encryptCopy c bs).2 := by
  refine h.step ?_ e
  unfold State.encryptCopy
  try dsimp -proj -iota only
  with_reducible repeat' first
    | apply Within.refl | apply State.inc_to | apply State.assignPn_to | apply State.bump_to | apply Within.ite
    | split
  all_goals rfl

theorem State.enterRecirc_to (k : Nat) (c : QCopy) (w : Waiting) (h : Within F z s) (e : subFoot
    (0x40004000000000068000000000004000000000000003C00400002C3A81) F = true) :
    Within F z (s.enterRecirc k c w) := by
  refine h.step ?_ e
  unfold State.enterRecirc
  try dsimp -proj -iota only
  with_reducible repeat' first
    | apply Within.refl | (apply Within.ofPair; case e => assumption) | apply State.refuseRecirc_to
    | apply State.dropCopy_to | apply State.setBuf_to | apply State.encryptCopy_to | apply State.allocBuf_to
    | apply State.addWork_to | apply Within.ite | refine Within.foldl ?_ fun s x => ?_ | split
    | apply State.putNet_to
  all_goals rfl

theorem State.mirrorE_to (c : QCopy) (e0 : EgressRow) (h : Within F z s) (e : subFoot
    (0x4000400040000006800000000000000000000043C003C00400002C3880) F = true) :
    Within F z (s.mirrorE c e0) := by
  refine h.step ?_ e
  unfold State.mirrorE
  try lift_lets
  with_reducible repeat' first
    | apply Within.refl | apply State.enqueue_to | apply State.countBuf_to | apply State.addCopy_to
    | apply Within.ite
  all_goals rfl

theorem State.applyE_to (row port : Option Nat) (c : QCopy) (h : Within F z s) (e : subFoot
    (0x4000400040000006800000000000000040000043C003C00400002C3880) F = true) :
    Within F z (s.applyE row port c).2 := by
  refine h.step ?_ e
  unfold State.applyE
  try lift_lets
  with_reducible repeat' first
    | apply Within.refl | apply State.enqueue_to | apply State.discardFrom_to | apply State.countBuf_to
    | apply State.inc_to | apply State.bump_to | apply State.hit_to | apply State.mirrorE_to | split
  all_goals repeat' first | with_reducible apply subFoot_portIx | rfl

theorem State.countHead_to (p q : Nat) (c : QCopy) (x4 : HeadFault) (h : Within F z s) (e : subFoot
    (0x40004000000000068000000000004000000000000003C00400000C3800) F = true) :
    Within F z (s.countHead p q c x4) := by
  refine h.step ?_ e
  unfold State.countHead
  try dsimp -proj -iota only
  with_reducible repeat' first
    | apply Within.refl | apply State.inc_to | apply State.bump_to | apply State.slotFailed_to
    | apply State.eventGap_to | apply State.countCipherDrop_to | apply Within.ite | split
  all_goals repeat' first | with_reducible apply subFoot_portIx | rfl

theorem execRecirculate_within (k : Octet) (s : State) :
    WithinOut (0x4000400040000006800000000000400040000043C003C00400002C3A81) s (execRecirculate k s) := by
  unfold execRecirculate
  apply Within.out
  try dsimp -proj -iota only
  with_reducible repeat' first
    | apply Within.refl | (apply Within.ofPair; case e => assumption) | apply State.refuseRecirc_to
    | apply State.dropCopy_to | apply State.enterRecirc_to | apply State.applyE_to | apply State.countHead_to
    | apply Within.ite | refine Within.foldl ?_ fun s x => ?_ | split | apply State.putNet_to
  all_goals rfl

theorem State.selectFrom_to (p q : Nat) (r : Drr) (h : Within F z s) (e : subFoot
    (0x4000400040000006800000000000400040000043C003C00400002C3A81) F = true) :
    Within F z (s.selectFrom p q r).2 := by
  refine h.step ?_ e
  unfold State.selectFrom
  try dsimp -proj -iota only
  with_reducible repeat' first
    | apply Within.refl | (apply Within.ofPair; case e => assumption) | apply State.setDeficits_to
    | apply State.setQueue_to | apply State.encryptCopy_to | apply State.setSched_to | apply State.applyE_to
    | apply State.discardCopy_to | apply State.addWork_to | apply Within.ite | refine Within.foldl ?_ fun s x => ?_
    | split
  all_goals rfl

theorem execHeadAgeDiscard_within (row : Nat) (s : State) :
    WithinOut (0x4000400000000006800000000000000000000043C003C00400002C3880) s (execHeadAgeDiscard row s) := by
  unfold execHeadAgeDiscard
  apply Within.out
  try lift_lets
  with_reducible repeat' first
    | apply Within.refl | apply State.inc_to | apply State.settle_to | apply State.setQueue_to
    | apply State.eventLim_to | apply State.discardCopy_to | split
  all_goals repeat' first | with_reducible apply subFoot_portIx | rfl

theorem State.macControl_to (p : Nat) (f : Bytes) (h : Within F z s) (e : subFoot
    (0x4000000000000000000000000000400000000003C003C0000000200280) F = true) :
    Within F z (s.macControl p f) := by
  refine h.step ?_ e
  unfold State.macControl
  try lift_lets
  with_reducible repeat' first
    | apply Within.refl | apply State.inc_to | apply State.pauseFrame_to | apply Within.ite
  all_goals repeat' first | with_reducible apply subFoot_portIx | rfl

theorem State.purge_to (p q x3 : Nat) (h : Within F z s) (e : subFoot
    (0x4000400000000006800000000000400000000043C003C00400002C3880) F = true) :
    Within F z (s.purge p q x3) := by
  induction x3 generalizing s p q with
  | zero => exact h
  | succ x3 ih =>
    unfold State.purge
    try dsimp -proj -iota only
    with_reducible repeat' first
      | exact h | apply ih | apply Within.refl | apply State.setQueue_to | apply State.countHead_to
      | apply State.discardCopy_to | split
    all_goals exact subFoot_trans (by rfl) e

theorem State.purgeAll_to (p : Nat) (h : Within F z s) (e : subFoot
    (0x4000400000000006800000000000400000000043C003C00400002C3880) F = true) :
    Within F z (s.purgeAll p) := by
  refine h.step ?_ e
  unfold State.purgeAll
  try lift_lets
  with_reducible repeat' first
    | apply Within.refl | apply State.purge_to | apply Within.ite | refine Within.foldl ?_ fun s x => ?_
  all_goals rfl

theorem State.selectLoop_to (p x2 : Nat) (h : Within F z s) (e : subFoot
    (0x4000400040000006800000000000400040000043C003C00400002C3A81) F = true) :
    Within F z (s.selectLoop p x2) := by
  induction x2 generalizing s p with
  | zero => exact h
  | succ x2 ih =>
    unfold State.selectLoop
    try dsimp -proj -iota only
    with_reducible repeat' first
      | exact h | apply ih | apply Within.refl | (apply Within.ofPair; case e => assumption)
      | apply State.setDeficits_to | apply State.selectFrom_to | apply State.setSched_to | apply State.purgeAll_to
      | apply Within.ite | refine Within.foldl ?_ fun s x => ?_ | split
    all_goals exact subFoot_trans (by rfl) e

theorem execFrameSelection_within (p : Port) (s : State) :
    WithinOut (0x4000400040000006800000000000400040000043C003C00400002C3A81) s (execFrameSelection p s) := by
  unfold execFrameSelection
  apply Within.out
  try lift_lets
  with_reducible repeat' first
    | apply Within.refl | apply State.settle_to | apply State.selectLoop_to | apply Within.ite
  all_goals rfl

theorem State.portFrame_to (p : Nat) (f : Bytes) (h : Within F z s) (e : subFoot
    (0x40000000000000000000000000000000000000000003C0000000200080) F = true) :
    Within F z (s.portFrame p f) := by
  refine h.step ?_ e
  unfold State.portFrame
  try lift_lets
  with_reducible repeat' first
    | apply Within.refl | apply State.inc_to | apply State.bump_to | apply State.putNet_to
  all_goals repeat' first | with_reducible apply subFoot_portIx | rfl

theorem execPause_within (p : Port) (quanta : Nat) (s : State) :
    WithinOut (0x4000000000000000000000000000400000000003C003C0000000200280) s (execPause p quanta s) := by
  unfold execPause
  apply Within.out
  try lift_lets
  with_reducible repeat' first
    | apply Within.refl | apply State.pauseFrame_to | apply Within.ite
  all_goals rfl

theorem execFrameReceived_within (p : Port) (frame : Bytes) (coding : Coding) (s : State) :
    WithinOut (0x4000000000000000000000000000400000000003C007C0000000200280) s (execFrameReceived p frame coding s) := by
  unfold execFrameReceived
  apply Within.out
  try lift_lets
  with_reducible repeat' first
    | apply Within.refl | apply State.inc_to | apply State.countCoding_to | apply State.macControl_to
    | apply State.portFrame_to | apply Within.ite
  all_goals repeat' first | with_reducible apply subFoot_portIx | rfl

theorem execPauseTimerExpiry_within (p : Port) (s : State) :
    WithinOut (0x40000000000000000000000000000000000000000003C0000000200080) s (execPauseTimerExpiry p s) := by
  unfold execPauseTimerExpiry
  apply Within.out
  try lift_lets
  with_reducible repeat' first
    | apply Within.refl | apply State.setPause_to | apply Within.ite
  all_goals rfl

end Sys2Proof.Machine
end

