-- ==== Sys2Proof/Laws/WithinSegments.lean ====
section
/-! SUPPORT. What the operations of Machine/Segments.lean can touch. -/

namespace Sys2Proof.Machine

variable {F : Nat} {z s : State}

theorem State.setConn_to (row : Nat) (c : Option Conn) (h : Within F z s) (e : subFoot (0x400) F = true) :
    Within F z (s.setConn row c) := by
  refine h.step ?_ e
  unfold State.setConn
  try lift_lets
  with_reducible repeat' first
    | apply Within.refl | apply State.putSto_to
  all_goals rfl

end Sys2Proof.Machine
end

