-- ==== Sys2Proof/Laws/WithinDelivery.lean ====
section
/-! SUPPORT. What the operations of Machine/Delivery.lean can touch. -/

namespace Sys2Proof.Machine

variable {F : Nat} {z s : State}

theorem State.writeTlmCtrl_to (owner : Nat) (ctrl : Word) (h : Within F z s) (e : subFoot (0x1001) F = true) :
    Within F z (s.writeTlmCtrl owner ctrl) := by
  refine h.step ?_ e
  unfold State.writeTlmCtrl
  try lift_lets
  with_reducible repeat' first
    | apply Within.refl | apply State.writeReg_to | apply State.setReg_to | apply Within.ite
    | apply State.putRng_to
  all_goals rfl

theorem State.noteSample_to (row : Nat) (h : Within F z s) (e : subFoot (0x200080) F = true) :
    Within F z (s.noteSample row) := by
  refine h.step ?_ e
  unfold State.noteSample
  try lift_lets
  with_reducible repeat' first
    | apply Within.refl | apply State.putNet_to
  all_goals rfl

theorem State.rxWrite_to (n q r stor : Nat) (c : QCopy) (bs : Bytes) (h : Within F z s) (e : subFoot
    (0x4000000000000000000000008000000000000000000000000000081801) F = true) :
    Within F z (s.rxWrite n q r stor c bs) := by
  refine h.step ?_ e
  unfold State.rxWrite
  try lift_lets
  with_reducible repeat' first
    | apply Within.refl | apply State.dmaWrite_to | apply State.dropDesc_to | apply State.ringComplete_to
    | apply State.setReg_to | apply State.bumpReg_to | apply Within.ite
  all_goals rfl

theorem State.exportTlm_to (owner : Nat) (record : Bytes) (h : Within F z s) (e : subFoot
    (0x40004000000000068000000080000000000000000000000400000C3801) F = true) :
    Within F z (s.exportTlm owner record) := by
  refine h.step ?_ e
  unfold State.exportTlm
  try lift_lets
  with_reducible repeat' first
    | apply Within.refl | apply State.dmaWrite_to | apply State.eventLim_to | apply State.setReg_to
    | apply State.bumpReg_to | apply State.queueMsg_to | apply Within.ite
  all_goals rfl

theorem State.vPurge_to (row x2 : Nat) (h : Within F z s) (e : subFoot
    (0x4000400000000006800000000000400000000043C003C00400002C3880) F = true) :
    Within F z (s.vPurge row x2) := by
  induction x2 generalizing s row with
  | zero => exact h
  | succ x2 ih =>
    unfold State.vPurge
    try dsimp -proj -iota only
    with_reducible repeat' first
      | exact h | apply ih | apply Within.refl | apply State.setQueue_to | apply State.countHead_to
      | apply State.discardCopy_to | split
    all_goals exact subFoot_trans (by rfl) e

theorem State.vPurgeAll_to (h : Within F z s) (e : subFoot
    (0x4000400000000006800000000000400000000043C003C00400002C3880) F = true) :
    Within F z (s.vPurgeAll) := by
  refine h.step ?_ e
  unfold State.vPurgeAll
  try lift_lets
  with_reducible repeat' first
    | apply Within.refl | apply State.vPurge_to | apply Within.ite | refine Within.foldl ?_ fun s x => ?_
  all_goals rfl

theorem State.deliverFrom_to (n q : Nat) (h : Within F z s) (e : subFoot
    (0x4000400040000006800000008000400040000043C003C00400002C3A81) F = true) :
    Within F z (s.deliverFrom n q).2 := by
  refine h.step ?_ e
  unfold State.deliverFrom
  try dsimp -proj -iota only
  with_reducible repeat' first
    | apply Within.refl | (apply Within.ofPair; case e => assumption) | apply State.rxWrite_to
    | apply State.setQueue_to | apply State.dropCopy_to | apply State.encryptCopy_to | apply State.applyE_to
    | apply State.discardCopy_to | apply State.addWork_to | apply Within.ite | refine Within.foldl ?_ fun s x => ?_
    | split
  all_goals rfl

theorem State.deliverLoop_to (p : Nat) (n : Nat) (h : Within F z s)
    (e : subFoot (0x4000400040000006800000008000400040000043C003C00400002C3A81) F = true) : Within F z (s.deliverLoop p n) := by
  induction n generalizing s with
  | zero => exact h
  | succ n ih =>
    unfold State.deliverLoop
    split
    · exact h
    · split
      · exact h
      · rename_i m q d _ _
        have h1 := State.putNet_to { s.net with delivery := NMap.put {} s.net.delivery p d } h (subFoot_trans (by rfl) e)
        dsimp only
        split
        · rename_i hx
          exact Within.ofPair hx (State.deliverFrom_to _ _ h1 (subFoot_trans (by rfl) e))
        · rename_i hx
          exact ih (Within.ofPair hx (State.deliverFrom_to _ _ h1 (subFoot_trans (by rfl) e)))

theorem execVportDelivery_within (hp : HostPort) (desc : RingDesc) (s : State) :
    WithinOut (0x4000400040000006800000008000400040000043C003C00400002C3A81) s (execVportDelivery hp desc s) := by
  unfold execVportDelivery
  apply Within.out
  try lift_lets
  with_reducible repeat' first
    | apply Within.refl | apply State.vPurgeAll_to | apply State.deliverLoop_to | apply Within.ite
  all_goals rfl

theorem State.track_to (row sub : Nat) (first : Bool) (v : Nat) (h : Within F z s) (e : subFoot
    (0x40000000000000000000) F = true) :
    Within F z (s.track row sub first v) := by
  refine h.step ?_ e
  unfold State.track
  try lift_lets
  with_reducible repeat' first
    | apply Within.refl | apply State.setCells_to
  all_goals rfl

theorem execTelemetrySample_within (row : Nat) (s : State) :
    WithinOut (0x40004000000000068000000080000000000000400000000400002C3881) s (execTelemetrySample row s) := by
  unfold execTelemetrySample
  apply Within.out
  try lift_lets
  with_reducible repeat' first
    | apply Within.refl | apply State.noteSample_to | apply State.bump_to | apply State.exportTlm_to
    | apply State.track_to | apply State.setCell_to | apply Within.ite
  all_goals rfl

theorem execTelemetryRingEnable_within (f : Func) (ctrl : Word) (s : State) :
    WithinOut (0x1001) s (execTelemetryRingEnable f ctrl s) := by
  unfold execTelemetryRingEnable
  apply Within.out
  try lift_lets
  with_reducible repeat' first
    | apply Within.refl | apply State.writeTlmCtrl_to | split
  all_goals rfl

end Sys2Proof.Machine
end

