-- ==== Sys2Proof/Laws/WithinBound.lean ====
section
/-! SUPPORT. What the operations of Machine/Bound.lean can touch. -/

namespace Sys2Proof.Machine

variable {F : Nat} {z s : State}

theorem State.impairOne_to (i : Nat) (h : Within F z s) (e : subFoot
    (0x4000000000068000000000000000000040000000000400000C3800) F = true) :
    Within F z (s.impairOne i) := by
  refine h.step ?_ e
  unfold State.impairOne
  try lift_lets
  with_reducible repeat' first
    | apply Within.refl | apply State.eventLim_to | apply State.event_to | apply State.setCell_to
    | apply Within.ite
  all_goals rfl

theorem State.impair_to (h : Within F z s) (e : subFoot (0x4000000000068000000000000000000040000000000400000C3800) F
    = true) :
    Within F z (s.impair) := by
  refine h.step ?_ e
  unfold State.impair
  try lift_lets
  with_reducible repeat' first
    | apply Within.refl | apply State.impairOne_to | apply Within.ite | refine Within.foldl ?_ fun s x => ?_
  all_goals rfl

theorem State.under_to (profile : Nat) (h : Within F z s) (e : subFoot (0x4000000000) F = true) :
    Within F z (s.under profile) := by
  refine h.step ?_ e
  unfold State.under
  try lift_lets
  with_reducible repeat' first
    | apply Within.refl | apply State.setOb_to
  all_goals rfl

theorem State.reportedBound_to (cs : List Contract) (c : Contract) (h : Within F z s) (e : subFoot (0x4000100000) F =
    true) :
    Within F z (s.reportedBound cs c).2 := by
  refine h.step ?_ e
  unfold State.reportedBound
  try dsimp -proj -iota only
  with_reducible repeat' first
    | apply Within.refl | apply State.draw_to | apply State.under_to | apply Within.ite | split
  all_goals rfl

end Sys2Proof.Machine
end

