-- ==== Sys2Proof/Laws/WithinLanes.lean ====
section
/-! SUPPORT. What the operations of Machine/Lanes.lean can touch. -/

namespace Sys2Proof.Machine

variable {F : Nat} {z s : State}

theorem State.setUnit_to (u port role : Nat) (h : Within F z s) (e : subFoot (0x800000000000000) F = true) :
    Within F z (s.setUnit u port role) := by
  refine h.step ?_ e
  unfold State.setUnit
  try lift_lets
  with_reducible repeat' first
    | apply Within.refl | apply State.setCells_to | apply State.bump_to | apply Within.ite
  all_goals rfl

theorem State.releaseUnit_to (u : Nat) (h : Within F z s) (e : subFoot (0x800000000000000) F = true) :
    Within F z (s.releaseUnit u) := by
  refine h.step ?_ e
  unfold State.releaseUnit
  try lift_lets
  with_reducible repeat' first
    | apply Within.refl | apply State.setUnit_to | apply Within.ite
  all_goals rfl

theorem State.releaseUnits_to (p width : Nat) (h : Within F z s) (e : subFoot (0x800000000000000) F = true) :
    Within F z (s.releaseUnits p width) := by
  refine h.step ?_ e
  unfold State.releaseUnits
  try lift_lets
  with_reducible repeat' first
    | apply Within.refl | apply State.releaseUnit_to | apply Within.ite | refine Within.foldl ?_ fun s x => ?_
  all_goals rfl

theorem State.takeSpare_to (p role : Nat) (h : Within F z s) (e : subFoot
    (0x4000000000068000000000000000000000000008000400000C3800) F = true) :
    Within F z (s.takeSpare p role).2 := by
  refine h.step ?_ e
  unfold State.takeSpare
  try lift_lets
  with_reducible repeat' first
    | apply Within.refl | apply State.setUnit_to | apply State.event_to | split
  all_goals rfl

theorem State.placeUnits_to (p width : Nat) (h : Within F z s) (e : subFoot
    (0x4000000000068000000000000000000000000008000400000C3800) F = true) :
    Within F z (s.placeUnits p width) := by
  refine h.step ?_ e
  unfold State.placeUnits
  try lift_lets
  with_reducible repeat' first
    | apply Within.refl | apply State.takeSpare_to | apply State.setUnit_to | apply State.releaseUnits_to
    | apply Within.ite | refine Within.foldl ?_ fun s x => ?_
  all_goals rfl

theorem State.cutWire_to (p : Nat) (h : Within F z s) (e : subFoot
    (0x40000000000000020000000000000000000000000003C0000000280080) F = true) :
    Within F z (s.cutWire p).2 := by
  refine h.step ?_ e
  unfold State.cutWire
  try dsimp -proj -iota only
  with_reducible repeat' first
    | apply Within.refl | apply State.inc_to | apply State.dropCopy_to | apply State.setSched_to
    | apply State.emit_to | apply Within.ite | split
  all_goals repeat' first | with_reducible apply subFoot_portIx | rfl

theorem State.zeroSched_to (p : Nat) (h : Within F z s) (e : subFoot
    (0x4000000000000000000000000000000000000003C00000000000200080) F = true) :
    Within F z (s.zeroSched p) := by
  refine h.step ?_ e
  unfold State.zeroSched
  try lift_lets
  with_reducible repeat' first
    | apply Within.refl | apply State.setDeficits_to | apply State.setSched_to | apply State.setCredit_to
    | apply Within.ite | refine Within.foldl ?_ fun s x => ?_
  all_goals rfl

theorem State.setPortState_to (p st : Nat) (h : Within F z s) (e : subFoot
    (0x40000000000000068000000000000000000000000003C0000000083800) F = true) :
    Within F z (s.setPortState p st) := by
  refine h.step ?_ e
  unfold State.setPortState
  try lift_lets
  with_reducible repeat' first
    | apply Within.refl | apply State.edge_to | apply State.setOb_to | apply Within.ite
  all_goals repeat' first | with_reducible apply subFoot_portIx | rfl

theorem State.portDown_to (p t cause : Nat) (cut : Bool) (h : Within F z s) (e : subFoot
    (0x4000400000000006800000000000400000004003C003C00400002C3A80) F = true) :
    Within F z (s.portDown p t cause cut) := by
  refine h.step ?_ e
  unfold State.portDown
  try lift_lets
  with_reducible repeat' first
    | apply Within.refl | apply State.setOb_to | apply State.settle_to | apply State.impair_to
    | apply State.unselect_to | apply State.cutWire_to | apply State.zeroSched_to | apply State.event_to
    | apply State.setSched_to | apply State.setPortState_to | split
  all_goals repeat' first | with_reducible apply subFoot_portIx | rfl

theorem State.portUp_to (p : Nat) (h : Within F z s) (e : subFoot
    (0x4000400000000006800000000000400000004043C003C00400002C3A80) F = true) :
    Within F z (s.portUp p) := by
  refine h.step ?_ e
  unfold State.portUp
  try lift_lets
  with_reducible repeat' first
    | apply Within.refl | apply State.inc_to | apply State.setOb_to | apply State.impair_to
    | apply State.flushPort_to | apply State.event_to | apply State.setSched_to | apply State.setPortState_to
    | apply Within.ite
  all_goals repeat' first | with_reducible apply subFoot_portIx | rfl

theorem State.refreshPort_to (p cause : Nat) (cut : Bool) (h : Within F z s) (e : subFoot
    (0x4000400000000006800000000000400000004043C003C00400002C3A80) F = true) :
    Within F z (s.refreshPort p cause cut) := by
  refine h.step ?_ e
  unfold State.refreshPort
  try lift_lets
  with_reducible repeat' first
    | apply Within.refl | apply State.portDown_to | apply State.setPortState_to | apply State.portUp_to
    | apply Within.ite
  all_goals rfl

theorem State.layoutPort_to (l cause : Nat) (cut : Bool) (c : Nat) (h : Within F z s) (e : subFoot
    (0x4000400000000006800000000000400000004043C00BC00400002C3A80) F = true) :
    Within F z (s.layoutPort l cause cut c) := by
  refine h.step ?_ e
  unfold State.layoutPort
  try lift_lets
  with_reducible repeat' first
    | apply Within.refl | apply State.setOb_to | apply State.settle_to | apply State.releaseUnits_to
    | apply State.placeUnits_to | apply State.refreshPort_to | apply Within.ite
  all_goals repeat' first | with_reducible apply subFoot_portIx | rfl

theorem execOneCycleAfterStep_within (p : Port) (s : State) :
    WithinOut (0x4000000000068000000000000000000040000000000400002C3880) s (execOneCycleAfterStep p s) := by
  unfold execOneCycleAfterStep
  apply Within.out
  try lift_lets
  with_reducible repeat' first
    | apply Within.refl | apply State.impair_to | apply State.setSched_to | split
  all_goals rfl

theorem State.setMgmt_to (m : MgmtLane) (st : Nat) (h : Within F z s) (e : subFoot
    (0x4000000000068000000000000000000000000000000480000C3800) F = true) :
    Within F z (s.setMgmt m st) := by
  refine h.step ?_ e
  unfold State.setMgmt
  try lift_lets
  with_reducible repeat' first
    | apply Within.refl | apply State.setOb_to | apply State.event_to | apply Within.ite
  all_goals repeat' first | with_reducible apply subFoot_mgmtIx | rfl

theorem State.setLaneState_to (l st : Nat) (h : Within F z s) (e : subFoot
    (0x4000000000000006800000000000000000000000000400000000083800) F = true) :
    Within F z (s.setLaneState l st) := by
  refine h.step ?_ e
  unfold State.setLaneState
  try lift_lets
  with_reducible repeat' first
    | apply Within.refl | apply State.edge_to | apply State.setOb_to | apply Within.ite
  all_goals repeat' first | with_reducible apply subFoot_laneIx | rfl

theorem State.setAny_to (l : AnyLane) (st : Nat) (h : Within F z s) (e : subFoot
    (0x40004000000000068000000000000000000000000004000480000C3800) F = true) :
    Within F z (s.setAny l st) := by
  refine h.step ?_ e
  unfold State.setAny
  try lift_lets
  with_reducible repeat' first
    | apply Within.refl | apply State.setMgmt_to | apply State.setLaneState_to | split
  all_goals rfl

theorem execPllLocked_within (l : AnyLane) (s : State) :
    WithinOut (0x40004000000000068000000000000000000000000004000480000C3800) s (execPllLocked l s) := by
  unfold execPllLocked
  apply Within.out
  try lift_lets
  with_reducible repeat' first
    | apply Within.refl | apply State.setAny_to | apply State.emit_to | apply Within.ite
  all_goals rfl

theorem State.setPhy_to (l : Nat) (h : Within F z s) (e : subFoot
    (0x4000000000000000000000000000000000000000000400000000000000) F = true) :
    Within F z (s.setPhy l) := by
  refine h.step ?_ e
  unfold State.setPhy
  try lift_lets
  with_reducible repeat' first
    | apply Within.refl | apply State.setOb_to
  all_goals repeat' first | with_reducible apply subFoot_laneIx | rfl

theorem State.layoutLane_to (l cause : Nat) (cut : Bool) (h : Within F z s) (e : subFoot
    (0x4000400000000006800000000000400000004043C00FC00400002C3A80) F = true) :
    Within F z (s.layoutLane l cause cut) := by
  refine h.step ?_ e
  unfold State.layoutLane
  try lift_lets
  with_reducible repeat' first
    | apply Within.refl | apply State.layoutPort_to | apply State.setPhy_to | apply Within.ite
    | refine Within.foldl ?_ fun s x => ?_
  all_goals rfl

theorem State.refreshLane_to (l cause : Nat) (cut : Bool) (h : Within F z s) (e : subFoot
    (0x4000400000000006800000000000400000004043C003C00400002C3A80) F = true) :
    Within F z (s.refreshLane l cause cut) := by
  refine h.step ?_ e
  unfold State.refreshLane
  try lift_lets
  with_reducible repeat' first
    | apply Within.refl | apply State.refreshPort_to | apply Within.ite | refine Within.foldl ?_ fun s x => ?_
  all_goals rfl

theorem State.faultAny_to (l : AnyLane) (cause : Nat) (pll : Bool) (h : Within F z s) (e : subFoot
    (0x4000400000000006800000000000400000004043C007C00480002C3A80) F = true) :
    Within F z (s.faultAny l cause pll) := by
  refine h.step ?_ e
  unfold State.faultAny
  try lift_lets
  with_reducible repeat' first
    | apply Within.refl | apply State.inc_to | apply State.setMgmt_to | apply State.setOb_to
    | apply State.setLane_to | apply State.event_to | apply State.refreshLane_to | apply State.emit_to
    | apply State.setLaneState_to | split
  all_goals repeat' first | with_reducible apply subFoot_laneIx | rfl

theorem execLaneFault_within (l : AnyLane) (why : LaneCause) (s : State) :
    WithinOut (0x4000400000000006800000000000400000004043C007C00480002C3A80) s (execLaneFault l why s) := by
  unfold execLaneFault
  apply Within.out
  try lift_lets
  with_reducible repeat' first
    | apply Within.refl | apply State.bump_to | apply State.faultAny_to | split
  all_goals repeat' first | with_reducible apply subFoot_laneIx | rfl

theorem State.startHold_to (l : Nat) (h : Within F z s) (e : subFoot (0x200080) F = true) :
    Within F z (s.startHold l) := by
  refine h.step ?_ e
  unfold State.startHold
  try lift_lets
  with_reducible repeat' first
    | apply Within.refl | apply State.setLane_to
  all_goals rfl

theorem State.startLane_to (l : Nat) (h : Within F z s) (e : subFoot
    (0x4000000000000006800000000000000000000000000400000000083800) F = true) :
    Within F z (s.startLane l) := by
  refine h.step ?_ e
  unfold State.startLane
  try lift_lets
  with_reducible repeat' first
    | apply Within.refl | apply State.setLaneState_to | apply Within.ite
  all_goals rfl

theorem execRefclkRestored_within (o : Octet) (s : State) :
    WithinOut (0x40004000000000068000000000000000000000000004000480002C3880) s (execRefclkRestored o s) := by
  unfold execRefclkRestored
  apply Within.out
  try dsimp -proj -iota only
  with_reducible repeat' first
    | apply Within.refl | apply State.setMgmt_to | apply State.event_to | apply State.startLane_to
    | apply Within.ite | refine Within.foldl ?_ fun s x => ?_ | split | apply State.putNet_to
  all_goals rfl

theorem execManagementFrameReceived_within (m : MgmtLane) (frame : Bytes) (fcs : Nat) (s : State) :
    WithinOut (0x8000280000) s (execManagementFrameReceived m frame fcs s) := by
  unfold execManagementFrameReceived
  apply Within.out
  try lift_lets
  with_reducible repeat' first
    | apply Within.refl | apply State.inc_to | apply State.takeOwn_to | split
  all_goals repeat' first | with_reducible apply subFoot_mgmtIx | rfl

theorem State.laneRises_to (l : AnyLane) (h : Within F z s) (e : subFoot
    (0x4000400000000006800000000000400000004043C007C00480002C3A80) F = true) :
    Within F z (s.laneRises l) := by
  refine h.step ?_ e
  unfold State.laneRises
  try lift_lets
  with_reducible repeat' first
    | apply Within.refl | apply State.setMgmt_to | apply State.setOb_to | apply State.event_to
    | apply State.refreshLane_to | apply State.setLaneState_to | split
  all_goals repeat' first | with_reducible apply subFoot_laneIx | rfl

theorem execSgmiiControlWord_within (l : Lane) (rate : Nat) (s : State) :
    WithinOut (0x4000000000068000000000000000000000000000000400002C3880) s (execSgmiiControlWord l rate s) := by
  unfold execSgmiiControlWord
  apply Within.out
  try lift_lets
  with_reducible repeat' first
    | apply Within.refl | apply State.setLane_to | apply State.event_to | apply Within.ite
  all_goals rfl

theorem execFlexeOverheadMismatch_within (l : Lane) (group phy : Nat) (s : State) :
    WithinOut (0x4000000000068000000000000000000000000000000400002C3880) s (execFlexeOverheadMismatch l group phy s) := by
  unfold execFlexeOverheadMismatch
  apply Within.out
  try lift_lets
  with_reducible repeat' first
    | apply Within.refl | apply State.setLane_to | apply State.eventLim_to | apply Within.ite
  all_goals rfl

theorem State.laneDisabled_to (l : Nat) (h : Within F z s) (e : subFoot
    (0x40004000000000068000000000000000000000000004000400002C3880) F = true) :
    Within F z (s.laneDisabled l) := by
  refine h.step ?_ e
  unfold State.laneDisabled
  try lift_lets
  with_reducible repeat' first
    | apply Within.refl | apply State.setOb_to | apply State.setLane_to | apply State.event_to
    | apply State.setLaneState_to | apply State.startLane_to | apply Within.ite
  all_goals repeat' first | with_reducible apply subFoot_laneIx | rfl

theorem execLanesEnterDisabled_within (l : Lane) (s : State) :
    WithinOut (0x4000400000000006800000000000400000000043C007C00400002C3A80) s (execLanesEnterDisabled l s) := by
  unfold execLanesEnterDisabled
  apply Within.out
  try dsimp -proj -iota only
  with_reducible repeat' first
    | apply Within.refl | apply State.flushPort_to | apply State.laneDisabled_to | apply Within.ite
    | refine Within.foldl ?_ fun s x => ?_ | split
  all_goals rfl

theorem State.drainLane_to (lead l : Nat) (h : Within F z s) (e : subFoot
    (0x4000400000000006800000000000400000004043C003C00400002C3A80) F = true) :
    Within F z (State.drainLane lead s l) := by
  refine h.step ?_ e
  unfold State.drainLane
  try lift_lets
  with_reducible repeat' first
    | apply Within.refl | apply State.setLane_to | apply State.refreshLane_to
  all_goals rfl

theorem polarityRule_act {u : State} (l sub : Nat) (w : Via) (x : Nat) (h : Within F z u) (e : subFoot
    (0x4000400000000006800000000000400000004043C007C00400002C3A80) F = true) :
    Within F z ((polarityRule l sub).act u w x).state := by
  refine h.step ?_ e
  unfold polarityRule
  try dsimp only
  try lift_lets
  with_reducible repeat' first
    | apply Within.refl | apply Within.ended | apply Within.later | apply Within.iteState | apply State.setOb_to
    | apply State.drainLane_to
  all_goals repeat' first | with_reducible apply subFoot_laneIx | rfl

theorem execPolarityWrite_within (v : Via) (l : Lane) (tx : Bool) (data : Bytes) (s : State) :
    WithinOut (0x400040003FFFC006BFFFC0000000400000004043C007C00680002C3AD1) s (execPolarityWrite v l tx data s) := by
  unfold execPolarityWrite
  apply Within.out
  try lift_lets
  with_reducible repeat' first
    | apply Within.refl | assumption | (intro u x hu; apply polarityRule_act)
    | (intro x; refine Within.cut (0x400040003FFFC006BFFFC0000000400000004043C007C00680002C3AD1) s x ?_ ?_; rotate_left; intro hx; clear_value x)
    | apply State.writeItem_to | apply polarityRule_act | apply Within.ite
  all_goals rfl

theorem execRemoteFaultCleared_within (l : Lane) (s : State) :
    WithinOut (0x4000400000000006800000000000400000004043C003C00400002C3A80) s (execRemoteFaultCleared l s) := by
  unfold execRemoteFaultCleared
  apply Within.out
  try lift_lets
  with_reducible repeat' first
    | apply Within.refl | apply State.setLane_to | apply State.refreshLane_to
  all_goals rfl

theorem execCalendarSwitchTimeout_within (l : Lane) (s : State) :
    WithinOut (0x40004000000000068000000000000000000000000004000400002C3880) s (execCalendarSwitchTimeout l s) := by
  unfold execCalendarSwitchTimeout
  apply Within.out
  try lift_lets
  with_reducible repeat' first
    | apply Within.refl | apply State.setOb_to | apply State.setLane_to | apply State.event_to | split
  all_goals repeat' first | with_reducible apply subFoot_laneIx | rfl

theorem State.landFec_to (l v : Nat) (h : Within F z s) (e : subFoot
    (0x4000400000000006800000000000400000004043C007C00400002C3A80) F = true) :
    Within F z (s.landFec l v) := by
  refine h.step ?_ e
  unfold State.landFec
  try lift_lets
  with_reducible repeat' first
    | apply Within.refl | apply State.setOb_to | apply State.drainLane_to | apply State.setPhy_to
    | apply Within.ite | refine Within.foldl ?_ fun s x => ?_
  all_goals repeat' first | with_reducible apply subFoot_laneIx | rfl

theorem execLaneUp_within (l : AnyLane) (s : State) :
    WithinOut (0x4000400000000006800000000000400000004043C007C00480002C3A80) s (execLaneUp l s) := by
  unfold execLaneUp
  apply Within.out
  try lift_lets
  with_reducible repeat' first
    | apply Within.refl | apply State.laneRises_to | apply Within.ite
  all_goals rfl

theorem State.landMode_to (l m : Nat) (h : Within F z s) (e : subFoot
    (0x4000400000000006800000000000400000004043C00FC00400002C3A80) F = true) :
    Within F z (s.landMode l m) := by
  refine h.step ?_ e
  unfold State.landMode
  try lift_lets
  with_reducible repeat' first
    | apply Within.refl | apply State.layoutLane_to | apply State.setOb_to | apply State.drainLane_to
    | apply Within.ite | refine Within.foldl ?_ fun s x => ?_
  all_goals repeat' first | with_reducible apply subFoot_laneIx | rfl

theorem execRemoteFaultReceived_within (l : Lane) (s : State) :
    WithinOut (0x4000400000000006800000000000400000004043C003C00400002C3A80) s (execRemoteFaultReceived l s) := by
  unfold execRemoteFaultReceived
  apply Within.out
  try lift_lets
  with_reducible repeat' first
    | apply Within.refl | apply State.setLane_to | apply State.refreshLane_to | apply Within.ite
  all_goals rfl

theorem execAlignConditionLost_within (l : AnyLane) (s : State) :
    WithinOut (0x200080) s (execAlignConditionLost l s) := by
  unfold execAlignConditionLost
  apply Within.out
  try lift_lets
  with_reducible repeat' first
    | apply Within.refl | apply State.startHold_to | apply Within.ite
  all_goals rfl

theorem execSignalDetected_within (l : AnyLane) (s : State) :
    WithinOut (0x40004000000000068000000000000000000000000004000480002C3880) s (execSignalDetected l s) := by
  unfold execSignalDetected
  apply Within.out
  try lift_lets
  with_reducible repeat' first
    | apply Within.refl | apply State.setAny_to | apply State.setLane_to | apply Within.ite
  all_goals rfl

theorem State.laneNoRef_to (l : Nat) (h : Within F z s) (e : subFoot
    (0x4000400000000006800000000000400000004043C007C00400002C3A80) F = true) :
    Within F z (s.laneNoRef l) := by
  refine h.step ?_ e
  unfold State.laneNoRef
  try lift_lets
  with_reducible repeat' first
    | apply Within.refl | apply State.setOb_to | apply State.setLane_to | apply State.refreshLane_to
    | apply State.setLaneState_to
  all_goals repeat' first | with_reducible apply subFoot_laneIx | rfl

theorem execRefclkLost_within (o : Octet) (s : State) :
    WithinOut (0x4000400000000006800000000000400000004043C007C00480002C3A80) s (execRefclkLost o s) := by
  unfold execRefclkLost
  apply Within.out
  try dsimp -proj -iota only
  with_reducible repeat' first
    | apply Within.refl | apply State.setMgmt_to | apply State.event_to | apply State.laneNoRef_to
    | apply Within.ite | refine Within.foldl ?_ fun s x => ?_ | split | apply State.putNet_to
  all_goals rfl

theorem mgmtModeRule_act {u : State} (m : MgmtLane) (w : Via) (x : Nat) (h : Within F z u) (e : subFoot
    (0x4000000000068000000000000000000000000000000480000C3800) F = true) :
    Within F z ((mgmtModeRule m).act u w x).state := by
  refine h.step ?_ e
  unfold mgmtModeRule
  try dsimp only
  try lift_lets
  with_reducible repeat' first
    | apply Within.refl | apply Within.ended | apply Within.later | apply Within.iteState | apply State.setMgmt_to
    | apply State.setOb_to | apply Within.ite | split
  all_goals repeat' first | with_reducible apply subFoot_mgmtIx | rfl

theorem execManagementModeWrite_within (v : Via) (m : MgmtLane) (data : Bytes) (s : State) :
    WithinOut (0x400040003FFFC006BFFFC00000000000000000000007C00680002C3851) s (execManagementModeWrite v m data s) := by
  unfold execManagementModeWrite
  apply Within.out
  try lift_lets
  with_reducible repeat' first
    | apply Within.refl | assumption | (intro u x hu; apply mgmtModeRule_act)
    | (intro x; refine Within.cut (0x400040003FFFC006BFFFC00000000000000000000007C00680002C3851) s x ?_ ?_; rotate_left; intro hx; clear_value x)
    | apply State.writeItem_to | apply mgmtModeRule_act | apply Within.ite
  all_goals rfl

theorem execPllLockTimeout_within (l : AnyLane) (s : State) :
    WithinOut (0x4000400000000006800000000000400000004043C007C00480002C3A80) s (execPllLockTimeout l s) := by
  unfold execPllLockTimeout
  apply Within.out
  try lift_lets
  with_reducible repeat' first
    | apply Within.refl | apply State.faultAny_to | apply Within.ite
  all_goals rfl

theorem execCalendarSwitched_within (l : Lane) (s : State) :
    WithinOut (0x4000400000000006800000000000400000004043C00FC00400002C3A80) s (execCalendarSwitched l s) := by
  unfold execCalendarSwitched
  apply Within.out
  try lift_lets
  with_reducible repeat' first
    | apply Within.refl | apply State.layoutLane_to | apply State.setOb_to | apply State.setLane_to
    | apply State.event_to | split
  all_goals repeat' first | with_reducible apply subFoot_laneIx | rfl

theorem execPllRetry_within (l : AnyLane) (s : State) :
    WithinOut (0x40004000000000068000000000000000000000000004000480002C3880) s (execPllRetry l s) := by
  unfold execPllRetry
  apply Within.out
  try lift_lets
  with_reducible repeat' first
    | apply Within.refl | apply State.setAny_to | apply State.setLane_to | apply Within.ite
  all_goals rfl

end Sys2Proof.Machine
end

