-- ==== Sys2Proof/Laws/WithinAdmission.lean ====
section
/-! SUPPORT. What the operations of Machine/Admission.lean can touch. -/

namespace Sys2Proof.Machine

variable {F : Nat} {z s : State}

theorem State.setVerdict_to (m : Nat) (d : Verdict) (h : Within F z s) (e : subFoot (0x40) F = true) :
    Within F z (s.setVerdict m d) := by
  refine h.step ?_ e
  unfold State.setVerdict
  try lift_lets
  with_reducible repeat' first
    | apply Within.refl | apply State.putAcc_to
  all_goals rfl

theorem State.queueAdm_to (v : Via) (what : Instr) (h : Within F z s) (e : subFoot
    (0x4000000000068000000000000000000000000000000400000C3940) F = true) :
    Within F z (s.queueAdm v what).state := by
  refine h.step ?_ e
  unfold State.queueAdm
  try lift_lets
  with_reducible repeat' first
    | apply Within.refl | apply Within.ended | apply Within.later | apply Within.iteState | apply State.event_to
    | apply State.level_to | apply State.setVerdict_to | apply State.putAdm_to
  all_goals rfl

theorem idleSlopeRule_act {u : State} (p : Port) (q : QueueNo) (w : Via) (x : Nat) (h : Within F z u) (e : subFoot
    (0x4000000000068000000000000000000000000000000400000C3940) F = true) :
    Within F z ((idleSlopeRule p q).act u w x).state := by
  refine h.step ?_ e
  unfold idleSlopeRule
  try dsimp only
  try lift_lets
  with_reducible repeat' first
    | apply Within.refl | apply State.queueAdm_to
  all_goals rfl

theorem Ended.noted_to {x : Ended} (m : Nat) (h : Within F z x.state) (e : subFoot (0x40) F = true) :
    Within F z (x.noted m).state := by
  unfold Ended.noted
  split
  · exact State.setVerdict_to _ _ h e
  · exact h

theorem State.admItem_to (v : Via) (ix sub : Nat) (data : Bytes) (r : WriteRule) (h : Within F z s)
    (k : ∀ u x, Within F z u → Within F z (r.act u v x).state)
    (e : subFoot (0x400040003FFFC006BFFFC00000000000000000000007C00680002C3851) F = true) :
    Within F z (s.admItem v ix sub data r) := by
  refine State.item_to _ _ _ h (fun u w hu => ?_) (subFoot_trans (by rfl) e)
  exact Ended.noted_to _ (State.tryWrite_to _ _ _ _ _ hu k (subFoot_trans (by rfl) e)) (subFoot_trans (by rfl) e)

theorem execIdleSlopeWrite_within (v : Via) (p : Port) (q : QueueNo) (data : Bytes) (s : State) :
    WithinOut (0x400040003FFFC006BFFFC00000000000000000000007C00680002C3951) s (execIdleSlopeWrite v p q data s) := by
  unfold execIdleSlopeWrite
  apply Within.out
  try lift_lets
  with_reducible repeat' first
    | apply Within.refl | assumption | (intro u x hu; apply idleSlopeRule_act)
    | (intro x; refine Within.cut (0x400040003FFFC006BFFFC00000000000000000000007C00680002C3951) s x ?_ ?_; rotate_left; intro hx; clear_value x)
    | apply idleSlopeRule_act | apply State.admItem_to | apply Within.ite
  all_goals rfl

theorem initialStatesRule_act {u : State} (p : Port) (w : Via) (x : Nat) (h : Within F z u) (e : subFoot
    (0x4000000000068000000000000000000000000000000400000C3940) F = true) :
    Within F z ((initialStatesRule p).act u w x).state := by
  refine h.step ?_ e
  unfold initialStatesRule
  try dsimp only
  try lift_lets
  with_reducible repeat' first
    | apply Within.refl | apply State.queueAdm_to
  all_goals rfl

theorem maximumFrameRule_act {u : State} (p : Port) (w : Via) (x : Nat) (h : Within F z u) (e : subFoot
    (0x4000000000068000000000000000000000000000000400000C3940) F = true) :
    Within F z ((maximumFrameRule p).act u w x).state := by
  refine h.step ?_ e
  unfold maximumFrameRule
  try dsimp only
  try lift_lets
  with_reducible repeat' first
    | apply Within.refl | apply State.queueAdm_to
  all_goals rfl

theorem execMaximumFrameWrite_within (v : Via) (p : Port) (data : Bytes) (s : State) :
    WithinOut (0x400040003FFFC006BFFFC00000000000000000000007C00680002C3951) s (execMaximumFrameWrite v p data s) := by
  unfold execMaximumFrameWrite
  apply Within.out
  try lift_lets
  with_reducible repeat' first
    | apply Within.refl | assumption | (intro u x hu; apply maximumFrameRule_act)
    | (intro x; refine Within.cut (0x400040003FFFC006BFFFC00000000000000000000007C00680002C3951) s x ?_ ?_; rotate_left; intro hx; clear_value x)
    | apply State.admItem_to | apply maximumFrameRule_act | apply Within.ite
  all_goals rfl

theorem State.tryRequest_to (v : Via) (op : AdmOp) (rec : Bytes) (h : Within F z s) (e : subFoot
    (0x40004000000000068000000000000000000000000003C00600000C3940) F = true) :
    Within F z (s.tryRequest v op rec).state := by
  refine h.step ?_ e
  unfold State.tryRequest
  try lift_lets
  with_reducible repeat' first
    | apply Within.refl | apply Within.ended | apply Within.later | apply Within.iteState | apply State.lapses_to
    | apply State.queueAdm_to | apply State.noteRefused_to
  all_goals repeat' first | with_reducible apply subFoot_or | with_reducible apply subFoot_portIx | rfl

theorem State.requestItem_to (v : Via) (op : AdmOp) (rec : Bytes) (h : Within F z s) (e : subFoot
    (0x40004000000000068000000000000000000000000003C00680002C3951) F = true) :
    Within F z (s.requestItem v op rec) := by
  refine h.step ?_ e
  unfold State.requestItem
  try lift_lets
  with_reducible repeat' first
    | apply Within.refl | assumption | (intro u r hu; apply State.tryRequest_to)
    | (intro u r hu; apply Ended.noted_to)
    | (intro x; refine Within.cut (0x40004000000000068000000000000000000000000003C00680002C3951) s x ?_ ?_; rotate_left; intro hx; clear_value x)
    | apply State.tryRequest_to | apply Ended.noted_to | apply State.item_to | apply Within.ite
  all_goals rfl

theorem execModify_within (v : Via) (rec : Bytes) (s : State) :
    WithinOut (0x40004000000000068000000000000000000000000003C00680002C3951) s (execModify v rec s) := by
  unfold execModify
  apply Within.out
  try lift_lets
  with_reducible repeat' first
    | apply Within.refl | apply State.requestItem_to
  all_goals rfl

theorem carveRule_act {u : State} (sub : Nat) (w : Via) (x : Nat) (h : Within F z u) (e : subFoot
    (0x4000000000068000000000000000000000000000000400000C3940) F = true) :
    Within F z ((carveRule sub).act u w x).state := by
  refine h.step ?_ e
  unfold carveRule
  try dsimp only
  try lift_lets
  with_reducible repeat' first
    | apply Within.refl | apply State.queueAdm_to
  all_goals rfl

theorem execCarveWrite_within (v : Via) (sub : Nat) (data : Bytes) (s : State) :
    WithinOut (0x400040003FFFC006BFFFC00000000000000000000007C00680002C3951) s (execCarveWrite v sub data s) := by
  unfold execCarveWrite
  apply Within.out
  try lift_lets
  with_reducible repeat' first
    | apply Within.refl | assumption | (intro u x hu; apply carveRule_act)
    | (intro x; refine Within.cut (0x400040003FFFC006BFFFC00000000000000000000007C00680002C3951) s x ?_ ?_; rotate_left; intro hx; clear_value x)
    | apply State.admItem_to | apply carveRule_act | apply Within.ite
  all_goals rfl

theorem laneModeRule_act {u : State} (l : Lane) (w : Via) (x : Nat) (h : Within F z u) (e : subFoot
    (0x4000000000068000000000000000000000000000000400000C3940) F = true) :
    Within F z ((laneModeRule l).act u w x).state := by
  refine h.step ?_ e
  unfold laneModeRule
  try dsimp only
  try lift_lets
  with_reducible repeat' first
    | apply Within.refl | apply State.queueAdm_to
  all_goals rfl

theorem State.setShut_to (p : Nat) (g : GateList) (h : Within F z s) (e : subFoot
    (0x400040000000000680000000000000000000003C0000000400000C3800) F = true) :
    Within F z (s.setShut p g) := by
  refine h.step ?_ e
  unfold State.setShut
  try lift_lets
  with_reducible repeat' first
    | apply Within.refl | apply State.setOb_to | apply State.event_to | apply Within.ite
    | refine Within.foldl ?_ fun s x => ?_
  all_goals repeat' first | with_reducible apply subFoot_gateIx | rfl

theorem State.refreshGates_to (p : Nat) (h : Within F z s) (e : subFoot
    (0x400000000000000000000000000000000000003FC00000000000000000) F = true) :
    Within F z (s.refreshGates p) := by
  refine h.step ?_ e
  unfold State.refreshGates
  try lift_lets
  with_reducible repeat' first
    | apply Within.refl | apply State.setOb_to | apply Within.ite | refine Within.foldl ?_ fun s x => ?_
  all_goals repeat' first | with_reducible apply subFoot_schedIx | with_reducible apply subFoot_gateIx | rfl

theorem State.swapList_to (p : Nat) (h : Within F z s) (e : subFoot
    (0x400040000000000680000000000000000000403FC000000400002C38C0) F = true) :
    Within F z (s.swapList p) := by
  refine h.step ?_ e
  unfold State.swapList
  try lift_lets
  with_reducible repeat' first
    | apply Within.refl | apply State.inc_to | apply State.setCells_to | apply State.settle_to
    | apply State.setBlob_to | apply State.impair_to | apply State.setShut_to | apply State.event_to
    | apply State.refreshGates_to
  all_goals repeat' first | with_reducible apply subFoot_gateIx | rfl

theorem State.landShaper_to (p q x : Nat) (h : Within F z s) (e : subFoot
    (0x4000000000000000000000000000000000000003C00000000000200080) F = true) :
    Within F z (s.landShaper p q x) := by
  refine h.step ?_ e
  unfold State.landShaper
  try lift_lets
  with_reducible repeat' first
    | apply Within.refl | apply State.setOb_to | apply State.settle_to | apply State.setCredit_to
  all_goals repeat' first | with_reducible apply subFoot_schedIx | rfl

theorem State.landMaxFrame_to (p x : Nat) (h : Within F z s) (e : subFoot
    (0x40004000000000068000000000000000000000000003C00400002C3880) F = true) :
    Within F z (s.landMaxFrame p x) := by
  refine h.step ?_ e
  unfold State.landMaxFrame
  try lift_lets
  with_reducible repeat' first
    | apply Within.refl | apply State.setOb_to | apply State.event_to | apply State.setSched_to | apply Within.ite
    | refine Within.foldl ?_ fun s x => ?_
  all_goals repeat' first | with_reducible apply subFoot_portIx | rfl

theorem shaperEnableRule_act {u : State} (p : Port) (q : QueueNo) (w : Via) (x : Nat) (h : Within F z u) (e : subFoot
    (0x4000000000068000000000000000000000000000000400000C3940) F = true) :
    Within F z ((shaperEnableRule p q).act u w x).state := by
  refine h.step ?_ e
  unfold shaperEnableRule
  try dsimp only
  try lift_lets
  with_reducible repeat' first
    | apply Within.refl | apply State.queueAdm_to
  all_goals rfl

theorem execShaperEnableWrite_within (v : Via) (p : Port) (q : QueueNo) (data : Bytes) (s : State) :
    WithinOut (0x400040003FFFC006BFFFC00000000000000000000007C00680002C3951) s (execShaperEnableWrite v p q data s) := by
  unfold execShaperEnableWrite
  apply Within.out
  try lift_lets
  with_reducible repeat' first
    | apply Within.refl | assumption | (intro u x hu; apply shaperEnableRule_act)
    | (intro x; refine Within.cut (0x400040003FFFC006BFFFC00000000000000000000007C00680002C3951) s x ?_ ?_; rotate_left; intro hx; clear_value x)
    | apply State.admItem_to | apply shaperEnableRule_act | apply Within.ite
  all_goals rfl

theorem State.askCalendar_to (l x : Nat) (h : Within F z s) (e : subFoot
    (0x4000000000000000000000000000000000000000000400000000280080) F = true) :
    Within F z (s.askCalendar l x) := by
  refine h.step ?_ e
  unfold State.askCalendar
  try lift_lets
  with_reducible repeat' first
    | apply Within.refl | apply State.setOb_to | apply State.setLane_to | apply State.emit_to
  all_goals repeat' first | with_reducible apply subFoot_laneIx | rfl

theorem State.recheck_to (m st : Nat) (x : Nat × State) (h : Within F z s) (k : Within F z x.2) (e : subFoot (0x40) F
    = true) :
    Within F z (s.recheck m st x).2 := by
  unfold State.recheck
  split
  · exact k
  · exact State.setVerdict_to _ _ h e

theorem State.setParts_to (c : Contract) (cls old new : Nat) (h : Within F z s) (e : subFoot
    (0x2000000000000000000000000000000000000000000) F = true) :
    Within F z (s.setParts c cls old new) := by
  refine h.step ?_ e
  unfold State.setParts
  try lift_lets
  with_reducible repeat' first
    | apply Within.refl | apply State.setCell_to | apply Within.ite | refine Within.foldl ?_ fun s x => ?_
  all_goals rfl

theorem State.placeLanes_to (c : Contract) (h : Within F z s) (e : subFoot
    (0x2000000000000000000000000000000000000000000) F = true) :
    Within F z (s.placeLanes c) := by
  refine h.step ?_ e
  unfold State.placeLanes
  try lift_lets
  with_reducible repeat' first
    | apply Within.refl | apply State.setCells_to
  all_goals rfl

theorem State.install_to (c : Contract) (b g old : Nat) (h : Within F z s) (e : subFoot
    (0x4000000000068000000000000000000040400000000400002C3880) F = true) :
    Within F z (s.install c b g old) := by
  refine h.step ?_ e
  unfold State.install
  try lift_lets
  with_reducible repeat' first
    | apply Within.refl | apply State.impairOne_to | apply State.setCells_to | apply State.setParts_to
    | apply State.placeLanes_to | apply State.putNet_to
  all_goals rfl

theorem State.readmit_to (i : Nat) (h : Within F z s) (e : subFoot
    (0x4000000000068000000000000000000040400000000440003C3880) F = true) :
    Within F z (s.readmit i) := by
  refine h.step ?_ e
  unfold State.readmit
  try lift_lets
  with_reducible repeat' first
    | apply Within.refl | apply State.setCells_to | apply State.reportedBound_to | apply State.install_to
    | apply State.event_to | apply State.withdrawnNamed_to | apply Within.ite
  all_goals rfl

theorem State.readmitAll_to (h : Within F z s) (e : subFoot
    (0x4000000000068000000000000000000040400000000440003C3880) F = true) :
    Within F z (s.readmitAll) := by
  refine h.step ?_ e
  unfold State.readmitAll
  try lift_lets
  with_reducible repeat' first
    | apply Within.refl | apply State.readmit_to | apply Within.ite | refine Within.foldl ?_ fun s x => ?_
  all_goals rfl

theorem execInitialStatesWrite_within (v : Via) (p : Port) (data : Bytes) (s : State) :
    WithinOut (0x400040003FFFC006BFFFC00000000000000000000007C00680002C3951) s (execInitialStatesWrite v p data s) := by
  unfold execInitialStatesWrite
  apply Within.out
  try lift_lets
  with_reducible repeat' first
    | apply Within.refl | assumption | (intro u x hu; apply initialStatesRule_act)
    | (intro x; refine Within.cut (0x400040003FFFC006BFFFC00000000000000000000007C00680002C3951) s x ?_ ?_; rotate_left; intro hx; clear_value x)
    | apply initialStatesRule_act | apply State.admItem_to | apply Within.ite
  all_goals rfl

theorem execGateListSwap_within (p : Port) (s : State) :
    WithinOut (0x400040000000000680000000000000000000403FC000000400002C38C0) s (execGateListSwap p s) := by
  unfold execGateListSwap
  apply Within.out
  try lift_lets
  with_reducible repeat' first
    | apply Within.refl | apply State.swapList_to | apply Within.ite
  all_goals rfl

theorem State.refuseAdm_to (m cause stream bound : Nat) (conflicts : List Nat) (h : Within F z s) (e : subFoot
    (0x4000000000068000000000000000000000000000000400000C3840) F = true) :
    Within F z (s.refuseAdm m cause stream bound conflicts) := by
  refine h.step ?_ e
  unfold State.refuseAdm
  try lift_lets
  with_reducible repeat' first
    | apply Within.refl | apply State.event_to | apply State.setVerdict_to
  all_goals rfl

theorem State.decideChange_to (m : Nat) (t : State) (land : State → State) (h : Within F z s)
    (k : ∀ u, Within F z u → Within F z (land u))
    (e : subFoot (0x4000000000068000000000000000000040000000000400000C3840) F = true) : Within F z (s.decideChange m t land).2 := by
  unfold State.decideChange
  split
  · exact State.refuseAdm_to _ _ _ _ _ h (subFoot_trans (by rfl) e)
  · exact State.impair_to (k _ (State.setVerdict_to _ _ h (subFoot_trans (by rfl) e))) (subFoot_trans (by rfl) e)

theorem State.carvePending_to (h : Within F z s) (e : subFoot (0x2000000000000000000000000000000000000000000) F =
    true) :
    Within F z (s.carvePending) := by
  refine h.step ?_ e
  unfold State.carvePending
  try lift_lets
  with_reducible repeat' first
    | apply Within.refl | apply State.setOb_to
  all_goals rfl

theorem State.decideCarve_to (m sub x : Nat) (h : Within F z s) (e : subFoot
    (0x4000000000068000000000000000000000000000000400000C3840) F = true) :
    Within F z (s.decideCarve m sub x).2 := by
  refine h.step ?_ e
  unfold State.decideCarve
  try dsimp -proj -iota only
  with_reducible repeat' first
    | apply Within.refl | apply State.setOb_to | apply State.carvePending_to | apply State.event_to
    | apply State.setVerdict_to | apply State.refuseAdm_to | apply Within.ite | split
  all_goals rfl

theorem State.withPending_to (p : Nat) (b : Bytes) (h : Within F z s) (e : subFoot
    (0x400000000000000000000000000000000000003C000000000000000040) F = true) :
    Within F z (s.withPending p b) := by
  refine h.step ?_ e
  unfold State.withPending
  try lift_lets
  with_reducible repeat' first
    | apply Within.refl | apply State.setOb_to | apply State.setBlob_to
  all_goals repeat' first | with_reducible apply subFoot_gateIx | rfl

theorem State.landGateList_to (m p : Nat) (b : Bytes) (h : Within F z s) (e : subFoot
    (0x400040000000000680000000000000000000003C0000000400000C3840) F = true) :
    Within F z (s.landGateList m p b) := by
  refine h.step ?_ e
  unfold State.landGateList
  try lift_lets
  with_reducible repeat' first
    | apply Within.refl | apply State.setShut_to | apply State.withPending_to | apply State.event_to
    | apply Within.ite
  all_goals rfl

theorem calendarRule_act {u : State} (l : Lane) (w : Via) (x : Nat) (h : Within F z u) (e : subFoot
    (0x4000000000068000000000000000000000000000000400000C3940) F = true) :
    Within F z ((calendarRule l).act u w x).state := by
  refine h.step ?_ e
  unfold calendarRule
  try dsimp only
  try lift_lets
  with_reducible repeat' first
    | apply Within.refl | apply State.queueAdm_to
  all_goals rfl

theorem State.withCalendar_to (l v : Nat) (h : Within F z s) (e : subFoot
    (0x4000400000000006800000000000400000004043C00FC00400002C3A80) F = true) :
    Within F z (s.withCalendar l v) := by
  refine h.step ?_ e
  unfold State.withCalendar
  try lift_lets
  with_reducible repeat' first
    | apply Within.refl | apply State.layoutLane_to | apply State.setOb_to
  all_goals repeat' first | with_reducible apply subFoot_laneIx | rfl

theorem State.decideAdmit_to (m : Nat) (c : Contract) (check : Bool) (h : Within F z s) (e : subFoot
    (0x4000000000068000000000000000000040400000000440003C38C0) F = true) :
    Within F z (s.decideAdmit m c check).2 := by
  refine h.step ?_ e
  unfold State.decideAdmit
  try dsimp -proj -iota only
  with_reducible repeat' first
    | apply Within.refl | apply State.reportedBound_to | apply State.install_to | apply State.event_to
    | apply State.setVerdict_to | apply State.refuseAdm_to | apply Within.ite | split
  all_goals rfl

theorem State.decideModify_to (m : Nat) (c : Contract) (h : Within F z s) (e : subFoot
    (0x4000000000068000000000000000000040000000000440001C3840) F = true) :
    Within F z (s.decideModify m c).2 := by
  refine h.step ?_ e
  unfold State.decideModify
  try dsimp -proj -iota only
  with_reducible repeat' first
    | apply Within.refl | apply State.setCells_to | apply State.reportedBound_to | apply State.event_to
    | apply State.setVerdict_to | apply State.setParts_to | apply State.refuseAdm_to | apply Within.ite | split
  all_goals rfl

theorem State.noteLayout_to (st x m : Nat) (h : Within F z s) (e : subFoot
    (0x4000000000068000000000000000000000000000000400000C3800) F = true) :
    Within F z (s.noteLayout st x m) := by
  refine h.step ?_ e
  unfold State.noteLayout
  try lift_lets
  with_reducible repeat' first
    | apply Within.refl | apply State.event_to | split
  all_goals rfl

theorem State.landSlope_to (p q x : Nat) (h : Within F z s) (e : subFoot
    (0x4000000000000000000000000000000000000003C00000000000200080) F = true) :
    Within F z (s.landSlope p q x) := by
  refine h.step ?_ e
  unfold State.landSlope
  try lift_lets
  with_reducible repeat' first
    | apply Within.refl | apply State.setOb_to | apply State.settle_to
  all_goals repeat' first | with_reducible apply subFoot_schedIx | rfl

theorem State.landQuantum_to (p q x : Nat) (h : Within F z s) (e : subFoot
    (0x4000400000000006800000000000000000000003C000000400000C3800) F = true) :
    Within F z (s.landQuantum p q x) := by
  refine h.step ?_ e
  unfold State.landQuantum
  try lift_lets
  with_reducible repeat' first
    | apply Within.refl | apply State.setOb_to | apply State.event_to | apply Within.ite
  all_goals repeat' first | with_reducible apply subFoot_schedIx | rfl

theorem State.landPause_to (m p x : Nat) (h : Within F z s) (e : subFoot
    (0x4000400000000006800000000000000000000003C003C00400002C3880) F = true) :
    Within F z (s.landPause m p x) := by
  refine h.step ?_ e
  unfold State.landPause
  try lift_lets
  with_reducible repeat' first
    | apply Within.refl | apply State.setOb_to | apply State.settle_to | apply State.event_to
    | apply State.setPause_to | apply Within.ite
  all_goals repeat' first | with_reducible apply subFoot_portIx | rfl

theorem State.decideProfile_to (m x : Nat) (h : Within F z s) (e : subFoot
    (0x4000000000068000000000000000000000000000000440000C3840) F = true) :
    Within F z (s.decideProfile m x).2 := by
  refine h.step ?_ e
  unfold State.decideProfile
  try dsimp -proj -iota only
  with_reducible repeat' first
    | apply Within.refl | apply State.setOb_to | apply State.setVerdict_to | apply State.refuseAdm_to
    | apply State.under_to | apply Within.ite | split
  all_goals rfl

theorem State.clearStream_to (i : Nat) (h : Within F z s) (e : subFoot (0x4000000000000000000000) F = true) :
    Within F z (s.clearStream i) := by
  refine h.step ?_ e
  unfold State.clearStream
  try lift_lets
  with_reducible repeat' first
    | apply Within.refl | apply State.setCells_to
  all_goals rfl

theorem State.decideWithdraw_to (m i : Nat) (h : Within F z s) (e : subFoot
    (0x4000000000068000000000000000000040400000000400000C3840) F = true) :
    Within F z (s.decideWithdraw m i).2 := by
  refine h.step ?_ e
  unfold State.decideWithdraw
  try lift_lets
  with_reducible repeat' first
    | apply Within.refl | apply State.setCells_to | apply State.clearStream_to | apply State.event_to
    | apply State.setVerdict_to | apply State.setCell_to | apply State.setParts_to | apply State.withdrawnNamed_to
    | split
  all_goals rfl

theorem State.landGate_to (p sub x : Nat) (h : Within F z s) (e : subFoot
    (0x400000000000000000000000000000000000003FC00000000000200080) F = true) :
    Within F z (s.landGate p sub x) := by
  refine h.step ?_ e
  unfold State.landGate
  try lift_lets
  with_reducible repeat' first
    | apply Within.refl | apply State.setOb_to | apply State.settle_to | apply State.refreshGates_to
  all_goals repeat' first | with_reducible apply subFoot_gateIx | rfl

theorem State.decideAdm_to (w : AdmWait) (h : Within F z s) (e : subFoot
    (0x400040000000000680000000000040000000407FC00FC00440003C3AC0) F = true) :
    Within F z (s.decideAdm w).2.2.2 := by
  refine h.step ?_ e
  unfold State.decideAdm
  try dsimp -proj -iota only
  with_reducible repeat' first
    | apply Within.refl | assumption | (apply Within.ofPair; case e => assumption) | intro x | apply State.setOb_to
    | apply State.landShaper_to | apply State.landMaxFrame_to | apply State.askCalendar_to | apply State.recheck_to
    | apply State.decideChange_to | apply State.decideCarve_to | apply State.landGateList_to
    | apply State.withCalendar_to | apply State.decideAdmit_to | apply State.decideModify_to
    | apply State.noteLayout_to | apply State.landSlope_to | apply State.landFec_to | apply State.landQuantum_to
    | apply State.landMode_to | apply State.withPending_to | apply State.landPause_to
    | apply State.decideProfile_to | apply State.decideWithdraw_to | apply State.landGate_to | apply Within.ite
    | refine Within.foldl ?_ fun s x => ?_ | apply Within.iteSnd | split
  all_goals repeat' first
    | with_reducible apply subFoot_or
    | with_reducible apply subFoot_laneIx
    | with_reducible apply subFoot_portIx
    | with_reducible apply subFoot_schedIx
    | with_reducible apply subFoot_gateIx
    | with_reducible apply subFoot_hostIx
    | with_reducible apply subFoot_tenantIx
    | with_reducible apply subFoot_cellIx
    | with_reducible apply subFoot_mgmtIx
    | with_reducible apply subFoot_domain
    | with_reducible apply subFoot_headIx
    | with_reducible apply subFoot_ite
    | exact subFoot_self _
    | exact subFoot_right _ _
    | exact subFoot_left (by rfl)
    | rfl
    | exact subFoot_all (by rfl)

theorem cancelRule_act {u : State} (p : Port) (w : Via) (x : Nat) (h : Within F z u) (e : subFoot
    (0x400040000000000680000000000000000000403FC000000400002C3880) F = true) :
    Within F z ((cancelRule p).act u w x).state := by
  refine h.step ?_ e
  unfold cancelRule
  try dsimp only
  try lift_lets
  with_reducible repeat' first
    | apply Within.refl | apply Within.ended | apply Within.later | apply Within.iteState | apply State.setOb_to
    | apply State.settle_to | apply State.impair_to | apply State.setShut_to | apply State.event_to
    | apply State.refreshGates_to | apply Within.ite | split
  all_goals repeat' first | with_reducible apply subFoot_gateIx | rfl

theorem execCancelPending_within (v : Via) (p : Port) (data : Bytes) (s : State) :
    WithinOut (0x400040003FFFC006BFFFC000000000000000403FC007C00680002C38D1) s (execCancelPending v p data s) := by
  unfold execCancelPending
  apply Within.out
  try lift_lets
  with_reducible repeat' first
    | apply Within.refl | assumption | (intro u x hu; apply cancelRule_act)
    | (intro x; refine Within.cut (0x400040003FFFC006BFFFC000000000000000403FC007C00680002C38D1) s x ?_ ?_; rotate_left; intro hx; clear_value x)
    | apply State.writeItem_to | apply cancelRule_act | apply Within.ite
  all_goals rfl

theorem fecRule_act {u : State} (l : Lane) (w : Via) (x : Nat) (h : Within F z u) (e : subFoot
    (0x4000000000068000000000000000000000000000000400000C3940) F = true) :
    Within F z ((fecRule l).act u w x).state := by
  refine h.step ?_ e
  unfold fecRule
  try dsimp only
  try lift_lets
  with_reducible repeat' first
    | apply Within.refl | apply State.queueAdm_to
  all_goals rfl

theorem execFecWrite_within (v : Via) (l : Lane) (data : Bytes) (s : State) :
    WithinOut (0x400040003FFFC006BFFFC00000000000000000000007C00680002C3951) s (execFecWrite v l data s) := by
  unfold execFecWrite
  apply Within.out
  try lift_lets
  with_reducible repeat' first
    | apply Within.refl | assumption | (intro u x hu; apply fecRule_act)
    | (intro x; refine Within.cut (0x400040003FFFC006BFFFC00000000000000000000007C00680002C3951) s x ?_ ?_; rotate_left; intro hx; clear_value x)
    | apply State.admItem_to | apply fecRule_act | apply Within.ite
  all_goals rfl

theorem profileRule_act {u : State} (w : Via) (x : Nat) (h : Within F z u) (e : subFoot
    (0x4000000000068000000000000000000000000000000400000C3940) F = true) :
    Within F z ((profileRule ).act u w x).state := by
  refine h.step ?_ e
  unfold profileRule
  try dsimp only
  try lift_lets
  with_reducible repeat' first
    | apply Within.refl | apply State.queueAdm_to
  all_goals rfl

theorem execAdmitStream_within (v : Via) (rec : Bytes) (s : State) :
    WithinOut (0x40004000000000068000000000000000000000000003C00680002C3951) s (execAdmitStream v rec s) := by
  unfold execAdmitStream
  apply Within.out
  try lift_lets
  with_reducible repeat' first
    | apply Within.refl | apply State.requestItem_to
  all_goals rfl

theorem pauseHonouringRule_act {u : State} (p : Port) (w : Via) (x : Nat) (h : Within F z u) (e : subFoot
    (0x4000000000068000000000000000000000000000000400000C3940) F = true) :
    Within F z ((pauseHonouringRule p).act u w x).state := by
  refine h.step ?_ e
  unfold pauseHonouringRule
  try dsimp only
  try lift_lets
  with_reducible repeat' first
    | apply Within.refl | apply State.queueAdm_to
  all_goals rfl

theorem execPauseHonouringWrite_within (v : Via) (p : Port) (data : Bytes) (s : State) :
    WithinOut (0x400040003FFFC006BFFFC00000000000000000000007C00680002C3951) s (execPauseHonouringWrite v p data s) := by
  unfold execPauseHonouringWrite
  apply Within.out
  try lift_lets
  with_reducible repeat' first
    | apply Within.refl | assumption | (intro u x hu; apply pauseHonouringRule_act)
    | (intro x; refine Within.cut (0x400040003FFFC006BFFFC00000000000000000000007C00680002C3951) s x ?_ ?_; rotate_left; intro hx; clear_value x)
    | apply State.admItem_to | apply pauseHonouringRule_act | apply Within.ite
  all_goals rfl

theorem quantumRule_act {u : State} (p : Port) (q : QueueNo) (w : Via) (x : Nat) (h : Within F z u) (e : subFoot
    (0x4000000000068000000000000000000000000000000400000C3940) F = true) :
    Within F z ((quantumRule p q).act u w x).state := by
  refine h.step ?_ e
  unfold quantumRule
  try dsimp only
  try lift_lets
  with_reducible repeat' first
    | apply Within.refl | apply State.queueAdm_to
  all_goals rfl

theorem Ended.layoutNoted_to {y : Ended} (x m : Nat) (h : Within F z y.state)
    (e : subFoot (0x4000000000068000000000000000000000000000000400000C3800) F = true) : Within F z (y.layoutNoted x m).state := by
  unfold Ended.layoutNoted
  split
  · exact State.noteLayout_to _ _ _ h e
  · exact h

theorem State.tryProfile_to (v : Via) (data : Bytes) (h : Within F z s) (e : subFoot
    (0x400040003FFFC006BFFFC00000000000000000000007C00600000C3940) F = true) :
    Within F z (s.tryProfile v data).state := by
  refine h.step ?_ e
  unfold State.tryProfile
  try lift_lets
  with_reducible repeat' first
    | apply Within.refl | assumption | (intro u x hu; apply profileRule_act)
    | (intro x; refine Within.cut (0x400040003FFFC006BFFFC00000000000000000000007C00600000C3940) s x ?_ ?_; rotate_left; intro hx; clear_value x)
    | apply profileRule_act | apply State.tryWrite_to | apply Ended.noted_to | apply Ended.layoutNoted_to
    | apply Within.ite
  all_goals rfl

theorem execCalendarSwitchRequest_within (v : Via) (l : Lane) (data : Bytes) (s : State) :
    WithinOut (0x400040003FFFC006BFFFC00000000000000000000007C00680002C3951) s (execCalendarSwitchRequest v l data s) := by
  unfold execCalendarSwitchRequest
  apply Within.out
  try lift_lets
  with_reducible repeat' first
    | apply Within.refl | assumption | (intro u x hu; apply calendarRule_act)
    | (intro x; refine Within.cut (0x400040003FFFC006BFFFC00000000000000000000007C00680002C3951) s x ?_ ?_; rotate_left; intro hx; clear_value x)
    | apply State.admItem_to | apply calendarRule_act | apply Within.ite
  all_goals rfl

theorem gateControlRule_act {u : State} (p : Port) (w : Via) (x : Nat) (h : Within F z u) (e : subFoot
    (0x4000000000068000000000000000000000000000000400000C3940) F = true) :
    Within F z ((gateControlRule p).act u w x).state := by
  refine h.step ?_ e
  unfold gateControlRule
  try dsimp only
  try lift_lets
  with_reducible repeat' first
    | apply Within.refl | apply State.queueAdm_to
  all_goals rfl

theorem execProfileWrite_within (v : Via) (data : Bytes) (s : State) :
    WithinOut (0x400040003FFFC006BFFFC00000000000000000000007C00680002C3951) s (execProfileWrite v data s) := by
  unfold execProfileWrite
  apply Within.out
  try lift_lets
  with_reducible repeat' first
    | apply Within.refl | assumption | (intro u r hu; apply State.tryProfile_to)
    | (intro x; refine Within.cut (0x400040003FFFC006BFFFC00000000000000000000007C00680002C3951) s x ?_ ?_; rotate_left; intro hx; clear_value x)
    | apply State.tryProfile_to | apply State.item_to | apply Within.ite
  all_goals rfl

theorem execCheck_within (v : Via) (rec : Bytes) (s : State) :
    WithinOut (0x40004000000000068000000000000000000000000003C00680002C3951) s (execCheck v rec s) := by
  unfold execCheck
  apply Within.out
  try lift_lets
  with_reducible repeat' first
    | apply Within.refl | apply State.requestItem_to
  all_goals rfl

theorem execLaneModeWrite_within (v : Via) (l : Lane) (data : Bytes) (s : State) :
    WithinOut (0x400040003FFFC006BFFFC00000000000000000000007C00680002C3951) s (execLaneModeWrite v l data s) := by
  unfold execLaneModeWrite
  apply Within.out
  try lift_lets
  with_reducible repeat' first
    | apply Within.refl | assumption | (intro u x hu; apply laneModeRule_act)
    | (intro x; refine Within.cut (0x400040003FFFC006BFFFC00000000000000000000007C00680002C3951) s x ?_ ?_; rotate_left; intro hx; clear_value x)
    | apply State.admItem_to | apply laneModeRule_act | apply Within.ite
  all_goals rfl

theorem execAdmissionComplete_within (s : State) :
    WithinOut (0x400040000000000680000000000040000000407FC00FC004C0003C3BD1) s (execAdmissionComplete s) := by
  unfold execAdmissionComplete
  apply Within.out
  try lift_lets
  with_reducible repeat' first
    | apply Within.refl | apply State.answerTo_to | apply State.decideAdm_to | apply State.level_to | split
    | apply State.putAdm_to
  all_goals rfl

theorem execGateEntryChange_within (p : Port) (s : State) :
    WithinOut (0x400000000000000000000000000000000000003FC00000000000200080) s (execGateEntryChange p s) := by
  unfold execGateEntryChange
  apply Within.out
  try lift_lets
  with_reducible repeat' first
    | apply Within.refl | apply State.settle_to | apply State.refreshGates_to
  all_goals rfl

theorem execWithdraw_within (v : Via) (rec : Bytes) (s : State) :
    WithinOut (0x40004000000000068000000000000000000000000003C00680002C3951) s (execWithdraw v rec s) := by
  unfold execWithdraw
  apply Within.out
  try lift_lets
  with_reducible repeat' first
    | apply Within.refl | apply State.requestItem_to
  all_goals rfl

theorem execGateControlWrite_within (v : Via) (p : Port) (data : Bytes) (s : State) :
    WithinOut (0x400040003FFFC006BFFFC00000000000000000000007C00680002C3951) s (execGateControlWrite v p data s) := by
  unfold execGateControlWrite
  apply Within.out
  try lift_lets
  with_reducible repeat' first
    | apply Within.refl | assumption | (intro u x hu; apply gateControlRule_act)
    | (intro x; refine Within.cut (0x400040003FFFC006BFFFC00000000000000000000007C00680002C3951) s x ?_ ?_; rotate_left; intro hx; clear_value x)
    | apply State.admItem_to | apply gateControlRule_act | apply Within.ite
  all_goals rfl

theorem execQuantumWrite_within (v : Via) (p : Port) (q : QueueNo) (data : Bytes) (s : State) :
    WithinOut (0x400040003FFFC006BFFFC00000000000000000000007C00680002C3951) s (execQuantumWrite v p q data s) := by
  unfold execQuantumWrite
  apply Within.out
  try lift_lets
  with_reducible repeat' first
    | apply Within.refl | assumption | (intro u x hu; apply quantumRule_act)
    | (intro x; refine Within.cut (0x400040003FFFC006BFFFC00000000000000000000007C00680002C3951) s x ?_ ?_; rotate_left; intro hx; clear_value x)
    | apply State.admItem_to | apply quantumRule_act | apply Within.ite
  all_goals rfl

end Sys2Proof.Machine
end

