-- ==== Sys2Proof/Laws/WithinLookaside.lean ====
section
/-! SUPPORT. What the operations of Machine/Lookaside.lean can touch. -/

namespace Sys2Proof.Machine

variable {F : Nat} {z s : State}

theorem State.drbgUse_to (i : Nat) (h : Within F z s) (e : subFoot (0x200) F = true) :
    Within F z (s.drbgUse i) := by
  refine h.step ?_ e
  unfold State.drbgUse
  try lift_lets
  with_reducible repeat' first
    | apply Within.refl | apply State.putCip_to
  all_goals rfl

theorem State.setJobs_to (o : Nat) (js : List Job) (h : Within F z s) (e : subFoot (0x201) F = true) :
    Within F z (s.setJobs o js) := by
  refine h.step ?_ e
  unfold State.setJobs
  try lift_lets
  with_reducible repeat' first
    | apply Within.refl | apply State.setRegBits_to | apply State.putCip_to
  all_goals rfl

theorem State.fetchJobs_to (o : Nat) (h : Within F z s) (e : subFoot
    (0x40000000000000003FFFC0008000000000000000000000000000080A01) F = true) :
    Within F z (s.fetchJobs o) := by
  refine h.step ?_ e
  unfold State.fetchJobs
  try lift_lets
  with_reducible repeat' first
    | apply Within.refl | apply State.fetchRun_to | apply State.setJobs_to | apply State.setReg_to
    | apply Within.ite
  all_goals rfl

theorem State.ringPage_to (o : Nat) (tail : Word) (h : Within F z s) (e : subFoot
    (0x40000000000000003FFFC0008000000000000000000000000000080A01) F = true) :
    Within F z (s.ringPage o tail) := by
  refine h.step ?_ e
  unfold State.ringPage
  try lift_lets
  with_reducible repeat' first
    | apply Within.refl | apply State.writeReg_to | apply State.fetchJobs_to
  all_goals rfl

theorem State.onRegion_to (g : Func) (act : Nat → State) (h : Within F z s)
    (k : ∀ o, Within F z (act o)) : Within F z (s.onRegion g act) := by
  unfold State.onRegion
  split
  · exact k _
  · exact h

theorem State.advanceDone_to (o x2 : Nat) (h : Within F z s) (e : subFoot (0x201) F = true) :
    Within F z (s.advanceDone o x2).2 := by
  induction x2 generalizing s o with
  | zero => exact h
  | succ x2 ih =>
    unfold State.advanceDone
    try dsimp -proj -iota only
    with_reducible repeat' first
      | exact h | apply ih | apply Within.refl | apply State.setJobs_to | apply State.setReg_to | split
    all_goals exact subFoot_trans (by rfl) e

theorem State.pageMsg_to (o : Nat) (h : Within F z s) (e : subFoot (0x80A00) F = true) :
    Within F z (s.pageMsg o) := by
  refine h.step ?_ e
  unfold State.pageMsg
  try lift_lets
  with_reducible repeat' first
    | apply Within.refl | apply State.queueMsg_to | apply State.putCip_to
  all_goals rfl

theorem State.finishJob_to (o slot lane status result : Nat) (irq : Bool) (h : Within F z s) (e : subFoot
    (0x4000400000000006BFFFC00080004000000000000000000400000C3A01) F = true) :
    Within F z (s.finishJob o slot lane status result irq) := by
  refine h.step ?_ e
  unfold State.finishJob
  try lift_lets
  with_reducible repeat' first
    | apply Within.refl | apply State.inc_to | apply State.setJobs_to | apply State.dmaWrite_to
    | apply State.eventLim_to | apply State.advanceDone_to | apply State.bumpReg_to | apply State.fetchJobs_to
    | apply State.pageMsg_to | apply Within.ite | apply State.putCip_to
  all_goals rfl

/-- A job's work stays within a set. -/
def WithinJob (f : Nat) (s : State) (o : Option JobEnd) : Prop := ∀ x, o = some x → Within f s x.state

theorem WithinJob.none {f : Nat} {s : State} : WithinJob f s none := by
  intro x e
  cases e

theorem WithinJob.fail {f : Nat} {s t : State} {n : Nat} (h : Within f s t) : WithinJob f s (jobFail t n) := by
  intro x e
  cases e
  exact h

theorem WithinJob.ok {f : Nat} {s t : State} {b : Bytes} (h : Within f s t) : WithinJob f s (jobOk t b) := by
  intro x e
  cases e
  exact h

theorem WithinJob.keyed {f : Nat} {s t : State} {j : Job} {d : JobDesc} {work : Bytes → Option JobEnd}
    (h : Within f s t) (k : ∀ b, WithinJob f s (work b)) : WithinJob f s (t.keyed j d work) := by
  unfold State.keyed
  split
  · exact .fail h
  · split
    · exact k _
    · exact .fail h

theorem WithinJob.ite {f : Nat} {s : State} {p : Prop} [Decidable p] {x y : Option JobEnd} (h : WithinJob f s x)
    (k : WithinJob f s y) : WithinJob f s (if p then x else y) := by
  split
  · exact h
  · exact k

theorem State.runJob_to (f : Func) (slot code : Nat) (d : JobDesc) (named : (src : Bytes) → Bool)
    (body : State → (t : Nat) → Job → JobDesc → Bytes → Option JobEnd)
    (h : Within F z s) (k : ∀ t j d b, WithinJob F z (body s t j d b))
    (e : subFoot (0x4000400000000006BFFFC00080004000000000000000000400002C3A81) F = true) :
    Within F z (s.runJob f slot code d named body) := by
  unfold State.runJob
  refine State.onRegion_to _ _ h fun o => ?_
  split
  · exact h
  · split
    · exact h
    · split
      · exact h
      · rename_i x hx
        dsimp only
        have h1 := Within.foldl (l := ‹Job›.churn) (g := State.freeBuf) (k _ _ _ _ x hx) fun u b => State.freeBuf_to _ (.refl _ _) (subFoot_trans (by rfl) e)
        refine State.finishJob_to _ _ _ _ _ _ ?_ (subFoot_trans (by rfl) e)
        split
        · exact h1
        · exact State.dmaWrite_to _ _ _ h1 (subFoot_trans (by rfl) e)

theorem execWrap_within (f : Func) (job : Nat) (d : JobDesc) (s : State) :
    WithinOut (0x4000400000000006BFFFC00080004000000000000000000400002C3A81) s (execWrap f job d s) := by
  unfold execWrap
  apply Within.out
  try dsimp -proj -iota only
  with_reducible repeat' first
    | apply Within.refl | (apply Within.ofPair; case e => assumption) | exact WithinJob.none | apply WithinJob.fail
    | apply WithinJob.ok | apply WithinJob.keyed | intro x | apply State.runJob_to | apply Within.ite
    | refine Within.foldl ?_ fun s x => ?_ | apply Within.iteSnd | split
  all_goals rfl

theorem State.freeJobs_to (p : Job → Bool) (h : Within F z s) (e : subFoot
    (0x2000000000000000000000000000000000000200280) F = true) :
    Within F z (s.freeJobs p) := by
  refine h.step ?_ e
  unfold State.freeJobs
  try lift_lets
  with_reducible repeat' first
    | apply Within.refl | apply State.freeBuf_to | apply State.endWork_to | apply Within.ite
    | refine Within.foldl ?_ fun s x => ?_
  all_goals rfl

theorem State.dropJobs_to (o : Nat) (h : Within F z s) (e : subFoot (0x2000000000000000000000000000000000000200A81) F
    = true) :
    Within F z (s.dropJobs o) := by
  refine h.step ?_ e
  unfold State.dropJobs
  try lift_lets
  with_reducible repeat' first
    | apply Within.refl | apply State.endQueue_to | apply State.setJobs_to | apply State.freeJobs_to
  all_goals rfl

theorem State.endJobs_to (o status : Nat) (p : Job → Bool) (h : Within F z s) (e : subFoot
    (0x4000400000000006BFFFC00080004000000000000000000400002C3A81) F = true) :
    Within F z (s.endJobs o status p) := by
  refine h.step ?_ e
  unfold State.endJobs
  try lift_lets
  with_reducible repeat' first
    | apply Within.refl | apply State.setJobs_to | apply State.finishJob_to | apply State.freeJobs_to
    | apply State.setReg_to | apply Within.ite | refine Within.foldl ?_ fun s x => ?_
  all_goals rfl

theorem State.writePageCtrl_to (o : Nat) (ctrl : Word) (h : Within F z s) (e : subFoot
    (0x4000400000000006BFFFC00080004000000000000000000400002C3A81) F = true) :
    Within F z (s.writePageCtrl o ctrl) := by
  refine h.step ?_ e
  unfold State.writePageCtrl
  try lift_lets
  with_reducible repeat' first
    | apply Within.refl | apply State.dropJobs_to | apply State.setRegBits_to | apply State.endJobs_to
    | apply State.writeReg_to | apply State.setReg_to | apply State.noteHalted_to | apply Within.ite
    | apply State.putCip_to
  all_goals rfl

theorem execCipherPageEnable_within (f : Func) (ctrl : Word) (s : State) :
    WithinOut (0x4000400000000006BFFFC00080004000000000000000000400002C3A81) s (execCipherPageEnable f ctrl s) := by
  unfold execCipherPageEnable
  apply Within.out
  try dsimp -proj -iota only
  with_reducible repeat' first
    | apply Within.refl | (apply Within.ofPair; case e => assumption) | intro x | apply State.onRegion_to
    | apply State.writePageCtrl_to | apply Within.ite | refine Within.foldl ?_ fun s x => ?_ | apply Within.iteSnd
    | split
  all_goals rfl

theorem State.installKey_to (row use : Nat) (key : Bytes) (h : Within F z s) (e : subFoot
    (0x400000000000000000000000000200) F = true) :
    Within F z (s.installKey row use key) := by
  refine h.step ?_ e
  unfold State.installKey
  try lift_lets
  with_reducible repeat' first
    | apply Within.refl | apply State.setCells_to | apply State.setSlot_to | apply State.retireSa_to
  all_goals rfl

theorem State.keyInto_to (t : Nat) (j : Job) (d : JobDesc) (make : (k : Bytes) → (len : Nat) → Option Bytes) (h :
    Within F z s)
    (e : subFoot (0x400000000000000000000000000200) F = true) : WithinJob F z (s.keyInto t j d make) := by
  unfold State.keyInto
  split
  · exact .fail h
  · split
    · exact .fail h
    · split
      · exact .fail h
      · split
        · exact .fail h
        · split
          · exact .fail h
          · exact .ok (State.installKey_to _ _ _ h e)

theorem execUnwrap_within (f : Func) (job : Nat) (d : JobDesc) (src : Bytes) (s : State) :
    WithinOut (0x4000400000000006BFFFC00080004000000000000000000400002C3A81) s (execUnwrap f job d src s) := by
  unfold execUnwrap
  apply Within.out
  try dsimp -proj -iota only
  with_reducible repeat' first
    | apply Within.refl | (apply Within.ofPair; case e => assumption) | exact WithinJob.none | apply WithinJob.fail
    | apply WithinJob.ok | apply WithinJob.keyed | apply State.keyInto_to | intro x | apply State.runJob_to
    | apply Within.ite | refine Within.foldl ?_ fun s x => ?_ | apply Within.iteSnd | split
  all_goals rfl

theorem execGmacVerify_within (f : Func) (job : Nat) (d : JobDesc) (src : Bytes) (s : State) :
    WithinOut (0x4000400000000006BFFFC00080004000000000000000000400002C3A81) s (execGmacVerify f job d src s) := by
  unfold execGmacVerify
  apply Within.out
  try dsimp -proj -iota only
  with_reducible repeat' first
    | apply Within.refl | (apply Within.ofPair; case e => assumption) | exact WithinJob.none | apply WithinJob.fail
    | apply WithinJob.ok | apply WithinJob.keyed | intro x | apply State.runJob_to | apply Within.ite
    | refine Within.foldl ?_ fun s x => ?_ | apply Within.iteSnd | split
  all_goals rfl

theorem execXtsEncrypt_within (f : Func) (job : Nat) (d : JobDesc) (src : Bytes) (s : State) :
    WithinOut (0x4000400000000006BFFFC00080004000000000000000000400002C3A81) s (execXtsEncrypt f job d src s) := by
  unfold execXtsEncrypt
  apply Within.out
  try dsimp -proj -iota only
  with_reducible repeat' first
    | apply Within.refl | (apply Within.ofPair; case e => assumption) | exact WithinJob.none | apply WithinJob.fail
    | apply WithinJob.ok | apply WithinJob.keyed | intro x | apply State.runJob_to | apply Within.ite
    | refine Within.foldl ?_ fun s x => ?_ | apply Within.iteSnd | split
  all_goals rfl

theorem State.samples_to (h : Within F z s) (e : subFoot (0x100000) F = true) :
    Within F z (s.samples).2 := by
  refine h.step ?_ e
  unfold State.samples
  try lift_lets
  with_reducible repeat' first
    | apply Within.refl | apply State.draw_to
  all_goals rfl

theorem State.failTest_to (t : EntropyTest) (h : Within F z s) (e : subFoot
    (0x4000000000068000000000004000000000000000000400001C3800) F = true) :
    Within F z (s.failTest t) := by
  refine h.step ?_ e
  unfold State.failTest
  try lift_lets
  with_reducible repeat' first
    | apply Within.refl | apply State.inc_to | apply State.setOb_to | apply State.setCells_to
    | apply State.event_to | apply State.samples_to | apply Within.ite
  all_goals rfl

theorem State.stopLanes_to (h : Within F z s)
    (e : subFoot (0x4000400000000006BFFFC00080004000000000000000000400002C3E81) F = true) : Within F z s.stopLanes := by
  unfold State.stopLanes
  dsimp only
  refine Within.step ?_ (State.putCipSto_within _ _ _) (subFoot_trans (by rfl) e)
  refine Within.foldl ?_ fun u o => State.endJobs_to _ _ _ (.refl _ _) (subFoot_trans (by rfl) e)
  refine State.bump_to _ _ _ _ (State.putCip_to _ ?_ (subFoot_trans (by rfl) e)) (subFoot_trans (by rfl) e)
  exact Within.foldl h fun u o => State.freeOwn_to _ (.refl _ _) (subFoot_trans (by rfl) e)

theorem State.stopEngine_to (t : EntropyTest) (h : Within F z s) (e : subFoot
    (0x4000400000000006BFFFC00080004000000000000000000400003C3E81) F = true) :
    Within F z (s.stopEngine t) := by
  refine h.step ?_ e
  unfold State.stopEngine
  try lift_lets
  with_reducible repeat' first
    | apply Within.refl | apply State.failTest_to | apply State.cpEvent_to | apply State.event_to
    | apply State.level_to | apply State.stopLanes_to | apply Within.ite | refine Within.foldl ?_ fun s x => ?_
  all_goals rfl

theorem State.takeKey_to (t row use : Nat) (h : Within F z s) (e : subFoot
    (0x4000000000068000000000000000000000000000000400000C3800) F = true) :
    Within F z (s.takeKey t row use).2 := by
  refine h.step ?_ e
  unfold State.takeKey
  try lift_lets
  with_reducible repeat' first
    | apply Within.refl | apply State.event_to | split
  all_goals rfl

theorem State.takeChurn_to (x1 x2 : List Nat) (h : Within F z s) (e : subFoot
    (0x4000000000068000000000000000000000000000000400002C3880) F = true) :
    Within F z (s.takeChurn x1 x2).2 := by
  induction x1 generalizing s x2 with
  | nil => exact h
  | cons y x1 ih =>
    unfold State.takeChurn
    try dsimp -proj -iota only
    with_reducible repeat' first
      | exact h | apply ih | apply Within.refl | (apply Within.ofPair; case e => assumption)
      | apply State.freeBuf_to | apply State.takeBuf_to | apply Within.ite | refine Within.foldl ?_ fun s x => ?_
      | split
    all_goals exact subFoot_trans (by rfl) e

theorem State.updJob_to (o slot : Nat) (f : Job → Job) (h : Within F z s) (e : subFoot (0x200) F = true) :
    Within F z (s.updJob o slot f) := by
  refine h.step ?_ e
  unfold State.updJob
  try lift_lets
  with_reducible repeat' first
    | apply Within.refl | apply State.putCip_to
  all_goals rfl

theorem State.haltPage_to (o : Nat) (h : Within F z s) (e : subFoot
    (0x40000000000000003FFFC0000000000000000000000000000000000801) F = true) :
    Within F z (s.haltPage o) := by
  refine h.step ?_ e
  unfold State.haltPage
  try lift_lets
  with_reducible repeat' first
    | apply Within.refl | apply State.setRegBits_to | apply State.noteHalted_to
  all_goals rfl

theorem State.descsArrived_to (o slot n : Nat) (data : Bytes) (h : Within F z s) (e : subFoot
    (0x40000000000000003FFFC0008000000000000000000000000000080A00) F = true) :
    Within F z (s.descsArrived o slot n data) := by
  refine h.step ?_ e
  unfold State.descsArrived
  try lift_lets
  with_reducible repeat' first
    | apply Within.refl | apply State.updJob_to | apply State.issueRead_to | apply Within.ite
    | refine Within.foldl ?_ fun s x => ?_
  all_goals rfl

theorem execDrbgReseed_within (i : Fin 4) (s : State) :
    WithinOut (0x400000000000000000000000000200) s (execDrbgReseed i s) := by
  unfold execDrbgReseed
  apply Within.out
  try lift_lets
  with_reducible repeat' first
    | apply Within.refl | apply State.inc_to | apply Within.ite | apply State.putCip_to
  all_goals rfl

theorem execMaskRefresh_within (l : CipherLane) (s : State) :
    WithinOut (0x200) s (execMaskRefresh l s) := by
  unfold execMaskRefresh
  apply Within.out
  try lift_lets
  with_reducible repeat' first
    | apply Within.refl | apply State.drbgUse_to | apply State.setClane_to | apply Within.ite
  all_goals rfl

theorem execCipherPageDisable_within (f : Func) (ctrl : Word) (s : State) :
    WithinOut (0x4000400000000006BFFFC00080004000000000000000000400002C3A81) s (execCipherPageDisable f ctrl s) := by
  unfold execCipherPageDisable
  apply Within.out
  try dsimp -proj -iota only
  with_reducible repeat' first
    | apply Within.refl | (apply Within.ofPair; case e => assumption) | intro x | apply State.onRegion_to
    | apply State.writePageCtrl_to | apply Within.ite | refine Within.foldl ?_ fun s x => ?_ | apply Within.iteSnd
    | split
  all_goals rfl

theorem execCtr_within (f : Func) (job : Nat) (d : JobDesc) (src : Bytes) (s : State) :
    WithinOut (0x4000400000000006BFFFC00080004000000000000000000400002C3A81) s (execCtr f job d src s) := by
  unfold execCtr
  apply Within.out
  try dsimp -proj -iota only
  with_reducible repeat' first
    | apply Within.refl | (apply Within.ofPair; case e => assumption) | exact WithinJob.none | apply WithinJob.fail
    | apply WithinJob.ok | apply WithinJob.keyed | intro x | apply State.runJob_to | apply Within.ite
    | refine Within.foldl ?_ fun s x => ?_ | apply Within.iteSnd | split
  all_goals rfl

theorem execRandom_within (f : Func) (job : Nat) (d : JobDesc) (s : State) :
    WithinOut (0x4000400000000006BFFFC00080004000000000000000000400003C3A81) s (execRandom f job d s) := by
  unfold execRandom
  apply Within.out
  try dsimp -proj -iota only
  with_reducible repeat' first
    | apply Within.refl | (apply Within.ofPair; case e => assumption) | exact WithinJob.none | apply WithinJob.fail
    | apply WithinJob.ok | apply WithinJob.keyed | intro x | apply State.drbgUse_to | apply State.runJob_to
    | apply Within.ite | refine Within.foldl ?_ fun s x => ?_ | apply Within.iteSnd | split
    | apply State.putFree_to
  all_goals rfl

theorem execCipherPageDoorbell_within (f : Func) (tail : Word) (s : State) :
    WithinOut (0x40000000000000003FFFC0008000000000000000000000000000080A01) s (execCipherPageDoorbell f tail s) := by
  unfold execCipherPageDoorbell
  apply Within.out
  try dsimp -proj -iota only
  with_reducible repeat' first
    | apply Within.refl | (apply Within.ofPair; case e => assumption) | intro x | apply State.ringPage_to
    | apply State.onRegion_to | apply Within.ite | refine Within.foldl ?_ fun s x => ?_ | apply Within.iteSnd
    | split
  all_goals rfl

theorem execLaneStallEnd_within (l : CipherLane) (s : State) :
    WithinOut (0x4000000000068000000000004000000000000000000400000C3A00) s (execLaneStallEnd l s) := by
  unfold execLaneStallEnd
  apply Within.out
  try lift_lets
  with_reducible repeat' first
    | apply Within.refl | apply State.setOb_to | apply State.bump_to | apply State.setClane_to
    | apply State.wakeLane_to | apply State.event_to | split
  all_goals rfl

theorem State.jobKeys_to (t : Nat) (d : JobDesc) (h : Within F z s) (e : subFoot
    (0x4000000000068000000000000000000000000000000400000C3800) F = true) :
    Within F z (s.jobKeys t d).2.2 := by
  refine h.step ?_ e
  unfold State.jobKeys
  try dsimp -proj -iota only
  with_reducible repeat' first
    | apply Within.refl | (apply Within.ofPair; case e => assumption) | apply State.takeKey_to | apply Within.ite
    | refine Within.foldl ?_ fun s x => ?_ | split
  all_goals rfl

theorem State.startJob_to (j : Job) (d : JobDesc) (h : Within F z s)
    (e : subFoot (0x4000400000000006BFFFC00080004000000000000000000400002C3A81) F = true) : Within F z (s.startJob j d) := by
  unfold State.startJob
  dsimp only
  refine Within.ite (State.finishJob_to _ _ _ _ _ _ h (subFoot_trans (by rfl) e)) (Within.ite (State.finishJob_to _ _ _ _ _ _ h (subFoot_trans (by rfl) e)) ?_)
  have hk := State.jobKeys_to (j.owner - 0x1000) d h (subFoot_trans (by rfl) e)
  generalize s.jobKeys (j.owner - 0x1000) d = q at *
  obtain ⟨k, x, s'⟩ := q
  dsimp only at *
  have h2 : Within F z (if (d.opcode = 2 && k.isSome && jobLimits d) = true then s'.takeChurn (churnPieces d.len) []
      else (some [], s')).2 := Within.iteSnd (State.takeChurn_to _ _ hk (subFoot_trans (by rfl) e)) hk
  generalize (if (d.opcode = 2 && k.isSome && jobLimits d) = true then s'.takeChurn (churnPieces d.len) []
      else (some [], s')) = r at *
  obtain ⟨hs, u⟩ := r
  cases hs with
  | none => exact h
  | some hs => exact State.updJob_to _ _ _ (State.addWork_to _ _ _ _ h2 (subFoot_trans (by rfl) e)) (subFoot_trans (by rfl) e)

theorem restartRule_act {u : State} (failing : Option EntropyTest) (w : Via) (x : Nat) (h : Within F z u) (e :
    subFoot (0x4000000000068000000000004000000000000000000400001C3A00) F = true) :
    Within F z ((restartRule failing).act u w x).state := by
  refine h.step ?_ e
  unfold restartRule
  try dsimp only
  try lift_lets
  with_reducible repeat' first
    | apply Within.refl | apply Within.ended | apply Within.later | apply Within.iteState | apply State.setOb_to
    | apply State.failTest_to | apply State.event_to | apply State.level_to | apply Within.ite | split
    | apply State.putCip_to
  all_goals rfl

theorem execGcmDecrypt_within (f : Func) (job : Nat) (d : JobDesc) (src : Bytes) (s : State) :
    WithinOut (0x4000400000000006BFFFC00080004000000000000000000400002C3A81) s (execGcmDecrypt f job d src s) := by
  unfold execGcmDecrypt
  apply Within.out
  try dsimp -proj -iota only
  with_reducible repeat' first
    | apply Within.refl | (apply Within.ofPair; case e => assumption) | exact WithinJob.none | apply WithinJob.fail
    | apply WithinJob.ok | apply WithinJob.keyed | intro x | apply State.runJob_to | apply Within.ite
    | refine Within.foldl ?_ fun s x => ?_ | apply Within.iteSnd | split
  all_goals rfl

theorem execGcmEncrypt_within (f : Func) (job : Nat) (d : JobDesc) (src : Bytes) (s : State) :
    WithinOut (0x4000400000000006BFFFC00080004000000000000000000400002C3A81) s (execGcmEncrypt f job d src s) := by
  unfold execGcmEncrypt
  apply Within.out
  try dsimp -proj -iota only
  with_reducible repeat' first
    | apply Within.refl | (apply Within.ofPair; case e => assumption) | exact WithinJob.none | apply WithinJob.fail
    | apply WithinJob.ok | apply WithinJob.keyed | intro x | apply State.runJob_to | apply Within.ite
    | refine Within.foldl ?_ fun s x => ?_ | apply Within.iteSnd | split
  all_goals rfl

theorem State.srcArrived_to (o slot : Nat) (data : Bytes) (h : Within F z s) (e : subFoot (0x200) F = true) :
    Within F z (s.srcArrived o slot data) := by
  refine h.step ?_ e
  unfold State.srcArrived
  try lift_lets
  with_reducible repeat' first
    | apply Within.refl | apply State.updJob_to
  all_goals rfl

theorem execGmacGenerate_within (f : Func) (job : Nat) (d : JobDesc) (src : Bytes) (s : State) :
    WithinOut (0x4000400000000006BFFFC00080004000000000000000000400002C3A81) s (execGmacGenerate f job d src s) := by
  unfold execGmacGenerate
  apply Within.out
  try dsimp -proj -iota only
  with_reducible repeat' first
    | apply Within.refl | (apply Within.ofPair; case e => assumption) | exact WithinJob.none | apply WithinJob.fail
    | apply WithinJob.ok | apply WithinJob.keyed | intro x | apply State.runJob_to | apply Within.ite
    | refine Within.foldl ?_ fun s x => ?_ | apply Within.iteSnd | split
  all_goals rfl

theorem execCmacVerify_within (f : Func) (job : Nat) (d : JobDesc) (src : Bytes) (s : State) :
    WithinOut (0x4000400000000006BFFFC00080004000000000000000000400002C3A81) s (execCmacVerify f job d src s) := by
  unfold execCmacVerify
  apply Within.out
  try dsimp -proj -iota only
  with_reducible repeat' first
    | apply Within.refl | (apply Within.ofPair; case e => assumption) | exact WithinJob.none | apply WithinJob.fail
    | apply WithinJob.ok | apply WithinJob.keyed | intro x | apply State.runJob_to | apply Within.ite
    | refine Within.foldl ?_ fun s x => ?_ | apply Within.iteSnd | split
  all_goals rfl

theorem execDerive_within (f : Func) (job : Nat) (d : JobDesc) (src : Bytes) (s : State) :
    WithinOut (0x4000400000000006BFFFC00080004000000000000000000400002C3A81) s (execDerive f job d src s) := by
  unfold execDerive
  apply Within.out
  try dsimp -proj -iota only
  with_reducible repeat' first
    | apply Within.refl | (apply Within.ofPair; case e => assumption) | exact WithinJob.none | apply WithinJob.fail
    | apply WithinJob.ok | apply WithinJob.keyed | apply State.keyInto_to | intro x | apply State.runJob_to
    | apply Within.ite | refine Within.foldl ?_ fun s x => ?_ | apply Within.iteSnd | split
  all_goals rfl

theorem State.failDescs_to (o slot n : Nat) (h : Within F z s) (e : subFoot
    (0x40000000000000003FFFC0000000000000000000000000000000000A01) F = true) :
    Within F z (s.failDescs o slot n) := by
  refine h.step ?_ e
  unfold State.failDescs
  try lift_lets
  with_reducible repeat' first
    | apply Within.refl | apply State.setJobs_to | apply State.haltPage_to
  all_goals rfl

theorem execXtsDecrypt_within (f : Func) (job : Nat) (d : JobDesc) (src : Bytes) (s : State) :
    WithinOut (0x4000400000000006BFFFC00080004000000000000000000400002C3A81) s (execXtsDecrypt f job d src s) := by
  unfold execXtsDecrypt
  apply Within.out
  try dsimp -proj -iota only
  with_reducible repeat' first
    | apply Within.refl | (apply Within.ofPair; case e => assumption) | exact WithinJob.none | apply WithinJob.fail
    | apply WithinJob.ok | apply WithinJob.keyed | intro x | apply State.runJob_to | apply Within.ite
    | refine Within.foldl ?_ fun s x => ?_ | apply Within.iteSnd | split
  all_goals rfl

theorem State.failJob_to (o slot : Nat) (h : Within F z s) (e : subFoot
    (0x4000400000000006BFFFC00080004000000000000000000400000C3A01) F = true) :
    Within F z (s.failJob o slot) := by
  refine h.step ?_ e
  unfold State.failJob
  try lift_lets
  with_reducible repeat' first
    | apply Within.refl | apply State.finishJob_to | split
  all_goals rfl

theorem execEntropyTestFailure_within (t : EntropyTest) (s : State) :
    WithinOut (0x4000400000000006BFFFC00080004000000000000000000400003C3E81) s (execEntropyTestFailure t s) := by
  unfold execEntropyTestFailure
  apply Within.out
  try lift_lets
  with_reducible repeat' first
    | apply Within.refl | apply State.stopEngine_to | apply Within.ite
  all_goals rfl

theorem execEngineRestart_within (v : Via) (data : Bytes) (failing : Option EntropyTest) (s : State) :
    WithinOut (0x400040003FFFC006BFFFC00000004000000000000007C00680003C3A51) s (execEngineRestart v data failing s) := by
  unfold execEngineRestart
  apply Within.out
  try lift_lets
  with_reducible repeat' first
    | apply Within.refl | assumption | (intro u x hu; apply restartRule_act)
    | (intro x; refine Within.cut (0x400040003FFFC006BFFFC00000004000000000000007C00680003C3A51) s x ?_ ?_; rotate_left; intro hx; clear_value x)
    | apply restartRule_act | apply State.writeItem_to | apply Within.ite
  all_goals rfl

theorem State.startJobs_to (h : Within F z s) (e : subFoot
    (0x4000400000000006BFFFC00080004000000000000000000400002C3A81) F = true) :
    Within F z (s.startJobs) := by
  refine h.step ?_ e
  unfold State.startJobs
  try dsimp -proj -iota only
  with_reducible repeat' first
    | apply Within.refl | apply State.startJob_to | apply Within.ite | refine Within.foldl ?_ fun s x => ?_ | split
  all_goals rfl

theorem execMaskKeyExpiry_within (l : CipherLane) (s : State) :
    WithinOut (0x200) s (execMaskKeyExpiry l s) := by
  unfold execMaskKeyExpiry
  apply Within.out
  try lift_lets
  with_reducible repeat' first
    | apply Within.refl | apply State.setClane_to | apply Within.ite
  all_goals rfl

theorem execCmacGenerate_within (f : Func) (job : Nat) (d : JobDesc) (src : Bytes) (s : State) :
    WithinOut (0x4000400000000006BFFFC00080004000000000000000000400002C3A81) s (execCmacGenerate f job d src s) := by
  unfold execCmacGenerate
  apply Within.out
  try dsimp -proj -iota only
  with_reducible repeat' first
    | apply Within.refl | (apply Within.ofPair; case e => assumption) | exact WithinJob.none | apply WithinJob.fail
    | apply WithinJob.ok | apply WithinJob.keyed | intro x | apply State.runJob_to | apply Within.ite
    | refine Within.foldl ?_ fun s x => ?_ | apply Within.iteSnd | split
  all_goals rfl

theorem execLaneStall_within (l : CipherLane) (s : State) :
    WithinOut (0x4000000000068000000000004000000000000000000400000C3A00) s (execLaneStall l s) := by
  unfold execLaneStall
  apply Within.out
  try lift_lets
  with_reducible repeat' first
    | apply Within.refl | apply State.inc_to | apply State.setOb_to | apply State.setClane_to
    | apply State.event_to | apply Within.ite
  all_goals rfl

end Sys2Proof.Machine
end

