-- ==== Sys2Proof/Laws/WithinStorage.lean ====
section
/-! SUPPORT. What the operations of Machine/Storage.lean can touch. -/

namespace Sys2Proof.Machine

variable {F : Nat} {z s : State}

/-- A segment's end stays within a set. -/
def WithinSeg (f : Nat) (s : State) (x : SegEnd) : Prop := ∀ w, x = .taken w → Within f s w.st

theorem WithinSeg.taken {f : Nat} {s : State} {w : SegWork} (h : Within f s w.st) : WithinSeg f s (.taken w) := by
  intro x e
  cases e
  exact h

theorem WithinSeg.failed {f : Nat} {s : State} {a b : Nat} : WithinSeg f s (.failed a b) := by
  intro x e
  cases e

theorem WithinSeg.refused {f : Nat} {s : State} : WithinSeg f s .refused := by
  intro x e
  cases e

theorem SegWork.upd_to {w : SegWork} (g : Conn → Conn) (h : Within F z w.st) (e : subFoot
    (0x400040000000000680000000C0000000000000000000000400002C3C80) F = true) :
    Within F z (w.upd g).st := by
  unfold SegWork.upd
  split
  · exact State.setConn_to _ _ h (subFoot_trans (by rfl) e)
  · exact h

theorem State.countConn_to (row sub n : Nat) (h : Within F z s) (e : subFoot (0x4000000000000000000000000000000000) F
    = true) :
    Within F z (s.countConn row sub n) := by
  refine h.step ?_ e
  unfold State.countConn
  try lift_lets
  with_reducible repeat' first
    | apply Within.refl | apply State.bump_to
  all_goals rfl

theorem SegWork.post_to {w : SegWork} (r : Bytes) (h : Within F z w.st) (e : subFoot
    (0x400040000000000680000000C0000000000000000000000400002C3C80) F = true) :
    Within F z (w.post r).st := by
  exact h

theorem SegWork.countPdu_to {w : SegWork} (cid : Nat) (live : Bool) (h : Within F z w.st) (e : subFoot
    (0x400040000000000680000000C0000000000000000000000400002C3C80) F = true) :
    Within F z (w.countPdu cid live).st := by
  unfold SegWork.countPdu
  split
  · exact State.countConn_to _ _ _ h (subFoot_trans (by rfl) e)
  · exact State.eventLim_to _ _ _ (State.countConn_to _ _ _ h (subFoot_trans (by rfl) e)) (subFoot_trans (by rfl) e)

theorem SegWork.updCmd_to {w : SegWork} (cid : Nat) (g : StorCmd → StorCmd) (h : Within F z w.st) (e : subFoot
    (0x400040000000000680000000C0000000000000000000000400002C3C80) F = true) :
    Within F z (w.updCmd cid g).st := by
  exact SegWork.upd_to _ h e

theorem State.dropStaging_to (x : StorCmd) (h : Within F z s) (e : subFoot
    (0x2000000000000000000000000000000000000200080) F = true) :
    Within F z (s.dropStaging x) := by
  refine h.step ?_ e
  unfold State.dropStaging
  try lift_lets
  with_reducible repeat' first
    | apply Within.refl | apply State.freeBuf_to | split
  all_goals rfl

theorem State.figureConn_to (row sub v : Nat) (h : Within F z s) (e : subFoot (0x4000000000000000000000000000000000)
    F = true) :
    Within F z (s.figureConn row sub v) := by
  refine h.step ?_ e
  unfold State.figureConn
  try lift_lets
  with_reducible repeat' first
    | apply Within.refl | apply State.setCell_to
  all_goals rfl

theorem State.setCmds_to (row : Nat) (c : Conn) (cmds : List StorCmd) (h : Within F z s) (e : subFoot
    (0x4000000000000000000000000000000400) F = true) :
    Within F z (s.setCmds row c cmds) := by
  refine h.step ?_ e
  unfold State.setCmds
  try lift_lets
  with_reducible repeat' first
    | apply Within.refl | apply State.setConn_to | apply State.figureConn_to
  all_goals rfl

theorem SegWork.freeCmd_to {w : SegWork} (cid : Nat) (h : Within F z w.st) (e : subFoot
    (0x400040000000000680000000C0000000000000000000000400002C3C80) F = true) :
    Within F z (w.freeCmd cid).st := by
  unfold SegWork.freeCmd
  split
  · exact h
  · split
    · exact h
    · exact State.setCmds_to _ _ _ (State.dropStaging_to _ h (subFoot_trans (by rfl) e)) (subFoot_trans (by rfl) e)

theorem SegWork.endData_to {w : SegWork} (c : Conn) (b : PduBody) (h : Within F z w.st) (e : subFoot
    (0x400040000000000680000000C0000000000000000000000400002C3C80) F = true) :
    Within F z (w.endData c b).st := by
  unfold SegWork.endData
  dsimp only
  split
  · exact SegWork.countPdu_to _ _ h e
  · rename_i x _
    have h1 : ∀ p : Bool, Within F z (if p = true then { w with st := (w.st.countConn w.row 0xD 1).eventLim 0x0702 w.row [w.row, pduCid b.hdr] } else w).st := by
      intro p
      split
      · exact State.eventLim_to _ _ _ (State.countConn_to _ _ _ h (subFoot_trans (by rfl) e)) (subFoot_trans (by rfl) e)
      · exact h
    have h2 := fun p g => SegWork.countPdu_to (pduCid b.hdr) true (SegWork.updCmd_to (pduCid b.hdr) g (h1 p) e) e
    split
    · exact h2 _ _
    · split
      · exact h2 _ _
      · split
        · exact SegWork.freeCmd_to _ (SegWork.post_to _ (h2 _ _) e) e
        · exact SegWork.post_to _ (h2 _ _) e

theorem State.place_to (o : Nat) (x2 : List Seg) (off : Nat) (x4 : Bytes) (h : Within F z s) (e : subFoot
    (0x4000000000000000000000008000000000000000000000000000080000) F = true) :
    Within F z (s.place o x2 off x4) := by
  induction x2 generalizing s o off x4 with
  | nil => exact h
  | cons y x2 ih =>
    unfold State.place
    try dsimp -proj -iota only
    with_reducible repeat' first
      | exact h | apply ih | apply Within.refl | apply State.dmaWrite_to | apply Within.ite
    all_goals exact subFoot_trans (by rfl) e

/-- What an option holds, if anything, has a property. -/
def Holds {α : Type} (p : α → Prop) (o : Option α) : Prop := ∀ x, o = some x → p x

theorem Holds.some {α : Type} {p : α → Prop} {x : α} (h : p x) : Holds p (some x) := by
  intro y e
  cases e
  exact h

theorem Holds.none {α : Type} {p : α → Prop} : Holds p none := by
  intro y e
  cases e

theorem Holds.ite {α : Type} {p : α → Prop} {c : Prop} [Decidable c] {x y : Option α} (h : Holds p x) (k : Holds p y)
    :
    Holds p (if c then x else y) := by
  split
  · exact h
  · exact k

theorem SegWork.takeData_to {w : SegWork} (c : Conn) (x : StorCmd) (off : Nat) (d : Bytes) (h : Within F z w.st) (e :
    subFoot (0x400040000000000680000000C0000000000000000000000400002C3C80) F = true) :
    Holds (fun y => Within F z y.st) (w.takeData c x off d) := by
  have h1 := State.dropStaging_to x h (subFoot_trans (by rfl) e)
  unfold SegWork.takeData
  dsimp only
  refine Holds.ite (.some ?_) ?_
  · exact SegWork.updCmd_to (w := { w with st := _, ciphered := _ }) _ _ (State.countConn_to _ _ _ (State.place_to _ _ _ _ h1 (subFoot_trans (by rfl) e)) (subFoot_trans (by rfl) e)) e
  · generalize hb : State.takeBuf _ _ _ = q
    have h2 : Within F z q.2 := hb ▸ State.takeBuf_to _ _ (State.countConn_to _ _ _ (State.place_to _ _ _ _ h1 (subFoot_trans (by rfl) e)) (subFoot_trans (by rfl) e)) (subFoot_trans (by rfl) e)
    obtain ⟨b, t⟩ := q
    cases b with
    | none => exact .none
    | some b => exact .some (SegWork.updCmd_to (w := { w with st := _, ciphered := _ }) _ _ h2 e)

theorem SegWork.bodyBytes_to {w : SegWork} (c : Conn) (b : PduBody) (bs : Bytes) (h : Within F z w.st) (e : subFoot
    (0x400040000000000680000000C0000000000000000000000400002C3C80) F = true) :
    WithinSeg F z (w.bodyBytes c b bs) := by
  unfold SegWork.bodyBytes
  dsimp only
  split
  · exact .refused
  · rename_i w' hw
    have h1 : Within F z w'.st := by
      split at hw
      · split at hw
        · cases hw
          exact h
        · exact SegWork.takeData_to _ _ _ _ h e _ hw
      · cases hw
        exact h
    split
    · exact .taken (SegWork.upd_to _ h1 e)
    · split
      · exact .taken (SegWork.endData_to _ _ (SegWork.upd_to _ h1 e) e)
      · exact .taken (SegWork.upd_to _ h1 e)

theorem SegWork.transfer_to {w : SegWork} (c : Conn) (x : StorCmd) (d : Bytes) (h : Within F z w.st) (e : subFoot
    (0x400040000000000680000000C0000000000000000000000400002C3C80) F = true) :
    Within F z (w.transfer c x d).st := by
  unfold SegWork.transfer
  dsimp -proj -iota only
  dsimp only
  split
  · split
    · exact h
    · exact State.dmaWrite_to _ _ _ h (subFoot_trans (by rfl) e)
  · exact h

theorem SegWork.response_to {w : SegWork} (c : Conn) (d : Bytes) (h : Within F z w.st) (e : subFoot
    (0x400040000000000680000000C0000000000000000000000400002C3C80) F = true) :
    Within F z (w.response c d).st := by
  unfold SegWork.response
  dsimp only
  split
  · exact SegWork.countPdu_to _ _ h e
  · split
    · exact SegWork.countPdu_to _ _ h e
    · exact SegWork.countPdu_to _ _ (SegWork.freeCmd_to _ (SegWork.post_to _ h e) e) e

theorem SegWork.header_to {w : SegWork} (c : Conn) (d dig : Bytes) (h : Within F z w.st) (e : subFoot
    (0x400040000000000680000000C0000000000000000000000400002C3C80) F = true) :
    WithinSeg F z (w.header c d dig) := by
  unfold SegWork.header
  dsimp only
  split
  · exact .failed
  · split
    · exact .taken (SegWork.response_to _ _ h e)
    · split
      · split
        · exact .taken (SegWork.countPdu_to _ _ h e)
        · exact .taken (SegWork.countPdu_to _ _ (SegWork.transfer_to _ _ _ h e) e)
      · exact .taken (SegWork.upd_to _ (SegWork.updCmd_to _ _ h e) e)

theorem WithinSeg.ite {f : Nat} {s : State} {c : Prop} [Decidable c] {x y : SegEnd} (h : WithinSeg f s x) (k :
    WithinSeg f s y) :
    WithinSeg f s (if c then x else y) := by
  split
  · exact h
  · exact k

theorem WithinSeg.bind {f : Nat} {s : State} {x : SegEnd} {g : SegWork → SegEnd} (h : WithinSeg f s x)
    (k : ∀ w, Within f s w.st → WithinSeg f s (g w)) :
    WithinSeg f s (match x with
      | .taken w => g w
      | e => e) := by
  cases x with
  | taken w => exact k w (h w rfl)
  | failed a b => exact .failed
  | refused => exact .refused

theorem SegWork.run_to {w : SegWork} (n : Nat) (bs : Bytes) (h : Within F z w.st) (e : subFoot
    (0x400040000000000680000000C0000000000000000000000400002C3C80) F = true) :
    WithinSeg F z (w.run n bs) := by
  induction n generalizing w bs with
  | zero => exact .taken h
  | succ n ih =>
    unfold SegWork.run
    split
    · exact .taken h
    · split
      · refine .ite (.taken h) (.bind (SegWork.bodyBytes_to _ _ _ h e) fun w hw => ih _ hw)
      · refine .ite (.taken (SegWork.upd_to _ h e)) (.bind (SegWork.header_to _ _ _ (SegWork.upd_to _ h e) e) fun w hw => ih _ hw)

theorem State.segRun_to (row : Nat) (c : Conn) (g : Segment) (behind : Nat) (host : List (Option Bytes)) (h : Within
    F z s)
    (e : subFoot (0x400040000000000680000000C0000000000000000000000400002C3C80) F = true) : WithinSeg F z (s.segRun row c g behind host) := by
  unfold State.segRun
  dsimp only
  refine SegWork.run_to (w := { st := _, row := row, host := host }) _ _ ?_ (subFoot_trans (by rfl) e)
  exact Within.ite (State.setCell_to _ _ _ _ (State.setConn_to _ _ h (subFoot_trans (by rfl) e)) (subFoot_trans (by rfl) e)) h

theorem State.noteCq_to (o : Nat) (h : Within F z s) (e : subFoot (0x1) F = true) :
    Within F z (s.noteCq o) := by
  refine h.step ?_ e
  unfold State.noteCq
  try lift_lets
  with_reducible repeat' first
    | apply Within.refl | apply State.setRegBits_to
  all_goals rfl

theorem State.prepareCapsule_to (o : Nat) (d : StorDesc) (c : Conn) (data : List Bytes) (h : Within F z s) (e :
    subFoot (0x4000000000000000000000008000000000000000000000000000080000) F = true) :
    Within F z (s.prepareCapsule o d c data) := by
  refine h.step ?_ e
  unfold State.prepareCapsule
  try lift_lets
  with_reducible repeat' first
    | apply Within.refl | apply State.dmaWrite_to | apply Within.ite
  all_goals rfl

theorem State.setStorQ_to (o : Nat) (q : List StorSlot) (h : Within F z s) (e : subFoot (0x401) F = true) :
    Within F z (s.setStorQ o q) := by
  refine h.step ?_ e
  unfold State.setStorQ
  try lift_lets
  with_reducible repeat' first
    | apply Within.refl | apply State.setRegBits_to | apply State.putSto_to
  all_goals rfl

theorem State.postRecord_to (o : Nat) (record : Bytes) (irq : Bool) (h : Within F z s) (e : subFoot
    (0x40004000000000068000000080000000000000000000000400000C3801) F = true) :
    Within F z (s.postRecord o record irq) := by
  refine h.step ?_ e
  unfold State.postRecord
  try lift_lets
  with_reducible repeat' first
    | apply Within.refl | apply State.noteCq_to | apply State.pmeTenant_to | apply State.dmaWrite_to
    | apply State.setReg_to | apply State.bumpReg_to | apply State.queueMsg_to | apply Within.ite
  all_goals rfl

theorem State.opDone_to (o : Nat) (d : StorDesc) (status conn : Nat) (h : Within F z s) (e : subFoot
    (0x40004000000000068000000080000000000000000000000400000C3C01) F = true) :
    Within F z (s.opDone o d status conn) := by
  refine h.step ?_ e
  unfold State.opDone
  try lift_lets
  with_reducible repeat' first
    | apply Within.refl | apply State.setStorQ_to | apply State.postRecord_to
  all_goals rfl

theorem State.updStor_to (o slot : Nat) (f : StorSlot → StorSlot) (h : Within F z s) (e : subFoot (0x401) F = true) :
    Within F z (s.updStor o slot f) := by
  refine h.step ?_ e
  unfold State.updStor
  try lift_lets
  with_reducible repeat' first
    | apply Within.refl | apply State.setStorQ_to
  all_goals rfl

theorem State.prepWork_to (t xts : Nat) (p : Prep) (h : Within F z s) (e : subFoot (0x200) F = true) :
    Within F z (s.prepWork t xts p).2 := by
  refine h.step ?_ e
  unfold State.prepWork
  try lift_lets
  with_reducible repeat' first
    | apply Within.refl | apply State.addWork_to | split
  all_goals rfl

theorem State.stepHead_to (o : Nat) (h : Within F z s) (e : subFoot
    (0x4000400000000006BFFFC00080000000000000000000000400000C3E01) F = true) :
    Within F z (s.stepHead o) := by
  refine h.step ?_ e
  unfold State.stepHead
  try dsimp -proj -iota only
  with_reducible repeat' first
    | apply Within.refl | apply State.opDone_to | apply State.updStor_to | apply State.prepWork_to
    | apply State.issueAll_to | apply Within.ite | split
  all_goals rfl

theorem State.stepStor_to (o : Nat) (h : Within F z s) (e : subFoot
    (0x4000400000000006BFFFC00080000000000000000000000400000C3E01) F = true) :
    Within F z (s.stepStor o) := by
  refine h.step ?_ e
  unfold State.stepStor
  try lift_lets
  with_reducible repeat' first
    | apply Within.refl | apply State.stepHead_to | apply Within.ite | refine Within.foldl ?_ fun s x => ?_
  all_goals rfl

theorem State.runStor_to (f : Func) (code : Nat) (want : StorDesc) (named : (list : Bytes) → (data : List ReadBytes) → Bool)
    (body : State → (o : Nat) → StorDesc → (list : Bytes) → (data : List ReadBytes) → State) (h : Within F z s)
    (k : ∀ u o d l b, Within F z u → Within F z (body u o d l b)) (e : subFoot (0x4000400000000006BFFFC00080000000000000000000000400000C3E01) F = true) :
    Within F z (s.runStor f code want named body) := by
  unfold State.runStor
  split
  · exact h
  · refine State.onRegion_to _ _ h fun o => ?_
    have h1 := State.stepStor_to o h (subFoot_trans (by rfl) e)
    dsimp only
    split
    · split
      · exact State.stepStor_to _ (k _ _ _ _ _ h1) (subFoot_trans (by rfl) e)
      · exact h1
    · exact h1

theorem execConnAdd_within (f : Func) (d : StorDesc) (rec : Bytes) (s : State) :
    WithinOut (0x4000400000000006BFFFC000C0000000000000000000000400000C3E01) s (execConnAdd f d rec s) := by
  unfold execConnAdd
  apply Within.out
  try dsimp -proj -iota only
  with_reducible repeat' first
    | apply Within.refl | assumption | (apply Within.ofPair; case e => assumption) | intro x
    | apply State.setCells_to | apply State.setConn_to | apply State.opDone_to | apply State.runStor_to
    | apply Within.ite | refine Within.foldl ?_ fun s x => ?_ | apply Within.iteSnd | split
  all_goals rfl

theorem State.setPrep_to (row : Nat) (p : Option (Nat × Prep)) (h : Within F z s) (e : subFoot (0x400) F = true) :
    Within F z (s.setPrep row p) := by
  refine h.step ?_ e
  unfold State.setPrep
  try lift_lets
  with_reducible repeat' first
    | apply Within.refl | apply State.putSto_to
  all_goals rfl

theorem State.haltStor_to (o : Nat) (h : Within F z s) (e : subFoot
    (0x40000000000000003FFFC0000000000000000000000000000000000801) F = true) :
    Within F z (s.haltStor o) := by
  refine h.step ?_ e
  unfold State.haltStor
  try lift_lets
  with_reducible repeat' first
    | apply Within.refl | apply State.setRegBits_to | apply State.noteHalted_to
  all_goals rfl

theorem State.failStorDescs_to (o slot n : Nat) (h : Within F z s) (e : subFoot
    (0x40000000000000003FFFC0000000000000000000000000000000000C01) F = true) :
    Within F z (s.failStorDescs o slot n) := by
  refine h.step ?_ e
  unfold State.failStorDescs
  try lift_lets
  with_reducible repeat' first
    | apply Within.refl | apply State.haltStor_to | apply State.setStorQ_to
  all_goals rfl

theorem State.prepSegment_to (o vq handle : Nat) (needs : List (Nat × Nat)) (xts : Nat) (h : Within F z s) (e :
    subFoot (0x40000000000000003FFFC0008000000000000000000000000000080E00) F = true) :
    Within F z (s.prepSegment o vq handle needs xts).2 := by
  refine h.step ?_ e
  unfold State.prepSegment
  try dsimp -proj -iota only
  with_reducible repeat' first
    | apply Within.refl | (apply Within.ofPair; case e => assumption) | apply State.setPrep_to
    | apply State.prepWork_to | apply State.issueAll_to | apply Within.ite | refine Within.foldl ?_ fun s x => ?_
    | split
  all_goals rfl

theorem execResync_within (f : Func) (d : StorDesc) (s : State) :
    WithinOut (0x4000400000000006BFFFC00080000000000000000000000400000C3E01) s (execResync f d s) := by
  unfold execResync
  apply Within.out
  try dsimp -proj -iota only
  with_reducible repeat' first
    | apply Within.refl | assumption | (apply Within.ofPair; case e => assumption) | intro x
    | apply State.setConn_to | apply State.opDone_to | apply State.runStor_to | apply Within.ite
    | refine Within.foldl ?_ fun s x => ?_ | apply Within.iteSnd | split
  all_goals rfl

theorem State.dropPreps_to (o : Nat) (h : Within F z s) (e : subFoot (0x400) F = true) :
    Within F z (s.dropPreps o) := by
  refine h.step ?_ e
  unfold State.dropPreps
  try lift_lets
  with_reducible repeat' first
    | apply Within.refl | apply State.putSto_to
  all_goals rfl

theorem State.dropStor_to (o : Nat) (h : Within F z s) (e : subFoot (0xC01) F = true) :
    Within F z (s.dropStor o) := by
  refine h.step ?_ e
  unfold State.dropStor
  try lift_lets
  with_reducible repeat' first
    | apply Within.refl | apply State.endQueue_to | apply State.setStorQ_to | apply State.dropPreps_to
  all_goals rfl

theorem State.writeStorCtrl_to (o : Nat) (ctrl : Word) (h : Within F z s) (e : subFoot
    (0x40000000000000003FFFC0000000000000000000000000000000000C01) F = true) :
    Within F z (s.writeStorCtrl o ctrl) := by
  refine h.step ?_ e
  unfold State.writeStorCtrl
  try lift_lets
  with_reducible repeat' first
    | apply Within.refl | apply State.noteCq_to | apply State.setRegBits_to | apply State.dropStor_to
    | apply State.writeReg_to | apply State.setReg_to | apply State.noteHalted_to | apply Within.ite
  all_goals rfl

theorem execStorageQueueEnable_within (f : Func) (ctrl : Word) (s : State) :
    WithinOut (0x40000000000000003FFFC0000000000000000000000000000000000C01) s (execStorageQueueEnable f ctrl s) := by
  unfold execStorageQueueEnable
  apply Within.out
  try dsimp -proj -iota only
  with_reducible repeat' first
    | apply Within.refl | (apply Within.ofPair; case e => assumption) | intro x | apply State.onRegion_to
    | apply State.writeStorCtrl_to | apply Within.ite | refine Within.foldl ?_ fun s x => ?_ | apply Within.iteSnd
    | split
  all_goals rfl

theorem State.fetchStor_to (o : Nat) (h : Within F z s) (e : subFoot
    (0x40000000000000003FFFC0008000000000000000000000000000080C01) F = true) :
    Within F z (s.fetchStor o) := by
  refine h.step ?_ e
  unfold State.fetchStor
  try lift_lets
  with_reducible repeat' first
    | apply Within.refl | apply State.fetchRun_to | apply State.setStorQ_to | apply State.setReg_to
    | apply Within.ite
  all_goals rfl

theorem State.ringStor_to (o : Nat) (tail : Word) (h : Within F z s) (e : subFoot
    (0x40000000000000003FFFC0008000000000000000000000000000080C01) F = true) :
    Within F z (s.ringStor o tail) := by
  refine h.step ?_ e
  unfold State.ringStor
  try lift_lets
  with_reducible repeat' first
    | apply Within.refl | apply State.writeReg_to | apply State.fetchStor_to
  all_goals rfl

theorem State.segData_to (row i : Nat) (data : Option Bytes) (h : Within F z s) (e : subFoot (0x400) F = true) :
    Within F z (s.segData row i data) := by
  refine h.step ?_ e
  unfold State.segData
  try lift_lets
  with_reducible repeat' first
    | apply Within.refl | apply State.setPrep_to | split
  all_goals rfl

theorem State.dropHeld_to (o : Nat) (h : Within F z s) (e : subFoot (0x2000000000000000000000000000000000000200480) F
    = true) :
    Within F z (s.dropHeld o) := by
  refine h.step ?_ e
  unfold State.dropHeld
  try lift_lets
  with_reducible repeat' first
    | apply Within.refl | apply State.dropCopy_to | split | apply State.putSto_to
  all_goals rfl

theorem State.listArrived_to (o slot : Nat) (data : Bytes) (h : Within F z s) (e : subFoot (0x401) F = true) :
    Within F z (s.listArrived o slot data) := by
  refine h.step ?_ e
  unfold State.listArrived
  try lift_lets
  with_reducible repeat' first
    | apply Within.refl | apply State.updStor_to
  all_goals rfl

theorem State.failStor_to (o slot : Nat) (h : Within F z s) (e : subFoot (0x401) F = true) :
    Within F z (s.failStor o slot) := by
  refine h.step ?_ e
  unfold State.failStor
  try lift_lets
  with_reducible repeat' first
    | apply Within.refl | apply State.updStor_to
  all_goals rfl

theorem State.register_to (f : Func) (code : Nat) (want : StorDesc) (wantSegs : List Seg) (reads : List ReadBytes) (h : Within F z s) (e : subFoot
    (0x4000400000000006BFFFC000C0000000000000000000000400000C3E01) F = true) :
    Within F z (s.register f code want wantSegs reads) := by
  refine h.step ?_ e
  unfold State.register
  try dsimp -proj -iota only
  with_reducible repeat' first
    | apply Within.refl | assumption | (apply Within.ofPair; case e => assumption) | intro x
    | apply State.prepareCapsule_to | apply State.opDone_to | apply State.setCmds_to | apply State.runStor_to
    | apply Within.ite | refine Within.foldl ?_ fun s x => ?_ | apply Within.iteSnd | split
  all_goals rfl

theorem State.storArrived_to (o slot n : Nat) (data : Bytes) (h : Within F z s) (e : subFoot
    (0x40000000000000003FFFC0008000000000000000000000000000080C01) F = true) :
    Within F z (s.storArrived o slot n data) := by
  refine h.step ?_ e
  unfold State.storArrived
  try lift_lets
  with_reducible repeat' first
    | apply Within.refl | apply State.updStor_to | apply State.issueRead_to | apply Within.ite
    | refine Within.foldl ?_ fun s x => ?_
  all_goals rfl

theorem execStorageDoorbell_within (f : Func) (tail : Word) (s : State) :
    WithinOut (0x40000000000000003FFFC0008000000000000000000000000000080C01) s (execStorageDoorbell f tail s) := by
  unfold execStorageDoorbell
  apply Within.out
  try dsimp -proj -iota only
  with_reducible repeat' first
    | apply Within.refl | (apply Within.ofPair; case e => assumption) | intro x | apply State.onRegion_to
    | apply State.ringStor_to | apply Within.ite | refine Within.foldl ?_ fun s x => ?_ | apply Within.iteSnd
    | split
  all_goals rfl

theorem State.dropConn_to (row : Nat) (c : Conn) (h : Within F z s) (e : subFoot
    (0x2000000004000000000000000000000000000200480) F = true) :
    Within F z (s.dropConn row c) := by
  refine h.step ?_ e
  unfold State.dropConn
  try lift_lets
  with_reducible repeat' first
    | apply Within.refl | apply State.dropStaging_to | apply State.setCells_to | apply State.setConn_to
    | apply State.figureConn_to | apply Within.ite | refine Within.foldl ?_ fun s x => ?_ | apply State.putSto_to
  all_goals rfl

theorem State.enterResync_to (row : Nat) (c : Conn) (seq : Nat) (h : Within F z s) (e : subFoot
    (0x4000000000068000000040000000000000000000000400002C3C80) F = true) :
    Within F z (s.enterResync row c seq) := by
  refine h.step ?_ e
  unfold State.enterResync
  try lift_lets
  with_reducible repeat' first
    | apply Within.refl | apply State.countConn_to | apply State.dropStaging_to | apply State.setConn_to
    | apply State.eventLim_to | apply State.setCell_to | apply Within.ite | refine Within.foldl ?_ fun s x => ?_
  all_goals rfl

theorem State.failConn_to (o row cause type seq : Nat) (h : Within F z s) (e : subFoot
    (0x400040000000000680000000C0000000000000000000000400000C3801) F = true) :
    Within F z (s.failConn o row cause type seq) := by
  refine h.step ?_ e
  unfold State.failConn
  try lift_lets
  with_reducible repeat' first
    | apply Within.refl | apply State.countConn_to | apply State.event_to | apply State.postRecord_to
    | apply State.setCell_to | apply Within.ite
  all_goals rfl

theorem State.takeSegment_to (o row : Nat) (c : Conn) (g : Segment) (host : List (Option Bytes)) (h : Within F z s)
    (e : subFoot (0x400040000000000680000000C0000000000000000000000400002C3C81) F = true) : Within F z (s.takeSegment o row c g host).2.2 := by
  unfold State.takeSegment
  split
  · exact State.countConn_to _ _ _ h (subFoot_trans (by rfl) e)
  · exact h
  · exact State.enterResync_to _ _ _ h (subFoot_trans (by rfl) e)
  · split
    · dsimp only
      exact State.failConn_to _ _ _ _ _ h (subFoot_trans (by rfl) e)
    · dsimp only
      exact State.event_to _ _ (State.countConn_to _ _ _ (State.enterResync_to _ _ _ h (subFoot_trans (by rfl) e)) (subFoot_trans (by rfl) e)) (subFoot_trans (by rfl) e)
    · rename_i hw
      dsimp only
      exact State.setCell_to _ _ _ _ (State.segRun_to _ _ _ _ _ h (subFoot_trans (by rfl) e) _ hw) (subFoot_trans (by rfl) e)

theorem State.settleHeld_to (o fuel : Nat) (h : Within F z s) (e : subFoot
    (0x40004000000000068000000080000000000000000000000400002C3C81) F = true) :
    Within F z (s.settleHeld o fuel) := by
  induction fuel generalizing s o with
  | zero => exact h
  | succ fuel ih =>
    unfold State.settleHeld
    try dsimp -proj -iota only
    with_reducible repeat' first
      | exact h | apply ih | apply Within.refl | apply State.rxWrite_to | apply State.dropCopy_to
      | apply State.postRecord_to | split | apply State.putSto_to
    all_goals exact subFoot_trans (by rfl) e

theorem State.resumeHeld_to (o : Nat) (h : Within F z s) (e : subFoot
    (0x40004000000000068000000080000000000000000000000400002C3C81) F = true) :
    Within F z (s.resumeHeld o) := by
  refine h.step ?_ e
  unfold State.resumeHeld
  try lift_lets
  with_reducible repeat' first
    | apply Within.refl | apply State.settleHeld_to
  all_goals rfl

theorem State.deliverStored_to (n q : Nat) (host : List (Option Bytes)) (h : Within F z s) (e : subFoot
    (0x400040004000000680000000C000400040000043C003C00400002C3E81) F = true) :
    Within F z (s.deliverStored n q host) := by
  refine h.step ?_ e
  unfold State.deliverStored
  try dsimp -proj -iota only
  with_reducible repeat' first
    | apply Within.refl | (apply Within.ofPair; case e => assumption) | apply State.rxWrite_to
    | apply State.setQueue_to | apply State.dropCopy_to | apply State.encryptCopy_to | apply State.applyE_to
    | apply State.takeSegment_to | apply State.discardCopy_to | apply State.resumeHeld_to | apply Within.ite
    | refine Within.foldl ?_ fun s x => ?_ | split | apply State.putSto_to
  all_goals rfl

theorem execStorageSegment_within (f : Func) (vq : Nat) (desc : RingDesc) (host : List ReadBytes) (s : State) :
    WithinOut (0x4000400040000006BFFFC000C000400040000043C003C00400002C3E81) s (execStorageSegment f vq desc host s) := by
  unfold execStorageSegment
  apply Within.out
  try dsimp -proj -iota only
  with_reducible repeat' first
    | apply Within.refl | (apply Within.ofPair; case e => assumption) | intro x | apply State.onRegion_to
    | apply State.prepSegment_to | apply State.vPurgeAll_to | apply State.deliverStored_to | apply Within.ite
    | refine Within.foldl ?_ fun s x => ?_ | apply Within.iteSnd | split | apply State.putNet_to
  all_goals rfl

theorem execCmdRead_within (f : Func) (d : StorDesc) (segs : List Seg) (capsule : List ReadBytes) (s : State) :
    WithinOut (0x4000400000000006BFFFC000C0000000000000000000000400000C3E01) s (execCmdRead f d segs capsule s) := by
  unfold execCmdRead
  apply Within.out
  try lift_lets
  with_reducible repeat' first
    | apply Within.refl | apply State.register_to
  all_goals rfl

theorem State.dropStorage_to (o : Nat) (h : Within F z s) (e : subFoot
    (0x2000000004000000000000000000000000000200C81) F = true) :
    Within F z (s.dropStorage o) := by
  refine h.step ?_ e
  unfold State.dropStorage
  try lift_lets
  with_reducible repeat' first
    | apply Within.refl | apply State.dropHeld_to | apply State.dropStor_to | apply State.dropConn_to
    | apply Within.ite | refine Within.foldl ?_ fun s x => ?_
  all_goals rfl

theorem execConnDel_within (f : Func) (d : StorDesc) (s : State) :
    WithinOut (0x4000400000000006BFFFC000C0000000000000000000000400002C3E81) s (execConnDel f d s) := by
  unfold execConnDel
  apply Within.out
  try dsimp -proj -iota only
  with_reducible repeat' first
    | apply Within.refl | assumption | (apply Within.ofPair; case e => assumption) | intro x
    | apply State.opDone_to | apply State.dropConn_to | apply State.runStor_to | apply Within.ite
    | refine Within.foldl ?_ fun s x => ?_ | apply Within.iteSnd | split
  all_goals rfl

theorem execCmdWrite_within (f : Func) (d : StorDesc) (segs : List Seg) (capsule data : List ReadBytes) (s : State) :
    WithinOut (0x4000400000000006BFFFC000C0000000000000000000000400000C3E01) s (execCmdWrite f d segs capsule data s) := by
  unfold execCmdWrite
  apply Within.out
  try lift_lets
  with_reducible repeat' first
    | apply Within.refl | apply State.register_to
  all_goals rfl

theorem execCmdRetire_within (f : Func) (d : StorDesc) (s : State) :
    WithinOut (0x4000400000000006BFFFC000C0000000000000000000000400002C3E81) s (execCmdRetire f d s) := by
  unfold execCmdRetire
  apply Within.out
  try dsimp -proj -iota only
  with_reducible repeat' first
    | apply Within.refl | assumption | (apply Within.ofPair; case e => assumption) | intro x
    | apply State.dropStaging_to | apply State.opDone_to | apply State.setCmds_to | apply State.runStor_to
    | apply Within.ite | refine Within.foldl ?_ fun s x => ?_ | apply Within.iteSnd | split
  all_goals rfl

theorem State.storData_to (o slot i : Nat) (data : Option Bytes) (h : Within F z s) (e : subFoot (0x401) F = true) :
    Within F z (s.storData o slot i data) := by
  refine h.step ?_ e
  unfold State.storData
  try lift_lets
  with_reducible repeat' first
    | apply Within.refl | apply State.updStor_to
  all_goals rfl

theorem execQuarantineEnd_within (conn cid : Nat) (s : State) :
    WithinOut (0x4000000000000000000000000000000400) s (execQuarantineEnd conn cid s) := by
  unfold execQuarantineEnd
  apply Within.out
  try lift_lets
  with_reducible repeat' first
    | apply Within.refl | apply State.setCmds_to | split | apply State.putSto_to
  all_goals rfl

end Sys2Proof.Machine
end

