-- ==== Sys2Proof/Laws/WithinChannels.lean ====
section
/-! SUPPORT. What the operations of Machine/Channels.lean can touch. -/

namespace Sys2Proof.Machine

variable {F : Nat} {z s : State}

theorem State.slotMsg_to (e0 : Nat × Nat) (ctrl irq : Nat) (h : Within F z s) (e : subFoot (0x80800) F = true) :
    Within F z (s.slotMsg e0 ctrl irq) := by
  refine h.step ?_ e
  unfold State.slotMsg
  try lift_lets
  with_reducible repeat' first
    | apply Within.refl | apply State.queueMsg_to | apply Within.ite
  all_goals rfl

theorem State.slotLevels_to (owner : Nat) (h : Within F z s) (e : subFoot
    (0x6800000000000000000000000000000000000083800) F = true) :
    Within F z (s.slotLevels owner) := by
  refine h.step ?_ e
  unfold State.slotLevels
  try lift_lets
  with_reducible repeat' first
    | apply Within.refl | apply State.level_to | apply Within.ite
  all_goals rfl

theorem State.setChannel_to (ch : Nat) (m : Mailbox) (h : Within F z s) (e : subFoot
    (0x6C00000000000000000000000000000000000083801) F = true) :
    Within F z (s.setChannel ch m) := by
  refine h.step ?_ e
  unfold State.setChannel
  try lift_lets
  with_reducible repeat' first
    | apply Within.refl | apply State.setRegBits_to | apply State.slotMsg_to | apply State.slotLevels_to
    | apply State.setCell_to | apply Within.ite | apply State.putRng_to
  all_goals rfl

theorem State.endActive_to (id st : Nat) (h : Within F z s) (e : subFoot
    (0x800000000000000000000000000000000000001000) F = true) :
    Within F z (s.endActive id st) := by
  refine h.step ?_ e
  unfold State.endActive
  try lift_lets
  with_reducible repeat' first
    | apply Within.refl | apply State.bump_to | apply State.setSrc_to | apply Within.ite | apply State.putRng_to
  all_goals rfl

theorem State.flushStale_to (o slot : Nat) (val : Word) (h : Within F z s) (e : subFoot
    (0x6C00000000000000000000000000000000000083801) F = true) :
    Within F z (s.flushStale o slot val) := by
  refine h.step ?_ e
  unfold State.flushStale
  try lift_lets
  with_reducible repeat' first
    | apply Within.refl | apply State.setChannel_to | split
  all_goals rfl

theorem State.onSlot_to (g : Func) (act : Nat → State) (h : Within F z s)
    (k : ∀ o, Within F z (act o)) : Within F z (s.onSlot g act) := by
  unfold State.onSlot
  split
  · exact h
  · exact k _

theorem execFlush_within (f : Func) (slot : RingNo) (val : Word) (s : State) :
    WithinOut (0x6C00000000000000000000000000000000000083801) s (execFlush f slot val s) := by
  unfold execFlush
  apply Within.out
  try dsimp -proj -iota only
  with_reducible repeat' first
    | apply Within.refl | (apply Within.ofPair; case e => assumption) | intro x | apply State.flushStale_to
    | apply State.onSlot_to | apply Within.ite | refine Within.foldl ?_ fun s x => ?_ | apply Within.iteSnd | split
  all_goals rfl

theorem State.completeBy_to (ctx id : Nat) (h : Within F z s) (e : subFoot
    (0x4000000000068000000000000000000000000000000400000C3800) F = true) :
    Within F z (s.completeBy ctx id) := by
  refine h.step ?_ e
  unfold State.completeBy
  try lift_lets
  with_reducible repeat' first
    | apply Within.refl | apply State.deliverFor_to | apply State.inc_to | apply State.endActive_to
    | apply State.eventLim_to | apply Within.ite
  all_goals rfl

theorem execComplete_within (c : EvCtx) (id : Nat) (s : State) :
    WithinOut (0x4000000000068000000000000000000000000000000400000C3800) s (execComplete c id s) := by
  unfold execComplete
  apply Within.out
  try lift_lets
  with_reducible repeat' first
    | apply Within.refl | apply State.completeBy_to | apply Within.ite
  all_goals rfl

theorem State.latch_to (o slot : Nat) (x : Notice) (h : Within F z s) (e : subFoot (0x1) F = true) :
    Within F z (s.latch o slot x) := by
  refine h.step ?_ e
  unfold State.latch
  try lift_lets
  with_reducible repeat' first
    | apply Within.refl | apply State.setReg_to
  all_goals rfl

theorem State.latchHead_to (o slot : Nat) (h : Within F z s) (e : subFoot (0x1) F = true) :
    Within F z (s.latchHead o slot) := by
  refine h.step ?_ e
  unfold State.latchHead
  try lift_lets
  with_reducible repeat' first
    | apply Within.refl | apply State.latch_to | apply State.setRegBits_to | split
  all_goals rfl

theorem execReceiveLatch_within (f : Func) (slot : RingNo) (s : State) :
    WithinOut (0x80001) s (execReceiveLatch f slot s) := by
  unfold execReceiveLatch
  apply Within.out
  try dsimp -proj -iota only
  with_reducible repeat' first
    | apply Within.refl | (apply Within.ofPair; case e => assumption) | intro x | apply State.latchHead_to
    | apply State.emit_to | apply State.onSlot_to | apply Within.ite | refine Within.foldl ?_ fun s x => ?_
    | apply Within.iteSnd | split
  all_goals rfl

theorem State.zeroStages_to (o : Nat) (h : Within F z s) (e : subFoot (0x1) F = true) :
    Within F z (s.zeroStages o) := by
  refine h.step ?_ e
  unfold State.zeroStages
  try lift_lets
  with_reducible repeat' first
    | apply Within.refl | apply State.setReg_to | apply Within.ite | refine Within.foldl ?_ fun s x => ?_
  all_goals rfl

theorem State.setPend_to (master id : Nat) (may : Bool) (h : Within F z s) (e : subFoot
    (0x4000000000068000000000000000000000000000000400000C3800) F = true) :
    Within F z (s.setPend master id may) := by
  refine h.step ?_ e
  unfold State.setPend
  try lift_lets
  with_reducible repeat' first
    | apply Within.refl | apply State.edge_to | apply State.inc_to | apply State.eventLim_to | apply Within.ite
  all_goals rfl

theorem State.lockBinding_to (master : Nat) (h : Within F z s) (e : subFoot
    (0x400000000006C000000000000000000000000000000400000C3800) F = true) :
    Within F z (s.lockBinding master) := by
  refine h.step ?_ e
  unfold State.lockBinding
  try lift_lets
  with_reducible repeat' first
    | apply Within.refl | apply State.setOb_to | apply State.event_to | apply Within.ite
  all_goals rfl

theorem bindingLockRule_act {u : State} (w : Via) (x : Nat) (h : Within F z u) (e : subFoot
    (0x400000000006C000000000000000000000000000000400000C3800) F = true) :
    Within F z ((bindingLockRule ).act u w x).state := by
  refine h.step ?_ e
  unfold bindingLockRule
  try dsimp only
  try lift_lets
  with_reducible repeat' first
    | apply Within.refl | apply Within.ended | apply Within.later | apply Within.iteState
    | apply State.lockBinding_to | apply Within.ite | split
  all_goals rfl

theorem State.claimOf_to (ctx : Nat) (h : Within F z s) (e : subFoot (0x6800000000000000000000000000000000000083800)
    F = true) :
    Within F z (s.claimOf ctx).2 := by
  refine h.step ?_ e
  unfold State.claimOf
  try lift_lets
  with_reducible repeat' first
    | apply Within.refl | apply State.inc_to | apply State.setSrc_to | apply State.deliver_to | split
    | apply State.putRng_to
  all_goals rfl

theorem execClaim_within (c : EvCtx) (s : State) :
    WithinOut (0x6800000000000000000000000000000000000083800) s (execClaim c s) := by
  unfold execClaim
  apply Within.out
  try dsimp -proj -iota only
  with_reducible repeat' first
    | apply Within.refl | (apply Within.ofPair; case e => assumption) | apply State.claimOf_to
    | apply State.emit_to | apply Within.ite | refine Within.foldl ?_ fun s x => ?_ | split
  all_goals rfl

theorem execSourceAssert_within (id : Fin 4096) (s : State) :
    WithinOut (0x6800000000000000000000000000000000000083800) s (execSourceAssert id s) := by
  unfold execSourceAssert
  apply Within.out
  try lift_lets
  with_reducible repeat' first
    | apply Within.refl | apply State.edge_to | apply State.levelOn_to | apply Within.ite
  all_goals rfl

theorem State.noteReset_to (ch n : Nat) (h : Within F z s) (e : subFoot
    (0x4000000000068000000000000000000000000000000400000C3801) F = true) :
    Within F z (s.noteReset ch n) := by
  refine h.step ?_ e
  unfold State.noteReset
  try lift_lets
  with_reducible repeat' first
    | apply Within.refl | apply State.setRegBits_to | apply State.slotMsg_to | apply State.event_to
    | apply State.slotLevels_to
  all_goals rfl

theorem execSetPending_within (f : Func) (id : Nat) (s : State) :
    WithinOut (0x4000000000068000000000000000000000000000000400000C3800) s (execSetPending f id s) := by
  unfold execSetPending
  apply Within.out
  try dsimp -proj -iota only
  with_reducible repeat' first
    | apply Within.refl | apply State.setPend_to | apply Within.ite | split
  all_goals rfl

theorem State.emptyContext_to (ctx : Nat) (h : Within F z s) (e : subFoot
    (0x6800000000000000000000000000000000000083800) F = true) :
    Within F z (s.emptyContext ctx) := by
  refine h.step ?_ e
  unfold State.emptyContext
  try lift_lets
  with_reducible repeat' first
    | apply Within.refl | apply State.endActive_to | apply State.deliver_to | apply Within.ite
    | refine Within.foldl ?_ fun s x => ?_ | apply State.putRng_to
  all_goals rfl

theorem State.sendCommit_to (o slot : Nat) (val : Word) (h : Within F z s) (e : subFoot
    (0x400000000006C000000000000000000000000000000400000C3801) F = true) :
    Within F z (s.sendCommit o slot val) := by
  refine h.step ?_ e
  unfold State.sendCommit
  try dsimp -proj -iota only
  with_reducible repeat' first
    | apply Within.refl | apply State.setChannel_to | apply State.setRegBits_to | apply State.bump_to
    | apply State.eventLim_to | apply State.slotMsg_to | apply State.slotLevels_to | apply Within.ite | split
  all_goals rfl

theorem execSendCommit_within (f : Func) (slot : RingNo) (val : Word) (s : State) :
    WithinOut (0x400000000006C000000000000000000000000000000400000C3801) s (execSendCommit f slot val s) := by
  unfold execSendCommit
  apply Within.out
  try dsimp -proj -iota only
  with_reducible repeat' first
    | apply Within.refl | (apply Within.ofPair; case e => assumption) | intro x | apply State.sendCommit_to
    | apply State.onSlot_to | apply Within.ite | refine Within.foldl ?_ fun s x => ?_ | apply Within.iteSnd | split
  all_goals rfl

theorem State.popHead_to (o slot : Nat) (val : Word) (h : Within F z s) (e : subFoot
    (0x6C00000000000000000000000000000000000083801) F = true) :
    Within F z (s.popHead o slot val) := by
  refine h.step ?_ e
  unfold State.popHead
  try dsimp -proj -iota only
  with_reducible repeat' first
    | apply Within.refl | apply State.setChannel_to | apply State.setRegBits_to | apply Within.ite | split
  all_goals rfl

theorem execBindingLock_within (v : Via) (data : Bytes) (s : State) :
    WithinOut (0x400040003FFFC006FFFFC00000000000000000000007C00680002C3851) s (execBindingLock v data s) := by
  unfold execBindingLock
  apply Within.out
  try lift_lets
  with_reducible repeat' first
    | apply Within.refl | assumption | (intro u x hu; apply bindingLockRule_act)
    | (intro x; refine Within.cut (0x400040003FFFC006FFFFC00000000000000000000007C00680002C3851) s x ?_ ?_; rotate_left; intro hx; clear_value x)
    | apply bindingLockRule_act | apply State.writeItem_to | apply Within.ite
  all_goals rfl

theorem execPop_within (f : Func) (slot : RingNo) (val : Word) (s : State) :
    WithinOut (0x6C00000000000000000000000000000000000083801) s (execPop f slot val s) := by
  unfold execPop
  apply Within.out
  try dsimp -proj -iota only
  with_reducible repeat' first
    | apply Within.refl | (apply Within.ofPair; case e => assumption) | intro x | apply State.popHead_to
    | apply State.onSlot_to | apply Within.ite | refine Within.foldl ?_ fun s x => ?_ | apply Within.iteSnd | split
  all_goals rfl

theorem State.purgeChannel_to (ch : Nat) (h : Within F z s) (e : subFoot
    (0x400000000006C000000000000000000000000000000400000C3801) F = true) :
    Within F z (s.purgeChannel ch) := by
  refine h.step ?_ e
  unfold State.purgeChannel
  try lift_lets
  with_reducible repeat' first
    | apply Within.refl | apply State.setChannel_to | apply State.bump_to | apply State.slotMsg_to
    | apply State.event_to | apply State.bumpReg_to | apply Within.ite
  all_goals rfl

theorem State.resetEnds_to (owners : List Nat) (h : Within F z s) (e : subFoot
    (0x400000000006C000000000000000000000000000000400000C3801) F = true) :
    Within F z (s.resetEnds owners) := by
  refine h.step ?_ e
  unfold State.resetEnds
  try lift_lets
  with_reducible repeat' first
    | apply Within.refl | apply State.zeroStages_to | apply State.noteReset_to | apply State.purgeChannel_to
    | apply Within.ite | refine Within.foldl ?_ fun s x => ?_ | apply State.putRng_to
  all_goals rfl

theorem execLevelWithdrawn_within (id : Fin 4096) (s : State) :
    WithinOut (0x6800000000000000000000000000000000000083800) s (execLevelWithdrawn id s) := by
  unfold execLevelWithdrawn
  apply Within.out
  try lift_lets
  with_reducible repeat' first
    | apply Within.refl | apply State.levelOff_to | apply Within.ite
  all_goals rfl

end Sys2Proof.Machine
end

