-- ==== Sys2Proof/Laws/WithinDmaEngine.lean ====
section
/-! SUPPORT. What the operations of Machine/DmaEngine.lean can touch. -/

namespace Sys2Proof.Machine

variable {F : Nat} {z s : State}

theorem State.setDma_to (ch : Nat) (d : Option Dma) (h : Within F z s) (e : subFoot (0x8000) F = true) :
    Within F z (s.setDma ch d) := by
  refine h.step ?_ e
  unfold State.setDma
  try lift_lets
  with_reducible repeat' first
    | apply Within.refl | apply State.putDma_to
  all_goals rfl

theorem State.writeBuf_to (h0 off : Nat) (bs : Bytes) (h : Within F z s) (e : subFoot (0x200080) F = true) :
    Within F z (s.writeBuf h0 off bs) := by
  refine h.step ?_ e
  unfold State.writeBuf
  try lift_lets
  with_reducible repeat' first
    | apply Within.refl | apply State.setBuf_to
  all_goals rfl

theorem State.writeSpace_to (ch space addr : Nat) (bs : Bytes) (h : Within F z s) (e : subFoot
    (0x4000000000000000000000008000000000000000000000000000280086) F = true) :
    Within F z (s.writeSpace ch space addr bs) := by
  refine h.step ?_ e
  unfold State.writeSpace
  try lift_lets
  with_reducible repeat' first
    | apply Within.refl | apply State.dmaWrite_to | apply State.writeBuf_to | apply Within.ite
    | apply State.putLoop_to | apply State.putCoreMem_to
  all_goals rfl

theorem State.sendWrite_to (ch : Nat) (d : Dma) (h : Within F z s) (e : subFoot
    (0x4000000000000000000000008000000000000000000000000000288086) F = true) :
    Within F z (s.sendWrite ch d) := by
  refine h.step ?_ e
  unfold State.sendWrite
  try lift_lets
  with_reducible repeat' first
    | apply Within.refl | apply State.setDma_to | apply State.writeSpace_to | apply Within.ite
  all_goals rfl

theorem State.onDma_to (ch : Nat) (f : State → Dma → State) (h : Within F z s)
    (k : ∀ d, Within F z (f s d)) : Within F z (s.onDma ch f) := by
  unfold State.onDma
  split
  · exact k _
  · exact h

theorem State.endDma_to (ch status result cause : Nat) (h : Within F z s) (e : subFoot
    (0x4000000000078000000000000000000000000000000400000CB801) F = true) :
    Within F z (s.endDma ch status result cause) := by
  refine h.step ?_ e
  unfold State.endDma
  try lift_lets
  with_reducible repeat' first
    | apply Within.refl | apply State.edge_to | apply State.inc_to | apply State.setRegBits_to
    | apply State.setDma_to | apply State.eventLim_to | apply State.setReg_to | apply Within.ite
  all_goals rfl

theorem execDmaDone_within (ch : Channel) (s : State) :
    WithinOut (0x4000000000078000000000000000000000000000000400000CB801) s (execDmaDone ch s) := by
  unfold execDmaDone
  apply Within.out
  try dsimp -proj -iota only
  with_reducible repeat' first
    | apply Within.refl | (apply Within.ofPair; case e => assumption) | intro x | apply State.endQueue_to
    | apply State.onDma_to | apply State.endDma_to | apply Within.ite | refine Within.foldl ?_ fun s x => ?_
    | apply Within.iteSnd | split
  all_goals rfl

theorem stationChannelsRule_act {u : State} (w : Via) (x : Nat) (h : Within F z u) (e : subFoot
    (0x1000000000000000000000000000000000000000000) F = true) :
    Within F z ((stationChannelsRule ).act u w x).state := by
  refine h.step ?_ e
  unfold stationChannelsRule
  try dsimp only
  try lift_lets
  with_reducible repeat' first
    | apply Within.refl | assumption | (apply Within.ofPair; case e => assumption) | apply Within.ended
    | apply Within.later | apply Within.iteState
    | (intro x; refine Within.cut (0x1000000000000000000000000000000000000000000) u x ?_ ?_; rotate_left; intro hx; clear_value x)
    | (intro x; clear_value x) | apply State.setOb_to | apply Within.ite | refine Within.foldl ?_ fun s x => ?_
    | split
  all_goals rfl

theorem State.readAccess_to (ch : Nat) (d : Dma) (dst : Bool) (h : Within F z s) (e : subFoot
    (0x40000000000000003FFFC0008000000000000000000000000000088800) F = true) :
    Within F z (s.readAccess ch d dst) := by
  refine h.step ?_ e
  unfold State.readAccess
  try lift_lets
  with_reducible repeat' first
    | apply Within.refl | apply State.setDma_to | apply State.issueRead_to | apply Within.ite
  all_goals rfl

theorem State.writeAccess_to (ch : Nat) (d : Dma) (h : Within F z s) (e : subFoot
    (0x4000000000000001000000008000000000000000000000000000288086) F = true) :
    Within F z (s.writeAccess ch d) := by
  refine h.step ?_ e
  unfold State.writeAccess
  try lift_lets
  with_reducible repeat' first
    | apply Within.refl | apply State.sendWrite_to | apply State.bump_to | apply State.setDma_to
    | apply State.writeSpace_to | apply Within.ite
  all_goals rfl

theorem State.dmaCycle_to (h : Within F z s) (e : subFoot
    (0x40000000000000013FFFC0008000000000000000000000000000288886) F = true) :
    Within F z (s.dmaCycle) := by
  refine h.step ?_ e
  unfold State.dmaCycle
  try dsimp -proj -iota only
  with_reducible repeat' first
    | apply Within.refl | (apply Within.ofPair; case e => assumption) | intro x | apply State.readAccess_to
    | apply State.setDma_to | apply State.writeAccess_to | apply State.onDma_to | apply Within.ite
    | refine Within.foldl ?_ fun s x => ?_ | apply Within.iteSnd | split | apply State.putDma_to
  all_goals rfl

theorem execStationChannelsWrite_within (v : Via) (data : Bytes) (s : State) :
    WithinOut (0x400040003FFFC007BFFFC00000000000000000000007C00680002C3851) s (execStationChannelsWrite v data s) := by
  unfold execStationChannelsWrite
  apply Within.out
  try lift_lets
  with_reducible repeat' first
    | apply Within.refl | assumption | (intro u x hu; apply stationChannelsRule_act)
    | (intro x; refine Within.cut (0x400040003FFFC007BFFFC00000000000000000000007C00680002C3851) s x ?_ ?_; rotate_left; intro hx; clear_value x)
    | apply stationChannelsRule_act | apply State.writeItem_to | apply Within.ite
  all_goals rfl

theorem State.cutDma_to (ch status cause : Nat) (h : Within F z s) (e : subFoot
    (0x40004000000000078000000080000000000000000000000400002CB887) F = true) :
    Within F z (s.cutDma ch status cause) := by
  refine h.step ?_ e
  unfold State.cutDma
  try dsimp -proj -iota only
  with_reducible repeat' first
    | apply Within.refl | (apply Within.ofPair; case e => assumption) | intro x | apply State.endQueue_to
    | apply State.sendWrite_to | apply State.onDma_to | apply State.endDma_to | apply Within.ite
    | refine Within.foldl ?_ fun s x => ?_ | apply Within.iteSnd | split
  all_goals rfl

theorem State.cutAll_to (status cause : Nat) (p : Nat → Dma → Bool) (h : Within F z s) (e : subFoot
    (0x40004000000000078000000080000000000000000000000400002CB887) F = true) :
    Within F z (s.cutAll status cause p) := by
  refine h.step ?_ e
  unfold State.cutAll
  try dsimp -proj -iota only
  with_reducible repeat' first
    | apply Within.refl | apply State.cutDma_to | apply Within.ite | refine Within.foldl ?_ fun s x => ?_ | split
  all_goals rfl

theorem State.dmaStationMoved_to (h : Within F z s) (e : subFoot
    (0x40004000000000078000000080000000000000000000000400002CB887) F = true) :
    Within F z (s.dmaStationMoved) := by
  refine h.step ?_ e
  unfold State.dmaStationMoved
  try lift_lets
  with_reducible repeat' first
    | apply Within.refl | apply State.cutAll_to
  all_goals rfl

theorem State.dmaBuffer_to (ch : Nat) (d : Dma) (h : Within F z s)
    (e : subFoot (0x4000000000068000000000000000000000000000000400002C3881) F = true) : WithinOpt F z (s.dmaBuffer ch d) := by
  unfold State.dmaBuffer
  intro t ht
  dsimp only at ht
  split at ht
  · cases ht
    exact h
  · split at ht
    · rename_i hb
      cases ht
      exact State.noteHolder_to _ _ (State.setReg_to _ _ _ (Within.ofPair hb (State.takeBuf_to _ _ h (subFoot_trans (by rfl) e))) (subFoot_trans (by rfl) e)) (subFoot_trans (by rfl) e)
    · cases ht

theorem State.dmaThreadGone_to (n : Nat) (h : Within F z s) (e : subFoot
    (0x40004000000000078000000080000000000000000000000400002CB887) F = true) :
    Within F z (s.dmaThreadGone n) := by
  refine h.step ?_ e
  unfold State.dmaThreadGone
  try lift_lets
  with_reducible repeat' first
    | apply Within.refl | apply State.cutAll_to
  all_goals rfl

theorem State.dmaMay_to (master ch off : Nat) (h : Within F z s) (e : subFoot
    (0x4000000000078000000000000000000000000000000600000C3800) F = true) :
    Within F z (s.dmaMay master ch off).2 := by
  refine h.step ?_ e
  unfold State.dmaMay
  try dsimp -proj -iota only
  with_reducible repeat' first
    | apply Within.refl | apply State.inc_to | apply State.lapse_to | apply State.eventLim_to
    | apply State.event_to | apply Within.ite | split
  all_goals rfl

theorem State.dmaAccept_to (master ch : Nat) (d : Dma) (h : Within F z s) (e : subFoot
    (0x4000000000078000000000000000000000000000000400002CB881) F = true) :
    Within F z (s.dmaAccept master ch d) := by
  refine h.step ?_ e
  unfold State.dmaAccept
  try dsimp -proj -iota only
  with_reducible repeat' first
    | apply Within.refl | assumption | (apply Within.ofPair; case e => assumption)
    | (apply Within.ofOpt; case e => assumption) | intro x | apply State.setRegBits_to | apply State.bump_to
    | apply State.dmaBuffer_to | apply State.setDma_to | apply State.setReg_to | apply State.endDma_to
    | apply Within.ite | refine Within.foldl ?_ fun s x => ?_ | apply Within.iteSnd | split
  all_goals rfl

theorem State.dmaStart_to (master ch mode : Nat) (h : Within F z s) (e : subFoot
    (0x4000000000078000000000000000000000000000000600002CB881) F = true) :
    Within F z (s.dmaStart master ch mode) := by
  refine h.step ?_ e
  unfold State.dmaStart
  try dsimp -proj -iota only
  with_reducible repeat' first
    | apply Within.refl | (apply Within.ofPair; case e => assumption) | apply State.setRegBits_to
    | apply State.dmaMay_to | apply State.dmaAccept_to | apply Within.ite | refine Within.foldl ?_ fun s x => ?_
    | split
  all_goals rfl

theorem State.dmaHostLost_to (hp : Nat) (h : Within F z s) (e : subFoot
    (0x40004000000000078000000080000000000000000000000400002CB887) F = true) :
    Within F z (s.dmaHostLost hp) := by
  refine h.step ?_ e
  unfold State.dmaHostLost
  try lift_lets
  with_reducible repeat' first
    | apply Within.refl | apply State.cutAll_to
  all_goals rfl

theorem State.dmaData_to (ch : Nat) (dst : Bool) (off : Nat) (data : Bytes) (h : Within F z s) (e : subFoot (0x8000)
    F = true) :
    Within F z (s.dmaData ch dst off data) := by
  refine h.step ?_ e
  unfold State.dmaData
  try dsimp -proj -iota only
  with_reducible repeat' first
    | apply Within.refl | (apply Within.ofPair; case e => assumption) | intro x | apply State.setDma_to
    | apply State.onDma_to | apply Within.ite | refine Within.foldl ?_ fun s x => ?_ | apply Within.iteSnd | split
  all_goals rfl

theorem execCopy_within (master : Nat) (ch : Channel) (host : Bool) (s : State) :
    WithinOut (0x4000000000078000000000000000000000000000000600002CB881) s (execCopy master ch host s) := by
  unfold execCopy
  apply Within.out
  try lift_lets
  with_reducible repeat' first
    | apply Within.refl | apply State.dmaStart_to | apply Within.ite
  all_goals rfl

theorem State.dmaAbort_to (master ch : Nat) (h : Within F z s) (e : subFoot
    (0x40004000000000078000000080000000000000000000000600002CB887) F = true) :
    Within F z (s.dmaAbort master ch) := by
  refine h.step ?_ e
  unfold State.dmaAbort
  try dsimp -proj -iota only
  with_reducible repeat' first
    | apply Within.refl | (apply Within.ofPair; case e => assumption) | apply State.dmaMay_to
    | apply State.cutDma_to | apply Within.ite | refine Within.foldl ?_ fun s x => ?_ | split
  all_goals rfl

theorem execFill_within (master : Nat) (ch : Channel) (s : State) :
    WithinOut (0x4000000000078000000000000000000000000000000600002CB881) s (execFill master ch s) := by
  unfold execFill
  apply Within.out
  try lift_lets
  with_reducible repeat' first
    | apply Within.refl | apply State.dmaStart_to | apply Within.ite
  all_goals rfl

theorem execCompare_within (master : Nat) (ch : Channel) (hostSrc hostDst : Bool) (s : State) :
    WithinOut (0x4000000000078000000000000000000000000000000600002CB881) s (execCompare master ch hostSrc hostDst s) := by
  unfold execCompare
  apply Within.out
  try lift_lets
  with_reducible repeat' first
    | apply Within.refl | apply State.dmaStart_to | apply Within.ite
  all_goals rfl

theorem execDmaAbort_within (master : Nat) (ch : Channel) (s : State) :
    WithinOut (0x40004000000000078000000080000000000000000000000600002CB887) s (execDmaAbort master ch s) := by
  unfold execDmaAbort
  apply Within.out
  try lift_lets
  with_reducible repeat' first
    | apply Within.refl | apply State.dmaAbort_to
  all_goals rfl

end Sys2Proof.Machine
end

