-- ==== Sys2Proof/Laws/WithinRings.lean ====
section
/-! SUPPORT. What the operations of Machine/Rings.lean can touch. -/

namespace Sys2Proof.Machine

variable {F : Nat} {z s : State}

theorem State.txArrived_to (o r i : Nat) (data : Option Bytes) (h : Within F z s) (e : subFoot (0x1000) F = true) :
    Within F z (s.txArrived o r i data) := by
  refine h.step ?_ e
  unfold State.txArrived
  try dsimp -proj -iota only
  with_reducible repeat' first
    | apply Within.refl | apply State.setRing_to | apply Within.ite | split
  all_goals rfl

theorem State.dropDescs_to (o : Nat) (tx : Bool) (r : Nat) (h : Within F z s) (e : subFoot
    (0x4000000000000000000000008000000000000000000000000000281881) F = true) :
    Within F z (s.dropDescs o tx r) := by
  refine h.step ?_ e
  unfold State.dropDescs
  try lift_lets
  with_reducible repeat' first
    | apply Within.refl | apply State.endQueue_to | apply State.settleRing_to | apply State.setRing_to
    | apply Within.ite | apply State.putNet_to
  all_goals rfl

theorem State.writeRingCtrl_to (o : Nat) (tx : Bool) (r : Nat) (ctrl : Word) (h : Within F z s) (e : subFoot
    (0x40000000000000003FFFC0008000000000000000000000000000281881) F = true) :
    Within F z (s.writeRingCtrl o tx r ctrl) := by
  refine h.step ?_ e
  unfold State.writeRingCtrl
  try lift_lets
  with_reducible repeat' first
    | apply Within.refl | apply State.setRegBits_to | apply State.dropDescs_to | apply State.noteFull_to
    | apply State.writeReg_to | apply State.setReg_to | apply State.setRing_to | apply State.noteHalted_to
    | apply Within.ite
  all_goals rfl

theorem State.ringTail_to (o : Nat) (tx : Bool) (r : Nat) (tail : Word) (h : Within F z s) (e : subFoot
    (0x40000000000000003FFFC0008000000000000000000000000000080801) F = true) :
    Within F z (s.ringTail o tx r tail) := by
  refine h.step ?_ e
  unfold State.ringTail
  try lift_lets
  with_reducible repeat' first
    | apply Within.refl | apply State.fetchRun_to | apply State.setReg_to | apply Within.ite
  all_goals rfl

theorem execRingDoorbell_within (f : Func) (tx : Bool) (r : RingNo) (tail : Word) (s : State) :
    WithinOut (0x40000000000000003FFFC0008000000000000000000000000000080801) s (execRingDoorbell f tx r tail s) := by
  unfold execRingDoorbell
  apply Within.out
  try dsimp -proj -iota only
  with_reducible repeat' first
    | apply Within.refl | (apply Within.ofPair; case e => assumption) | intro x | apply State.onRegion_to
    | apply State.ringTail_to | apply Within.ite | refine Within.foldl ?_ fun s x => ?_ | apply Within.iteSnd
    | split
  all_goals rfl

theorem State.dropPush_to (o r cause : Nat) (h : Within F z s) (e : subFoot
    (0x4000000000068000000000000000000000000000000400000C3801) F = true) :
    Within F z (s.dropPush o r cause) := by
  refine h.step ?_ e
  unfold State.dropPush
  try lift_lets
  with_reducible repeat' first
    | apply Within.refl | apply State.eventLim_to | apply State.bumpReg_to
  all_goals rfl

theorem State.push_to (o : Nat) (data : Bytes) (h : Within F z s) (e : subFoot
    (0x40004000000000068000000080000000000000000000000400002C3881) F = true) :
    Within F z (s.push o data) := by
  refine h.step ?_ e
  unfold State.push
  try dsimp -proj -iota only
  with_reducible repeat' first
    | apply Within.refl | (apply Within.ofPair; case e => assumption) | apply State.owePush_to
    | apply State.takeBuf_to | apply State.dropPush_to | apply State.noteBusy_to | apply State.setRing_to
    | apply Within.ite | refine Within.foldl ?_ fun s x => ?_ | split | apply State.putNet_to
  all_goals rfl

theorem State.beginRead_to (o r : Nat) (h : Within F z s) (e : subFoot
    (0x40000000000000003FFFC0008000000000000000000000000000081801) F = true) :
    Within F z (s.beginRead o r) := by
  refine h.step ?_ e
  unfold State.beginRead
  try dsimp -proj -iota only
  with_reducible repeat' first
    | apply Within.refl | apply State.dropDesc_to | apply State.setReg_to | apply State.issueAll_to
    | apply State.setRing_to | apply Within.ite | refine Within.foldl ?_ fun s x => ?_ | split
  all_goals rfl

theorem execRingModTimer_within (f : Func) (tx : Bool) (r : RingNo) (s : State) :
    WithinOut (0x81800) s (execRingModTimer f tx r s) := by
  unfold execRingModTimer
  apply Within.out
  try dsimp -proj -iota only
  with_reducible repeat' first
    | apply Within.refl | (apply Within.ofPair; case e => assumption) | intro x | apply State.onRegion_to
    | apply State.ringMsg_to | apply Within.ite | refine Within.foldl ?_ fun s x => ?_ | apply Within.iteSnd
    | split
  all_goals rfl

theorem State.hostFrame_to (o r : Nat) (w : Waiting) (h : Within F z s) (e : subFoot (0x200081) F = true) :
    Within F z (s.hostFrame o r w) := by
  refine h.step ?_ e
  unfold State.hostFrame
  try lift_lets
  with_reducible repeat' first
    | apply Within.refl | apply State.noteBusy_to | apply State.putNet_to
  all_goals rfl

theorem State.readDone_to (o r n : Nat) (waits : Bool) (h : Within F z s) (e : subFoot
    (0x4000000000000000000000008000000000000000000000000000281881) F = true) :
    Within F z (s.readDone o r n waits) := by
  refine h.step ?_ e
  unfold State.readDone
  try lift_lets
  with_reducible repeat' first
    | apply Within.refl | apply State.descsRead_to | apply State.settleRing_to
  all_goals rfl

theorem State.endRead_to (o r : Nat) (x : TxRead) (h : Within F z s) (e : subFoot
    (0x4000000000000000000000008000000000000000000000000000281881) F = true) :
    Within F z (s.endRead o r x) := by
  refine h.step ?_ e
  unfold State.endRead
  try lift_lets
  with_reducible repeat' first
    | apply Within.refl | apply State.setRing_to | apply State.oweFrame_to | apply State.hostFrame_to
    | apply State.readDone_to | split
  all_goals rfl

theorem execRingEnable_within (f : Func) (tx : Bool) (r : RingNo) (ctrl : Word) (s : State) :
    WithinOut (0x40000000000000003FFFC0008000000000000000000000000000281881) s (execRingEnable f tx r ctrl s) := by
  unfold execRingEnable
  apply Within.out
  try dsimp -proj -iota only
  with_reducible repeat' first
    | apply Within.refl | (apply Within.ofPair; case e => assumption) | intro x | apply State.writeRingCtrl_to
    | apply State.onRegion_to | apply Within.ite | refine Within.foldl ?_ fun s x => ?_ | apply Within.iteSnd
    | split
  all_goals rfl

theorem execRingDisable_within (f : Func) (tx : Bool) (r : RingNo) (ctrl : Word) (s : State) :
    WithinOut (0x40000000000000003FFFC0008000000000000000000000000000281881) s (execRingDisable f tx r ctrl s) := by
  unfold execRingDisable
  apply Within.out
  try dsimp -proj -iota only
  with_reducible repeat' first
    | apply Within.refl | (apply Within.ofPair; case e => assumption) | intro x | apply State.writeRingCtrl_to
    | apply State.onRegion_to | apply Within.ite | refine Within.foldl ?_ fun s x => ?_ | apply Within.iteSnd
    | split
  all_goals rfl

theorem execHostFrameRead_within (f : Func) (r : RingNo) (descs : List RingDesc) (data : List ReadBytes) (how : FrameRead) (s : State) :
    WithinOut (0x40000000000000003FFFC0008000000000000000000000000000281881) s (execHostFrameRead f r descs data how s) := by
  unfold execHostFrameRead
  apply Within.out
  try dsimp -proj -iota only
  with_reducible repeat' first
    | apply Within.refl | (apply Within.ofPair; case e => assumption) | intro x | apply State.onRegion_to
    | apply State.beginRead_to | apply State.endRead_to | apply Within.ite | refine Within.foldl ?_ fun s x => ?_
    | apply Within.iteSnd | split
  all_goals rfl

theorem execInlinePush_within (f : Func) (off : Nat) (data : Bytes) (s : State) :
    WithinOut (0x40004000000000068000000080000000000000000000000400002C3881) s (execInlinePush f off data s) := by
  unfold execInlinePush
  apply Within.out
  try dsimp -proj -iota only
  with_reducible repeat' first
    | apply Within.refl | (apply Within.ofPair; case e => assumption) | intro x | apply State.onRegion_to
    | apply State.push_to | apply Within.ite | refine Within.foldl ?_ fun s x => ?_ | apply Within.iteSnd | split
  all_goals rfl

end Sys2Proof.Machine
end

