-- ==== Sys2Proof/Laws/WithinHost.lean ====
section
/-! SUPPORT. What the operations of Machine/Host.lean can touch. -/

namespace Sys2Proof.Machine

variable {F : Nat} {z s : State}

theorem State.resetRegs_to (o : Nat) (h : Within F z s) (e : subFoot (0x1) F = true) :
    Within F z (s.resetRegs o) := by
  unfold State.resetRegs
  refine Within.foldl (h.step (State.filterRegs_within _ _) e) fun u c => ?_
  dsimp only
  refine Within.ite (State.setRegBits_to _ _ _ _ _ ?_ e) ?_ <;>
    exact Within.ite (State.setRegBits_to _ _ _ _ _ (.refl _ _) e) (.refl _ _)

theorem State.resetRings_to (o : Nat) (h : Within F z s) (e : subFoot (0x201280) F = true) :
    Within F z (s.resetRings o) :=
  h.step ⟨rfl, fun p e => by cases p <;> first | rfl | exact absurd e (by decide), fun _ _ _ _ => rfl, id⟩ e

theorem State.resetRegion_to (o : Nat) (h : Within F z s) (e : subFoot
    (0x2000000004000000000000000000000000000201E81) F = true) :
    Within F z (s.resetRegion o) := by
  refine h.step ?_ e
  unfold State.resetRegion
  try lift_lets
  with_reducible repeat' first
    | apply Within.refl | apply State.dropJobs_to | apply State.resetRings_to | apply State.resetRegs_to
    | apply State.dropStorage_to
  all_goals rfl

theorem State.flushVports_to (t : Nat) (h : Within F z s) (e : subFoot
    (0x4000000000000002000000000000000000000043C00000000000200080) F = true) :
    Within F z (s.flushVports t) := by
  refine h.step ?_ e
  unfold State.flushVports
  try lift_lets
  with_reducible repeat' first
    | apply Within.refl | apply State.flushRow_to | apply Within.ite | refine Within.foldl ?_ fun s x => ?_
  all_goals rfl

theorem State.resetFunction_to (m : Nat) (keep : Bool) (h : Within F z s) (e : subFoot
    (0x4000400000000007BFFFC000C000000000000043C000000400002CBFC7) F = true) :
    Within F z (s.resetFunction m keep) := by
  refine h.step ?_ e
  unfold State.resetFunction
  try lift_lets
  with_reducible repeat' first
    | apply Within.refl | apply State.endReads_to | apply State.emptyContext_to | apply State.resetRegs_to
    | apply State.dmaHostLost_to | apply State.setTags_to | apply State.setFunc_to | apply State.resetRegion_to
    | apply State.level_to | apply State.endWindow_to | apply State.flushVports_to | split
  all_goals rfl

theorem State.clearVfs_to (hp : Nat) (h : Within F z s) (e : subFoot
    (0x40000000000000003FFFC0008000000000000000000000000000000800) F = true) :
    Within F z (s.clearVfs hp) := by
  refine h.step ?_ e
  unfold State.clearVfs
  try lift_lets
  with_reducible repeat' first
    | apply Within.refl | apply State.setOb_to | apply State.setHport_to | apply Within.ite
    | refine Within.foldl ?_ fun s x => ?_
  all_goals repeat' first | with_reducible apply subFoot_hostIx | with_reducible apply subFoot_tenantIx | rfl

theorem State.noteFunctions_to (hp : Nat) (h : Within F z s) (e : subFoot
    (0x40000000000000003FFFC0000000000000000000000000000000000000) F = true) :
    Within F z (s.noteFunctions hp) := by
  refine h.step ?_ e
  unfold State.noteFunctions
  try lift_lets
  with_reducible repeat' first
    | apply Within.refl | apply State.noteFunction_to | apply Within.ite | refine Within.foldl ?_ fun s x => ?_
  all_goals rfl

theorem State.resetFunctions_to (hp : Nat) (ms : List Nat) (keep : Bool) (cause : Nat) (h : Within F z s) (e :
    subFoot (0x400040003FFFC007FFFFC000C000000000000043C007C00600002CBFC7) F = true) :
    Within F z (s.resetFunctions hp ms keep cause) := by
  refine h.step ?_ e
  unfold State.resetFunctions
  try lift_lets
  with_reducible repeat' first
    | apply Within.refl | apply State.endLeasesOf_to | apply State.resetFunction_to | apply State.clearVfs_to
    | apply State.resetEnds_to | apply State.noteFunctions_to | apply State.drainReads_to | apply Within.ite
    | refine Within.foldl ?_ fun s x => ?_
  all_goals rfl

theorem State.beginFlr_to (m : Nat) (h : Within F z s) (e : subFoot
    (0x400040003FFFC007FFFFC000C000000000000043C007C00600002CBFC7) F = true) :
    Within F z (s.beginFlr m) := by
  refine h.step ?_ e
  unfold State.beginFlr
  try lift_lets
  with_reducible repeat' first
    | apply Within.refl | apply State.resetFunctions_to | apply Within.ite
  all_goals rfl

theorem State.resetConfig_to (m : Nat) (h : Within F z s) (e : subFoot (0x1) F = true) :
    Within F z (s.resetConfig m) := h.step (s.filterRegs_within _) e

theorem State.endVfs_to (hp n : Nat) (h : Within F z s) (e : subFoot
    (0x400040003FFFC007FFFFC000C000000000000043C007C00600002CBFC7) F = true) :
    Within F z (s.endVfs hp n) := by
  refine h.step ?_ e
  unfold State.endVfs
  try lift_lets
  with_reducible repeat' first
    | apply Within.refl | apply State.setOb_to | apply State.resetConfig_to | apply State.resetFunctions_to
    | apply State.setFunc_to | apply Within.ite | refine Within.foldl ?_ fun s x => ?_
  all_goals repeat' first | with_reducible apply subFoot_tenantIx | rfl

theorem State.accepts_to (t : Nat) (h : Within F z s) (e : subFoot (0x800) F = true) :
    Within F z (s.accepts t) := by
  refine h.step ?_ e
  unfold State.accepts
  try lift_lets
  with_reducible repeat' first
    | apply Within.refl | apply State.putHst_to
  all_goals rfl

theorem State.enableVfs_to (hp numVFs : Nat) (h : Within F z s) (e : subFoot
    (0x400040003FFFC007FFFFC000C000000000000043C007C00600002CBFC7) F = true) :
    Within F z (s.enableVfs hp numVFs) := by
  refine h.step ?_ e
  unfold State.enableVfs
  try lift_lets
  with_reducible repeat' first
    | apply Within.refl | apply State.setOb_to | apply State.resetConfig_to | apply State.setHport_to
    | apply State.setFunc_to | apply State.endVfs_to | apply State.accepts_to | apply State.event_to
    | apply State.noteFunctions_to | apply Within.ite | refine Within.foldl ?_ fun s x => ?_
  all_goals repeat' first | with_reducible apply subFoot_hostIx | with_reducible apply subFoot_tenantIx | rfl

theorem execVfEnable_within (hp : HostPort) (numVFs : Nat) (s : State) :
    WithinOut (0x400040003FFFC007FFFFC000C000000000000043C007C00600002CBFC7) s (execVfEnable hp numVFs s) := by
  unfold execVfEnable
  apply Within.out
  try lift_lets
  with_reducible repeat' first
    | apply Within.refl | apply State.setReg_to | apply State.enableVfs_to | apply Within.ite
  all_goals rfl

theorem State.countTenant_to (m sub : Nat) (h : Within F z s) (e : subFoot
    (0x40000000000000003FFFC0000000000000000000000000000000000000) F = true) :
    Within F z (s.countTenant m sub) := by
  refine h.step ?_ e
  unfold State.countTenant
  try lift_lets
  with_reducible repeat' first
    | apply Within.refl | apply State.inc_to | split
  all_goals repeat' first | with_reducible apply subFoot_tenantIx | rfl

theorem State.lateCompletion_to (p m tag : Nat) (h : Within F z s) (e : subFoot
    (0x4000400000000006BFFFC00080000000000000000000000400000C3801) F = true) :
    Within F z (s.lateCompletion p m tag) := by
  refine h.step ?_ e
  unfold State.lateCompletion
  try lift_lets
  with_reducible repeat' first
    | apply Within.refl | apply State.inc_to | apply State.eventLim_to | apply State.countTenant_to
    | apply State.aer_to
  all_goals repeat' first | with_reducible apply subFoot_hostIx | rfl

theorem State.disableVfs_to (hp : Nat) (h : Within F z s) (e : subFoot
    (0x400040003FFFC007FFFFC000C000000000000043C007C00600002CBFC7) F = true) :
    Within F z (s.disableVfs hp) := by
  refine h.step ?_ e
  unfold State.disableVfs
  try lift_lets
  with_reducible repeat' first
    | apply Within.refl | apply State.clearVfs_to | apply State.endVfs_to | apply State.noteFunctions_to
  all_goals rfl

theorem uplinkRule_act {u : State} (t sub : Nat) (w : Via) (x : Nat) (h : Within F z u) (e : subFoot
    (0x40000000000000003FFFC0000000000000000000000000000000000000) F = true) :
    Within F z ((uplinkRule t sub).act u w x).state := by
  refine h.step ?_ e
  unfold uplinkRule
  try dsimp only
  try lift_lets
  with_reducible repeat' first
    | apply Within.refl | apply Within.ended | apply Within.later | apply Within.iteState | apply State.setOb_to
  all_goals repeat' first | with_reducible apply subFoot_tenantIx | rfl

theorem execUplinkWrite_within (v : Via) (t : Tenant) (target : Bool) (data : Bytes) (s : State) :
    WithinOut (0x400040003FFFC006BFFFC00000000000000000000007C00680002C3851) s (execUplinkWrite v t target data s) := by
  unfold execUplinkWrite
  apply Within.out
  try lift_lets
  with_reducible repeat' first
    | apply Within.refl | assumption | (intro u x hu; apply uplinkRule_act)
    | (intro x; refine Within.cut (0x400040003FFFC006BFFFC00000000000000000000007C00680002C3851) s x ?_ ?_; rotate_left; intro hx; clear_value x)
    | apply State.writeItem_to | apply uplinkRule_act | apply Within.ite
  all_goals rfl

theorem State.stationMoved_to (old : Nat) (h : Within F z s) (e : subFoot
    (0x4000400000000007BFFFC00080000000000000000000000400002CBE87) F = true) :
    Within F z (s.stationMoved old) := by
  refine h.step ?_ e
  unfold State.stationMoved
  try lift_lets
  with_reducible repeat' first
    | apply Within.refl | apply State.dropJobs_to | apply State.setOb_to | apply State.endReads_to
    | apply State.resetRings_to | apply State.dmaStationMoved_to | apply State.emptyContext_to
    | apply State.noteFunction_to | apply State.resetRegs_to | apply State.setFunc_to | apply State.dropStor_to
    | apply State.event_to | apply Within.ite
  all_goals rfl

theorem State.loseFrames_to (hp : Nat) (ts : List Nat) (h : Within F z s) (e : subFoot
    (0x4000400000000006800000000000000000000043C000000400002C3880) F = true) :
    Within F z (s.loseFrames hp ts) := by
  refine h.step ?_ e
  unfold State.loseFrames
  try lift_lets
  with_reducible repeat' first
    | apply Within.refl | apply State.event_to | apply State.flushVports_to | apply Within.ite
    | refine Within.foldl ?_ fun s x => ?_ | apply State.putHst_to
  all_goals rfl

theorem State.armCells_to (ts : List Nat) (h : Within F z s) (e : subFoot
    (0x400000003FFFC000000000000000000000000000000000000000000000) F = true) :
    Within F z (s.armCells ts) := by
  refine h.step ?_ e
  unfold State.armCells
  try lift_lets
  with_reducible repeat' first
    | apply Within.refl | apply State.setOb_to | apply Within.ite | refine Within.foldl ?_ fun s x => ?_
  all_goals repeat' first | with_reducible apply subFoot_cellIx | rfl

theorem State.hostReset_to (hp cause : Nat) (h : Within F z s) (e : subFoot
    (0x400040003FFFC007FFFFC000C000000000000043C007C00600002CBFC7) F = true) :
    Within F z (s.hostReset hp cause) := by
  refine h.step ?_ e
  unfold State.hostReset
  try lift_lets
  with_reducible repeat' first
    | apply Within.refl | apply State.inc_to | apply State.setCells_to | apply State.resetFunctions_to
    | apply State.loseFrames_to | apply State.setTags_to | apply State.event_to | apply State.noteFunctions_to
    | apply State.armCells_to | apply Within.ite
  all_goals repeat' first | with_reducible apply subFoot_hostIx | rfl

theorem State.setLink_to (hp st : Nat) (h : Within F z s) (e : subFoot
    (0x40000000000000003FFFC0008000000000000000000000000000000000) F = true) :
    Within F z (s.setLink hp st) := by
  refine h.step ?_ e
  unfold State.setLink
  try lift_lets
  with_reducible repeat' first
    | apply Within.refl | apply State.setOb_to | apply State.noteFunctions_to
  all_goals repeat' first | with_reducible apply subFoot_hostIx | rfl

theorem State.train_to (hp : Nat) (h : Within F z s) (e : subFoot
    (0x40000000000000003FFFC0008000000000000000000000000000000800) F = true) :
    Within F z (s.train hp) := by
  refine h.step ?_ e
  unfold State.train
  try lift_lets
  with_reducible repeat' first
    | apply Within.refl | apply State.setHport_to | apply State.setLink_to
  all_goals rfl

theorem hostPortRule_act {u : State} (hp : Nat) (w : Via) (x : Nat) (h : Within F z u) (e : subFoot
    (0x400040003FFFC007FFFFC000C000000000000043C007C00600002CBFC7) F = true) :
    Within F z ((hostPortRule hp).act u w x).state := by
  refine h.step ?_ e
  unfold hostPortRule
  try dsimp only
  try lift_lets
  with_reducible repeat' first
    | apply Within.refl | apply Within.ended | apply Within.later | apply Within.iteState | apply State.setOb_to
    | apply State.hostReset_to | apply State.train_to | apply Within.ite | split
  all_goals repeat' first | with_reducible apply subFoot_hostIx | rfl

theorem State.failRead_to (why : Purpose) (h : Within F z s) (e : subFoot
    (0x4000400000000007BFFFC00080004000000000000000000400002CBE87) F = true) :
    Within F z (s.failRead why) := by
  refine h.step ?_ e
  unfold State.failRead
  try lift_lets
  with_reducible repeat' first
    | apply Within.refl | apply State.txArrived_to | apply State.endQueue_to | apply State.failStorDescs_to
    | apply State.segData_to | apply State.failStor_to | apply State.haltRing_to | apply State.stepStor_to
    | apply State.failDescs_to | apply State.failJob_to | apply State.storData_to | apply State.cutDma_to
    | apply State.noteHalted_to | split
  all_goals rfl

theorem State.failTag_to (t : Tag) (h : Within F z s) (e : subFoot
    (0x4000400000000007BFFFC00080004000000000000000000400002CBE87) F = true) :
    Within F z (s.failTag t) := by
  refine h.step ?_ e
  unfold State.failTag
  try dsimp -proj -iota only
  with_reducible repeat' first
    | apply Within.refl | (apply Within.ofPair; case e => assumption) | apply State.dropRead_to
    | apply State.failRead_to | apply Within.ite | refine Within.foldl ?_ fun s x => ?_ | split
  all_goals rfl

theorem State.takeRead_to (why : Purpose) (data : Bytes) (h : Within F z s) (e : subFoot
    (0x4000400000000006BFFFC00080000000000000000000000400000CBE01) F = true) :
    Within F z (s.takeRead why data) := by
  refine h.step ?_ e
  unfold State.takeRead
  try lift_lets
  with_reducible repeat' first
    | apply Within.refl | apply State.txArrived_to | apply State.segData_to | apply State.descsArrived_to
    | apply State.listArrived_to | apply State.ringDescs_to | apply State.storArrived_to | apply State.dmaData_to
    | apply State.beginRead_to | apply State.stepStor_to | apply State.srcArrived_to | apply State.storData_to
    | split
  all_goals rfl

theorem State.takeCompletion_to (t : Tag) (data : Bytes) (h : Within F z s) (e : subFoot
    (0x4000400000000006BFFFC00080000000000000000000000400000CBE01) F = true) :
    Within F z (s.takeCompletion t data) := by
  refine h.step ?_ e
  unfold State.takeCompletion
  try dsimp -proj -iota only
  with_reducible repeat' first
    | apply Within.refl | (apply Within.ofPair; case e => assumption) | apply State.takePiece_to
    | apply State.takeRead_to | apply Within.ite | refine Within.foldl ?_ fun s x => ?_ | split
  all_goals rfl

theorem execCompletionReceived_within (hp : HostPort) (tag : Nat) (st : CplStatus) (data : Bytes) (s : State) :
    WithinOut (0x4000400000000007BFFFC00080004000000000000000000400002CBE87) s (execCompletionReceived hp tag st data s) := by
  unfold execCompletionReceived
  apply Within.out
  try lift_lets
  with_reducible repeat' first
    | apply Within.refl | apply State.inc_to | apply State.lateCompletion_to | apply State.freeTag_to
    | apply State.bump_to | apply State.eventLim_to | apply State.failTag_to | apply State.takeCompletion_to
    | apply State.aer_to | split
  all_goals repeat' first | with_reducible apply subFoot_hostIx | rfl

theorem State.dropTx_to (o r : Nat) (h : Within F z s) (e : subFoot
    (0x4000000000000000000000008000000000000000000000000000281881) F = true) :
    Within F z (s.dropTx o r) := by
  refine h.step ?_ e
  unfold State.dropTx
  try lift_lets
  with_reducible repeat' first
    | apply Within.refl | apply State.setRing_to | apply State.readDone_to | split
  all_goals rfl

theorem State.haltOne_to (o cause : Nat) (tx : Bool) (r : Nat) (h : Within F z s) (e : subFoot
    (0x4000000000068000000000000000000000000000000400000C3801) F = true) :
    Within F z (s.haltOne o cause tx r) := by
  refine h.step ?_ e
  unfold State.haltOne
  try lift_lets
  with_reducible repeat' first
    | apply Within.refl | apply State.setRegBits_to | apply State.haltRing_to | apply Within.ite
  all_goals rfl

theorem State.haltQueues_to (m cause : Nat) (h : Within F z s) (e : subFoot
    (0x4000400000000007BFFFC00080000000000000000000000400002CBE87) F = true) :
    Within F z (s.haltQueues m cause) := by
  refine h.step ?_ e
  unfold State.haltQueues
  try dsimp -proj -iota only
  with_reducible repeat' first
    | apply Within.refl | apply State.dropJobs_to | apply State.endReads_to | apply State.dropTx_to
    | apply State.haltPage_to | apply State.haltStor_to | apply State.noteFunction_to | apply State.dmaHostLost_to
    | apply State.setFunc_to | apply State.dropStor_to | apply State.haltOne_to | apply Within.ite
    | refine Within.foldl ?_ fun s x => ?_ | split | apply State.putRng_to
  all_goals rfl

theorem State.clearMaster_to (m : Nat) (h : Within F z s) (e : subFoot
    (0x4000400000000007BFFFC00080000000000000000000000400002CBE87) F = true) :
    Within F z (s.clearMaster m) := by
  refine h.step ?_ e
  unfold State.clearMaster
  try lift_lets
  with_reducible repeat' first
    | apply Within.refl | apply State.haltQueues_to | apply State.setFunc_to | apply State.event_to
    | apply Within.ite
  all_goals rfl

theorem State.setMaster_to (m : Nat) (h : Within F z s) (e : subFoot (0x80800) F = true) :
    Within F z (s.setMaster m) := by
  refine h.step ?_ e
  unfold State.setMaster
  try lift_lets
  with_reducible repeat' first
    | apply Within.refl | apply State.flushPba_to | apply State.setFunc_to
  all_goals rfl

theorem State.setDState_to (m : Nat) (d : DState) (h : Within F z s) (e : subFoot
    (0x400040003FFFC007BFFFC00080000000000000000007C00600002CBE87) F = true) :
    Within F z (s.setDState m d) := by
  refine h.step ?_ e
  unfold State.setDState
  try dsimp -proj -iota only
  with_reducible repeat' first
    | apply Within.refl | apply State.flushPba_to | apply State.endLeasesOf_to | apply State.haltQueues_to
    | apply State.noteFunction_to | apply State.setFunc_to | apply State.event_to | apply Within.ite | split
  all_goals rfl

theorem State.writeConfig_to (m o : Nat) (val mask : Word) (h : Within F z s) (e : subFoot
    (0x400040003FFFC007FFFFC000C000000000000043C007C00600002CBFC7) F = true) :
    Within F z (s.writeConfig m o val mask) := by
  refine h.step ?_ e
  unfold State.writeConfig
  try dsimp -proj -iota only
  with_reducible repeat' first
    | apply Within.refl | apply State.beginFlr_to | apply State.flushPba_to | apply State.disableVfs_to
    | apply State.clearMaster_to | apply State.setFunc_to | apply State.setMaster_to | apply State.setReg_to
    | apply State.enableVfs_to | apply State.setDState_to | apply Within.ite | split
  all_goals rfl

theorem State.configWrite_to (f : Func) (off : Nat) (data : Bytes) (h : Within F z s) (e : subFoot
    (0x400040003FFFC007FFFFC000C000000000000043C007C00600002CBFC7) F = true) :
    Within F z (s.configWrite f off data) := by
  refine h.step ?_ e
  unfold State.configWrite
  try lift_lets
  with_reducible repeat' first
    | apply Within.refl | apply State.writeConfig_to | split
  all_goals rfl

theorem State.notePending_to (t : Nat) (h : Within F z s) (e : subFoot
    (0x40000000000000003FFFC0000000000000000000000000000000000000) F = true) :
    Within F z (s.notePending t) := by
  refine h.step ?_ e
  unfold State.notePending
  try lift_lets
  with_reducible repeat' first
    | apply Within.refl | apply State.setOb_to
  all_goals repeat' first | with_reducible apply subFoot_tenantIx | rfl

theorem State.applyMap_to (hp : Nat) (h : Within F z s) (e : subFoot
    (0x4000400000000006BFFFC00080000000000000000000000400000C3800) F = true) :
    Within F z (s.applyMap hp) := by
  refine h.step ?_ e
  unfold State.applyMap
  try lift_lets
  with_reducible repeat' first
    | apply Within.refl | apply State.setOb_to | apply State.setCells_to | apply State.setHport_to
    | apply State.notePending_to | apply State.event_to | apply State.noteFunctions_to | apply Within.ite
    | refine Within.foldl ?_ fun s x => ?_
  all_goals repeat' first | with_reducible apply subFoot_hostIx | with_reducible apply subFoot_tenantIx | rfl

theorem State.timeoutTag_to (p : Nat) (t : Tag) (h : Within F z s) (e : subFoot
    (0x4000400000000007BFFFC00080004000000000000000000400002CBE87) F = true) :
    Within F z (s.timeoutTag p t) := by
  refine h.step ?_ e
  unfold State.timeoutTag
  try lift_lets
  with_reducible repeat' first
    | apply Within.refl | apply State.inc_to | apply State.eventLim_to | apply State.setTags_to
    | apply State.failTag_to | apply State.countTenant_to | apply State.aer_to
  all_goals repeat' first | with_reducible apply subFoot_hostIx | rfl

theorem execCompletionTimeout_within (hp : HostPort) (tag : Nat) (s : State) :
    WithinOut (0x4000400000000007BFFFC00080004000000000000000000400002CBE87) s (execCompletionTimeout hp tag s) := by
  unfold execCompletionTimeout
  apply Within.out
  try lift_lets
  with_reducible repeat' first
    | apply Within.refl | apply State.timeoutTag_to | split
  all_goals rfl

theorem execDStateChange_within (f : Func) (d : DState) (s : State) :
    WithinOut (0x400040003FFFC007BFFFC00080000000000000000007C00600002CBE87) s (execDStateChange f d s) := by
  unfold execDStateChange
  apply Within.out
  try lift_lets
  with_reducible repeat' first
    | apply Within.refl | apply State.setDState_to | split
  all_goals rfl

theorem State.endFlr_to (m : Nat) (h : Within F z s) (e : subFoot
    (0x4000400000000006BFFFC00000000000000000000000000400000C3801) F = true) :
    Within F z (s.endFlr m) := by
  refine h.step ?_ e
  unfold State.endFlr
  try lift_lets
  with_reducible repeat' first
    | apply Within.refl | apply State.inc_to | apply State.resetConfig_to | apply State.noteFunction_to
    | apply State.setFunc_to | apply State.event_to | split
  all_goals repeat' first | with_reducible apply subFoot_tenantIx | rfl

theorem execBusMasterEnableClear_within (f : Func) (s : State) :
    WithinOut (0x4000400000000007BFFFC00080000000000000000000000400002CBE87) s (execBusMasterEnableClear f s) := by
  unfold execBusMasterEnableClear
  apply Within.out
  try lift_lets
  with_reducible repeat' first
    | apply Within.refl | apply State.clearMaster_to | split
  all_goals rfl

theorem State.releaseWake_to (hp : Nat) (h : Within F z s) (e : subFoot (0x80800) F = true) :
    Within F z (s.releaseWake hp) := by
  refine h.step ?_ e
  unfold State.releaseWake
  try lift_lets
  with_reducible repeat' first
    | apply Within.refl | apply State.setHport_to | apply State.emit_to | apply Within.ite
  all_goals rfl

theorem execLinkStateChange_within (hp : HostPort) (st : LinkState) (s : State) :
    WithinOut (0x40000000000000003FFFC0008000000000000000000000000000080800) s (execLinkStateChange hp st s) := by
  unfold execLinkStateChange
  apply Within.out
  try lift_lets
  with_reducible repeat' first
    | apply Within.refl | apply State.setOb_to | apply State.setLink_to | apply State.releaseWake_to | split
  all_goals repeat' first | with_reducible apply subFoot_hostIx | rfl

theorem execTagQuarantineEnd_within (hp : HostPort) (tag : Nat) (s : State) :
    WithinOut (0x40000000000000003FFFC0008000000000000000000000000000080800) s (execTagQuarantineEnd hp tag s) := by
  unfold execTagQuarantineEnd
  apply Within.out
  try lift_lets
  with_reducible repeat' first
    | apply Within.refl | apply State.freeTag_to | apply Within.ite
  all_goals rfl

theorem execHostPortDisable_within (v : Via) (hp : HostPort) (s : State) :
    WithinOut (0x400040003FFFC007FFFFC000C000000000000043C007C00680002CBFD7) s (execHostPortDisable v hp s) := by
  unfold execHostPortDisable
  apply Within.out
  try lift_lets
  with_reducible repeat' first
    | apply Within.refl | assumption | (intro u x hu; apply hostPortRule_act)
    | (intro x; refine Within.cut (0x400040003FFFC007FFFFC000C000000000000043C007C00680002CBFD7) s x ?_ ?_; rotate_left; intro hx; clear_value x)
    | apply hostPortRule_act | apply State.writeItem_to | apply Within.ite
  all_goals rfl

theorem execHostFaceReset_within (hp : HostPort) (why : HostCause) (s : State) :
    WithinOut (0x400040003FFFC007FFFFC000C000000000000043C007C00600002CBFC7) s (execHostFaceReset hp why s) := by
  unfold execHostFaceReset
  apply Within.out
  try lift_lets
  with_reducible repeat' first
    | apply Within.refl | apply State.setHport_to | apply State.hostReset_to | apply State.train_to
    | apply Within.ite
  all_goals rfl

theorem execHostLinkUp_within (hp : HostPort) (width rate : Nat) (s : State) :
    WithinOut (0x4000400000000006BFFFC00080000000000000000000000400000C3800) s (execHostLinkUp hp width rate s) := by
  unfold execHostLinkUp
  apply Within.out
  try lift_lets
  with_reducible repeat' first
    | apply Within.refl | apply State.inc_to | apply State.setCells_to | apply State.setHport_to
    | apply State.applyMap_to | apply State.accepts_to | apply State.event_to | apply State.train_to
    | apply State.setLink_to | apply State.releaseWake_to | apply Within.ite
  all_goals repeat' first | with_reducible apply subFoot_hostIx | rfl

theorem tenantRule_act {u : State} (t sub : Nat) (w : Via) (x : Nat) (h : Within F z u) (e : subFoot
    (0x40000000000000003FFFC0000000000000000000000000000000000000) F = true) :
    Within F z ((tenantRule t sub).act u w x).state := by
  refine h.step ?_ e
  unfold tenantRule
  try dsimp only
  try lift_lets
  with_reducible repeat' first
    | apply Within.refl | apply Within.ended | apply Within.later | apply Within.iteState | apply State.setOb_to
    | apply State.notePending_to
  all_goals repeat' first | with_reducible apply subFoot_tenantIx | rfl

theorem execFlr_within (f : Func) (s : State) :
    WithinOut (0x400040003FFFC007FFFFC000C000000000000043C007C00600002CBFC7) s (execFlr f s) := by
  unfold execFlr
  apply Within.out
  try lift_lets
  with_reducible repeat' first
    | apply Within.refl | apply State.beginFlr_to | split
  all_goals rfl

theorem execHostPortEnable_within (v : Via) (hp : HostPort) (s : State) :
    WithinOut (0x400040003FFFC007FFFFC000C000000000000043C007C00680002CBFD7) s (execHostPortEnable v hp s) := by
  unfold execHostPortEnable
  apply Within.out
  try lift_lets
  with_reducible repeat' first
    | apply Within.refl | assumption | (intro u x hu; apply hostPortRule_act)
    | (intro x; refine Within.cut (0x400040003FFFC007FFFFC000C000000000000043C007C00680002CBFD7) s x ?_ ?_; rotate_left; intro hx; clear_value x)
    | apply hostPortRule_act | apply State.writeItem_to | apply Within.ite
  all_goals rfl

theorem execFlrComplete_within (f : Func) (s : State) :
    WithinOut (0x4000400000000006BFFFC00000000000000000000000000400000C3801) s (execFlrComplete f s) := by
  unfold execFlrComplete
  apply Within.out
  try lift_lets
  with_reducible repeat' first
    | apply Within.refl | apply State.endFlr_to | apply Within.ite | refine Within.foldl ?_ fun s x => ?_
  all_goals rfl

theorem execTenantHostPortWrite_within (v : Via) (t : Tenant) (data : Bytes) (s : State) :
    WithinOut (0x400040003FFFC006BFFFC00000000000000000000007C00680002C3851) s (execTenantHostPortWrite v t data s) := by
  unfold execTenantHostPortWrite
  apply Within.out
  try lift_lets
  with_reducible repeat' first
    | apply Within.refl | assumption | (intro u x hu; apply tenantRule_act)
    | (intro x; refine Within.cut (0x400040003FFFC006BFFFC00000000000000000000007C00680002C3851) s x ?_ ?_; rotate_left; intro hx; clear_value x)
    | apply State.writeItem_to | apply tenantRule_act | apply Within.ite
  all_goals rfl

theorem execTenantEnableWrite_within (v : Via) (t : Tenant) (data : Bytes) (s : State) :
    WithinOut (0x400040003FFFC006BFFFC00000000000000000000007C00680002C3851) s (execTenantEnableWrite v t data s) := by
  unfold execTenantEnableWrite
  apply Within.out
  try lift_lets
  with_reducible repeat' first
    | apply Within.refl | assumption | (intro u x hu; apply tenantRule_act)
    | (intro x; refine Within.cut (0x400040003FFFC006BFFFC00000000000000000000007C00680002C3851) s x ?_ ?_; rotate_left; intro hx; clear_value x)
    | apply State.writeItem_to | apply tenantRule_act | apply Within.ite
  all_goals rfl

theorem execPerstDeassert_within (hp : HostPort) (s : State) :
    WithinOut (0x40000000000000003FFFC0008000000000000000000000000000000800) s (execPerstDeassert hp s) := by
  unfold execPerstDeassert
  apply Within.out
  try lift_lets
  with_reducible repeat' first
    | apply Within.refl | apply State.setHport_to | apply State.train_to | apply Within.ite
  all_goals rfl

end Sys2Proof.Machine
end

