-- ==== Sys2Proof/Laws/WithinCores.lean ====
section
/-! SUPPORT. What the operations of Machine/Cores.lean can touch. -/

namespace Sys2Proof.Machine

variable {F : Nat} {z s : State}

theorem State.switchTo_to (n st : Nat) (h : Within F z s) (e : subFoot
    (0x6000000000000000000000000000000000000082000) F = true) :
    Within F z (s.switchTo n st) := by
  refine h.step ?_ e
  unfold State.switchTo
  try lift_lets
  with_reducible repeat' first
    | apply Within.refl | apply State.bump_to | apply State.dispatch_to | apply State.setThSt_to
  all_goals rfl

theorem State.leave_to (n st : Nat) (h : Within F z s) (e : subFoot (0x6000000000000000000000000000000000000082000) F
    = true) :
    Within F z (s.leave n st) := by
  refine h.step ?_ e
  unfold State.leave
  try lift_lets
  with_reducible repeat' first
    | apply Within.refl | apply State.switchTo_to | apply State.setThSt_to | apply Within.ite
  all_goals rfl

theorem State.restartThread_to (n : Nat) (h : Within F z s) (e : subFoot
    (0x400040003FFFC007FFFFC00080000000000000000007C00600002CB887) F = true) :
    Within F z (s.restartThread n) := by
  refine h.step ?_ e
  unfold State.restartThread
  try lift_lets
  with_reducible repeat' first
    | apply Within.refl | apply State.endLeasesOf_to | apply State.setThread_to | apply State.setCells_to
    | apply State.bump_to | apply State.makeReady_to | apply State.dmaThreadGone_to | apply State.resetEnds_to
    | apply State.event_to
  all_goals rfl

theorem execThreadRestart_within (n : Thread) (s : State) :
    WithinOut (0x400040003FFFC007FFFFC00080000000000000000007C00600002CB887) s (execThreadRestart n s) := by
  unfold execThreadRestart
  apply Within.out
  try lift_lets
  with_reducible repeat' first
    | apply Within.refl | apply State.restartThread_to | apply Within.ite
  all_goals rfl

theorem State.rearm_to (h : Within F z s) (e : subFoot (0x2000) F = true) :
    Within F z (s.rearm) := by
  refine h.step ?_ e
  unfold State.rearm
  try lift_lets
  with_reducible repeat' first
    | apply Within.refl | apply State.putThr_to
  all_goals rfl

theorem State.noteRun_to (n : Nat) (h : Within F z s) (e : subFoot (0x2000) F = true) :
    Within F z (s.noteRun n) := by
  refine h.step ?_ e
  unfold State.noteRun
  try lift_lets
  with_reducible repeat' first
    | apply Within.refl | apply State.rearm_to | apply Within.ite | apply State.putThr_to
  all_goals rfl

theorem State.dropActive_to (n : Nat) (h : Within F z s) (e : subFoot (0x6800000000000000000000000000000000000083800)
    F = true) :
    Within F z (s.dropActive n) := by
  refine h.step ?_ e
  unfold State.dropActive
  try lift_lets
  with_reducible repeat' first
    | apply Within.refl | apply State.deliverFor_to | apply State.endActive_to | apply Within.ite
    | refine Within.foldl ?_ fun s x => ?_ | apply State.putRng_to
  all_goals rfl

theorem execExecutorRestart_within (n : Thread) (s : State) :
    WithinOut (0x400040003FFFC007FFFFC00080000000000000000007C00600002CB887) s (execExecutorRestart n s) := by
  unfold execExecutorRestart
  apply Within.out
  try lift_lets
  with_reducible repeat' first
    | apply Within.refl | apply State.restartThread_to | apply Within.ite
  all_goals rfl

theorem State.returns_to (n value status : Nat) (h : Within F z s) (e : subFoot (0x80000) F = true) :
    Within F z (s.returns n value status) := by
  refine h.step ?_ e
  unfold State.returns
  try lift_lets
  with_reducible repeat' first
    | apply Within.refl | apply State.emit_to
  all_goals rfl

theorem State.stir_to (n : Nat) (h : Within F z s) (e : subFoot (0x2000) F = true) :
    Within F z (s.stir n) := by
  refine h.step ?_ e
  unfold State.stir
  try lift_lets
  with_reducible repeat' first
    | apply Within.refl | apply State.rearm_to | apply Within.ite
  all_goals rfl

theorem State.setEvents_to (n bits : Nat) (h : Within F z s) (e : subFoot
    (0x6000000000000000000000000000000000000082000) F = true) :
    Within F z (s.setEvents n bits) := by
  refine h.step ?_ e
  unfold State.setEvents
  try lift_lets
  with_reducible repeat' first
    | apply Within.refl | apply State.setThread_to | apply State.makeReady_to | apply State.stir_to
    | apply Within.ite
  all_goals rfl

theorem execSignal_within (n : Thread) (target : Nat) (bits : Word) (s : State) :
    WithinOut (0x6000000000000000000000000000000000000082000) s (execSignal n target bits s) := by
  unfold execSignal
  apply Within.out
  try lift_lets
  with_reducible repeat' first
    | apply Within.refl | apply State.returns_to | apply State.setEvents_to | apply Within.ite
  all_goals rfl

theorem execWaitDeadline_within (n : Thread) (s : State) :
    WithinOut (0x6000000000000000000000000000000000000082000) s (execWaitDeadline n s) := by
  unfold execWaitDeadline
  apply Within.out
  try lift_lets
  with_reducible repeat' first
    | apply Within.refl | apply State.makeReady_to | apply Within.ite
  all_goals rfl

theorem State.enter_to (n id : Nat) (saved : List Nat) (until_ : Nat) (h : Within F z s) (e : subFoot
    (0x2000000000000000000000000000000000000003000) F = true) :
    Within F z (s.enter n id saved until_) := by
  refine h.step ?_ e
  unfold State.enter
  try lift_lets
  with_reducible repeat' first
    | apply Within.refl | apply State.setThread_to | apply State.bump_to | apply State.setCell_to
    | apply State.stir_to | apply State.putRng_to
  all_goals rfl

theorem execInterruptExit_within (n : Thread) (s : State) :
    WithinOut (0x6800000000000000000000000000000000000083000) s (execInterruptExit n s) := by
  unfold execInterruptExit
  apply Within.out
  try dsimp -proj -iota only
  with_reducible repeat' first
    | apply Within.refl | apply State.inc_to | apply State.setThread_to | apply State.finishWait_to
    | apply State.setCell_to | apply State.enter_to | apply Within.ite | split
  all_goals rfl

theorem State.wakeParent_to (k : Nat) (h : Within F z s) (e : subFoot (0x6000000000000000000000000000000000000082000)
    F = true) :
    Within F z (s.wakeParent k) := by
  refine h.step ?_ e
  unfold State.wakeParent
  try lift_lets
  with_reducible repeat' first
    | apply Within.refl | apply State.makeReady_to | apply Within.ite
  all_goals rfl

theorem execQuiescentStall_within (s : State) :
    WithinOut (0x4000000000068000000000000000000000000000000400000C3800) s (execQuiescentStall s) := by
  unfold execQuiescentStall
  apply Within.out
  try lift_lets
  with_reducible repeat' first
    | apply Within.refl | apply State.edge_to | apply State.inc_to | apply State.setOb_to | apply State.event_to
    | apply Within.ite | apply State.putThr_to
  all_goals rfl

theorem State.dropRuns_to (n : Nat) (h : Within F z s) (e : subFoot (0x4000) F = true) :
    Within F z (s.dropRuns n) := by
  refine h.step ?_ e
  unfold State.dropRuns
  try lift_lets
  with_reducible repeat' first
    | apply Within.refl | apply State.putCells_to
  all_goals rfl

theorem execFork_within (n : Thread) (entry arg : Nat) (privileged : Bool) (s : State) :
    WithinOut (0x4000000000068000000000000000000000000000000400000C3800) s (execFork n entry arg privileged s) := by
  unfold execFork
  apply Within.out
  try lift_lets
  with_reducible repeat' first
    | apply Within.refl | apply State.inc_to | apply State.setThread_to | apply State.setOb_to
    | apply State.setCells_to | apply State.returns_to | apply State.makeReady_to | apply State.eventLim_to | split
  all_goals rfl

theorem execImageBackup_within (s : State) : WithinOut (0x8) s (execImageBackup s) := by
  unfold execImageBackup
  apply Within.out
  split
  · exact .refl _ _
  · refine ⟨rfl, fun p e => by cases p <;> first | rfl | exact absurd e (by decide), fun _ _ _ _ => rfl, fun h => ?_⟩
    rw [State.canonical_iff] at *
    exact ⟨h.1, h.2.1, h.2.2.1, h.2.2.2.1, h.2.2.2.2.1, NMap.wf_filter _ h.2.2.1⟩

theorem State.orphan_to (p : Nat) (h : Within F z s) (e : subFoot (0x6000000000000000000000000000000000000002000) F =
    true) :
    Within F z (s.orphan p) := by
  refine h.step ?_ e
  unfold State.orphan
  try lift_lets
  with_reducible repeat' first
    | apply Within.refl | apply State.setThread_to | apply State.vacate_to | apply State.setCell_to
    | apply Within.ite | refine Within.foldl ?_ fun s x => ?_
  all_goals rfl

theorem State.faultThread_to (n cause : Nat) (h : Within F z s) (e : subFoot
    (0x40004000000000078000000080000000000000000000000400002CF887) F = true) :
    Within F z (s.faultThread n cause) := by
  refine h.step ?_ e
  unfold State.faultThread
  try lift_lets
  with_reducible repeat' first
    | apply Within.refl | apply State.edge_to | apply State.leave_to | apply State.setThread_to
    | apply State.setCells_to | apply State.dropRuns_to | apply State.dmaThreadGone_to | apply State.orphan_to
    | apply State.event_to | apply Within.ite
  all_goals rfl

theorem execThreadFault_within (n : Thread) (cause : Nat) (s : State) :
    WithinOut (0x40004000000000078000000080000000000000000000000400002CF887) s (execThreadFault n cause s) := by
  unfold execThreadFault
  apply Within.out
  try lift_lets
  with_reducible repeat' first
    | apply Within.refl | apply State.faultThread_to | apply Within.ite
  all_goals rfl

theorem State.resetSender_to (o : Nat) (h : Within F z s) (e : subFoot
    (0x400000000006C000000000000000000000000000000400000C3801) F = true) :
    Within F z (s.resetSender o) := by
  refine h.step ?_ e
  unfold State.resetSender
  try lift_lets
  with_reducible repeat' first
    | apply Within.refl | apply State.zeroStages_to | apply State.purgeChannel_to | apply Within.ite
    | refine Within.foldl ?_ fun s x => ?_
  all_goals rfl

theorem State.mapThread_to (old new : Nat) (h : Within F z s) (e : subFoot (0x40000002000) F = true) :
    Within F z (s.mapThread old new) := by
  refine h.step ?_ e
  unfold State.mapThread
  try lift_lets
  with_reducible repeat' first
    | apply Within.refl | apply State.setCell_to | apply State.putThr_to
  all_goals rfl

theorem execSupervisorSilent_within (s : State) :
    WithinOut (0x4000000000068000000000000000000000000000000400000C3800) s (execSupervisorSilent s) := by
  unfold execSupervisorSilent
  apply Within.out
  try lift_lets
  with_reducible repeat' first
    | apply Within.refl | apply State.setOb_to | apply State.setEvents_to | apply State.event_to | apply Within.ite
  all_goals rfl

theorem execExit_within (n : Thread) (code : Word) (s : State) :
    WithinOut (0x400040003FFFC006BFFFC00000000000000000000007C00600000C3800) s (execExit n code s) := by
  unfold execExit
  apply Within.out
  try lift_lets
  with_reducible repeat' first
    | apply Within.refl | apply State.endLeasesOf_to | apply State.setThread_to | apply State.setCells_to
    | apply State.wakeParent_to | apply State.orphan_to | apply State.vacate_to | apply State.switchTo_to
    | apply Within.ite
  all_goals rfl

theorem execThreadResume_within (n : Thread) (s : State) :
    WithinOut (0x4000000000068000000000000000000000000000000400000C3800) s (execThreadResume n s) := by
  unfold execThreadResume
  apply Within.out
  try lift_lets
  with_reducible repeat' first
    | apply Within.refl | apply State.inc_to | apply State.makeReady_to | apply State.event_to
    | apply State.finishWait_to | apply State.setThSt_to | apply Within.ite
  all_goals rfl

theorem State.endThread_to (n : Nat) (h : Within F z s) (e : subFoot (0x6000000000000000000000000000000000000086000)
    F = true) :
    Within F z (s.endThread n) := by
  refine h.step ?_ e
  unfold State.endThread
  try lift_lets
  with_reducible repeat' first
    | apply Within.refl | apply State.inc_to | apply State.setThread_to | apply State.setCells_to
    | apply State.wakeParent_to | apply State.dropRuns_to | apply State.orphan_to | apply State.setCell_to
    | apply Within.ite
  all_goals rfl

theorem execThreadRelease_within (n : Thread) (s : State) :
    WithinOut (0x400000000006C000000000000000000000000000000400000C7801) s (execThreadRelease n s) := by
  unfold execThreadRelease
  apply Within.out
  try lift_lets
  with_reducible repeat' first
    | apply Within.refl | apply State.resetSender_to | apply State.endThread_to | apply Within.ite
  all_goals rfl

theorem execInterruptEntry_within (n : Thread) (s : State) :
    WithinOut (0x2800000000000000000000000000000000000003000) s (execInterruptEntry n s) := by
  unfold execInterruptEntry
  apply Within.out
  try lift_lets
  with_reducible repeat' first
    | apply Within.refl | apply State.inc_to | apply State.enter_to | split
  all_goals rfl

theorem execThreadKill_within (n : Thread) (s : State) :
    WithinOut (0x400040003FFFC007FFFFC00080000000000000000007C00600002CF887) s (execThreadKill n s) := by
  unfold execThreadKill
  apply Within.out
  try lift_lets
  with_reducible repeat' first
    | apply Within.refl | apply State.inc_to | apply State.endLeasesOf_to | apply State.dropActive_to
    | apply State.dmaThreadGone_to | apply State.endThread_to | apply State.resetEnds_to | apply State.event_to
    | apply Within.ite
  all_goals rfl

theorem State.block_to (n kind what : Nat) (deadline : Option Nat) (h : Within F z s) (e : subFoot
    (0x6000000000000000000000000000000000000082000) F = true) :
    Within F z (s.block n kind what deadline) := by
  refine h.step ?_ e
  unfold State.block
  try lift_lets
  with_reducible repeat' first
    | apply Within.refl | apply State.noteRun_to | apply State.setThread_to | apply State.returns_to
    | apply State.switchTo_to | apply State.setCell_to | apply Within.ite
  all_goals rfl

theorem State.stopThread_to (n : Nat) (h : Within F z s) (e : subFoot
    (0x4000000000068000000000000000000000000000000400000C3800) F = true) :
    Within F z (s.stopThread n) := by
  refine h.step ?_ e
  unfold State.stopThread
  try lift_lets
  with_reducible repeat' first
    | apply Within.refl | apply State.leave_to | apply State.inc_to | apply State.setThread_to
    | apply State.event_to
  all_goals rfl

theorem execThreadStop_within (n : Thread) (s : State) :
    WithinOut (0x4000000000068000000000000000000000000000000400000C3800) s (execThreadStop n s) := by
  unfold execThreadStop
  apply Within.out
  try lift_lets
  with_reducible repeat' first
    | apply Within.refl | apply State.setThread_to | apply State.stopThread_to | apply Within.ite
  all_goals rfl

theorem execAccessComplete_within (n : Thread) (s : State) :
    WithinOut (0x4000000000068000000000000000000000000000000400000C3800) s (execAccessComplete n s) := by
  unfold execAccessComplete
  apply Within.out
  try lift_lets
  with_reducible repeat' first
    | apply Within.refl | apply State.makeReady_to | apply State.stopThread_to | apply Within.ite
  all_goals rfl

theorem execAccessStall_within (n : Thread) (s : State) :
    WithinOut (0x6000000000000000000000000000000000000082000) s (execAccessStall n s) := by
  unfold execAccessStall
  apply Within.out
  try lift_lets
  with_reducible repeat' first
    | apply Within.refl | apply State.switchTo_to | apply Within.ite
  all_goals rfl

theorem execWait_within (n : Thread) (mask : Word) (deadline : Nat) (s : State) :
    WithinOut (0x6000000000000000000000000000000000000082000) s (execWait n mask deadline s) := by
  unfold execWait
  apply Within.out
  try dsimp -proj -iota only
  with_reducible repeat' first
    | apply Within.refl | apply State.setThread_to | apply State.returns_to | apply State.block_to
    | apply Within.ite | split
  all_goals rfl

theorem execJoin_within (n : Thread) (child deadline : Nat) (s : State) :
    WithinOut (0x6000000000000000000000000000000000000082000) s (execJoin n child deadline s) := by
  unfold execJoin
  apply Within.out
  try dsimp -proj -iota only
  with_reducible repeat' first
    | apply Within.refl | apply State.setThread_to | apply State.returns_to | apply State.vacate_to
    | apply State.block_to | apply State.setCell_to | apply Within.ite | split
  all_goals rfl

theorem execSupervisorTakeover_within (s : State) :
    WithinOut (0x4000000000068000000000000000000000000000000400000C3800) s (execSupervisorTakeover s) := by
  unfold execSupervisorTakeover
  apply Within.out
  try lift_lets
  with_reducible repeat' first
    | apply Within.refl | apply State.inc_to | apply State.setThread_to | apply State.setOb_to
    | apply State.dropActive_to | apply State.mapThread_to | apply State.deliver_to | apply State.event_to
    | apply State.setCell_to | apply Within.ite | apply State.putThr_to
  all_goals rfl

end Sys2Proof.Machine
end

