-- ==== Sys2Proof/Laws/WithinCells.lean ====
section
/-! SUPPORT. What the operations of Machine/Cells.lean can touch. -/

namespace Sys2Proof.Machine

variable {F : Nat} {z s : State}

theorem State.afterRun_to (n : Nat) (h : Within F z s) (e : subFoot (0x6000000000000000000000000000000000000082000) F
    = true) :
    Within F z (s.afterRun n) := by
  refine h.step ?_ e
  unfold State.afterRun
  try lift_lets
  with_reducible repeat' first
    | apply Within.refl | apply State.setThread_to | apply State.switchTo_to | apply State.setThSt_to
    | apply Within.ite
  all_goals rfl

theorem State.setCellDyn_to (c : Nat) (d : CellDyn) (h : Within F z s) (e : subFoot (0x4000) F = true) :
    Within F z (s.setCellDyn c d) := by
  refine h.step ?_ e
  unfold State.setCellDyn
  try lift_lets
  with_reducible repeat' first
    | apply Within.refl | apply State.putCells_to
  all_goals rfl

theorem State.cellEvent_to (c : Nat) (h : Within F z s) (e : subFoot (0x6800000000000000000000000000000000000083800)
    F = true) :
    Within F z (s.cellEvent c) := by
  refine h.step ?_ e
  unfold State.cellEvent
  try lift_lets
  with_reducible repeat' first
    | apply Within.refl | apply State.edge_to | split
  all_goals rfl

theorem State.changeMode_to (c new cause : Nat) (h : Within F z s) (e : subFoot
    (0x400040003FFFC0068000000000000000000000000000000400000C3800) F = true) :
    Within F z (s.changeMode c new cause) := by
  refine h.step ?_ e
  unfold State.changeMode
  try lift_lets
  with_reducible repeat' first
    | apply Within.refl | apply State.setOb_to | apply State.cellEvent_to | apply State.event_to | apply Within.ite
  all_goals repeat' first | with_reducible apply subFoot_cellIx | rfl

theorem State.cellFlag_to (c i : Nat) (on : Bool) (h : Within F z s) (e : subFoot
    (0x400000003FFFC000000000000000000000000000000000000000000000) F = true) :
    Within F z (s.cellFlag c i on) := by
  refine h.step ?_ e
  unfold State.cellFlag
  try lift_lets
  with_reducible repeat' first
    | apply Within.refl | apply State.setOb_to
  all_goals repeat' first | with_reducible apply subFoot_cellIx | rfl

theorem State.lapseAct_to (c cause : Nat) (d : CellDyn) (h : Within F z s) (e : subFoot
    (0x400040003FFFC0068000000000000000000000000000000400000C3800) F = true) :
    Within F z (s.lapseAct c cause d).1 := by
  refine h.step ?_ e
  unfold State.lapseAct
  try dsimp -proj -iota only
  with_reducible repeat' first
    | apply Within.refl | apply State.inc_to | apply State.setOb_to | apply State.changeMode_to
    | apply State.event_to | apply State.cellFlag_to | apply Within.ite | split
  all_goals repeat' first | with_reducible apply subFoot_cellIx | rfl

theorem State.controllerBack_to (c : Nat) (d : CellDyn) (changed : Bool) (h : Within F z s) (e : subFoot
    (0x400040003FFFC0068000000000000000000000000000000400000C3800) F = true) :
    Within F z (s.controllerBack c d changed).1 := by
  refine h.step ?_ e
  unfold State.controllerBack
  try lift_lets
  with_reducible repeat' first
    | apply Within.refl | apply State.event_to | apply State.cellFlag_to | split
  all_goals rfl

theorem State.startRun_to (c : Nat) (d : CellDyn) (i : CellImage) (t n : Nat) (h : Within F z s) (e : subFoot
    (0x400040003FFFC0068000000000000000000000000000000400000C7800) F = true) :
    Within F z (s.startRun c d i t n) := by
  refine h.step ?_ e
  unfold State.startRun
  try lift_lets
  with_reducible repeat' first
    | apply Within.refl | apply State.makeReady_to | apply State.setCellDyn_to | apply State.lapseAct_to
    | apply State.changeMode_to | apply State.controllerBack_to | apply Within.ite
  all_goals rfl

theorem State.overrun_to (c : Nat) (d : CellDyn) (t : Nat) (h : Within F z s) (e : subFoot
    (0x400040003FFFC0068000000000000000000000000000000400000C7800) F = true) :
    Within F z (s.overrun c d t) := by
  refine h.step ?_ e
  unfold State.overrun
  try lift_lets
  with_reducible repeat' first
    | apply Within.refl | apply State.inc_to | apply State.eventLim_to | apply State.setCellDyn_to
    | apply State.cellEvent_to
  all_goals repeat' first | with_reducible apply subFoot_cellIx | rfl

theorem State.sendOutput_to (c j : Nat) (t : Template) (f : Bytes) (h : Within F z s) (e : subFoot
    (0x40000000000000000000000000000000000000000003C0000000204080) F = true) :
    Within F z (s.sendOutput c j t f) := by
  refine h.step ?_ e
  unfold State.sendOutput
  try lift_lets
  with_reducible repeat' first
    | apply Within.refl | apply State.setCellDyn_to | apply State.withdrawnDrop_to | apply Within.ite
    | apply State.putNet_to
  all_goals rfl

theorem State.sendOutputs_to (c : Nat) (ts : List Template) (fs : List Bytes) (h : Within F z s) (e : subFoot
    (0x40000000000000000000000000000000000000000003C0000000204080) F = true) :
    Within F z (s.sendOutputs c ts fs) := by
  refine h.step ?_ e
  unfold State.sendOutputs
  try lift_lets
  with_reducible repeat' first
    | apply Within.refl | apply State.sendOutput_to | apply Within.ite | refine Within.foldl ?_ fun s x => ?_
  all_goals rfl

theorem State.holdOutputs_to (c : Nat) (d : CellDyn) (i : CellImage) (t : Nat) (h : Within F z s) (e : subFoot
    (0x40000000000000000000000000000000000000000003C0000000204080) F = true) :
    Within F z (s.holdOutputs c d i t) := by
  refine h.step ?_ e
  unfold State.holdOutputs
  try lift_lets
  with_reducible repeat' first
    | apply Within.refl | apply State.setCellDyn_to | apply State.sendOutputs_to | apply Within.ite
  all_goals rfl

theorem execCellRelease_within (c : Cell) (s : State) :
    WithinOut (0x400040003FFFC0068000000000000000000000000003C00400002C7880) s (execCellRelease c s) := by
  unfold execCellRelease
  apply Within.out
  try lift_lets
  with_reducible repeat' first
    | apply Within.refl | apply State.startRun_to | apply State.overrun_to | apply State.holdOutputs_to | split
  all_goals rfl

theorem cellModeRule_act {u : State} (c : Nat) (w : Via) (x : Nat) (h : Within F z u) (e : subFoot
    (0x400000003FFFC000000000000000000000000000000000000000000000) F = true) :
    Within F z ((cellModeRule c).act u w x).state := by
  refine h.step ?_ e
  unfold cellModeRule
  try dsimp only
  try lift_lets
  with_reducible repeat' first
    | apply Within.refl | apply Within.ended | apply Within.later | apply Within.iteState | apply State.setOb_to
  all_goals repeat' first | with_reducible apply subFoot_cellIx | rfl

theorem State.refuseImage_to (c cause master : Nat) (h : Within F z s) (e : subFoot
    (0x400040003FFFC0068000000000000000000000000000000400000C3800) F = true) :
    Within F z (s.refuseImage c cause master) := by
  refine h.step ?_ e
  unfold State.refuseImage
  try lift_lets
  with_reducible repeat' first
    | apply Within.refl | apply State.setCells_to | apply State.event_to
  all_goals repeat' first | with_reducible apply subFoot_cellIx | rfl

theorem State.alarm_to (c code : Nat) (h : Within F z s) (e : subFoot
    (0x400040003FFFC0068000000000000000000000000000000400000C3800) F = true) :
    Within F z (s.alarm c code) := by
  refine h.step ?_ e
  unfold State.alarm
  try lift_lets
  with_reducible repeat' first
    | apply Within.refl | apply State.setOb_to | apply State.event_to | apply Within.ite
  all_goals repeat' first | with_reducible apply subFoot_cellIx | rfl

theorem State.numericFault_to (c b : Nat) (h : Within F z s) (e : subFoot
    (0x400040003FFFC0068000000000000000000000000000000400000C3800) F = true) :
    Within F z (s.numericFault c b) := by
  refine h.step ?_ e
  unfold State.numericFault
  try lift_lets
  with_reducible repeat' first
    | apply Within.refl | apply State.eventLim_to | apply State.cellFlag_to
  all_goals rfl

theorem State.completeRun_to (c : Nat) (d : CellDyn) (i : CellImage) (h : Within F z s) (e : subFoot
    (0x400040003FFFC0068000000000000000000000000003C00400002C7880) F = true) :
    Within F z (s.completeRun c d i) := by
  refine h.step ?_ e
  unfold State.completeRun
  try lift_lets
  with_reducible repeat' first
    | apply Within.refl | apply State.inc_to | apply State.setCells_to | apply State.alarm_to
    | apply State.setCellDyn_to | apply State.sendOutputs_to | apply State.numericFault_to | apply Within.ite
    | refine Within.foldl ?_ fun s x => ?_
  all_goals repeat' first | with_reducible apply subFoot_cellIx | rfl

theorem execCellRun_within (c : Cell) (s : State) :
    WithinOut (0x400040003FFFC0068000000000000000000000000003C00400002C7880) s (execCellRun c s) := by
  unfold execCellRun
  apply Within.out
  try dsimp -proj -iota only
  with_reducible repeat' first
    | apply Within.refl | apply State.afterRun_to | apply State.completeRun_to | apply Within.ite | split
  all_goals rfl

theorem State.placeCell_to (c u k t : Nat) (h : Within F z s) (e : subFoot
    (0x2000000000000000000000000000000000000000000) F = true) :
    Within F z (s.placeCell c u k t) := by
  refine h.step ?_ e
  unfold State.placeCell
  try lift_lets
  with_reducible repeat' first
    | apply Within.refl | apply State.setOb_to | apply State.setCells_to | apply State.setCell_to
  all_goals rfl

theorem State.installImage_to (c : Nat) (i : CellImage) (b : Bytes) (k t : Nat) (h : Within F z s) (e : subFoot
    (0x400040003FFFC0068000000000000000000000000000000400000C7840) F = true) :
    Within F z (s.installImage c i b k t) := by
  refine h.step ?_ e
  unfold State.installImage
  try lift_lets
  with_reducible repeat' first
    | apply Within.refl | apply State.setCells_to | apply State.setBlob_to | apply State.placeCell_to
    | apply State.setCellDyn_to | apply State.event_to
  all_goals repeat' first | with_reducible apply subFoot_cellIx | rfl

theorem State.unplace_to (c : Nat) (h : Within F z s) (e : subFoot (0x2000000000000000000000000000000000000000000) F
    = true) :
    Within F z (s.unplace c) := by
  refine h.step ?_ e
  unfold State.unplace
  try dsimp -proj -iota only
  with_reducible repeat' first
    | apply Within.refl | apply State.setOb_to | apply State.setCells_to | apply State.setCell_to
    | apply Within.ite | split
  all_goals rfl

theorem State.unloadImage_to (c : Nat) (h : Within F z s) (e : subFoot
    (0x400040003FFFC0068000000000000000000000000000000400000C7840) F = true) :
    Within F z (s.unloadImage c) := by
  refine h.step ?_ e
  unfold State.unloadImage
  try lift_lets
  with_reducible repeat' first
    | apply Within.refl | apply State.setCells_to | apply State.setBlob_to | apply State.setCellDyn_to
    | apply State.cellEvent_to | apply State.event_to | apply State.unplace_to
  all_goals repeat' first | with_reducible apply subFoot_cellIx | rfl

theorem unloadRule_act {u : State} (c : Nat) (w : Via) (x : Nat) (h : Within F z u) (e : subFoot
    (0x400040003FFFC0068000000000000000000000000000000400000C7840) F = true) :
    Within F z ((unloadRule c).act u w x).state := by
  refine h.step ?_ e
  unfold unloadRule
  try dsimp only
  try lift_lets
  with_reducible repeat' first
    | apply Within.refl | apply Within.ended | apply Within.later | apply Within.iteState
    | apply State.unloadImage_to | apply Within.ite | split
  all_goals rfl

theorem execUnload_within (v : Via) (c : Cell) (data : Bytes) (s : State) :
    WithinOut (0x400040003FFFC006BFFFC00000000000000000000007C00680002C7851) s (execUnload v c data s) := by
  unfold execUnload
  apply Within.out
  try lift_lets
  with_reducible repeat' first
    | apply Within.refl | assumption | (intro u x hu; apply unloadRule_act)
    | (intro x; refine Within.cut (0x400040003FFFC006BFFFC00000000000000000000007C00680002C7851) s x ?_ ?_; rotate_left; intro hx; clear_value x)
    | apply unloadRule_act | apply State.writeItem_to | apply Within.ite
  all_goals rfl

theorem State.replaceCell_to (core limit c : Nat) (h : Within F z s) (e : subFoot
    (0x400040003FFFC0068000000000000000000000000000000400000C7800) F = true) :
    Within F z (s.replaceCell core limit c) := by
  refine h.step ?_ e
  unfold State.replaceCell
  try dsimp -proj -iota only
  with_reducible repeat' first
    | apply Within.refl | apply State.placeCell_to | apply State.setCellDyn_to | apply State.event_to
    | apply State.cellFlag_to | apply State.unplace_to | apply Within.ite | split
  all_goals rfl

theorem State.replaceCells_to (core : Nat) (h : Within F z s) (e : subFoot
    (0x400040003FFFC0068000000000000000000000000000000400000C7800) F = true) :
    Within F z (s.replaceCells core) := by
  refine h.step ?_ e
  unfold State.replaceCells
  try lift_lets
  with_reducible repeat' first
    | apply Within.refl | apply State.replaceCell_to | apply Within.ite | refine Within.foldl ?_ fun s x => ?_
  all_goals rfl

theorem execCellModeWrite_within (v : Via) (c : Cell) (data : Bytes) (s : State) :
    WithinOut (0x400040003FFFC006BFFFC00000000000000000000007C00680002C3851) s (execCellModeWrite v c data s) := by
  unfold execCellModeWrite
  apply Within.out
  try lift_lets
  with_reducible repeat' first
    | apply Within.refl | assumption | (intro u x hu; apply cellModeRule_act)
    | (intro x; refine Within.cut (0x400040003FFFC006BFFFC00000000000000000000007C00680002C3851) s x ?_ ?_; rotate_left; intro hx; clear_value x)
    | apply cellModeRule_act | apply State.writeItem_to | apply Within.ite
  all_goals rfl

theorem State.loadImage_to (c master : Nat) (b : Bytes) (h : Within F z s) (e : subFoot
    (0x400040003FFFC0068000000000000000000000000000000400000C7840) F = true) :
    Within F z (s.loadImage c master b).2 := by
  refine h.step ?_ e
  unfold State.loadImage
  try dsimp -proj -iota only
  with_reducible repeat' first
    | apply Within.refl | apply State.refuseImage_to | apply State.installImage_to | apply State.unplace_to
    | apply Within.ite | split
  all_goals rfl

end Sys2Proof.Machine
end

