-- ==== Sys2Proof/Laws/WithinTimeUnit.lean ====
section
/-! SUPPORT. What the operations of Machine/TimeUnit.lean can touch. -/

namespace Sys2Proof.Machine

variable {F : Nat} {z s : State}

theorem State.withClk_to (f : Clock → Clock) (h : Within F z s) (e : subFoot (0x20) F = true) :
    Within F z (s.withClk f) := by
  refine h.step ?_ e
  unfold State.withClk
  try lift_lets
  with_reducible repeat' first
    | apply Within.refl | apply State.putClk_to
  all_goals rfl

theorem State.setSource_to (n : Nat) (h : Within F z s) (e : subFoot
    (0x4000000000068000000000000000000000000000000580002C3820) F = true) :
    Within F z (s.setSource n) := by
  refine h.step ?_ e
  unfold State.setSource
  try lift_lets
  with_reducible repeat' first
    | apply Within.refl | apply State.setOb_to | apply State.announceAll_to | apply State.withClk_to
    | apply State.event_to | apply Within.ite
  all_goals rfl

theorem State.rebase_to (p : Nat) (h : Within F z s) (e : subFoot
    (0x400000000000000000000000000000000000003C000000000000000000) F = true) :
    Within F z (s.rebase p) := by
  refine h.step ?_ e
  unfold State.rebase
  try lift_lets
  with_reducible repeat' first
    | apply Within.refl | apply State.setOb_to | apply Within.ite
  all_goals repeat' first | with_reducible apply subFoot_gateIx | rfl

theorem State.setValid_to (v : Bool) (h : Within F z s) (e : subFoot
    (0x400040000000000680000000000000000000403C0000000500000C3820) F = true) :
    Within F z (s.setValid v) := by
  refine h.step ?_ e
  unfold State.setValid
  try lift_lets
  with_reducible repeat' first
    | apply Within.refl | apply State.edge_to | apply State.setOb_to | apply State.impair_to
    | apply State.withClk_to | apply State.rebase_to | apply Within.ite | refine Within.foldl ?_ fun s x => ?_
  all_goals rfl

theorem State.setTimeState_to (n : Nat) (h : Within F z s) (e : subFoot
    (0x400040000000000680000000000000000000403C0000000580002C3820) F = true) :
    Within F z (s.setTimeState n) := by
  refine h.step ?_ e
  unfold State.setTimeState
  try lift_lets
  with_reducible repeat' first
    | apply Within.refl | apply State.setValid_to | apply State.setOb_to | apply State.announceAll_to
    | apply State.withClk_to | apply State.event_to | apply Within.ite
  all_goals rfl

theorem State.refreshSource_to (h : Within F z s) (e : subFoot
    (0x400040000000000680000000000000000000403C0000000580002C3820) F = true) :
    Within F z (s.refreshSource) := by
  refine h.step ?_ e
  unfold State.refreshSource
  try dsimp -proj -iota only
  with_reducible repeat' first
    | apply Within.refl | apply State.setSource_to | apply State.setTimeState_to | apply Within.ite | split
  all_goals rfl

theorem State.setPtp_to (p st : Nat) (h : Within F z s) (e : subFoot
    (0x400040000000000680000000000000000000403C0000000580002C3820) F = true) :
    Within F z (s.setPtp p st) := by
  refine h.step ?_ e
  unfold State.setPtp
  try lift_lets
  with_reducible repeat' first
    | apply Within.refl | apply State.ptpAnnounce_to | apply State.refreshSource_to | apply State.event_to
    | apply State.setCell_to | apply Within.ite
  all_goals rfl

theorem State.leaveHold_to (h : Within F z s) (e : subFoot
    (0x4000400040000006BFFFC00080000000000000000000000600000F7800) F = true) :
    Within F z s.leaveHold := by
  unfold State.leaveHold
  have h1 : Within F z (s.setDev s.pwr.heldFrom) := State.setDev_to _ h (subFoot_trans (by rfl) e)
  have h2 := State.levelOff_to 0x7A5 h1 (subFoot_trans (by rfl) e)
  dsimp only
  generalize (s.setDev s.pwr.heldFrom).levelOff 0x7A5 = u at *
  have h3 := State.bump_to 0xB000 0 0x11 (s.now - s.pwr.heldAt) (State.event_to 0x0A14 (w64 (s.now - s.pwr.heldAt) ++ [u.ob 0x1002 1, s.pwr.heldFrom])
    (State.emit_to (Output.pin "TRIP_N" true) h2 (subFoot_trans (by rfl) e)) (subFoot_trans (by rfl) e)) (subFoot_trans (by rfl) e)
  generalize State.bump _ 0xB000 0 0x11 _ = v at *
  have h4 := h3.step (State.putPwrFlt_within v (if s.pwr.heldFrom = 0 then { v.pwr with released := v.pwr.released + (s.now - s.pwr.heldAt) } else v.pwr)
    (if s.pwr.heldFrom = 2 then { v.flt with since := v.flt.since + (s.now - s.pwr.heldAt) } else v.flt)) (subFoot_trans (by rfl) e)
  exact State.drainReads_to _ (State.drainReads_to _ (Within.foldl h4 fun u c => State.setCellDyn_to _ _ (.refl _ _) (subFoot_trans (by rfl) e)) (subFoot_trans (by rfl) e)) (subFoot_trans (by rfl) e)

theorem State.abandonRun_to (c : Nat) (h : Within F z s) (e : subFoot (0x6000000000000000000000000000000000000086000)
    F = true) :
    Within F z (s.abandonRun c) := by
  refine h.step ?_ e
  unfold State.abandonRun
  try dsimp -proj -iota only
  with_reducible repeat' first
    | apply Within.refl | apply State.afterRun_to | apply State.setCellDyn_to | apply Within.ite | split
  all_goals rfl

theorem State.holdQueue_to (row : Nat) (h : Within F z s) (e : subFoot
    (0x4000000040000002000000000000000000000043C00000000000200080) F = true) :
    Within F z (s.holdQueue row) := by
  refine h.step ?_ e
  unfold State.holdQueue
  try lift_lets
  with_reducible repeat' first
    | apply Within.refl | apply State.inc_to | apply State.setQueue_to | apply State.discardCopy_to
    | apply Within.ite | refine Within.foldl ?_ fun s x => ?_
  all_goals rfl

theorem State.enterHold_to (sensor : Nat) (h : Within F z s) (e : subFoot
    (0x4000400040000006800000000000400000000043C000000600002D7AA0) F = true) :
    Within F z (s.enterHold sensor) := by
  refine h.step ?_ e
  unfold State.enterHold
  try lift_lets
  with_reducible repeat' first
    | apply Within.refl | apply State.inc_to | apply State.abandonRun_to | apply State.settle_to
    | apply State.unselect_to | apply State.holdQueue_to | apply State.setDev_to | apply State.withClk_to
    | apply State.event_to | apply State.emit_to | apply State.levelOn_to | apply Within.ite
    | refine Within.foldl ?_ fun s x => ?_ | apply State.putPwr_to
  all_goals rfl

theorem execThermalTrip_within (sensor : Fin 26) (s : State) :
    WithinOut (0x4000400040000006800000000000400000000043C000000600002D7AA0) s (execThermalTrip sensor s) := by
  unfold execThermalTrip
  apply Within.out
  try lift_lets
  with_reducible repeat' first
    | apply Within.refl | apply State.enterHold_to | apply Within.ite
  all_goals rfl

theorem State.slew_to (h : Within F z s) (e : subFoot (0x10000100020) F = true) :
    Within F z (s.slew) := by
  refine h.step ?_ e
  unfold State.slew
  try lift_lets
  with_reducible repeat' first
    | apply Within.refl | apply State.setOb_to | apply State.draw_to | apply State.withClk_to
  all_goals rfl

theorem State.excludeSensor_to (i cause : Nat) (h : Within F z s) (e : subFoot
    (0x4000000000068000000000000000000000000000000440000C3820) F = true) :
    Within F z (s.excludeSensor i cause) := by
  refine h.step ?_ e
  unfold State.excludeSensor
  try lift_lets
  with_reducible repeat' first
    | apply Within.refl | apply State.setOb_to | apply State.withClk_to | apply State.event_to
  all_goals rfl

theorem State.ref10m_to (here : Bool) (h : Within F z s) (e : subFoot
    (0x4000000000068000000000000000000000000000000500001C3820) F = true) :
    Within F z (s.ref10m here) := by
  refine h.step ?_ e
  unfold State.ref10m
  try lift_lets
  with_reducible repeat' first
    | apply Within.refl | apply State.slew_to | apply State.setOb_to | apply State.event_to | apply Within.ite
  all_goals rfl

theorem State.stepGates_to (p : Nat) (h : Within F z s) (e : subFoot
    (0x400040000000000680000000000040000000403FC000000400002C3AC0) F = true) :
    Within F z (s.stepGates p) := by
  refine h.step ?_ e
  unfold State.stepGates
  try lift_lets
  with_reducible repeat' first
    | apply Within.refl | apply State.swapList_to | apply State.unselect_to | apply State.setSched_to
    | apply State.refreshGates_to | apply Within.ite
  all_goals rfl

theorem State.stepTime_to (off : Int) (h : Within F z s) (e : subFoot
    (0x400040000000000680000000000040000000403FC000000500002C3AE0) F = true) :
    Within F z (s.stepTime off) := by
  refine h.step ?_ e
  unfold State.stepTime
  try lift_lets
  with_reducible repeat' first
    | apply Within.refl | apply State.edge_to | apply State.inc_to | apply State.setOb_to | apply State.swapList_to
    | apply State.settle_to | apply State.impair_to | apply State.stepGates_to | apply State.withClk_to
    | apply State.event_to | apply Within.ite | refine Within.foldl ?_ fun s x => ?_
  all_goals rfl

theorem State.measure_to (off : Int) (h : Within F z s) (e : subFoot
    (0x400040000000000680000000000040000000403FC000000580003C3AE0) F = true) :
    Within F z (s.measure off) := by
  refine h.step ?_ e
  unfold State.measure
  try dsimp -proj -iota only
  with_reducible repeat' first
    | apply Within.refl | apply State.slew_to | apply State.setOb_to | apply State.stepTime_to
    | apply State.setTimeState_to | apply State.withClk_to | apply Within.ite | split
  all_goals rfl

theorem State.useEdge_to (h : Within F z s) (e : subFoot
    (0x400040000000000680000000000040000000403FC000000580003C3AE0) F = true) :
    Within F z (s.useEdge) := by
  refine h.step ?_ e
  unfold State.useEdge
  try dsimp -proj -iota only
  with_reducible repeat' first
    | apply Within.refl | apply State.setSource_to | apply State.refreshSource_to | apply State.setTimeState_to
    | apply State.withClk_to | apply State.measure_to | apply Within.ite | split
  all_goals rfl

theorem State.pulse_to (h : Within F z s) (e : subFoot (0x4000000000068000000000000000000000000000000400000C3820) F =
    true) :
    Within F z (s.pulse) := by
  refine h.step ?_ e
  unfold State.pulse
  try lift_lets
  with_reducible repeat' first
    | apply Within.refl | apply State.withClk_to | apply State.event_to | apply Within.ite
  all_goals rfl

theorem execPpsEdge_within (s : State) :
    WithinOut (0x400040000000000680000000000040000000403FC000000580003C3AE0) s (execPpsEdge s) := by
  unfold execPpsEdge
  apply Within.out
  try lift_lets
  with_reducible repeat' first
    | apply Within.refl | apply State.useEdge_to | apply State.pulse_to | apply Within.ite
  all_goals rfl

theorem State.ptpOffset_to (p origin got : Nat) (h : Within F z s) (e : subFoot
    (0x400040000000000680000000000040000000403FC000000580003C3AE0) F = true) :
    Within F z (s.ptpOffset p origin got) := by
  refine h.step ?_ e
  unfold State.ptpOffset
  try lift_lets
  with_reducible repeat' first
    | apply Within.refl | apply State.setPtpDyn_to | apply State.setCell_to | apply State.measure_to
    | apply State.ptpEvent_to | apply Within.ite
  all_goals rfl

theorem execRef10mAbsent_within (s : State) :
    WithinOut (0x4000000000068000000000000000000000000000000500001C3820) s (execRef10mAbsent s) := by
  unfold execRef10mAbsent
  apply Within.out
  try lift_lets
  with_reducible repeat' first
    | apply Within.refl | apply State.ref10m_to
  all_goals rfl

theorem State.sampleSensor_to (rs : List Nat) (i : Nat) (h : Within F z s) (e : subFoot
    (0x4000000000068000000000000000000000000000000440000C3820) F = true) :
    Within F z (State.sampleSensor rs s i) := by
  refine h.step ?_ e
  unfold State.sampleSensor
  try lift_lets
  with_reducible repeat' first
    | apply Within.refl | apply State.excludeSensor_to | apply State.setOb_to | apply State.withClk_to
    | apply Within.ite
  all_goals rfl

theorem execPtpPortStateChange_within (p : PtpPort) (st : PtpState) (s : State) :
    WithinOut (0x400040000000000680000000000000000000403C0000000580002C3820) s (execPtpPortStateChange p st s) := by
  unfold execPtpPortStateChange
  apply Within.out
  try lift_lets
  with_reducible repeat' first
    | apply Within.refl | apply State.setPtp_to | apply Within.ite
  all_goals rfl

theorem State.thermalWarning_to (was : List Nat) (h : Within F z s) (e : subFoot
    (0x4000000000068000000000000000000000000000000400000C3800) F = true) :
    Within F z (s.thermalWarning was) := by
  refine h.step ?_ e
  unfold State.thermalWarning
  try dsimp -proj -iota only
  with_reducible repeat' first
    | apply Within.refl | apply State.levelOff_to | apply State.event_to | apply State.levelOn_to
    | apply Within.ite | split
  all_goals rfl

theorem execTemperatureSample_within (readings : List Int) (s : State) :
    WithinOut (0x4000000000068000000000000000000000000000000440000C3820) s (execTemperatureSample readings s) := by
  unfold execTemperatureSample
  apply Within.out
  try dsimp -proj -iota only
  with_reducible repeat' first
    | apply Within.refl | apply State.setOb_to | apply State.sampleSensor_to | apply State.thermalWarning_to
    | apply State.withClk_to | apply Within.ite | refine Within.foldl ?_ fun s x => ?_ | split
  all_goals rfl

theorem State.ptpDelay_to (p : Nat) (sum : Int) (h : Within F z s) (e : subFoot (0x10000000000) F = true) :
    Within F z (s.ptpDelay p sum) := by
  refine h.step ?_ e
  unfold State.ptpDelay
  try lift_lets
  with_reducible repeat' first
    | apply Within.refl | apply State.setCell_to
  all_goals rfl

theorem State.ptpTake_to (p : Nat) (m : PtpMsg) (h : Within F z s) (e : subFoot
    (0x400040000000000680000000000040000000403FC000000580003C3AE0) F = true) :
    Within F z (s.ptpTake p m) := by
  refine h.step ?_ e
  unfold State.ptpTake
  try dsimp -proj -iota only
  with_reducible repeat' first
    | apply Within.refl | apply State.ptpOffset_to | apply State.setPtpDyn_to | apply State.setCell_to
    | apply State.ptpGeneral_to | apply State.ptpDelay_to | apply State.ptpEvent_to | apply Within.ite | split
  all_goals rfl

theorem State.coreReference_to (r : Nat) (h : Within F z s) (e : subFoot
    (0x4000000000068000000000000000000000000000000500000C3800) F = true) :
    Within F z (s.coreReference r) := by
  refine h.step ?_ e
  unfold State.coreReference
  try lift_lets
  with_reducible repeat' first
    | apply Within.refl | apply State.inc_to | apply State.setOb_to | apply State.event_to | apply Within.ite
  all_goals rfl

theorem execPtpMessage_within (p : PtpPort) (m : PtpMsg) (s : State) :
    WithinOut (0x400040000000000680000000000040000000403FC000000580003C3AE0) s (execPtpMessage p m s) := by
  unfold execPtpMessage
  apply Within.out
  try lift_lets
  with_reducible repeat' first
    | apply Within.refl | apply State.bump_to | apply State.ptpTake_to | apply Within.ite
  all_goals rfl

theorem nextPpsRule_act {u : State} (w : Via) (x : Nat) (h : Within F z u) (e : subFoot (0x20) F = true) :
    Within F z ((nextPpsRule ).act u w x).state := by
  refine h.step ?_ e
  unfold nextPpsRule
  try dsimp only
  try lift_lets
  with_reducible repeat' first
    | apply Within.refl | apply Within.ended | apply Within.later | apply Within.iteState | apply State.withClk_to
  all_goals rfl

theorem execNextPpsSecondsWrite_within (v : Via) (data : Bytes) (s : State) :
    WithinOut (0x400040003FFFC006BFFFC00000000000000000000007C00680002C3871) s (execNextPpsSecondsWrite v data s) := by
  unfold execNextPpsSecondsWrite
  apply Within.out
  try lift_lets
  with_reducible repeat' first
    | apply Within.refl | assumption | (intro u x hu; apply nextPpsRule_act)
    | (intro x; refine Within.cut (0x400040003FFFC006BFFFC00000000000000000000007C00680002C3871) s x ?_ ?_; rotate_left; intro hx; clear_value x)
    | apply State.writeItem_to | apply nextPpsRule_act | apply Within.ite
  all_goals rfl

theorem execPpsMissing_within (s : State) :
    WithinOut (0x400040000000000680000000000000000000403C0000000580002C3820) s (execPpsMissing s) := by
  unfold execPpsMissing
  apply Within.out
  try lift_lets
  with_reducible repeat' first
    | apply Within.refl | apply State.refreshSource_to | apply State.withClk_to | apply State.event_to
    | apply Within.ite
  all_goals rfl

theorem execTimeCopyReload_within (s : State) :
    WithinOut (0x20) s (execTimeCopyReload s) := by
  unfold execTimeCopyReload
  apply Within.out
  try lift_lets
  with_reducible repeat' first
    | apply Within.refl | apply State.withClk_to
  all_goals rfl

theorem execPdelayRequestTransmit_within (p : PtpPort) (s : State) :
    WithinOut (0x18000280020) s (execPdelayRequestTransmit p s) := by
  unfold execPdelayRequestTransmit
  apply Within.out
  try lift_lets
  with_reducible repeat' first
    | apply Within.refl | apply State.ptpEvent_to | apply Within.ite
  all_goals rfl

theorem execRef10mPresent_within (s : State) :
    WithinOut (0x4000000000068000000000000000000000000000000500001C3820) s (execRef10mPresent s) := by
  unfold execRef10mPresent
  apply Within.out
  try lift_lets
  with_reducible repeat' first
    | apply Within.refl | apply State.ref10m_to
  all_goals rfl

theorem execHoldoverLimit_within (s : State) :
    WithinOut (0x400040000000000680000000000000000000403C0000000580002C3820) s (execHoldoverLimit s) := by
  unfold execHoldoverLimit
  apply Within.out
  try lift_lets
  with_reducible repeat' first
    | apply Within.refl | apply State.setSource_to | apply State.refreshSource_to | apply State.setTimeState_to
    | apply State.event_to | apply Within.ite
  all_goals rfl

theorem execCoreReferenceLost_within (s : State) :
    WithinOut (0x4000000000068000000000000000000000000000000500000C3800) s (execCoreReferenceLost s) := by
  unfold execCoreReferenceLost
  apply Within.out
  try lift_lets
  with_reducible repeat' first
    | apply Within.refl | apply State.coreReference_to | apply Within.ite
  all_goals rfl

theorem execPpsOut_within (s : State) :
    WithinOut (0x6800000000000000000000000000000000000083800) s (execPpsOut s) := by
  unfold execPpsOut
  apply Within.out
  try lift_lets
  with_reducible repeat' first
    | apply Within.refl | apply State.edge_to | apply State.emit_to | apply Within.ite
  all_goals rfl

theorem execPtpSyncTransmit_within (p : PtpPort) (s : State) :
    WithinOut (0x18000280020) s (execPtpSyncTransmit p s) := by
  unfold execPtpSyncTransmit
  apply Within.out
  try lift_lets
  with_reducible repeat' first
    | apply Within.refl | apply State.ptpEvent_to | apply Within.ite
  all_goals rfl

theorem execSafeHoldExit_within (s : State) :
    WithinOut (0x4000400040000006BFFFC00080000000000000000000000600000F7800) s (execSafeHoldExit s) := by
  unfold execSafeHoldExit
  apply Within.out
  try lift_lets
  with_reducible repeat' first
    | apply Within.refl | apply State.leaveHold_to | apply Within.ite
  all_goals rfl

end Sys2Proof.Machine
end

