-- ==== Sys2Proof/Laws/WithinStore.lean ====
section
/-! SUPPORT. What the operations of Machine/Store.lean can touch. -/

namespace Sys2Proof.Machine

variable {F : Nat} {z s : State}

theorem State.withPwr_to (f : Power → Power) (h : Within F z s) (e : subFoot (0x10000) F = true) :
    Within F z (s.withPwr f) := by
  refine h.step ?_ e
  unfold State.withPwr
  try lift_lets
  with_reducible repeat' first
    | apply Within.refl | apply State.putPwr_to
  all_goals rfl

theorem State.switchCore_to (c : Nat) (h : Within F z s) (e : subFoot
    (0x400040003FFFC0068000000000000000000000000000000400000D7800) F = true) :
    Within F z (s.switchCore c) := by
  refine h.step ?_ e
  unfold State.switchCore
  try lift_lets
  with_reducible repeat' first
    | apply Within.refl | apply State.setOb_to | apply State.withPwr_to | apply State.replaceCell_to
    | apply Within.ite | refine Within.foldl ?_ fun s x => ?_
  all_goals rfl

theorem State.setCfgBank_to (n : Nat) (b : Bank) (h : Within F z s) (e : subFoot (0x10000) F = true) :
    Within F z (s.setCfgBank n b) := by
  refine h.step ?_ e
  unfold State.setCfgBank
  try lift_lets
  with_reducible repeat' first
    | apply Within.refl | apply State.withPwr_to
  all_goals rfl

theorem State.writeReplay_to (h : Within F z s) (e : subFoot (0x10000) F = true) :
    Within F z (s.writeReplay) := by
  refine h.step ?_ e
  unfold State.writeReplay
  try lift_lets
  with_reducible repeat' first
    | apply Within.refl | apply State.withPwr_to | apply Within.ite | refine Within.foldl ?_ fun s x => ?_
  all_goals rfl

theorem State.flushLog_to (h : Within F z s) (e : subFoot (0x40000040000) F = true) :
    Within F z (s.flushLog) := by
  refine h.step ?_ e
  unfold State.flushLog
  try lift_lets
  with_reducible repeat' first
    | apply Within.refl | apply State.setOb_to | apply State.putLog_to
  all_goals rfl

theorem State.afterCommit_to (c : Commit) (failed : Option Nat) (h : Within F z s) (e : subFoot
    (0x4000000000068000000000000000000000000000000600000D3800) F = true) :
    Within F z (s.afterCommit c failed) := by
  refine h.step ?_ e
  unfold State.afterCommit
  try lift_lets
  with_reducible repeat' first
    | apply Within.refl | apply State.setOb_to | apply State.withPwr_to | apply State.writeReplay_to
    | apply State.flushLog_to | apply State.event_to | split
  all_goals rfl

theorem State.failCommit_to (c : Commit) (cause : Nat) (h : Within F z s) (e : subFoot
    (0x4000000000068000000000000000000000000000000600000D3800) F = true) :
    Within F z (s.failCommit c cause) := by
  refine h.step ?_ e
  unfold State.failCommit
  try lift_lets
  with_reducible repeat' first
    | apply Within.refl | apply State.setCells_to | apply State.withPwr_to | apply State.afterCommit_to
    | apply State.event_to
  all_goals rfl

theorem State.startCommit_to (master : Nat) (reset : Option Nat) (h : Within F z s) (e : subFoot
    (0x4000000000068000000000000000000000000000000600001D3800) F = true) :
    Within F z (s.startCommit master reset) := by
  refine h.step ?_ e
  unfold State.startCommit
  try lift_lets
  with_reducible repeat' first
    | apply Within.refl | apply State.setOb_to | apply State.setCells_to | apply State.withPwr_to
    | apply State.setCfgBank_to | apply State.draw_to | apply State.failCommit_to | apply Within.ite
  all_goals rfl

theorem commitRule_act {u : State} (w : Via) (x : Nat) (h : Within F z u) (e : subFoot
    (0x4000000000068000000000000000000000000000000600001D3800) F = true) :
    Within F z ((commitRule ).act u w x).state := by
  refine h.step ?_ e
  unfold commitRule
  try dsimp only
  try lift_lets
  with_reducible repeat' first
    | apply Within.refl | apply Within.ended | apply Within.later | apply Within.iteState
    | apply State.startCommit_to
  all_goals rfl

theorem execConfigurationCommit_within (v : Via) (data : Bytes) (s : State) :
    WithinOut (0x400040003FFFC006BFFFC00000000000000000000007C00680003D3851) s (execConfigurationCommit v data s) := by
  unfold execConfigurationCommit
  apply Within.out
  try lift_lets
  with_reducible repeat' first
    | apply Within.refl | assumption | (intro u x hu; apply commitRule_act)
    | (intro x; refine Within.cut (0x400040003FFFC006BFFFC00000000000000000000007C00680003D3851) s x ?_ ?_; rotate_left; intro hx; clear_value x)
    | apply State.writeItem_to | apply commitRule_act | apply Within.ite
  all_goals rfl

theorem State.writeMarks_to (h : Within F z s) (e : subFoot (0x10000) F = true) :
    Within F z (s.writeMarks) := by
  refine h.step ?_ e
  unfold State.writeMarks
  try lift_lets
  with_reducible repeat' first
    | apply Within.refl | apply State.setMark_to | apply Within.ite | refine Within.foldl ?_ fun s x => ?_
  all_goals rfl

theorem State.endCommit_to (c : Commit) (h : Within F z s) (e : subFoot
    (0x4000000000068000000000000000000000000000000600001D3800) F = true) :
    Within F z (s.endCommit c) := by
  refine h.step ?_ e
  unfold State.endCommit
  try lift_lets
  with_reducible repeat' first
    | apply Within.refl | apply State.writeMarks_to | apply State.setOb_to | apply State.setCells_to
    | apply State.withPwr_to | apply State.afterCommit_to | apply State.setCfgBank_to | apply State.draw_to
    | apply State.failCommit_to | apply State.event_to | apply Within.ite
  all_goals rfl

theorem execCommitEnd_within (failure : Option Nat) (s : State) :
    WithinOut (0x4000000000068000000000000000000000000000000600001D3800) s (execCommitEnd failure s) := by
  unfold execCommitEnd
  apply Within.out
  try lift_lets
  with_reducible repeat' first
    | apply Within.refl | apply State.failCommit_to | apply State.endCommit_to | split
  all_goals rfl

theorem State.stageFirmware_to (b : Bytes) (h : Within F z s) (e : subFoot
    (0x4000000000068000000000000000000000000000000600000D3800) F = true) :
    Within F z (s.stageFirmware b).2 := by
  refine h.step ?_ e
  unfold State.stageFirmware
  try dsimp -proj -iota only
  with_reducible repeat' first
    | apply Within.refl | apply State.setCells_to | apply State.withPwr_to | apply State.event_to
    | apply Within.ite | split
  all_goals rfl

theorem State.showBank_to (n : Nat) (h : Within F z s) (e : subFoot (0x20000000000) F = true) :
    Within F z (s.showBank n) := by
  refine h.step ?_ e
  unfold State.showBank
  try lift_lets
  with_reducible repeat' first
    | apply Within.refl | apply State.setOb_to
  all_goals rfl

theorem State.setFwBank_to (n : Nat) (b : Bank) (h : Within F z s) (e : subFoot (0x20000010000) F = true) :
    Within F z (s.setFwBank n b) := by
  refine h.step ?_ e
  unfold State.setFwBank
  try lift_lets
  with_reducible repeat' first
    | apply Within.refl | apply State.showBank_to | apply State.withPwr_to
  all_goals rfl

theorem State.endFw_to (h : Within F z s) (e : subFoot (0x20000010000) F = true) :
    Within F z (s.endFw) := by
  refine h.step ?_ e
  unfold State.endFw
  try lift_lets
  with_reducible repeat' first
    | apply Within.refl | apply State.setOb_to | apply State.withPwr_to
  all_goals rfl

theorem State.activateBank_to (n : Nat) (h : Within F z s) (e : subFoot
    (0x4000000000068000000000000000000000000000000600000D3800) F = true) :
    Within F z (s.activateBank n) := by
  refine h.step ?_ e
  unfold State.activateBank
  try lift_lets
  with_reducible repeat' first
    | apply Within.refl | apply State.setOb_to | apply State.setFwBank_to | apply State.endFw_to
    | apply State.event_to
  all_goals rfl

theorem State.fwStep_to (x n : Nat) (h : Within F z s) (e : subFoot
    (0x4000000000068000000000000000000000000000000600000D3800) F = true) :
    Within F z (s.fwStep x n) := by
  refine h.step ?_ e
  unfold State.fwStep
  try lift_lets
  with_reducible repeat' first
    | apply Within.refl | apply State.setCells_to | apply State.setFwBank_to | apply State.endFw_to
    | apply State.event_to | apply State.activateBank_to | split
  all_goals rfl

theorem State.startActivate_to (h : Within F z s) (e : subFoot (0x20000010000) F = true) :
    Within F z (s.startActivate) := by
  refine h.step ?_ e
  unfold State.startActivate
  try lift_lets
  with_reducible repeat' first
    | apply Within.refl | apply State.setCells_to | apply State.withPwr_to
  all_goals rfl

theorem State.dropStaged_to (h : Within F z s) (e : subFoot (0x20000010000) F = true) :
    Within F z (s.dropStaged) := by
  refine h.step ?_ e
  unfold State.dropStaged
  try lift_lets
  with_reducible repeat' first
    | apply Within.refl | apply State.setCells_to | apply State.withPwr_to
  all_goals rfl

theorem State.startProgram_to (x : Nat) (h : Within F z s) (e : subFoot (0x20000010000) F = true) :
    Within F z (s.startProgram x) := by
  refine h.step ?_ e
  unfold State.startProgram
  try lift_lets
  with_reducible repeat' first
    | apply Within.refl | apply State.setCells_to | apply State.setFwBank_to | apply State.withPwr_to
  all_goals rfl

theorem State.startSwitch_to (h : Within F z s) (e : subFoot
    (0x400040003FFFC0068000000000000000000000000000000600000D7800) F = true) :
    Within F z (s.startSwitch) := by
  refine h.step ?_ e
  unfold State.startSwitch
  try lift_lets
  with_reducible repeat' first
    | apply Within.refl | apply State.switchCore_to | apply State.setCells_to | apply State.event_to
  all_goals rfl

theorem fwCommandRule_act {u : State} (w : Via) (x : Nat) (h : Within F z u) (e : subFoot
    (0x400040003FFFC0068000000000000000000000000000000600000D7800) F = true) :
    Within F z ((fwCommandRule ).act u w x).state := by
  refine h.step ?_ e
  unfold fwCommandRule
  try dsimp only
  try lift_lets
  with_reducible repeat' first
    | apply Within.refl | apply Within.ended | apply Within.later | apply Within.iteState
    | apply State.startActivate_to | apply State.dropStaged_to | apply State.startProgram_to
    | apply State.startSwitch_to | apply Within.ite | split
  all_goals rfl

theorem State.fwCommand_to (v : Via) (x : Nat) (h : Within F z s) (e : subFoot
    (0x400040003FFFC006BFFFC00000000000000000000007C00680002D7851) F = true) :
    Within F z (s.fwCommand v x) := by
  refine h.step ?_ e
  unfold State.fwCommand
  try lift_lets
  with_reducible repeat' first
    | apply Within.refl | assumption | (intro u x hu; apply fwCommandRule_act)
    | (intro x; refine Within.cut (0x400040003FFFC006BFFFC00000000000000000000007C00680002D7851) s x ?_ ?_; rotate_left; intro hx; clear_value x)
    | apply State.writeItem_to | apply fwCommandRule_act | apply Within.ite
  all_goals rfl

theorem execProgramAndActivate_within (v : Via) (s : State) :
    WithinOut (0x400040003FFFC006BFFFC00000000000000000000007C00680002D7851) s (execProgramAndActivate v s) := by
  unfold execProgramAndActivate
  apply Within.out
  try lift_lets
  with_reducible repeat' first
    | apply Within.refl | apply State.fwCommand_to
  all_goals rfl

theorem State.newChallenge_to (h : Within F z s) (e : subFoot (0x20000100000) F = true) :
    Within F z (s.newChallenge) := by
  refine h.step ?_ e
  unfold State.newChallenge
  try lift_lets
  with_reducible repeat' first
    | apply Within.refl | apply State.setOb_to | apply State.putFree_to
  all_goals rfl

theorem State.tryToken_to (who : Nat) (b : Bytes) (h : Within F z s) (e : subFoot
    (0x4000000000068000000000000000000000000000000600001C3800) F = true) :
    Within F z (s.tryToken who b).2 := by
  refine h.step ?_ e
  unfold State.tryToken
  try lift_lets
  with_reducible repeat' first
    | apply Within.refl | apply State.setOb_to | apply State.newChallenge_to | apply State.event_to | split
  all_goals rfl

theorem execSupplyWarnRelease_within (s : State) :
    WithinOut (0x4000400000068000000000000000000000000000000400000D3800) s (execSupplyWarnRelease s) := by
  unfold execSupplyWarnRelease
  apply Within.out
  try lift_lets
  with_reducible repeat' first
    | apply Within.refl | apply State.setOb_to | apply State.withPwr_to | apply State.levelOff_to
    | apply State.event_to | apply Within.ite
  all_goals rfl

theorem execFirmwareProgramStep_within (failure : Option Nat) (s : State) :
    WithinOut (0x4000000000068000000000000000000000000000000600000D3800) s (execFirmwareProgramStep failure s) := by
  unfold execFirmwareProgramStep
  apply Within.out
  try lift_lets
  with_reducible repeat' first
    | apply Within.refl | apply State.setCells_to | apply State.fwStep_to | apply State.withPwr_to
    | apply State.event_to | split
  all_goals rfl

theorem State.restartCore_to (c : Nat) (h : Within F z s) (e : subFoot
    (0x400040003FFFC007FFFFC00080000000000000000007C00600002CF887) F = true) :
    Within F z (s.restartCore c) := by
  refine h.step ?_ e
  unfold State.restartCore
  try lift_lets
  with_reducible repeat' first
    | apply Within.refl | apply State.setOb_to | apply State.dropActive_to | apply State.dropRuns_to
    | apply State.orphan_to | apply State.restartThread_to | apply Within.ite
    | refine Within.foldl ?_ fun s x => ?_
  all_goals rfl

theorem State.endSwitch_to (h : Within F z s) (e : subFoot (0x4000000000068000000000000000000000000000000640000D3800)
    F = true) :
    Within F z (s.endSwitch) := by
  refine h.step ?_ e
  unfold State.endSwitch
  try lift_lets
  with_reducible repeat' first
    | apply Within.refl | apply State.setOb_to | apply State.setCells_to | apply State.withPwr_to
    | apply State.event_to
  all_goals rfl

theorem execSwitchCoreDone_within (fault : Bool) (s : State) :
    WithinOut (0x400040003FFFC007FFFFC00080000000000000000007C00640002DF887) s (execSwitchCoreDone fault s) := by
  unfold execSwitchCoreDone
  apply Within.out
  try dsimp -proj -iota only
  with_reducible repeat' first
    | apply Within.refl | apply State.switchCore_to | apply State.setOb_to | apply State.setCells_to
    | apply State.withPwr_to | apply State.restartCore_to | apply State.event_to | apply State.replaceCell_to
    | apply State.endSwitch_to | apply Within.ite | refine Within.foldl ?_ fun s x => ?_ | split
  all_goals rfl

theorem State.pmbus_to (row command value : Nat) (h : Within F z s) (e : subFoot (0x80000) F = true) :
    Within F z (s.pmbus row command value) := by
  refine h.step ?_ e
  unfold State.pmbus
  try lift_lets
  with_reducible repeat' first
    | apply Within.refl | apply State.emit_to
  all_goals rfl

theorem State.setCore_to (mv : Nat) (h : Within F z s) (e : subFoot
    (0x40000000000000000000000000000000000000000000080000) F = true) :
    Within F z (s.setCore mv) := by
  refine h.step ?_ e
  unfold State.setCore
  try lift_lets
  with_reducible repeat' first
    | apply Within.refl | apply State.setOb_to | apply State.pmbus_to | apply Within.ite
  all_goals rfl

theorem execPmbusAlert_within (words : List Nat) (s : State) :
    WithinOut (0x4000800000068000000000000000000000000000000400000C3800) s (execPmbusAlert words s) := by
  unfold execPmbusAlert
  apply Within.out
  try lift_lets
  with_reducible repeat' first
    | apply Within.refl | apply State.bump_to | apply State.event_to | apply State.setCell_to | apply Within.ite
    | refine Within.foldl ?_ fun s x => ?_
  all_goals rfl

theorem execAvsStep_within (lowest : Nat) (refused : Bool) (s : State) :
    WithinOut (0x4000400000068000000000000000000000000000000400000D3800) s (execAvsStep lowest refused s) := by
  unfold execAvsStep
  apply Within.out
  try lift_lets
  with_reducible repeat' first
    | apply Within.refl | apply State.withPwr_to | apply State.pmbus_to | apply State.setCore_to
    | apply State.event_to | apply Within.ite
  all_goals rfl

theorem unlockRule_act {u : State} (w : Via) (x : Nat) (h : Within F z u) (e : subFoot
    (0x4000000000068000000000000000000000000000000600001C3800) F = true) :
    Within F z ((unlockRule ).act u w x).state := by
  refine h.step ?_ e
  unfold unlockRule
  try dsimp only
  try lift_lets
  with_reducible repeat' first
    | apply Within.refl | apply Within.ended | apply Within.later | apply Within.iteState | apply State.tryToken_to
  all_goals rfl

theorem State.writeAvailability_to (h : Within F z s) (e : subFoot (0x40000020000) F = true) :
    Within F z (s.writeAvailability) := by
  refine h.step ?_ e
  unfold State.writeAvailability
  try lift_lets
  with_reducible repeat' first
    | apply Within.refl | apply State.setOb_to | apply State.putFlt_to
  all_goals rfl

theorem execSupplyWarnAssert_within (s : State) :
    WithinOut (0x4000400000068000000000000000000000000000000400000F3800) s (execSupplyWarnAssert s) := by
  unfold execSupplyWarnAssert
  apply Within.out
  try lift_lets
  with_reducible repeat' first
    | apply Within.refl | apply State.inc_to | apply State.writeMarks_to | apply State.setOb_to
    | apply State.withPwr_to | apply State.writeReplay_to | apply State.flushLog_to | apply State.event_to
    | apply State.writeAvailability_to | apply State.levelOn_to | apply Within.ite
  all_goals rfl

theorem execDiscard_within (v : Via) (s : State) :
    WithinOut (0x400040003FFFC006BFFFC00000000000000000000007C00680002D7851) s (execDiscard v s) := by
  unfold execDiscard
  apply Within.out
  try lift_lets
  with_reducible repeat' first
    | apply Within.refl | apply State.fwCommand_to
  all_goals rfl

theorem execActivate_within (v : Via) (s : State) :
    WithinOut (0x400040003FFFC006BFFFC00000000000000000000007C00680002D7851) s (execActivate v s) := by
  unfold execActivate
  apply Within.out
  try lift_lets
  with_reducible repeat' first
    | apply Within.refl | apply State.fwCommand_to
  all_goals rfl

theorem execSwitch_within (v : Via) (s : State) :
    WithinOut (0x400040003FFFC006BFFFC00000000000000000000007C00680002D7851) s (execSwitch v s) := by
  unfold execSwitch
  apply Within.out
  try lift_lets
  with_reducible repeat' first
    | apply Within.refl | apply State.fwCommand_to
  all_goals rfl

theorem execProgram_within (v : Via) (s : State) :
    WithinOut (0x400040003FFFC006BFFFC00000000000000000000007C00680002D7851) s (execProgram v s) := by
  unfold execProgram
  apply Within.out
  try lift_lets
  with_reducible repeat' first
    | apply Within.refl | apply State.fwCommand_to
  all_goals rfl

theorem execBackgroundEraseDone_within (s : State) :
    WithinOut (0x20000010000) s (execBackgroundEraseDone s) := by
  unfold execBackgroundEraseDone
  apply Within.out
  try lift_lets
  with_reducible repeat' first
    | apply Within.refl | apply State.setOb_to | apply State.setCfgBank_to | apply Within.ite
  all_goals rfl

theorem execDebugUnlock_within (d : DebugPath) (token : Bytes) (s : State) :
    WithinOut (0x400040003FFFC006BFFFC00000000000000000000007C00680003C3851) s (execDebugUnlock d token s) := by
  unfold execDebugUnlock
  apply Within.out
  try lift_lets
  with_reducible repeat' first
    | apply Within.refl | assumption | (intro u x hu; apply unlockRule_act)
    | (intro x; refine Within.cut (0x400040003FFFC006BFFFC00000000000000000000007C00680003C3851) s x ?_ ?_; rotate_left; intro hx; clear_value x)
    | (intro x; clear_value x) | apply State.tryToken_to | apply State.writeItem_to | apply unlockRule_act
    | apply Within.ite | split
  all_goals rfl

end Sys2Proof.Machine
end

