-- ==== Sys2Proof/Laws/WithinFaults.lean ====
section
/-! SUPPORT. What the operations of Machine/Faults.lean can touch. -/

namespace Sys2Proof.Machine

variable {F : Nat} {z s : State}

theorem State.withFlt_to (f : Faults → Faults) (h : Within F z s) (e : subFoot (0x20000) F = true) :
    Within F z (s.withFlt f) := by
  refine h.step ?_ e
  unfold State.withFlt
  try lift_lets
  with_reducible repeat' first
    | apply Within.refl | apply State.putFlt_to
  all_goals rfl

theorem State.setHealth_to (row h0 : Nat) (h : Within F z s) (e : subFoot
    (0x4000000000000000000000000000800040000020000) F = true) :
    Within F z (s.setHealth row h0) := by
  refine h.step ?_ e
  unfold State.setHealth
  try lift_lets
  with_reducible repeat' first
    | apply Within.refl | apply State.setOb_to | apply State.setCells_to | apply State.withFlt_to
    | apply State.setCell_to | apply Within.ite
  all_goals rfl

theorem State.failUnit_to (row : Nat) (h : Within F z s) (e : subFoot (0x4000000000000000000000000000800040000020000)
    F = true) :
    Within F z (s.failUnit row) := by
  refine h.step ?_ e
  unfold State.failUnit
  try lift_lets
  with_reducible repeat' first
    | apply Within.refl | apply State.setHealth_to | apply State.setCell_to
  all_goals rfl

theorem State.onStack_to (x1 : List Nat) (h : Within F z s) (e : subFoot (0x100000) F = true) :
    Within F z (s.onStack x1).2 := by
  induction x1 generalizing s with
  | nil => exact h
  | cons y x1 ih =>
    unfold State.onStack
    try dsimp -proj -iota only
    with_reducible repeat' first
      | exact h | apply ih | apply Within.refl | apply State.draw_to
    all_goals exact subFoot_trans (by rfl) e

theorem State.enterRecovery_to (h : Within F z s) (e : subFoot
    (0x4000000000068000000000000000000000000000000600000F3800) F = true) :
    Within F z (s.enterRecovery) := by
  refine h.step ?_ e
  unfold State.enterRecovery
  try lift_lets
  with_reducible repeat' first
    | apply Within.refl | apply State.poolMode_to | apply State.inc_to | apply State.withPwr_to
    | apply State.setDev_to | apply State.withFlt_to | apply State.event_to | apply Within.ite
  all_goals rfl

theorem State.discardHandles_to (hs : List Nat) (h : Within F z s) (e : subFoot
    (0x4000000000000002000000000000000000000043C003C0000000200080) F = true) :
    Within F z (s.discardHandles hs) := by
  refine h.step ?_ e
  unfold State.discardHandles
  try lift_lets
  with_reducible repeat' first
    | apply Within.refl | apply State.inc_to | apply State.setQueue_to | apply State.discardCopy_to
    | apply Within.ite | refine Within.foldl ?_ fun s x => ?_
  all_goals repeat' first | with_reducible apply subFoot_portIx | rfl

theorem State.leaveRecovery_to (h : Within F z s) (e : subFoot
    (0x4000000000068000000000000000000000000000000600000D3800) F = true) :
    Within F z (s.leaveRecovery) := by
  refine h.step ?_ e
  unfold State.leaveRecovery
  try lift_lets
  with_reducible repeat' first
    | apply Within.refl | apply State.poolMode_to | apply State.bump_to | apply State.withPwr_to
    | apply State.setDev_to | apply State.event_to | apply Within.ite
  all_goals rfl

theorem execHbmStackFailure_within (stack : Fin 2) (s : State) :
    WithinOut (0x4000400000000006800000000000000000000043C00BC00600003F3880) s (execHbmStackFailure stack s) := by
  unfold execHbmStackFailure
  apply Within.out
  try lift_lets
  with_reducible repeat' first
    | apply Within.refl | apply State.failUnit_to | apply State.onStack_to | apply State.enterRecovery_to
    | apply State.withFlt_to | apply State.event_to | apply State.discardHandles_to | apply State.leaveRecovery_to
    | apply Within.ite
  all_goals rfl

theorem State.retireLink_to (k : Nat) (h : Within F z s) (e : subFoot
    (0x400040003FFFC007FFFFC000C000400000004043C00FC00600002FBFC7) F = true) :
    Within F z (s.retireLink k) := by
  refine h.step ?_ e
  unfold State.retireLink
  try lift_lets
  with_reducible repeat' first
    | apply Within.refl | apply State.setHealth_to | apply State.hostReset_to | apply State.impair_to
    | apply State.enterRecovery_to | apply State.withFlt_to | apply State.leaveRecovery_to
    | apply State.refreshPort_to | apply Within.ite | refine Within.foldl ?_ fun s x => ?_
  all_goals rfl

theorem State.endFailover_to (row : Nat) (h : Within F z s) (e : subFoot
    (0x4000000000068000000000000000000000000000000600000F3800) F = true) :
    Within F z (s.endFailover row) := by
  refine h.step ?_ e
  unfold State.endFailover
  try lift_lets
  with_reducible repeat' first
    | apply Within.refl | apply State.withFlt_to | apply State.leaveRecovery_to
  all_goals rfl

theorem State.moveThread_to (n : Nat) (h : Within F z s) (e : subFoot
    (0x400040003FFFC007FFFFC00080000000000000000007C00600002CF887) F = true) :
    Within F z (s.moveThread n).2 := by
  refine h.step ?_ e
  unfold State.moveThread
  try dsimp -proj -iota only
  with_reducible repeat' first
    | apply Within.refl | apply State.endLeasesOf_to | apply State.setThread_to | apply State.setOb_to
    | apply State.dropActive_to | apply State.setCells_to | apply State.freeHeld_to | apply State.dropRuns_to
    | apply State.mapThread_to | apply State.dmaThreadGone_to | apply State.orphan_to
    | apply State.restartThread_to | apply Within.ite | split
  all_goals rfl

theorem State.moveCore_to (c : Nat) (h : Within F z s) (e : subFoot
    (0x400040003FFFC007FFFFC00080000000000000000007C00600002FF887) F = true) : Within F z (s.moveCore c) := by
  unfold State.moveCore
  dsimp only
  with_reducible apply State.endFailover_to
  with_reducible apply State.event_to
  with_reducible apply State.inc_to
  with_reducible apply State.replaceCells_to
  with_reducible apply Within.foldlSnd
  exact h
  intro x a
  dsimp only
  with_reducible apply State.moveThread_to
  apply Within.refl
  all_goals exact subFoot_trans (by rfl) e

theorem State.cutBack_to (p : Nat) (h : Within F z s) (e : subFoot
    (0x4000000000000000000000000000400000000003C00000000000280280) F = true) :
    Within F z (s.cutBack p) := by
  refine h.step ?_ e
  unfold State.cutBack
  try dsimp -proj -iota only
  with_reducible repeat' first
    | apply Within.refl | apply State.settle_to | apply State.setDeficits_to | apply State.endWork_to
    | apply State.unselect_to | apply State.setSched_to | apply State.putBack_to | apply State.emit_to
    | apply Within.ite | split
  all_goals rfl

theorem State.beginFailover_to (row : Nat) (h : Within F z s) (e : subFoot
    (0x4000000000068000000000000000000000000000000600000F3800) F = true) :
    Within F z (s.beginFailover row) := by
  refine h.step ?_ e
  unfold State.beginFailover
  try lift_lets
  with_reducible repeat' first
    | apply Within.refl | apply State.enterRecovery_to | apply State.withFlt_to
  all_goals rfl

theorem State.failFrameUnit_to (u : Nat) (h : Within F z s) (e : subFoot
    (0x4000400000000006800000000000400000004003C00BC00600003F3A80) F = true) :
    Within F z (s.failFrameUnit u) := by
  refine h.step ?_ e
  unfold State.failFrameUnit
  try dsimp -proj -iota only
  with_reducible repeat' first
    | apply Within.refl | apply State.bump_to | apply State.cutBack_to | apply State.failUnit_to
    | apply State.beginFailover_to | apply State.impair_to | apply State.draw_to | apply State.enterRecovery_to
    | apply State.event_to | apply State.setSched_to | apply State.leaveRecovery_to | apply Within.ite | split
  all_goals repeat' first | with_reducible apply subFoot_portIx | rfl

theorem execFrameUnitFault_within (u : Fin 1088) (s : State) :
    WithinOut (0x4000400000000006800000000000400000004003C00BC00600003F3A80) s (execFrameUnitFault u s) := by
  unfold execFrameUnitFault
  apply Within.out
  try lift_lets
  with_reducible repeat' first
    | apply Within.refl | apply State.failFrameUnit_to | apply Within.ite
  all_goals rfl

theorem State.setPartner_to (st : Nat) (h : Within F z s) (e : subFoot
    (0x4000000000068000000000000000000000000000000400000C3800) F = true) :
    Within F z (s.setPartner st) := by
  refine h.step ?_ e
  unfold State.setPartner
  try lift_lets
  with_reducible repeat' first
    | apply Within.refl | apply State.edge_to | apply State.setOb_to | apply State.event_to | apply Within.ite
  all_goals rfl

theorem execPartnerLost_within (s : State) :
    WithinOut (0x4000000000068000000000000000000000000000000400000C3800) s (execPartnerLost s) := by
  unfold execPartnerLost
  apply Within.out
  try lift_lets
  with_reducible repeat' first
    | apply Within.refl | apply State.inc_to | apply State.setPartner_to | apply Within.ite
  all_goals rfl

theorem State.renameLane_to (l k : Nat) (h : Within F z s) (e : subFoot
    (0x2000000000000000000000000000000000000000000) F = true) :
    Within F z (s.renameLane l k) := by
  refine h.step ?_ e
  unfold State.renameLane
  try lift_lets
  with_reducible repeat' first
    | apply Within.refl | apply State.setCell_to | apply Within.ite | refine Within.foldl ?_ fun s x => ?_
  all_goals rfl

theorem State.passRole_to (l role : Nat) (h : Within F z s) (e : subFoot
    (0x4000000000068000000000000000000000000000000400000E3800) F = true) :
    Within F z (s.passRole l role).2 := by
  refine h.step ?_ e
  unfold State.passRole
  try dsimp -proj -iota only
  with_reducible repeat' first
    | apply Within.refl | apply State.setCells_to | apply State.withFlt_to | apply State.event_to
    | apply Within.ite | split
  all_goals rfl

theorem State.moveWork_to (l k : Nat) (h : Within F z s) (e : subFoot (0x200) F = true) :
    Within F z (s.moveWork l k).2 := by
  refine h.step ?_ e
  unfold State.moveWork
  try lift_lets
  with_reducible repeat' first
    | apply Within.refl | apply State.wakeLane_to | apply State.putCip_to
  all_goals rfl

theorem State.failLane_to (l : Nat) (h : Within F z s) (e : subFoot
    (0x4000400000000006800000000000400000004003C008000600002F3A80) F = true) :
    Within F z (s.failLane l) := by
  refine h.step ?_ e
  unfold State.failLane
  try lift_lets
  with_reducible repeat' first
    | apply Within.refl | apply State.edge_to | apply State.inc_to | apply State.setCells_to
    | apply State.cutBack_to | apply State.failUnit_to | apply State.renameLane_to | apply State.beginFailover_to
    | apply State.impair_to | apply State.passRole_to | apply State.enterRecovery_to | apply State.withFlt_to
    | apply State.event_to | apply State.moveWork_to | apply State.setCell_to | apply State.leaveRecovery_to
    | apply Within.ite | refine Within.foldl ?_ fun s x => ?_
  all_goals rfl

theorem execFabricLinkRetrained_within (link : Fin 5) (ok : Bool) (s : State) :
    WithinOut (0x400040003FFFC007FFFFC000C000400000004043C00FC00600002FBFC7) s (execFabricLinkRetrained link ok s) := by
  unfold execFabricLinkRetrained
  apply Within.out
  try lift_lets
  with_reducible repeat' first
    | apply Within.refl | apply State.inc_to | apply State.retireLink_to | apply State.impair_to
    | apply State.withFlt_to | apply State.event_to | apply State.drainReads_to | apply Within.ite
  all_goals rfl

theorem execCipherLaneFault_within (l : CipherLane) (s : State) :
    WithinOut (0x4000400000000006800000000000400000004003C008000600002F3A80) s (execCipherLaneFault l s) := by
  unfold execCipherLaneFault
  apply Within.out
  try lift_lets
  with_reducible repeat' first
    | apply Within.refl | apply State.failLane_to | apply Within.ite
  all_goals rfl

theorem execLoopCoreFailoverComplete_within (c : Fin 16) (s : State) :
    WithinOut (0x400040003FFFC007FFFFC00080000000000000000007C00600002FF887) s (execLoopCoreFailoverComplete c s) := by
  unfold execLoopCoreFailoverComplete
  apply Within.out
  try lift_lets
  with_reducible repeat' first
    | apply Within.refl | apply State.moveCore_to | apply Within.ite
  all_goals rfl

theorem State.failCore_to (c : Nat) (h : Within F z s) (e : subFoot
    (0x4000000000068000000000000000000000000008000600000F3800) F = true) :
    Within F z (s.failCore c) := by
  refine h.step ?_ e
  unfold State.failCore
  try lift_lets
  with_reducible repeat' first
    | apply Within.refl | apply State.edge_to | apply State.setOb_to | apply State.failUnit_to
    | apply State.beginFailover_to | apply State.event_to | apply Within.ite | apply State.putThr_to
  all_goals rfl

theorem State.endReload_to (ix row : Nat) (h : Within F z s) (e : subFoot (0x20000) F = true) :
    Within F z (s.endReload ix row) := by
  refine h.step ?_ e
  unfold State.endReload
  try lift_lets
  with_reducible repeat' first
    | apply Within.refl | apply State.withFlt_to
  all_goals rfl

theorem execEntryReload_within (u : MemUnit) (s : State) :
    WithinOut (0x40000000000000020000) s (execEntryReload u s) := by
  unfold execEntryReload
  apply Within.out
  try lift_lets
  with_reducible repeat' first
    | apply Within.refl | apply State.setCells_to | apply State.endReload_to | split
  all_goals rfl

theorem State.startReload_to (ix row : Nat) (h : Within F z s) (e : subFoot (0x20000) F = true) :
    Within F z (s.startReload ix row) := by
  refine h.step ?_ e
  unfold State.startReload
  try lift_lets
  with_reducible repeat' first
    | apply Within.refl | apply State.withFlt_to
  all_goals rfl

theorem execCipherLaneRestartComplete_within (l : CipherLane) (s : State) :
    WithinOut (0x4000000000068000000000000000000040000000000600000F3800) s (execCipherLaneRestartComplete l s) := by
  unfold execCipherLaneRestartComplete
  apply Within.out
  try lift_lets
  with_reducible repeat' first
    | apply Within.refl | apply State.impair_to | apply State.withFlt_to | apply State.endFailover_to
    | apply Within.ite
  all_goals rfl

theorem State.replaceUnit_to (p at_ u : Nat) (h : Within F z s) (e : subFoot
    (0x4000400000000006800000000000000000000000000BC00400000C3800) F = true) :
    Within F z (State.replaceUnit p at_ s u) := by
  refine h.step ?_ e
  unfold State.replaceUnit
  try dsimp -proj -iota only
  with_reducible repeat' first
    | apply Within.refl | apply State.edge_to | apply State.takeSpare_to | apply State.inc_to
    | apply State.setUnit_to | apply State.event_to | apply State.setCell_to | apply Within.ite | split
  all_goals repeat' first | with_reducible apply subFoot_portIx | rfl

theorem execScrub_within (s : State) :
    WithinOut (0x20000) s (execScrub s) := by
  unfold execScrub
  apply Within.out
  try lift_lets
  with_reducible repeat' first
    | apply Within.refl | apply State.withFlt_to
  all_goals rfl

theorem execPairMessage_within (m : PairMsg) (s : State) :
    WithinOut (0x4000000000068000000000000000000000000000000400000E3800) s (execPairMessage m s) := by
  unfold execPairMessage
  apply Within.out
  try lift_lets
  with_reducible repeat' first
    | apply Within.refl | apply State.setCells_to | apply State.setPartner_to | apply State.stageRecord_to
    | apply State.withFlt_to | apply State.event_to | apply Within.ite | refine Within.foldl ?_ fun s x => ?_
  all_goals rfl

theorem State.loseReads_to (hp : Nat) (h : Within F z s) (e : subFoot
    (0x4000400000000007BFFFC00080004000000000000000000400002CBE87) F = true) :
    Within F z (s.loseReads hp) := by
  refine h.step ?_ e
  unfold State.loseReads
  try lift_lets
  with_reducible repeat' first
    | apply Within.refl | apply State.timeoutTag_to | apply Within.ite | refine Within.foldl ?_ fun s x => ?_
  all_goals rfl

theorem execFabricLinkRepair_within (link : Fin 5) (lost : Nat) (s : State) :
    WithinOut (0x4000400000000007BFFFC0008000400000004003C000000400002EBE87) s (execFabricLinkRepair link lost s) := by
  unfold execFabricLinkRepair
  apply Within.out
  try lift_lets
  with_reducible repeat' first
    | apply Within.refl | apply State.bump_to | apply State.settle_to | apply State.impair_to
    | apply State.unselect_to | apply State.withFlt_to | apply State.loseReads_to | apply Within.ite
    | refine Within.foldl ?_ fun s x => ?_
  all_goals rfl

theorem execFozonLinkChange_within (st width : Nat) (s : State) :
    WithinOut (0x4000000000068000000000000000000000000000000400000C3800) s (execFozonLinkChange st width s) := by
  unfold execFozonLinkChange
  apply Within.out
  try lift_lets
  with_reducible repeat' first
    | apply Within.refl | apply State.edge_to | apply State.setCells_to | apply State.event_to | apply Within.ite
  all_goals rfl

theorem execCorrectableError_within (row : Fin 1148) (s : State) :
    WithinOut (0x4000000000068000000000000000000000000008000400000E3800) s (execCorrectableError row s) := by
  unfold execCorrectableError
  apply Within.out
  try lift_lets
  with_reducible repeat' first
    | apply Within.refl | apply State.setHealth_to | apply State.bump_to | apply State.withFlt_to
    | apply State.event_to | apply Within.ite
  all_goals rfl

theorem State.requestWarm_to (h : Within F z s) (e : subFoot
    (0x4000000000068000000000000000000000000000000600001D3800) F = true) :
    Within F z (s.requestWarm) := by
  refine h.step ?_ e
  unfold State.requestWarm
  try lift_lets
  with_reducible repeat' first
    | apply Within.refl | apply State.startCommit_to | apply State.withPwr_to | split
  all_goals rfl

theorem State.badData_to (h0 p : Nat) (h : Within F z s) (e : subFoot
    (0x4000000000000002000000000000400000000003C00000000000280280) F = true) :
    Within F z (s.badData h0 p) := by
  refine h.step ?_ e
  unfold State.badData
  try dsimp -proj -iota only
  with_reducible repeat' first
    | apply Within.refl | apply State.settle_to | apply State.dropCopy_to | apply State.unselect_to
    | apply State.setSched_to | apply State.emit_to | apply Within.ite | refine Within.foldl ?_ fun s x => ?_
    | split | apply State.putNet_to
  all_goals rfl

theorem State.memoryFault_to (x1 : MemUnit) (h : Within F z s) (e : subFoot
    (0x4000400000000007800000008000400000004043C00BC00600003FFA87) F = true) :
    Within F z (s.memoryFault x1) := by
  refine h.step ?_ e
  unfold State.memoryFault
  try lift_lets
  with_reducible repeat' first
    | apply Within.refl | apply State.failLane_to | apply State.failFrameUnit_to | apply State.failCore_to
    | apply State.startReload_to | apply State.faultThread_to | apply State.withFlt_to | apply State.requestWarm_to
    | apply State.discardHandles_to | apply State.badData_to | split | apply State.putLoop_to
  all_goals rfl

theorem execLoopCoreFault_within (c : Fin 16) (s : State) :
    WithinOut (0x4000000000068000000000000000000000000008000600000F3800) s (execLoopCoreFault c s) := by
  unfold execLoopCoreFault
  apply Within.out
  try lift_lets
  with_reducible repeat' first
    | apply Within.refl | apply State.failCore_to | apply Within.ite
  all_goals rfl

theorem execLogFlush_within (s : State) :
    WithinOut (0x40000040000) s (execLogFlush s) := by
  unfold execLogFlush
  apply Within.out
  try lift_lets
  with_reducible repeat' first
    | apply Within.refl | apply State.flushLog_to
  all_goals rfl

theorem State.uncorrectable_to (u : MemUnit) (h : Within F z s) (e : subFoot
    (0x4000400000000007800000008000400000004043C00BC00600003FFA87) F = true) :
    Within F z (s.uncorrectable u) := by
  refine h.step ?_ e
  unfold State.uncorrectable
  try lift_lets
  with_reducible repeat' first
    | apply Within.refl | apply State.bump_to | apply State.memoryFault_to | apply State.event_to | split
  all_goals rfl

theorem execUncorrectableError_within (u : MemUnit) (s : State) :
    WithinOut (0x4000400000000007800000008000400000004043C00BC00600003FFA87) s (execUncorrectableError u s) := by
  unfold execUncorrectableError
  apply Within.out
  try lift_lets
  with_reducible repeat' first
    | apply Within.refl | apply State.uncorrectable_to | apply State.cutDma_to | split
  all_goals rfl

theorem execRecoveryTimeout_within (s : State) :
    WithinOut (0x4000000000068000000000000000000000000000000600001D3800) s (execRecoveryTimeout s) := by
  unfold execRecoveryTimeout
  apply Within.out
  try lift_lets
  with_reducible repeat' first
    | apply Within.refl | apply State.event_to | apply State.requestWarm_to | apply Within.ite
  all_goals rfl

theorem execPairMessageSend_within (s : State) :
    WithinOut (0x80000) s (execPairMessageSend s) := by
  unfold execPairMessageSend
  apply Within.out
  try lift_lets
  with_reducible repeat' first
    | apply Within.refl | apply State.emit_to | apply Within.ite
  all_goals rfl

theorem execAvailabilityUpdate_within (s : State) :
    WithinOut (0x40000020000) s (execAvailabilityUpdate s) := by
  unfold execAvailabilityUpdate
  apply Within.out
  try lift_lets
  with_reducible repeat' first
    | apply Within.refl | apply State.writeAvailability_to
  all_goals rfl

theorem execFailoverComplete_within (p : Port) (s : State) :
    WithinOut (0x4000400000000006800000000000400000004043C00BC00600002F3A80) s (execFailoverComplete p s) := by
  unfold execFailoverComplete
  apply Within.out
  try lift_lets
  with_reducible repeat' first
    | apply Within.refl | apply State.impair_to | apply State.replaceUnit_to | apply State.setSched_to
    | apply State.endFailover_to | apply State.refreshPort_to | apply Within.ite
    | refine Within.foldl ?_ fun s x => ?_
  all_goals rfl

theorem execTernaryRowRewrite_within (row : Nat) (s : State) :
    WithinOut (0x4000000000068000000000000000000000000000000400000E3800) s (execTernaryRowRewrite row s) := by
  unfold execTernaryRowRewrite
  apply Within.out
  try lift_lets
  with_reducible repeat' first
    | apply Within.refl | apply State.withFlt_to | apply State.event_to | apply Within.ite
  all_goals rfl

end Sys2Proof.Machine
end

