-- ==== Sys2Proof/Laws/WithinStartup.lean ====
section
/-! SUPPORT. What the operations of Machine/Startup.lean can touch. -/

namespace Sys2Proof.Machine

variable {F : Nat} {z s : State}

theorem State.startMgmt_to (h : Within F z s) (e : subFoot (0x4000000000068000000000000000000000000000000480000C3800)
    F = true) :
    Within F z (s.startMgmt) := by
  refine h.step ?_ e
  unfold State.startMgmt
  try lift_lets
  with_reducible repeat' first
    | apply Within.refl | apply State.setMgmt_to | apply Within.ite
  all_goals rfl

theorem State.retireBank_to (n cause : Nat) (h : Within F z s) (e : subFoot
    (0x4000000000068000000000000000000000000000000600000D3800) F = true) :
    Within F z (s.retireBank n cause) := by
  refine h.step ?_ e
  unfold State.retireBank
  try lift_lets
  with_reducible repeat' first
    | apply Within.refl | apply State.setFwBank_to | apply State.event_to
  all_goals rfl

theorem State.bootCell_to (e0 : Nat × Bytes) (h : Within F z s) (e : subFoot
    (0x400040003FFFC0068000000000000000000000000000000400000C7840) F = true) :
    Within F z (s.bootCell e0) := by
  refine h.step ?_ e
  unfold State.bootCell
  try dsimp -proj -iota only
  with_reducible repeat' first
    | apply Within.refl | apply State.setOb_to | apply State.refuseImage_to | apply State.installImage_to
    | apply State.changeMode_to | apply Within.ite | split
  all_goals repeat' first | with_reducible apply subFoot_cellIx | rfl

theorem State.bootMove_to (n : Nat) (h : Within F z s) (e : subFoot (0x6000000000000000000000000000000040000002000) F
    = true) :
    Within F z (s.bootMove n) := by
  refine h.step ?_ e
  unfold State.bootMove
  try lift_lets
  with_reducible repeat' first
    | apply Within.refl | apply State.setOb_to | apply State.mapThread_to | apply State.setCell_to | split
  all_goals rfl

theorem execWatchdogWrite_within (n : Thread) (s : State) :
    WithinOut (0x10000) s (execWatchdogWrite n s) := by
  unfold execWatchdogWrite
  apply Within.out
  try lift_lets
  with_reducible repeat' first
    | apply Within.refl | apply State.withPwr_to | apply Within.ite
  all_goals rfl

theorem State.railsOff_to (h : Within F z s) (e : subFoot (0x90000) F = true) :
    Within F z (s.railsOff) := by
  refine h.step ?_ e
  unfold State.railsOff
  try lift_lets
  with_reducible repeat' first
    | apply Within.refl | apply State.withPwr_to | apply State.pmbus_to | apply Within.ite
    | refine Within.foldl ?_ fun s x => ?_
  all_goals rfl

theorem State.keepWarm_to (old : State) (h : Within F z s) (k : Within F z old)
    (e : subFoot (0x40000000000000003FFFC0008000000000000000000000000000000809) F = true) : Within F z (s.keepWarm old) := by
  unfold State.keepWarm
  refine State.setTags_to _ _ (State.setTags_to _ _ (Within.foldl ?_ fun u hp => State.setCells_to _ _ _ (.refl _ _) (subFoot_hostIx (subFoot_trans (by rfl) e))) (subFoot_trans (by rfl) e)) (subFoot_trans (by rfl) e)
  refine ⟨h.pending, fun p hp => ?_, h.dict, fun hc => ?_⟩
  · have := h.parts p hp
    cases p <;> first | exact this | (rw [subFoot_part e _ hp |> fun x => x] at *; done) | exact absurd (subFoot_part e _ hp) (by decide)
  · have h1 := h.canon hc
    have h2 := k.canon hc
    rw [State.canonical_iff] at *
    exact ⟨h1.1, NMap.wf_filter _ h2.2.1, h1.2.2.1, h1.2.2.2.1, h1.2.2.2.2.1, h2.2.2.2.2.2⟩

theorem State.hardKept_to (h : Within F z s) (e : subFoot
    (0x7FFFFFFFFFFFFFFFFFFFFFFFFFFFFFFFFFFFFFFFFFFFFFFFFFFFE7FFFF) F = true) : Within F z s.hardKept :=
  h.step ⟨rfl, fun p e => by cases p <;> first | rfl | exact absurd e (by decide), fun ix h => absurd (hasPage_all (f := 0x7FFFFFFFFFFFFFFFFFFFFFFFFFFFFFFFFFFFFFFFFFFFFFFFFFFFE7FFFF) (by decide) ix) (by rw [h]; decide), fun _ => by rfl⟩ e

theorem State.coldKept_to (h : Within F z s) (e : subFoot
    (0x7FFFFFFFFFFFFFFFFFFFFFFFFFFFFFFFFFFFFFFFFFFFFFFFFFFFE7FFFF) F = true) : Within F z s.coldKept :=
  h.step ⟨rfl, fun p e => by cases p <;> first | rfl | exact absurd e (by decide), fun ix h => absurd (hasPage_all (f := 0x7FFFFFFFFFFFFFFFFFFFFFFFFFFFFFFFFFFFFFFFFFFFFFFFFFFFE7FFFF) (by decide) ix) (by rw [h]; decide), fun _ => by rfl⟩ e

theorem State.stopOutputs_to (h : Within F z s) (e : subFoot (0x40000000000000000000000000000000000000000000080000) F
    = true) :
    Within F z (s.stopOutputs) := by
  refine h.step ?_ e
  unfold State.stopOutputs
  try dsimp -proj -iota only
  with_reducible repeat' first
    | apply Within.refl | apply State.setCore_to | apply State.emit_to | apply Within.ite
    | refine Within.foldl ?_ fun s x => ?_ | split
  all_goals rfl

theorem State.beginReset_to (code : Nat) (h : Within F z s) (e : subFoot
    (0x7FFFFFFFFFFFFFFFFFFFFFFFFFFFFFFFFFFFFFFFFFFFFFFFFFFFEFFFFF) F = true) :
    Within F z (s.beginReset code) := by
  refine h.step ?_ e
  unfold State.beginReset
  try lift_lets
  with_reducible repeat' first
    | apply Within.refl | apply State.setOb_to | apply State.keepWarm_to | apply State.withPwr_to
    | apply State.hardKept_to | apply State.event_to | apply State.coldKept_to | apply State.stopOutputs_to
    | apply Within.ite
  all_goals rfl

theorem execPowerOn_within (s : State) :
    WithinOut (0x7FFFFFFFFFFFFFFFFFFFFFFFFFFFFFFFFFFFFFFFFFFFFFFFFFFFEFFFFF) s (execPowerOn s) := by
  unfold execPowerOn
  apply Within.out
  try lift_lets
  with_reducible repeat' first
    | apply Within.refl | apply State.railsOff_to | apply State.beginReset_to
  all_goals rfl

theorem State.restoreSources_to (ids : List Nat) (h : Within F z s) (e : subFoot
    (0x4000400000068000000000000000000000000000000400000C3800) F = true) :
    Within F z (s.restoreSources ids) := by
  refine h.step ?_ e
  unfold State.restoreSources
  try lift_lets
  with_reducible repeat' first
    | apply Within.refl | apply State.deliverFor_to | apply State.setOb_to | apply State.bump_to
    | apply State.setSrc_to | apply State.event_to | apply State.levelOn_to | apply Within.ite
    | refine Within.foldl ?_ fun s x => ?_ | apply State.putRng_to
  all_goals rfl

theorem State.fillMeters_to (h : Within F z s) (e : subFoot (0x40000000000000000000) F = true) :
    Within F z (s.fillMeters) := by
  refine h.step ?_ e
  unfold State.fillMeters
  try lift_lets
  with_reducible repeat' first
    | apply Within.refl | apply State.setCells_to | apply Within.ite | refine Within.foldl ?_ fun s x => ?_
  all_goals rfl

theorem State.filterDict_within (p : Nat × Nat → Bool) : Within
    (0x7FFFFFFFFFFFFFFFFFFFFFFFFFFFFFFFFFFFFFFFFFFFFFFFFFFFC00000) s { s with dict := s.dict.filter p } := by
  refine ⟨rfl, fun p e => by cases p <;> rfl, fun ix h => absurd (hasPage_all (f := 0x7FFFFFFFFFFFFFFFFFFFFFFFFFFFFFFFFFFFFFFFFFFFFFFFFFFFC00000) (by decide) ix) (by rw [h]; decide), fun h => ?_⟩
  rw [State.canonical_iff] at *
  exact ⟨NMap.wf_filter _ h.1, h.2⟩

theorem State.rangeOwners_to (h : Within F z s) (e : subFoot
    (0x7FFFFFFFFFFFFFFFFFFFFFFFFFFFFFFFFFFFFFFFFFFFFFFFFFFFC00000) F = true) : Within F z s.rangeOwners := by
  unfold State.rangeOwners
  exact Within.ite (h.step (State.filterDict_within _) e) h

theorem State.activate_to (h : Within F z s) (e : subFoot
    (0x7FFFFFFFFFFFFFFFFFFFFFFFFFFFFFFFFFFFFFFFFFFFFFFFFFFFCC3800) F = true) :
    Within F z (s.activate) := by
  refine h.step ?_ e
  unfold State.activate
  try lift_lets
  with_reducible repeat' first
    | apply Within.refl | apply State.setOb_to | apply State.setCells_to | apply State.rangeOwners_to
    | apply State.event_to
  all_goals rfl

theorem State.startThreads_to (h : Within F z s) (e : subFoot (0x6000000000000000000000000000000000000082000) F =
    true) :
    Within F z (s.startThreads) := by
  refine h.step ?_ e
  unfold State.startThreads
  try lift_lets
  with_reducible repeat' first
    | apply Within.refl | apply State.dispatch_to | apply State.setThSt_to | apply Within.ite
    | refine Within.foldl ?_ fun s x => ?_
  all_goals rfl

theorem State.layoutAll_to (h : Within F z s) (e : subFoot
    (0x4000400000000006800000000000400000004043C00FC00400002C3A80) F = true) :
    Within F z (s.layoutAll) := by
  refine h.step ?_ e
  unfold State.layoutAll
  try lift_lets
  with_reducible repeat' first
    | apply Within.refl | apply State.layoutLane_to | apply Within.ite | refine Within.foldl ?_ fun s x => ?_
  all_goals rfl

theorem State.resumeTransmit_to (row : Nat) (h : Within F z s) (e : subFoot
    (0x4000000000068000000000004000000000000000000400000C3A01) F = true) :
    Within F z (s.resumeTransmit row) := by
  refine h.step ?_ e
  unfold State.resumeTransmit
  try lift_lets
  with_reducible repeat' first
    | apply Within.refl | apply State.setCells_to | apply State.cpEvent_to | apply State.event_to
    | apply State.pnMoved_to | apply State.setCell_to | apply Within.ite
  all_goals rfl

theorem State.resumeReceive_to (row : Nat) (h : Within F z s) (e : subFoot (0x400000000000000000000000000000) F =
    true) :
    Within F z (s.resumeReceive row) := by
  refine h.step ?_ e
  unfold State.resumeReceive
  try lift_lets
  with_reducible repeat' first
    | apply Within.refl | apply State.setCells_to
  all_goals rfl

theorem State.resumeSa_to (row : Nat) (h : Within F z s) (e : subFoot
    (0x4000000000068000000000004000000000000000000400000C3A01) F = true) :
    Within F z (s.resumeSa row) := by
  refine h.step ?_ e
  unfold State.resumeSa
  try lift_lets
  with_reducible repeat' first
    | apply Within.refl | apply State.resumeTransmit_to | apply State.setCell_to | apply State.resumeReceive_to
    | apply Within.ite
  all_goals rfl

theorem State.resumeKey_to (e0 : Nat × Nat × Nat × Bool) (h : Within F z s) (e : subFoot (0x8000010040) F = true) :
    Within F z (s.resumeKey e0) := by
  refine h.step ?_ e
  unfold State.resumeKey
  try lift_lets
  with_reducible repeat' first
    | apply Within.refl | apply State.setKey_to | apply State.setCell_to | apply Within.ite | apply State.putPwr_to
  all_goals rfl

theorem State.restoreImage_to (h : Within F z s) (e : subFoot
    (0x4000000000068000000000000000000000000000000400000C3802) F = true) :
    Within F z s.restoreImage := by
  unfold State.restoreImage
  refine Within.ite h ?_
  split
  · rename_i m hm
    refine State.event_to _ _ (h.step (g := foot [.loop]) ⟨rfl, fun p e => by cases p <;> first | rfl | exact absurd e (by decide), fun _ _ _ _ => rfl, fun h => ?_⟩ (subFoot_trans (by rfl) e)) (subFoot_trans (by rfl) e)
    rw [State.canonical_iff] at *
    rw [hm] at h
    simp only [Option.all_some] at h
    exact ⟨h.1, h.2.1, h.2.2.2.2.2, h.2.2.2.1, h.2.2.2.2.1, by rw [hm]; exact h.2.2.2.2.2⟩
  · exact State.event_to _ _ h (subFoot_trans (by rfl) e)

theorem State.pendGates_to (h : Within F z s) (e : subFoot
    (0x400040000000000680000000000000000000003FC000000400000C3800) F = true) :
    Within F z (s.pendGates) := by
  refine h.step ?_ e
  unfold State.pendGates
  try lift_lets
  with_reducible repeat' first
    | apply Within.refl | apply State.setOb_to | apply State.setShut_to | apply State.refreshGates_to
    | apply State.rebase_to | apply Within.ite | refine Within.foldl ?_ fun s x => ?_
  all_goals repeat' first | with_reducible apply subFoot_gateIx | rfl

theorem State.showCut_to (h : Within F z s) (e : subFoot (0x20000000000) F = true) :
    Within F z (s.showCut) := by
  refine h.step ?_ e
  unfold State.showCut
  try lift_lets
  with_reducible repeat' first
    | apply Within.refl | apply State.setCells_to | apply State.showBank_to | apply Within.ite
  all_goals rfl

theorem State.newSealing_to (h : Within F z s) (e : subFoot (0x100200) F = true) :
    Within F z (s.newSealing) :=
  h.step ⟨rfl, fun p e => by cases p <;> first | rfl | exact absurd e (by decide), fun _ _ _ _ => rfl, id⟩ e

theorem State.loadUnit_to (e0 : Nat × Nat × Nat) (h : Within F z s) (e : subFoot
    (0x4000000000068000000000000000000000000008000400000E3800) F = true) :
    Within F z (s.loadUnit e0) := by
  refine h.step ?_ e
  unfold State.loadUnit
  try lift_lets
  with_reducible repeat' first
    | apply Within.refl | apply State.setHealth_to | apply State.event_to | apply State.setCell_to
    | apply Within.ite
  all_goals rfl

theorem State.placeUnits0_to (h : Within F z s) (e : subFoot
    (0x4000000000068000000000000000000000000000000400000E3800) F = true) :
    Within F z (s.placeUnits0) := by
  refine h.step ?_ e
  unfold State.placeUnits0
  try lift_lets
  with_reducible repeat' first
    | apply Within.refl | apply State.bootMove_to | apply State.setOb_to | apply State.setCells_to
    | apply State.mapThread_to | apply State.passRole_to | apply State.withFlt_to | apply State.setCell_to
    | apply Within.ite | refine Within.foldl ?_ fun s x => ?_ | apply State.putThr_to
  all_goals rfl

theorem State.loadUnits_to (h : Within F z s) (e : subFoot (0x4000000000068000000000000000000000000008000400000E3800)
    F = true) :
    Within F z (s.loadUnits) := by
  refine h.step ?_ e
  unfold State.loadUnits
  try lift_lets
  with_reducible repeat' first
    | apply Within.refl | apply State.inc_to | apply State.setOb_to | apply State.loadUnit_to
    | apply State.withFlt_to | apply State.placeUnits0_to | apply Within.ite | refine Within.foldl ?_ fun s x => ?_
  all_goals rfl

theorem State.noteMaps_to (h : Within F z s) (e : subFoot
    (0x40000000000000003FFFC0000000000000000000000000000000000000) F = true) :
    Within F z (s.noteMaps) := by
  refine h.step ?_ e
  unfold State.noteMaps
  try lift_lets
  with_reducible repeat' first
    | apply Within.refl | apply State.notePending_to | apply Within.ite | refine Within.foldl ?_ fun s x => ?_
  all_goals rfl

theorem State.loadKey_to (e0 : Nat × Bytes) (h : Within F z s) (e : subFoot (0x200) F = true) :
    Within F z (s.loadKey e0) := by
  refine h.step ?_ e
  unfold State.loadKey
  try lift_lets
  with_reducible repeat' first
    | apply Within.refl | apply State.setSlot_to | split
  all_goals rfl

theorem State.installConfig_to (b : Bank) (h : Within F z s) (e : subFoot
    (0x7FFFFFFFFFFFFFFFFFFFFFFFFFFFFFFFFFFFFFFFFFFFFFFFFFFFC00240) F = true) :
    Within F z (s.installConfig b) := by
  unfold State.installConfig
  dsimp only
  refine Within.foldl ?_ fun u k => State.loadKey_to k (.refl _ _) (subFoot_trans (by rfl) e)
  refine h.step ⟨rfl, fun p e => by cases p <;> first | rfl | exact absurd e (by decide), fun ix h => absurd (hasPage_all (f := 0x7FFFFFFFFFFFFFFFFFFFFFFFFFFFFFFFFFFFFFFFFFFFFFFFFFFFC00240) (by decide) ix) (by rw [h]; decide), fun h => ?_⟩ e
  rw [State.canonical_iff] at *
  refine ⟨?_, h.2⟩
  have : ∀ (l : NMap Nat) (m : NMap Nat), NMap.wf dictDefault m = true →
      NMap.wf dictDefault (l.foldl (fun m e => NMap.set dictDefault m e.1 e.2) m) = true := by
    intro l
    induction l with
    | nil => exact fun m hm => hm
    | cons x l ih => exact fun m hm => ih _ (NMap.wf_set _ _ hm)
  exact this _ _ h.1

theorem State.tryConfigs_to (place : Nat) (x2 : List Nat) (h : Within F z s) (e : subFoot
    (0x4000000000068000000000000000000000000000000400000C3800) F = true) :
    Within F z (s.tryConfigs place x2).2 := by
  induction x2 generalizing s place with
  | nil => exact h
  | cons y x2 ih =>
    unfold State.tryConfigs
    try dsimp -proj -iota only
    with_reducible repeat' first
      | exact h | apply ih | apply Within.refl | apply State.event_to | split
    all_goals exact subFoot_trans (by rfl) e

theorem State.loadConfig_to (h : Within F z s) (e : subFoot
    (0x7FFFFFFFFFFFFFFFFFFFFFFFFFFFFFFFFFFFFFFFFFFFFFFFFFFFCC3A40) F = true) :
    Within F z (s.loadConfig).2 := by
  refine h.step ?_ e
  unfold State.loadConfig
  try dsimp -proj -iota only
  with_reducible repeat' first
    | apply Within.refl | (apply Within.ofPair; case e => assumption) | apply State.setCells_to
    | apply State.installConfig_to | apply State.tryConfigs_to | apply State.event_to | apply Within.ite
    | refine Within.foldl ?_ fun s x => ?_ | split
  all_goals rfl

theorem State.logRecords_to (h : Within F z s) (e : subFoot
    (0x4000000000068000000000000000000000000000000400000D3800) F = true) :
    Within F z (s.logRecords) := by
  refine h.step ?_ e
  unfold State.logRecords
  try lift_lets
  with_reducible repeat' first
    | apply Within.refl | apply State.withPwr_to | apply State.event_to | split
  all_goals rfl

theorem State.startUp_to (ids : List Nat) (h : Within F z s) (e : subFoot
    (0x7FFFFFFFFFFFFFFFFFFFFFFFFFFFFFFFFFFFFFFFFFFFFFFFFFFFFF7AC3) F = true) :
    Within F z (s.startUp ids) := by
  refine h.step ?_ e
  unfold State.startUp
  try lift_lets
  with_reducible repeat' first
    | apply Within.refl | apply State.startMgmt_to | apply State.bootCell_to | apply State.restoreSources_to
    | apply State.fillMeters_to | apply State.activate_to | apply State.readmitAll_to | apply State.startThreads_to
    | apply State.layoutAll_to | apply State.resumeSa_to | apply State.resumeKey_to | apply State.restoreImage_to
    | apply State.pendGates_to | apply State.showCut_to | apply State.newSealing_to | apply State.newChallenge_to
    | apply State.loadUnits_to | apply State.noteMaps_to | apply State.loadConfig_to | apply State.logRecords_to
    | apply Within.ite | refine Within.foldl ?_ fun s x => ?_
  all_goals rfl

theorem State.railOn_to (r : Nat × Nat) (h : Within F z s) (e : subFoot (0x80000) F = true) :
    Within F z (s.railOn r) := by
  refine h.step ?_ e
  unfold State.railOn
  try lift_lets
  with_reducible repeat' first
    | apply Within.refl | apply State.pmbus_to
  all_goals rfl

theorem resetRule_act {u : State} (w : Via) (x : Nat) (h : Within F z u) (e : subFoot
    (0x4000000000068000000000000000000000000000000600001D3800) F = true) :
    Within F z ((resetRule ).act u w x).state := by
  refine h.step ?_ e
  unfold resetRule
  try dsimp only
  try lift_lets
  with_reducible repeat' first
    | apply Within.refl | apply Within.ended | apply Within.later | apply Within.iteState | apply State.setOb_to
    | apply State.startCommit_to | apply State.withPwr_to | apply Within.ite | split
  all_goals rfl

theorem execHardResetRequest_within (v : Via) (data : Bytes) (s : State) :
    WithinOut (0x400040003FFFC006BFFFC00000000000000000000007C00680003D3851) s (execHardResetRequest v data s) := by
  unfold execHardResetRequest
  apply Within.out
  try lift_lets
  with_reducible repeat' first
    | apply Within.refl | assumption | (intro u x hu; apply resetRule_act)
    | (intro x; refine Within.cut (0x400040003FFFC006BFFFC00000000000000000000007C00680003D3851) s x ?_ ?_; rotate_left; intro hx; clear_value x)
    | apply resetRule_act | apply State.writeItem_to | apply Within.ite
  all_goals rfl

theorem State.passTests_to (h : Within F z s) (e : subFoot (0x400000000000000000000000000000) F = true) :
    Within F z (s.passTests) := by
  refine h.step ?_ e
  unfold State.passTests
  try lift_lets
  with_reducible repeat' first
    | apply Within.refl | apply State.setOb_to | apply Within.ite
  all_goals rfl

theorem State.readyPort_to (hp : Nat) (h : Within F z s) (e : subFoot
    (0x4000400000000006BFFFC00080000000000000000000000400000C3800) F = true) :
    Within F z (s.readyPort hp) := by
  refine h.step ?_ e
  unfold State.readyPort
  try lift_lets
  with_reducible repeat' first
    | apply Within.refl | apply State.setOb_to | apply State.applyMap_to | apply State.train_to | apply Within.ite
  all_goals repeat' first | with_reducible apply subFoot_hostIx | rfl

theorem execServiceEntry_within (s : State) :
    WithinOut (0x4000400000000006FFFFC00080004000000000000004000600000D3800) s (execServiceEntry s) := by
  unfold execServiceEntry
  apply Within.out
  try lift_lets
  with_reducible repeat' first
    | apply Within.refl | apply State.poolMode_to | apply State.setOb_to | apply State.passTests_to
    | apply State.withPwr_to | apply State.lockBinding_to | apply State.setDev_to | apply State.readyPort_to
    | apply State.startLane_to | apply Within.ite | refine Within.foldl ?_ fun s x => ?_
  all_goals rfl

theorem State.tryBanks_to (x1 : List Nat) (h : Within F z s) (e : subFoot
    (0x4000000000068000000000000000000000000000000600000D3800) F = true) :
    Within F z (s.tryBanks x1).2 := by
  induction x1 generalizing s with
  | nil => exact h
  | cons y x1 ih =>
    unfold State.tryBanks
    try dsimp -proj -iota only
    with_reducible repeat' first
      | exact h | apply ih | apply Within.refl | apply State.retireBank_to | split
    all_goals exact subFoot_trans (by rfl) e

theorem execSequenceFailure_within (rail status : Nat) (s : State) :
    WithinOut (0x90000) s (execSequenceFailure rail status s) := by
  unfold execSequenceFailure
  apply Within.out
  try lift_lets
  with_reducible repeat' first
    | apply Within.refl | apply State.withPwr_to | apply State.railsOff_to | apply Within.ite
  all_goals rfl

theorem execWatchdogExpiry_within (s : State) :
    WithinOut (0x7FFFFFFFFFFFFFFFFFFFFFFFFFFFFFFFFFFFFFFFFFFFFFFFFFFFEFFFFF) s (execWatchdogExpiry s) := by
  unfold execWatchdogExpiry
  apply Within.out
  try lift_lets
  with_reducible repeat' first
    | apply Within.refl | apply State.withPwr_to | apply State.beginReset_to | apply Within.ite
  all_goals rfl

theorem State.nextRails_to (h : Within F z s) (e : subFoot (0x90000) F = true) :
    Within F z (s.nextRails) := by
  refine h.step ?_ e
  unfold State.nextRails
  try lift_lets
  with_reducible repeat' first
    | apply Within.refl | apply State.railOn_to | apply State.withPwr_to | apply Within.ite
    | refine Within.foldl ?_ fun s x => ?_
  all_goals rfl

theorem execPowerSequenceRestart_within (s : State) :
    WithinOut (0x90000) s (execPowerSequenceRestart s) := by
  unfold execPowerSequenceRestart
  apply Within.out
  try lift_lets
  with_reducible repeat' first
    | apply Within.refl | apply State.nextRails_to | apply Within.ite
  all_goals rfl

theorem State.selectBank_to (h : Within F z s) (e : subFoot
    (0x4000000000068000000000000000000000000000000600000D3800) F = true) :
    Within F z (s.selectBank).2 := by
  refine h.step ?_ e
  unfold State.selectBank
  try lift_lets
  with_reducible repeat' first
    | apply Within.refl | apply State.retireBank_to | apply State.tryBanks_to | apply State.withPwr_to
    | apply Within.ite
  all_goals rfl

theorem State.bootBank_to (n : Nat) (h : Within F z s) (e : subFoot
    (0x4000000000068000000000000000000000000000000640000D3800) F = true) :
    Within F z (s.bootBank n) := by
  refine h.step ?_ e
  unfold State.bootBank
  try lift_lets
  with_reducible repeat' first
    | apply Within.refl | apply State.setOb_to | apply State.withPwr_to | apply State.event_to
  all_goals rfl

theorem execResetRelease_within (s : State) :
    WithinOut (0x7FFFFFFFFFFFFFFFFFFFFFFFFFFFFFFFFFFFFFFFFFFFFFFFFFFFFF7AC3) s (execResetRelease s) := by
  unfold execResetRelease
  apply Within.out
  try dsimp -proj -iota only
  with_reducible repeat' first
    | apply Within.refl | (apply Within.ofPair; case e => assumption) | apply State.startUp_to
    | apply State.withPwr_to | apply State.selectBank_to | apply State.setDev_to | apply State.bootBank_to
    | apply State.train_to | apply Within.ite | refine Within.foldl ?_ fun s x => ?_ | split
    | apply State.putRng_to
  all_goals rfl

theorem execPwrOkLoss_within (s : State) :
    WithinOut (0x7FFFFFFFFFFFFFFFFFFFFFFFFFFFFFFFFFFFFFFFFFFFFFFFFFFFEFFFFF) s (execPwrOkLoss s) := by
  unfold execPwrOkLoss
  apply Within.out
  try lift_lets
  with_reducible repeat' first
    | apply Within.refl | apply State.withPwr_to | apply State.railsOff_to | apply State.beginReset_to
    | apply Within.ite
  all_goals rfl

theorem execVaux3v3Loss_within (s : State) :
    WithinOut (0x7FFFFFFFFFFFFFFFFFFFFFFFFFFFFFFFFFFFFFFFFFFFFFFFFFFFEFFFFF) s (execVaux3v3Loss s) := by
  unfold execVaux3v3Loss
  apply Within.out
  try lift_lets
  with_reducible repeat' first
    | apply Within.refl | apply State.withPwr_to | apply State.railsOff_to | apply State.beginReset_to
  all_goals rfl

theorem execDeviceReset_within (cause : Nat) (s : State) :
    WithinOut (0x7FFFFFFFFFFFFFFFFFFFFFFFFFFFFFFFFFFFFFFFFFFFFFFFFFFFEFFFFF) s (execDeviceReset cause s) := by
  unfold execDeviceReset
  apply Within.out
  try lift_lets
  with_reducible repeat' first
    | apply Within.refl | apply State.beginReset_to | apply Within.ite
  all_goals rfl

theorem execRailEnable_within (s : State) :
    WithinOut (0x90000) s (execRailEnable s) := by
  unfold execRailEnable
  apply Within.out
  try lift_lets
  with_reducible repeat' first
    | apply Within.refl | apply State.nextRails_to | apply Within.ite
  all_goals rfl

theorem execWarmResetRequest_within (v : Via) (data : Bytes) (s : State) :
    WithinOut (0x400040003FFFC006BFFFC00000000000000000000007C00680003D3851) s (execWarmResetRequest v data s) := by
  unfold execWarmResetRequest
  apply Within.out
  try lift_lets
  with_reducible repeat' first
    | apply Within.refl | assumption | (intro u x hu; apply resetRule_act)
    | (intro x; refine Within.cut (0x400040003FFFC006BFFFC00000000000000000000007C00680003D3851) s x ?_ ?_; rotate_left; intro hx; clear_value x)
    | apply resetRule_act | apply State.writeItem_to | apply Within.ite
  all_goals rfl

theorem execSequenceRetry_within (s : State) :
    WithinOut (0x90000) s (execSequenceRetry s) := by
  unfold execSequenceRetry
  apply Within.out
  try lift_lets
  with_reducible repeat' first
    | apply Within.refl | apply State.nextRails_to | apply Within.ite
  all_goals rfl

theorem execResetNAssert_within (s : State) :
    WithinOut (0x7FFFFFFFFFFFFFFFFFFFFFFFFFFFFFFFFFFFFFFFFFFFFFFFFFFFEFFFFF) s (execResetNAssert s) := by
  unfold execResetNAssert
  apply Within.out
  try lift_lets
  with_reducible repeat' first
    | apply Within.refl | apply State.withPwr_to | apply State.beginReset_to
  all_goals rfl

end Sys2Proof.Machine
end

