-- ==== Sys2Proof/Laws/WithinWindows.lean ====
section
/-! SUPPORT. What the operations of Machine/Windows.lean can touch. -/

namespace Sys2Proof.Machine

variable {F : Nat} {z s : State}

theorem State.withAcc_to (f : Access → Access) (h : Within F z s) (e : subFoot (0x40) F = true) :
    Within F z (s.withAcc f) := by
  refine h.step ?_ e
  unfold State.withAcc
  try lift_lets
  with_reducible repeat' first
    | apply Within.refl | apply State.putAcc_to
  all_goals rfl

theorem State.setWindow_to (w : Window) (h : Within F z s) (e : subFoot (0x40) F = true) :
    Within F z (s.setWindow w) := by
  refine h.step ?_ e
  unfold State.setWindow
  try lift_lets
  with_reducible repeat' first
    | apply Within.refl | apply State.withAcc_to
  all_goals rfl

theorem State.readValue_to (m ix row sub : Nat) (h : Within F z s) (e : subFoot (0x100000) F = true) :
    Within F z (s.readValue m ix row sub).2 := by
  refine h.step ?_ e
  unfold State.readValue
  try lift_lets
  with_reducible repeat' first
    | apply Within.refl | apply State.draw_to | split
  all_goals rfl

theorem State.loadFields_to (m ix row : Nat) (x4 : List (Nat × Entry)) (h : Within F z s) (e : subFoot (0x100000) F =
    true) :
    Within F z (s.loadFields m ix row x4).2 := by
  induction x4 generalizing s m ix row with
  | nil => exact h
  | cons y x4 ih =>
    unfold State.loadFields
    try dsimp -proj -iota only
    with_reducible repeat' first
      | exact h | apply ih | apply Within.refl | apply State.readValue_to | split
    all_goals exact subFoot_trans (by rfl) e

theorem State.loadWindow_to (m ix row : Nat) (o : Obj) (h : Within F z s) (e : subFoot (0x100040) F = true) :
    Within F z (s.loadWindow m ix row o) := by
  refine h.step ?_ e
  unfold State.loadWindow
  try lift_lets
  with_reducible repeat' first
    | apply Within.refl | apply State.setWindow_to | apply State.loadFields_to
  all_goals rfl

theorem State.trySelect_to (v : Via) (ix : Nat) (o : Obj) (data : Bytes) (h : Within F z s) (e : subFoot (0x100040) F
    = true) :
    Within F z (s.trySelect v ix o data).state := by
  refine h.step ?_ e
  unfold State.trySelect
  try lift_lets
  with_reducible repeat' first
    | apply Within.refl | apply Within.ended | apply Within.later | apply Within.iteState
    | apply State.setWindow_to | apply State.loadWindow_to
  all_goals rfl

theorem State.tryStage_to (v : Via) (ix sub : Nat) (e0 : Entry) (data : Bytes) (h : Within F z s) (e : subFoot (0x40)
    F = true) :
    Within F z (s.tryStage v ix sub e0 data).state := by
  refine h.step ?_ e
  unfold State.tryStage
  try lift_lets
  with_reducible repeat' first
    | apply Within.refl | apply Within.ended | apply Within.later | apply Within.iteState
    | apply State.setWindow_to
  all_goals rfl

end Sys2Proof.Machine
end

