-- ==== Sys2Proof/Laws/WithinTables.lean ====
section
/-! SUPPORT. What the operations of Machine/Tables.lean can touch. -/

namespace Sys2Proof.Machine

variable {F : Nat} {z s : State}

theorem State.putField_to (ix row : Nat) (f : Nat × Nat) (h : Within F z s) (e : subFoot
    (0x2000000000000000000000000000000000000000000 ||| pageBit ix) F = true) :
    Within F z (s.putField ix row f) := by
  refine h.step ?_ e
  unfold State.putField
  try dsimp -proj -iota only
  with_reducible repeat' first
    | apply Within.refl | (apply Within.ofPair; case e => assumption) | intro x | apply State.setRequester_to
    | apply State.setCell_to | apply Within.ite | refine Within.foldl ?_ fun s x => ?_ | apply Within.iteSnd
    | split
  all_goals repeat' first
    | with_reducible apply subFoot_or
    | with_reducible apply subFoot_laneIx
    | with_reducible apply subFoot_portIx
    | with_reducible apply subFoot_schedIx
    | with_reducible apply subFoot_gateIx
    | with_reducible apply subFoot_hostIx
    | with_reducible apply subFoot_tenantIx
    | with_reducible apply subFoot_cellIx
    | with_reducible apply subFoot_mgmtIx
    | with_reducible apply subFoot_domain
    | with_reducible apply subFoot_headIx
    | with_reducible apply subFoot_ite
    | exact subFoot_self _
    | exact subFoot_right _ _
    | exact subFoot_left (by rfl)
    | rfl
    | exact subFoot_all (by rfl)

theorem State.putFields_to (ix row : Nat) (fs : List (Nat × Nat)) (h : Within F z s) (e : subFoot
    (0x2000000000000000000000000000000000000000000 ||| pageBit ix) F = true) :
    Within F z (s.putFields ix row fs) := by
  refine h.step ?_ e
  unfold State.putFields
  try dsimp -proj -iota only
  with_reducible repeat' first
    | apply Within.refl | (apply Within.ofPair; case e => assumption) | intro x | apply State.putField_to
    | apply Within.ite | refine Within.foldl ?_ fun s x => ?_ | apply Within.iteSnd | split
  all_goals repeat' first
    | with_reducible apply subFoot_or
    | with_reducible apply subFoot_laneIx
    | with_reducible apply subFoot_portIx
    | with_reducible apply subFoot_schedIx
    | with_reducible apply subFoot_gateIx
    | with_reducible apply subFoot_hostIx
    | with_reducible apply subFoot_tenantIx
    | with_reducible apply subFoot_cellIx
    | with_reducible apply subFoot_mgmtIx
    | with_reducible apply subFoot_domain
    | with_reducible apply subFoot_headIx
    | with_reducible apply subFoot_ite
    | exact subFoot_self _
    | exact subFoot_right _ _
    | exact subFoot_left (by rfl)
    | rfl
    | exact subFoot_all (by rfl)

theorem State.changed_to (c : RowChange) (h : Within F z s) (e : subFoot
    (0x7FFFFFFFFFFFFFFFFFFFFFFFFFFFFFFFFFFFFFFFFFFFFFFFFFFFC00000) F = true) :
    Within F z (s.changed c) := by
  refine h.step ?_ e
  unfold State.changed
  try lift_lets
  with_reducible repeat' first
    | apply Within.refl | apply State.putFields_to
  all_goals repeat' first | with_reducible apply subFoot_or | rfl | exact subFoot_all (by rfl)

theorem State.landQueueRow_to (c : RowChange) (h : Within F z s) (e : subFoot
    (0x7FFFFFFFFFFFFFFFFFFFFFFFFFFFFFFFFFFFFFFFFFFFFFFFFFFFE00080) F = true) :
    Within F z (s.landQueueRow c) := by
  refine h.step ?_ e
  unfold State.landQueueRow
  try lift_lets
  with_reducible repeat' first
    | apply Within.refl | apply State.setCells_to | apply State.changed_to | apply State.setCell_to
    | apply Within.ite | apply State.putNet_to
  all_goals rfl

theorem State.landFrer_to (c : RowChange) (h : Within F z s) (e : subFoot
    (0x7FFFFFFFFFFFFFFFFFFFFFFFFFFFFFFFFFFFFFFFFFFFFFFFFFFFE00080) F = true) :
    Within F z (s.landFrer c) := by
  refine h.step ?_ e
  unfold State.landFrer
  try lift_lets
  with_reducible repeat' first
    | apply Within.refl | apply State.changed_to | apply State.setCompound_to | apply Within.ite
  all_goals rfl

theorem State.noteCrossing_to (h : Within F z s) (e : subFoot
    (0x4000000000068000000000000000000000000000000400000C3840) F = true) :
    Within F z (s.noteCrossing) := by
  refine h.step ?_ e
  unfold State.noteCrossing
  try lift_lets
  with_reducible repeat' first
    | apply Within.refl | apply State.event_to | apply State.withAcc_to | apply Within.ite
  all_goals rfl

theorem State.setBatch_to (m : Nat) (b : Option Batch) (h : Within F z s) (e : subFoot (0x40) F = true) :
    Within F z (s.setBatch m b) := by
  refine h.step ?_ e
  unfold State.setBatch
  try lift_lets
  with_reducible repeat' first
    | apply Within.refl | apply State.withAcc_to
  all_goals rfl

theorem State.landVersion_to (v : Via) (ix sub : Nat) (cs : List RowChange) (h : Within F z s) (e : subFoot
    (0x7FFFFFFFFFFFFFFFFFFFFFFFFFFFFFFFFFFFFFFFFFFFFFFFFFFFCE3840) F = true) :
    Within F z (s.landVersion v ix sub cs) := by
  refine h.step ?_ e
  unfold State.landVersion
  try lift_lets
  with_reducible repeat' first
    | apply Within.refl | apply State.noteCrossing_to | apply State.changed_to | apply State.withAcc_to
    | apply Within.ite | refine Within.foldl ?_ fun s x => ?_ | apply State.putFlt_to
  all_goals rfl

theorem State.tryBatch_to (v : Via) (data : Bytes) (h : Within F z s) (e : subFoot
    (0x7FFFFFFFFFFFFFFFFFFFFFFFFFFFFFFFFFFFFFFFFFFFFFFFFFFFCE3840) F = true) :
    Within F z (s.tryBatch v data).state := by
  refine h.step ?_ e
  unfold State.tryBatch
  try lift_lets
  with_reducible repeat' first
    | apply Within.refl | apply Within.ended | apply Within.later | apply Within.iteState | apply State.setBatch_to
    | apply State.event_to | apply State.landVersion_to | apply Within.ite | split
  all_goals rfl

theorem State.landPtp_to (c : RowChange) (h : Within F z s) (e : subFoot
    (0x7FFFFFFFFFFFFFFFFFFFFFFFFFFFFFFFFFFFFFFFFFFFFFFFFFFFEC3820) F = true) :
    Within F z (s.landPtp c) := by
  refine h.step ?_ e
  unfold State.landPtp
  try lift_lets
  with_reducible repeat' first
    | apply Within.refl | apply State.setPtp_to | apply State.refreshSource_to | apply State.changed_to
    | apply Within.ite | refine Within.foldl ?_ fun s x => ?_
  all_goals rfl

theorem State.landDoluxKey_to (c : RowChange) (w : Window) (h : Within F z s) (e : subFoot
    (0x7FFFFFFFFFFFFFFFFFFFFFFFFFFFFFFFFFFFFFFFFFFFFFFFFFFFCD3840) F = true) :
    Within F z (s.landDoluxKey c w) := by
  refine h.step ?_ e
  unfold State.landDoluxKey
  try lift_lets
  with_reducible repeat' first
    | apply Within.refl | apply State.endLeasesOf_to | apply State.setCells_to | apply State.setKey_to
    | apply State.changed_to | apply Within.ite | apply State.putPwr_to
  all_goals rfl

theorem State.raiseNext_to (row : Nat) (h : Within F z s) (e : subFoot
    (0x4000000000068000000000004000000000000000000400000C3A01) F = true) :
    Within F z (s.raiseNext row) := by
  refine h.step ?_ e
  unfold State.raiseNext
  try lift_lets
  with_reducible repeat' first
    | apply Within.refl | apply State.pnMoved_to | apply State.setCell_to | apply Within.ite
    | apply State.putCip_to
  all_goals rfl

theorem State.needMark_to (row v : Nat) (h : Within F z s) (e : subFoot (0x10000) F = true) :
    Within F z (s.needMark row v) := by
  refine h.step ?_ e
  unfold State.needMark
  try lift_lets
  with_reducible repeat' first
    | apply Within.refl | apply State.setMark_to | apply Within.ite
  all_goals rfl

theorem State.emptySa_to (row : Nat) (key : Bytes) (h : Within F z s) (e : subFoot (0x200) F = true) :
    Within F z (s.emptySa row key) := by
  refine h.step ?_ e
  unfold State.emptySa
  try lift_lets
  with_reducible repeat' first
    | apply Within.refl | apply State.setSlot_to | apply State.putCip_to
  all_goals rfl

theorem State.eraseSa_to (row : Nat) (h : Within F z s) (e : subFoot (0x400000000000000000000000010200) F = true) :
    Within F z (s.eraseSa row) := by
  refine h.step ?_ e
  unfold State.eraseSa
  try lift_lets
  with_reducible repeat' first
    | apply Within.refl | apply State.setCells_to | apply State.needMark_to | apply State.emptySa_to
  all_goals rfl

theorem State.putKey_to (row k : Nat) (h : Within F z s) (e : subFoot (0x400000000000000000000000010200) F = true) :
    Within F z (s.putKey row k) := by
  refine h.step ?_ e
  unfold State.putKey
  try lift_lets
  with_reducible repeat' first
    | apply Within.refl | apply State.setCells_to | apply State.needMark_to | apply State.emptySa_to
  all_goals rfl

theorem State.landSa_to (c : RowChange) (w : Window) (k : NewKey) (h : Within F z s) (e : subFoot
    (0x7FFFFFFFFFFFFFFFFFFFFFFFFFFFFFFFFFFFFFFFFFFFFFFFFFFFCD3A01) F = true) :
    Within F z (s.landSa c w k) := by
  refine h.step ?_ e
  unfold State.landSa
  try dsimp -proj -iota only
  with_reducible repeat' first
    | apply Within.refl | apply State.raiseNext_to | apply State.eraseSa_to | apply State.changed_to
    | apply State.pnMoved_to | apply State.setCell_to | apply State.putKey_to | apply State.retireSa_to
    | apply Within.ite | split
  all_goals rfl

theorem State.landBinding_to (c : RowChange) (h : Within F z s) (e : subFoot
    (0x7FFFFFFFFFFFFFFFFFFFFFFFFFFFFFFFFFFFFFFFFFFFFFFFFFFFC83801) F = true) :
    Within F z (s.landBinding c) := by
  refine h.step ?_ e
  unfold State.landBinding
  try lift_lets
  with_reducible repeat' first
    | apply Within.refl | apply State.setChannel_to | apply State.setRegBits_to | apply State.changed_to
    | apply State.slotLevels_to | apply State.setCell_to | apply Within.ite | apply State.putRng_to
  all_goals rfl

theorem State.landSource_to (c : RowChange) (h : Within F z s) (e : subFoot
    (0x7FFFFFFFFFFFFFFFFFFFFFFFFFFFFFFFFFFFFFFFFFFFFFFFFFFFC83800) F = true) :
    Within F z (s.landSource c) := by
  refine h.step ?_ e
  unfold State.landSource
  try lift_lets
  with_reducible repeat' first
    | apply Within.refl | apply State.deliverFor_to | apply State.changed_to | apply State.deliver_to | split
    | apply State.putRng_to
  all_goals rfl

theorem State.landMeter_to (c : RowChange) (h : Within F z s) (e : subFoot
    (0x7FFFFFFFFFFFFFFFFFFFFFFFFFFFFFFFFFFFFFFFFFFFFFFFFFFFE00080) F = true) :
    Within F z (s.landMeter c) := by
  refine h.step ?_ e
  unfold State.landMeter
  try lift_lets
  with_reducible repeat' first
    | apply Within.refl | apply State.setCells_to | apply State.changed_to | apply Within.ite
    | apply State.putNet_to
  all_goals rfl

theorem State.landRow_to (c : RowChange) (w : Window) (k : NewKey) (h : Within F z s) (e : subFoot
    (0x7FFFFFFFFFFFFFFFFFFFFFFFFFFFFFFFFFFFFFFFFFFFFFFFFFFFED3AE1) F = true) :
    Within F z (s.landRow c w k) := by
  refine h.step ?_ e
  unfold State.landRow
  try lift_lets
  with_reducible repeat' first
    | apply Within.refl | apply State.landQueueRow_to | apply State.landFrer_to | apply State.landPtp_to
    | apply State.landDoluxKey_to | apply State.changed_to | apply State.landSa_to | apply State.landBinding_to
    | apply State.landSource_to | apply State.landMeter_to | apply Within.ite
  all_goals rfl

theorem State.unmark_to (w : Window) (h : Within F z s) (e : subFoot (0x40) F = true) :
    Within F z (s.unmark w) := by
  refine h.step ?_ e
  unfold State.unmark
  try lift_lets
  with_reducible repeat' first
    | apply Within.refl | apply State.setWindow_to
  all_goals rfl

theorem execTableVersionEffective_within (s : State) :
    WithinOut (0x6800000000000000000000000000000008000283851) s (execTableVersionEffective s) := by
  unfold execTableVersionEffective
  apply Within.out
  try lift_lets
  with_reducible repeat' first
    | apply Within.refl | apply State.answerTo_to | apply State.withAcc_to | split
  all_goals rfl

theorem execBatchTimeout_within (master : Nat) (s : State) :
    WithinOut (0x4000000000068000000000000000000000000000000400000C3840) s (execBatchTimeout master s) := by
  unfold execBatchTimeout
  apply Within.out
  try lift_lets
  with_reducible repeat' first
    | apply Within.refl | apply State.setBatch_to | apply State.event_to | split
  all_goals rfl

theorem State.overlay_to (b : Option Batch) (h : Within F z s) (e : subFoot
    (0x7FFFFFFFFFFFFFFFFFFFFFFFFFFFFFFFFFFFFFFFFFFFFFFFFFFFC00000) F = true) :
    Within F z (s.overlay b) := by
  refine h.step ?_ e
  unfold State.overlay
  try dsimp -proj -iota only
  with_reducible repeat' first
    | apply Within.refl | apply State.changed_to | apply Within.ite | refine Within.foldl ?_ fun s x => ?_ | split
  all_goals rfl

theorem State.tryChange_to (v : Via) (o : Obj) (w : Window) (c : RowChange) (h : Within F z s) (e : subFoot
    (0x7FFFFFFFFFFFFFFFFFFFFFFFFFFFFFFFFFFFFFFFFFFFFFFFFFFFEF3AE1) F = true) :
    Within F z (s.tryChange v o w c).state := by
  refine h.step ?_ e
  unfold State.tryChange
  try lift_lets
  with_reducible repeat' first
    | apply Within.refl | apply Within.ended | apply Within.later | apply Within.iteState | apply State.landRow_to
    | apply State.setBatch_to | apply State.changed_to | apply State.unmark_to | apply State.event_to
    | apply State.overlay_to | apply State.landVersion_to | apply Within.ite | split
  all_goals rfl

theorem State.tryRowAction_to (v : Via) (ix : Nat) (o : Obj) (data : Bytes) (h : Within F z s) (e : subFoot
    (0x7FFFFFFFFFFFFFFFFFFFFFFFFFFFFFFFFFFFFFFFFFFFFFFFFFFFFF3AE1) F = true) :
    Within F z (s.tryRowAction v ix o data).state := by
  refine h.step ?_ e
  unfold State.tryRowAction
  try lift_lets
  with_reducible repeat' first
    | apply Within.refl | apply Within.ended | apply Within.later | apply Within.iteState | apply State.lapses_to
    | apply State.loadWindow_to | apply State.noteRefused_to | apply State.tryChange_to | apply Within.ite | split
  all_goals repeat' first | with_reducible apply subFoot_or | with_reducible apply subFoot_domain | rfl

end Sys2Proof.Machine
end

