-- ==== Sys2Proof/Laws/WithinDictionary.lean ====
section
/-! SUPPORT. What the operations of Machine/Dictionary.lean can touch. -/

namespace Sys2Proof.Machine

variable {F : Nat} {z s : State}

theorem clientRule_act {u : State} (l c : Nat) (w : Via) (x : Nat) (h : Within F z u) (e : subFoot
    (0x4000000000000000000000000000000000000000000400000000000000) F = true) :
    Within F z ((clientRule l c).act u w x).state := by
  refine h.step ?_ e
  unfold clientRule
  try dsimp only
  try lift_lets
  with_reducible repeat' first
    | apply Within.refl | apply Within.ended | apply Within.later | apply Within.iteState
    | (intro u x hu; apply plainRule_act) | apply plainRule_act | apply State.setOb_to
  all_goals repeat' first | with_reducible apply subFoot_laneIx | rfl

theorem State.dropTransfer_to (ix sub : Nat) (h : Within F z s) (e : subFoot (0x40) F = true) :
    Within F z (s.dropTransfer ix sub) := by
  refine h.step ?_ e
  unfold State.dropTransfer
  try lift_lets
  with_reducible repeat' first
    | apply Within.refl | apply State.withAcc_to
  all_goals rfl

theorem execDomainTransferTimeout_within (ix sub : Nat) (s : State) :
    WithinOut (0x4000000000068000000000000000000000000000000400000C3840) s (execDomainTransferTimeout ix sub s) := by
  unfold execDomainTransferTimeout
  apply Within.out
  try lift_lets
  with_reducible repeat' first
    | apply Within.refl | apply State.event_to | apply State.dropTransfer_to | split
  all_goals rfl

theorem noOpRule_act {u : State} (w : Via) (x : Nat) (h : Within F z u) (e : subFoot (0x0) F = true) :
    Within F z ((noOpRule ).act u w x).state := by
  refine h.step ?_ e
  unfold noOpRule
  try dsimp only
  try lift_lets
  with_reducible repeat' first
    | apply Within.refl | apply Within.ended | apply Within.later | apply Within.iteState
  all_goals rfl

theorem State.tryRecord_to (v : Via) (rec : Bytes) (h : Within F z s) (e : subFoot
    (0x400040003FFFC006BFFFC00000000000000000000007C00600000C3940) F = true) :
    Within F z (s.tryRecord v rec).state := by
  refine h.step ?_ e
  unfold State.tryRecord
  try dsimp -proj -iota only
  with_reducible repeat' first
    | apply Within.refl | assumption | (apply Within.ofPair; case e => assumption) | apply Within.ended
    | apply Within.later | (apply Within.ofDone; case e => assumption)
    | (apply Within.ofLater; case e => assumption) | apply Within.iteState | (intro u x hu; apply noOpRule_act)
    | intro x | apply noOpRule_act | apply State.tryWrite_to | apply State.tryRequest_to | apply Ended.noted_to
    | apply Within.ite | refine Within.foldl ?_ fun s x => ?_ | apply Within.iteSnd | split
  all_goals rfl

theorem State.landed_to (ix sub x : Nat) (h : Within F z s) (e : subFoot
    (0x400040000000000680000000000040000000407FC003C00580003C3AA0) F = true) :
    Within F z (s.landed ix sub x) := by
  refine h.step ?_ e
  unfold State.landed
  try lift_lets
  with_reducible repeat' first
    | apply Within.refl | apply State.slew_to | apply State.refreshSource_to | apply State.setPartner_to
    | apply State.coreReference_to | apply State.refreshPort_to | apply Within.ite
  all_goals rfl

theorem followedRule_act {u : State} (ix sub : Nat) (w : Via) (x : Nat) (h : Within F z u) (e : subFoot
    (0x400040000000000680000000000040000000407FC003C00580003C3AA0 ||| pageBit ix) F = true) :
    Within F z ((followedRule ix sub).act u w x).state := by
  refine h.step ?_ e
  unfold followedRule
  try dsimp only
  try lift_lets
  with_reducible repeat' first
    | apply Within.refl | assumption | (apply Within.ofPair; case e => assumption) | apply Within.ended
    | apply Within.later | apply Within.iteState | (intro u x hu; apply plainRule_act)
    | (intro x; refine Within.cut (0x400040000000000680000000000040000000407FC003C00580003C3AA0 ||| pageBit ix) u x ?_ ?_; rotate_left; intro hx; clear_value x)
    | (intro x; clear_value x) | apply plainRule_act | apply State.setOb_to | apply State.landed_to
    | apply Within.ite | refine Within.foldl ?_ fun s x => ?_ | split
  all_goals repeat' first
    | with_reducible apply subFoot_or
    | with_reducible apply subFoot_laneIx
    | with_reducible apply subFoot_portIx
    | with_reducible apply subFoot_schedIx
    | with_reducible apply subFoot_gateIx
    | with_reducible apply subFoot_hostIx
    | with_reducible apply subFoot_tenantIx
    | with_reducible apply subFoot_cellIx
    | with_reducible apply subFoot_mgmtIx
    | with_reducible apply subFoot_domain
    | with_reducible apply subFoot_headIx
    | with_reducible apply subFoot_ite
    | exact subFoot_self _
    | exact subFoot_right _ _
    | exact subFoot_left (by rfl)
    | rfl
    | exact subFoot_all (by rfl)

theorem phaseRule_act {u : State} (c : Nat) (w : Via) (x : Nat) (h : Within F z u) (e : subFoot
    (0x400000003FFFC000000000000000000000000000000000000000000000) F = true) :
    Within F z ((phaseRule c).act u w x).state := by
  refine h.step ?_ e
  unfold phaseRule
  try dsimp only
  try lift_lets
  with_reducible repeat' first
    | apply Within.refl | (intro u x hu; apply plainRule_act) | apply plainRule_act | apply WriteRule.act_to
    | apply Within.ite
  all_goals repeat' first | with_reducible apply subFoot_cellIx | rfl

theorem alarmRule_act {u : State} (c : Nat) (w : Via) (x : Nat) (h : Within F z u) (e : subFoot
    (0x400000003FFFC000000000000000000000000000000000000000000000) F = true) :
    Within F z ((alarmRule c).act u w x).state := by
  refine h.step ?_ e
  unfold alarmRule
  try dsimp only
  try lift_lets
  with_reducible repeat' first
    | apply Within.refl | (intro u x hu; apply plainRule_act) | apply plainRule_act | apply WriteRule.act_to
    | apply Within.ite
  all_goals repeat' first | with_reducible apply subFoot_cellIx | rfl

theorem firmRule_act {u : State} (ix sub : Nat) (w : Via) (x : Nat) (h : Within F z u) (e : subFoot
    (0x400040003FFFC007C0000000000040000000407FC003C00580003C7BE0 ||| pageBit ix) F = true) :
    Within F z ((firmRule ix sub).act u w x).state := by
  refine h.step ?_ e
  unfold firmRule
  try dsimp only
  try dsimp -proj -iota only
  with_reducible repeat' first
    | apply Within.refl | (apply Within.ofPair; case e => assumption) | (intro u x hu; apply plainRule_act)
    | (intro u x hu; apply cellModeRule_act) | (intro u x hu; apply bindingLockRule_act)
    | (intro u x hu; apply carveRule_act) | (intro u x hu; apply stationChannelsRule_act)
    | (intro u x hu; apply followedRule_act) | (intro u x hu; apply phaseRule_act)
    | (intro u x hu; apply unloadRule_act) | (intro u x hu; apply alarmRule_act) | intro x | apply plainRule_act
    | apply cellModeRule_act | apply bindingLockRule_act | apply carveRule_act | apply stationChannelsRule_act
    | apply followedRule_act | apply phaseRule_act | apply unloadRule_act | apply alarmRule_act | apply Within.ite
    | refine Within.foldl ?_ fun s x => ?_ | apply Within.iteSnd | split
  all_goals repeat' first
    | with_reducible apply subFoot_or
    | with_reducible apply subFoot_laneIx
    | with_reducible apply subFoot_portIx
    | with_reducible apply subFoot_schedIx
    | with_reducible apply subFoot_gateIx
    | with_reducible apply subFoot_hostIx
    | with_reducible apply subFoot_tenantIx
    | with_reducible apply subFoot_cellIx
    | with_reducible apply subFoot_mgmtIx
    | with_reducible apply subFoot_domain
    | with_reducible apply subFoot_headIx
    | with_reducible apply subFoot_ite
    | exact subFoot_self _
    | exact subFoot_right _ _
    | exact subFoot_left (by rfl)
    | rfl
    | exact subFoot_all (by rfl)

theorem calendarBytesRule_act {u : State} (l sub : Nat) (w : Via) (x : Nat) (h : Within F z u) (e : subFoot
    (0x4000000000000000000000000000000000000000000400000000000000) F = true) :
    Within F z ((calendarBytesRule l sub).act u w x).state := by
  refine h.step ?_ e
  unfold calendarBytesRule
  try dsimp only
  try lift_lets
  with_reducible repeat' first
    | apply Within.refl | apply Within.ended | apply Within.later | apply Within.iteState | apply State.setOb_to
  all_goals repeat' first | with_reducible apply subFoot_laneIx | rfl

theorem laneRule_act {u : State} (l : Lane) (sub : Nat) (w : Via) (x : Nat) (h : Within F z u) (e : subFoot
    (0x4000400000000006800000000000400000004043C007C00400002C3BC0) F = true) :
    Within F z ((laneRule l sub).act u w x).state := by
  refine h.step ?_ e
  unfold laneRule
  try dsimp only
  try lift_lets
  with_reducible repeat' first
    | apply Within.refl | (intro u x hu; apply clientRule_act) | (intro u x hu; apply plainRule_act)
    | (intro u x hu; apply laneModeRule_act) | (intro u x hu; apply calendarRule_act)
    | (intro u x hu; apply calendarBytesRule_act) | (intro u x hu; apply fecRule_act)
    | (intro u x hu; apply polarityRule_act) | apply clientRule_act | apply plainRule_act | apply laneModeRule_act
    | apply calendarRule_act | apply calendarBytesRule_act | apply fecRule_act | apply polarityRule_act | split
  all_goals repeat' first | with_reducible apply subFoot_laneIx | rfl

theorem queueRule_act {u : State} (p : Port) (q : QueueNo) (k : Nat) (w : Via) (x : Nat) (h : Within F z u) (e :
    subFoot (0x4000400000000006800000000000000000000003C000000400000C3940) F = true) :
    Within F z ((queueRule p q k).act u w x).state := by
  refine h.step ?_ e
  unfold queueRule
  try dsimp only
  try lift_lets
  with_reducible repeat' first
    | apply Within.refl | (intro u x hu; apply plainRule_act) | (intro u x hu; apply idleSlopeRule_act)
    | (intro u x hu; apply shaperEnableRule_act) | (intro u x hu; apply quantumRule_act) | apply plainRule_act
    | apply idleSlopeRule_act | apply shaperEnableRule_act | apply quantumRule_act | split
  all_goals repeat' first | with_reducible apply subFoot_schedIx | rfl

theorem portEnableRule_act {u : State} (p : Nat) (w : Via) (x : Nat) (h : Within F z u) (e : subFoot
    (0x400040000000000680000000000040000000407FC003C00580003C3AA0) F = true) :
    Within F z ((portEnableRule p).act u w x).state := by
  refine h.step ?_ e
  unfold portEnableRule
  try dsimp only
  try lift_lets
  with_reducible repeat' first
    | apply Within.refl | (intro u x hu; apply plainRule_act) | (intro u x hu; apply followedRule_act)
    | apply plainRule_act | apply followedRule_act | apply WriteRule.act_to | apply Within.ite
  all_goals repeat' first | with_reducible apply subFoot_or | with_reducible apply subFoot_portIx | rfl

theorem portRule_act {u : State} (ix sub : Nat) (w : Via) (x : Nat) (h : Within F z u) (e : subFoot
    (0x400040000000000680000000000040000000407FC007C00580003C3BE0) F = true) :
    Within F z ((portRule ix sub).act u w x).state := by
  refine h.step ?_ e
  unfold portRule
  try dsimp only
  try lift_lets
  with_reducible repeat' first
    | apply Within.refl | (intro u x hu; apply initialStatesRule_act) | (intro u x hu; apply maximumFrameRule_act)
    | (intro u x hu; apply laneRule_act) | (intro u x hu; apply gateControlRule_act)
    | (intro u x hu; apply pauseHonouringRule_act) | (intro u x hu; apply queueRule_act)
    | (intro u x hu; apply cancelRule_act) | (intro u x hu; apply portEnableRule_act) | apply initialStatesRule_act
    | apply maximumFrameRule_act | apply laneRule_act | apply gateControlRule_act | apply pauseHonouringRule_act
    | apply queueRule_act | apply cancelRule_act | apply portEnableRule_act | split
  all_goals rfl

theorem hostRule_act {u : State} (ix sub : Nat) (w : Via) (x : Nat) (h : Within F z u) (e : subFoot
    (0x400040003FFFC007FFFFC000C000400000000043C007C00600003CBFC7 ||| pageBit ix) F = true) :
    Within F z ((hostRule ix sub).act u w x).state := by
  refine h.step ?_ e
  unfold hostRule
  try dsimp only
  try dsimp -proj -iota only
  with_reducible repeat' first
    | apply Within.refl | (apply Within.ofPair; case e => assumption) | (intro u x hu; apply plainRule_act)
    | (intro u x hu; apply hostPortRule_act) | (intro u x hu; apply restartRule_act)
    | (intro u x hu; apply uplinkRule_act) | (intro u x hu; apply tenantRule_act) | intro x | apply plainRule_act
    | apply hostPortRule_act | apply restartRule_act | apply uplinkRule_act | apply tenantRule_act
    | apply Within.ite | refine Within.foldl ?_ fun s x => ?_ | apply Within.iteSnd | split
  all_goals repeat' first
    | with_reducible apply subFoot_or
    | with_reducible apply subFoot_laneIx
    | with_reducible apply subFoot_portIx
    | with_reducible apply subFoot_schedIx
    | with_reducible apply subFoot_gateIx
    | with_reducible apply subFoot_hostIx
    | with_reducible apply subFoot_tenantIx
    | with_reducible apply subFoot_cellIx
    | with_reducible apply subFoot_mgmtIx
    | with_reducible apply subFoot_domain
    | with_reducible apply subFoot_headIx
    | with_reducible apply subFoot_ite
    | exact subFoot_self _
    | exact subFoot_right _ _
    | exact subFoot_left (by rfl)
    | rfl
    | exact subFoot_all (by rfl)

theorem deviceRule_act {u : State} (ix sub : Nat) (w : Via) (x : Nat) (h : Within F z u) (e : subFoot
    (0x400040003FFFC00680000000000040000000407FC003C00780003D7AA0 ||| pageBit ix) F = true) :
    Within F z ((deviceRule ix sub).act u w x).state := by
  refine h.step ?_ e
  unfold deviceRule
  try dsimp only
  try dsimp -proj -iota only
  with_reducible repeat' first
    | apply Within.refl | (apply Within.ofPair; case e => assumption) | (intro u x hu; apply resetRule_act)
    | (intro u x hu; apply followedRule_act) | (intro u x hu; apply unlockRule_act)
    | (intro u x hu; apply commitRule_act) | (intro u x hu; apply nextPpsRule_act)
    | (intro u x hu; apply mgmtModeRule_act) | (intro u x hu; apply fwCommandRule_act) | intro x
    | apply resetRule_act | apply followedRule_act | apply unlockRule_act | apply commitRule_act
    | apply nextPpsRule_act | apply mgmtModeRule_act | apply fwCommandRule_act | apply Within.ite
    | refine Within.foldl ?_ fun s x => ?_ | apply Within.iteSnd | split
  all_goals repeat' first
    | with_reducible apply subFoot_or
    | with_reducible apply subFoot_laneIx
    | with_reducible apply subFoot_portIx
    | with_reducible apply subFoot_schedIx
    | with_reducible apply subFoot_gateIx
    | with_reducible apply subFoot_hostIx
    | with_reducible apply subFoot_tenantIx
    | with_reducible apply subFoot_cellIx
    | with_reducible apply subFoot_mgmtIx
    | with_reducible apply subFoot_domain
    | with_reducible apply subFoot_headIx
    | with_reducible apply subFoot_ite
    | exact subFoot_self _
    | exact subFoot_right _ _
    | exact subFoot_left (by rfl)
    | rfl
    | exact subFoot_all (by rfl)

theorem scalarRule_act {u : State} (ix sub : Nat) (w : Via) (x : Nat) (h : Within F z u) (e : subFoot
    (0x400040003FFFC007FFFFC000C00040000000407FC007C00780003DFFE7 ||| pageBit ix) F = true) :
    Within F z ((scalarRule ix sub).act u w x).state := by
  refine h.step ?_ e
  unfold scalarRule
  try dsimp only
  try dsimp -proj -iota only
  with_reducible repeat' first
    | apply Within.refl | (apply Within.ofPair; case e => assumption) | (intro u x hu; apply firmRule_act)
    | (intro u x hu; apply portRule_act) | (intro u x hu; apply hostRule_act)
    | (intro u x hu; apply deviceRule_act) | intro x | apply firmRule_act | apply portRule_act | apply hostRule_act
    | apply deviceRule_act | apply Within.ite | refine Within.foldl ?_ fun s x => ?_ | apply Within.iteSnd | split
  all_goals repeat' first
    | with_reducible apply subFoot_or
    | with_reducible apply subFoot_laneIx
    | with_reducible apply subFoot_portIx
    | with_reducible apply subFoot_schedIx
    | with_reducible apply subFoot_gateIx
    | with_reducible apply subFoot_hostIx
    | with_reducible apply subFoot_tenantIx
    | with_reducible apply subFoot_cellIx
    | with_reducible apply subFoot_mgmtIx
    | with_reducible apply subFoot_domain
    | with_reducible apply subFoot_headIx
    | with_reducible apply subFoot_ite
    | exact subFoot_self _
    | exact subFoot_right _ _
    | exact subFoot_left (by rfl)
    | rfl
    | exact subFoot_all (by rfl)

theorem State.tryWindow_to (v : Via) (ix sub : Nat) (o : Obj) (data : Bytes) (h : Within F z s) (e : subFoot
    (0x7FFFFFFFFFFFFFFFFFFFFFFFFFFFFFFFFFFFFFFFFFFFFFFFFFFFFF3AE1) F = true) :
    Within F z (s.tryWindow v ix sub o data).state := by
  refine h.step ?_ e
  unfold State.tryWindow
  try lift_lets
  with_reducible repeat' first
    | apply Within.refl | apply Within.ended | apply Within.later | apply Within.iteState
    | apply State.trySelect_to | apply State.tryStage_to | apply State.tryRowAction_to | apply Within.ite | split
  all_goals rfl

theorem State.tryLease_to (v : Via) (head code ms len : Nat) (h : Within F z s) (e : subFoot
    (0x4000400000000007BFFFC00080000000000000000000000600002CBEC7 ||| pageBit head) F = true) :
    Within F z (s.tryLease v head code ms len).state := by
  refine h.step ?_ e
  unfold State.tryLease
  try dsimp -proj -iota only
  with_reducible repeat' first
    | apply Within.refl | assumption | (apply Within.ofPair; case e => assumption) | apply Within.ended
    | apply Within.later | (apply Within.ofDone; case e => assumption)
    | (apply Within.ofLater; case e => assumption) | apply Within.iteState | intro x | apply State.stationMoved_to
    | apply State.lease_to | apply Within.ite | refine Within.foldl ?_ fun s x => ?_ | apply Within.iteSnd | split
  all_goals repeat' first
    | with_reducible apply subFoot_or
    | with_reducible apply subFoot_laneIx
    | with_reducible apply subFoot_portIx
    | with_reducible apply subFoot_schedIx
    | with_reducible apply subFoot_gateIx
    | with_reducible apply subFoot_hostIx
    | with_reducible apply subFoot_tenantIx
    | with_reducible apply subFoot_cellIx
    | with_reducible apply subFoot_mgmtIx
    | with_reducible apply subFoot_domain
    | with_reducible apply subFoot_headIx
    | with_reducible apply subFoot_ite
    | exact subFoot_self _
    | exact subFoot_right _ _
    | exact subFoot_left (by rfl)
    | rfl
    | exact subFoot_all (by rfl)

theorem State.tryAny_to (v : Via) (ix sub : Nat) (data : Bytes) (h : Within F z s) (e : subFoot
    (0x7FFFFFFFFFFFFFFFFFFFFFFFFFFFFFFFFFFFFFFFFFFFFFFFFFFFFFFFE7 ||| pageBit ix) F = true) :
    Within F z (s.tryAny v ix sub data).state := by
  refine h.step ?_ e
  unfold State.tryAny
  try dsimp -proj -iota only
  with_reducible repeat' first
    | apply Within.refl | assumption | (apply Within.ofPair; case e => assumption) | apply Within.ended
    | apply Within.later | (apply Within.ofDone; case e => assumption)
    | (apply Within.ofLater; case e => assumption) | apply Within.iteState | (intro u x hu; apply scalarRule_act)
    | intro x | apply State.tryBatch_to | apply State.setOb_to | apply State.tryProfile_to
    | apply State.tryWrite_to | apply State.tryRecord_to | apply scalarRule_act | apply Ended.noted_to
    | apply State.tryWindow_to | apply State.tryLease_to | apply Within.ite | refine Within.foldl ?_ fun s x => ?_
    | apply Within.iteSnd | split
  all_goals repeat' first
    | with_reducible apply subFoot_or
    | with_reducible apply subFoot_laneIx
    | with_reducible apply subFoot_portIx
    | with_reducible apply subFoot_schedIx
    | with_reducible apply subFoot_gateIx
    | with_reducible apply subFoot_hostIx
    | with_reducible apply subFoot_tenantIx
    | with_reducible apply subFoot_cellIx
    | with_reducible apply subFoot_mgmtIx
    | with_reducible apply subFoot_domain
    | with_reducible apply subFoot_headIx
    | with_reducible apply subFoot_ite
    | exact subFoot_self _
    | exact subFoot_right _ _
    | exact subFoot_left (by rfl)
    | rfl
    | exact subFoot_all (by rfl)

theorem State.anyItem_to (v : Via) (ix sub : Nat) (data : Bytes) (h : Within F z s) (e : subFoot
    (0x7FFFFFFFFFFFFFFFFFFFFFFFFFFFFFFFFFFFFFFFFFFFFFFFFFFFFFFFF7 ||| pageBit ix) F = true) :
    Within F z (s.anyItem v ix sub data) := by
  refine h.step ?_ e
  unfold State.anyItem
  try lift_lets
  with_reducible repeat' first
    | apply Within.refl | assumption | (apply Within.ofPair; case e => assumption)
    | (intro u r hu; apply State.tryAny_to)
    | (intro x; refine Within.cut (0x7FFFFFFFFFFFFFFFFFFFFFFFFFFFFFFFFFFFFFFFFFFFFFFFFFFFFFFFF7 ||| pageBit ix) s x ?_ ?_; rotate_left; intro hx; clear_value x)
    | (intro x; clear_value x) | apply State.tryAny_to | apply State.item_to | apply Within.ite
    | refine Within.foldl ?_ fun s x => ?_ | split
  all_goals repeat' first
    | with_reducible apply subFoot_or
    | with_reducible apply subFoot_laneIx
    | with_reducible apply subFoot_portIx
    | with_reducible apply subFoot_schedIx
    | with_reducible apply subFoot_gateIx
    | with_reducible apply subFoot_hostIx
    | with_reducible apply subFoot_tenantIx
    | with_reducible apply subFoot_cellIx
    | with_reducible apply subFoot_mgmtIx
    | with_reducible apply subFoot_domain
    | with_reducible apply subFoot_headIx
    | with_reducible apply subFoot_ite
    | exact subFoot_self _
    | exact subFoot_right _ _
    | exact subFoot_left (by rfl)
    | rfl
    | exact subFoot_all (by rfl)

theorem State.batchItem_to (v : Via) (code : Nat) (h : Within F z s) (e : subFoot
    (0x7FFFFFFFFFFFFFFFFFFFFFFFFFFFFFFFFFFFFFFFFFFFFFFFFFFFFFFFF7) F = true) :
    Within F z (s.batchItem v code) := by
  refine h.step ?_ e
  unfold State.batchItem
  try lift_lets
  with_reducible repeat' first
    | apply Within.refl | apply State.anyItem_to
  all_goals rfl

theorem execBatchOpen_within (v : Via) (s : State) :
    WithinOut (0x7FFFFFFFFFFFFFFFFFFFFFFFFFFFFFFFFFFFFFFFFFFFFFFFFFFFFFFFF7) s (execBatchOpen v s) := by
  unfold execBatchOpen
  apply Within.out
  try lift_lets
  with_reducible repeat' first
    | apply Within.refl | apply State.batchItem_to
  all_goals rfl

theorem State.recordKey_to (k : Nat) (h : Within F z s) (e : subFoot (0x10000) F = true) :
    Within F z (s.recordKey k) := by
  refine h.step ?_ e
  unfold State.recordKey
  try lift_lets
  with_reducible repeat' first
    | apply Within.refl | apply State.putPwr_to
  all_goals rfl

theorem execFreshKeyRecorded_within (key : Fin 256) (s : State) :
    WithinOut (0x6800000000000000000000000000000000000093840) s (execFreshKeyRecorded key s) := by
  unfold execFreshKeyRecorded
  apply Within.out
  try lift_lets
  with_reducible repeat' first
    | apply Within.refl | apply State.recordKey_to | apply State.setSession_to | split
  all_goals rfl

theorem State.tryDomainRead_to (v : Via) (ix sub off max room : Nat) (h : Within F z s) (e : subFoot (0x0) F = true) :
    Within F z (s.tryDomainRead v ix sub off max room).state := by
  refine h.step ?_ e
  unfold State.tryDomainRead
  try lift_lets
  with_reducible repeat' first
    | apply Within.refl | apply Within.ended | apply Within.later | apply Within.iteState | apply Within.ite
    | split
  all_goals rfl

theorem execDomainRead_within (v : Via) (ix sub off max : Nat) (s : State) :
    WithinOut (0x4000000000068000000000000000000000000000000480002C3851) s (execDomainRead v ix sub off max s) := by
  unfold execDomainRead
  apply Within.out
  try lift_lets
  with_reducible repeat' first
    | apply Within.refl | assumption | (intro u r hu; apply State.tryDomainRead_to)
    | (intro x; refine Within.cut (0x4000000000068000000000000000000000000000000480002C3851) s x ?_ ?_; rotate_left; intro hx; clear_value x)
    | apply State.item_to | apply State.tryDomainRead_to | apply Within.ite
  all_goals rfl

theorem State.domainWhole_to (v : Via) (ix sub : Nat) (b : Bytes) (h : Within F z s) (e : subFoot
    (0x400040003FFFC0068000000000000000000000000000000600000D7940) F = true) :
    Within F z (s.domainWhole v ix sub b).state := by
  refine h.step ?_ e
  unfold State.domainWhole
  try lift_lets
  with_reducible repeat' first
    | apply Within.refl | apply Within.ended | apply Within.later | apply Within.iteState
    | apply State.stageFirmware_to | apply State.queueAdm_to | apply Ended.noted_to | apply State.loadImage_to
  all_goals rfl

theorem execBatchClose_within (v : Via) (s : State) :
    WithinOut (0x7FFFFFFFFFFFFFFFFFFFFFFFFFFFFFFFFFFFFFFFFFFFFFFFFFFFFFFFF7) s (execBatchClose v s) := by
  unfold execBatchClose
  apply Within.out
  try lift_lets
  with_reducible repeat' first
    | apply Within.refl | apply State.batchItem_to
  all_goals rfl

theorem State.valueOf_to (m ix sub : Nat) (o : Obj) (e0 : Entry) (h : Within F z s) (e : subFoot (0x100000) F = true)
    :
    Within F z (s.valueOf m ix sub o e0).state := by
  refine h.step ?_ e
  unfold State.valueOf
  try lift_lets
  with_reducible repeat' first
    | apply Within.refl | apply Within.ended | apply Within.later | apply Within.iteState
    | apply State.readValue_to | apply Within.ite | split
  all_goals rfl

theorem execWrite_within (v : Via) (ix sub : Nat) (data : Bytes) (s : State) :
    WithinOut (0x7FFFFFFFFFFFFFFFFFFFFFFFFFFFFFFFFFFFFFFFFFFFFFFFFFFFFFFFF7 ||| pageBit ix) s (execWrite v ix sub data s) := by
  unfold execWrite
  apply Within.out
  try dsimp -proj -iota only
  with_reducible repeat' first
    | apply Within.refl | (apply Within.ofPair; case e => assumption) | intro x | apply State.anyItem_to
    | apply Within.ite | refine Within.foldl ?_ fun s x => ?_ | apply Within.iteSnd | split
  all_goals repeat' first
    | with_reducible apply subFoot_or
    | with_reducible apply subFoot_laneIx
    | with_reducible apply subFoot_portIx
    | with_reducible apply subFoot_schedIx
    | with_reducible apply subFoot_gateIx
    | with_reducible apply subFoot_hostIx
    | with_reducible apply subFoot_tenantIx
    | with_reducible apply subFoot_cellIx
    | with_reducible apply subFoot_mgmtIx
    | with_reducible apply subFoot_domain
    | with_reducible apply subFoot_headIx
    | with_reducible apply subFoot_ite
    | exact subFoot_self _
    | exact subFoot_right _ _
    | exact subFoot_left (by rfl)
    | rfl
    | exact subFoot_all (by rfl)

theorem execBatchDiscard_within (v : Via) (s : State) :
    WithinOut (0x7FFFFFFFFFFFFFFFFFFFFFFFFFFFFFFFFFFFFFFFFFFFFFFFFFFFFFFFF7) s (execBatchDiscard v s) := by
  unfold execBatchDiscard
  apply Within.out
  try lift_lets
  with_reducible repeat' first
    | apply Within.refl | apply State.batchItem_to
  all_goals rfl

theorem State.actionItem_to (v : Via) (ix code : Nat) (h : Within F z s) (e : subFoot
    (0x7FFFFFFFFFFFFFFFFFFFFFFFFFFFFFFFFFFFFFFFFFFFFFFFFFFFFFFFF7 ||| pageBit ix) F = true) :
    Within F z (s.actionItem v ix code) := by
  refine h.step ?_ e
  unfold State.actionItem
  try dsimp -proj -iota only
  with_reducible repeat' first
    | apply Within.refl | (apply Within.ofPair; case e => assumption) | intro x | apply State.anyItem_to
    | apply Within.ite | refine Within.foldl ?_ fun s x => ?_ | apply Within.iteSnd | split
  all_goals repeat' first
    | with_reducible apply subFoot_or
    | with_reducible apply subFoot_laneIx
    | with_reducible apply subFoot_portIx
    | with_reducible apply subFoot_schedIx
    | with_reducible apply subFoot_gateIx
    | with_reducible apply subFoot_hostIx
    | with_reducible apply subFoot_tenantIx
    | with_reducible apply subFoot_cellIx
    | with_reducible apply subFoot_mgmtIx
    | with_reducible apply subFoot_domain
    | with_reducible apply subFoot_headIx
    | with_reducible apply subFoot_ite
    | exact subFoot_self _
    | exact subFoot_right _ _
    | exact subFoot_left (by rfl)
    | rfl
    | exact subFoot_all (by rfl)

theorem execLoad_within (v : Via) (ix : Nat) (s : State) :
    WithinOut (0x7FFFFFFFFFFFFFFFFFFFFFFFFFFFFFFFFFFFFFFFFFFFFFFFFFFFFFFFF7 ||| pageBit ix) s (execLoad v ix s) := by
  unfold execLoad
  apply Within.out
  try dsimp -proj -iota only
  with_reducible repeat' first
    | apply Within.refl | (apply Within.ofPair; case e => assumption) | intro x | apply State.actionItem_to
    | apply Within.ite | refine Within.foldl ?_ fun s x => ?_ | apply Within.iteSnd | split
  all_goals repeat' first
    | with_reducible apply subFoot_or
    | with_reducible apply subFoot_laneIx
    | with_reducible apply subFoot_portIx
    | with_reducible apply subFoot_schedIx
    | with_reducible apply subFoot_gateIx
    | with_reducible apply subFoot_hostIx
    | with_reducible apply subFoot_tenantIx
    | with_reducible apply subFoot_cellIx
    | with_reducible apply subFoot_mgmtIx
    | with_reducible apply subFoot_domain
    | with_reducible apply subFoot_headIx
    | with_reducible apply subFoot_ite
    | exact subFoot_self _
    | exact subFoot_right _ _
    | exact subFoot_left (by rfl)
    | rfl
    | exact subFoot_all (by rfl)

theorem State.leaseItem_to (v : Via) (head code ms : Nat) (h : Within F z s) (e : subFoot
    (0x4000400000000007BFFFC00080000000000000000000000680002CBED7 ||| pageBit head) F = true) :
    Within F z (s.leaseItem v head code ms) := by
  refine h.step ?_ e
  unfold State.leaseItem
  try lift_lets
  with_reducible repeat' first
    | apply Within.refl | assumption | (apply Within.ofPair; case e => assumption)
    | (intro u r hu; apply State.tryLease_to)
    | (intro x; refine Within.cut (0x4000400000000007BFFFC00080000000000000000000000680002CBED7 ||| pageBit head) s x ?_ ?_; rotate_left; intro hx; clear_value x)
    | (intro x; clear_value x) | apply State.item_to | apply State.tryLease_to | apply Within.ite
    | refine Within.foldl ?_ fun s x => ?_ | split
  all_goals repeat' first
    | with_reducible apply subFoot_or
    | with_reducible apply subFoot_laneIx
    | with_reducible apply subFoot_portIx
    | with_reducible apply subFoot_schedIx
    | with_reducible apply subFoot_gateIx
    | with_reducible apply subFoot_hostIx
    | with_reducible apply subFoot_tenantIx
    | with_reducible apply subFoot_cellIx
    | with_reducible apply subFoot_mgmtIx
    | with_reducible apply subFoot_domain
    | with_reducible apply subFoot_headIx
    | with_reducible apply subFoot_ite
    | exact subFoot_self _
    | exact subFoot_right _ _
    | exact subFoot_left (by rfl)
    | rfl
    | exact subFoot_all (by rfl)

theorem execTake_within (v : Via) (head ms : Nat) (s : State) :
    WithinOut (0x4000400000000007BFFFC00080000000000000000000000680002CBED7 ||| pageBit head) s (execTake v head ms s) := by
  unfold execTake
  apply Within.out
  try dsimp -proj -iota only
  with_reducible repeat' first
    | apply Within.refl | (apply Within.ofPair; case e => assumption) | intro x | apply State.leaseItem_to
    | apply Within.ite | refine Within.foldl ?_ fun s x => ?_ | apply Within.iteSnd | split
  all_goals repeat' first
    | with_reducible apply subFoot_or
    | with_reducible apply subFoot_laneIx
    | with_reducible apply subFoot_portIx
    | with_reducible apply subFoot_schedIx
    | with_reducible apply subFoot_gateIx
    | with_reducible apply subFoot_hostIx
    | with_reducible apply subFoot_tenantIx
    | with_reducible apply subFoot_cellIx
    | with_reducible apply subFoot_mgmtIx
    | with_reducible apply subFoot_domain
    | with_reducible apply subFoot_headIx
    | with_reducible apply subFoot_ite
    | exact subFoot_self _
    | exact subFoot_right _ _
    | exact subFoot_left (by rfl)
    | rfl
    | exact subFoot_all (by rfl)

theorem State.keepSegment_to (v : Via) (ix sub off total : Nat) (data : Bytes) (h : Within F z s) (e : subFoot
    (0x400040003FFFC0068000000000000000000000000000000600000D7940) F = true) :
    Within F z (s.keepSegment v ix sub off total data).state := by
  refine h.step ?_ e
  unfold State.keepSegment
  try lift_lets
  with_reducible repeat' first
    | apply Within.refl | apply Within.ended | apply Within.later | apply Within.iteState
    | apply State.domainWhole_to | apply State.dropTransfer_to | apply State.withAcc_to
  all_goals rfl

theorem State.tryDomainWrite_to (v : Via) (ix sub off total : Nat) (data : Bytes) (h : Within F z s) (e : subFoot
    (0x400040003FFFC006BFFFC00000000000000000000007C00600000D7940) F = true) :
    Within F z (s.tryDomainWrite v ix sub off total data).state := by
  refine h.step ?_ e
  unfold State.tryDomainWrite
  try lift_lets
  with_reducible repeat' first
    | apply Within.refl | apply Within.ended | apply Within.later | apply Within.iteState | apply State.lapses_to
    | apply State.noteRefused_to | apply State.dropTransfer_to | apply State.keepSegment_to | apply Within.ite
    | split
  all_goals repeat' first | with_reducible apply subFoot_or | with_reducible apply subFoot_domain | rfl

theorem execRelease_within (v : Via) (head ms : Nat) (s : State) :
    WithinOut (0x4000400000000007BFFFC00080000000000000000000000680002CBED7 ||| pageBit head) s (execRelease v head ms s) := by
  unfold execRelease
  apply Within.out
  try dsimp -proj -iota only
  with_reducible repeat' first
    | apply Within.refl | (apply Within.ofPair; case e => assumption) | intro x | apply State.leaseItem_to
    | apply Within.ite | refine Within.foldl ?_ fun s x => ?_ | apply Within.iteSnd | split
  all_goals repeat' first
    | with_reducible apply subFoot_or
    | with_reducible apply subFoot_laneIx
    | with_reducible apply subFoot_portIx
    | with_reducible apply subFoot_schedIx
    | with_reducible apply subFoot_gateIx
    | with_reducible apply subFoot_hostIx
    | with_reducible apply subFoot_tenantIx
    | with_reducible apply subFoot_cellIx
    | with_reducible apply subFoot_mgmtIx
    | with_reducible apply subFoot_domain
    | with_reducible apply subFoot_headIx
    | with_reducible apply subFoot_ite
    | exact subFoot_self _
    | exact subFoot_right _ _
    | exact subFoot_left (by rfl)
    | rfl
    | exact subFoot_all (by rfl)

theorem execAcquire_within (v : Via) (head ms : Nat) (s : State) :
    WithinOut (0x4000400000000007BFFFC00080000000000000000000000680002CBED7 ||| pageBit head) s (execAcquire v head ms s) := by
  unfold execAcquire
  apply Within.out
  try dsimp -proj -iota only
  with_reducible repeat' first
    | apply Within.refl | (apply Within.ofPair; case e => assumption) | intro x | apply State.leaseItem_to
    | apply Within.ite | refine Within.foldl ?_ fun s x => ?_ | apply Within.iteSnd | split
  all_goals repeat' first
    | with_reducible apply subFoot_or
    | with_reducible apply subFoot_laneIx
    | with_reducible apply subFoot_portIx
    | with_reducible apply subFoot_schedIx
    | with_reducible apply subFoot_gateIx
    | with_reducible apply subFoot_hostIx
    | with_reducible apply subFoot_tenantIx
    | with_reducible apply subFoot_cellIx
    | with_reducible apply subFoot_mgmtIx
    | with_reducible apply subFoot_domain
    | with_reducible apply subFoot_headIx
    | with_reducible apply subFoot_ite
    | exact subFoot_self _
    | exact subFoot_right _ _
    | exact subFoot_left (by rfl)
    | rfl
    | exact subFoot_all (by rfl)

theorem execDoluxDatagramDropped_within (m : DoluxMsg) (s : State) :
    WithinOut (0x8000000000) s (execDoluxDatagramDropped m s) := by
  unfold execDoluxDatagramDropped
  apply Within.out
  try lift_lets
  with_reducible repeat' first
    | apply Within.refl | apply State.inc_to | apply Within.ite
  all_goals rfl

theorem execClear_within (v : Via) (ix : Nat) (s : State) :
    WithinOut (0x7FFFFFFFFFFFFFFFFFFFFFFFFFFFFFFFFFFFFFFFFFFFFFFFFFFFFFFFF7 ||| pageBit ix) s (execClear v ix s) := by
  unfold execClear
  apply Within.out
  try dsimp -proj -iota only
  with_reducible repeat' first
    | apply Within.refl | (apply Within.ofPair; case e => assumption) | intro x | apply State.actionItem_to
    | apply Within.ite | refine Within.foldl ?_ fun s x => ?_ | apply Within.iteSnd | split
  all_goals repeat' first
    | with_reducible apply subFoot_or
    | with_reducible apply subFoot_laneIx
    | with_reducible apply subFoot_portIx
    | with_reducible apply subFoot_schedIx
    | with_reducible apply subFoot_gateIx
    | with_reducible apply subFoot_hostIx
    | with_reducible apply subFoot_tenantIx
    | with_reducible apply subFoot_cellIx
    | with_reducible apply subFoot_mgmtIx
    | with_reducible apply subFoot_domain
    | with_reducible apply subFoot_headIx
    | with_reducible apply subFoot_ite
    | exact subFoot_self _
    | exact subFoot_right _ _
    | exact subFoot_left (by rfl)
    | rfl
    | exact subFoot_all (by rfl)

theorem execDomainWrite_within (v : Via) (ix sub off total : Nat) (data : Bytes) (s : State) :
    WithinOut (0x400040003FFFC006BFFFC00000000000000000000007C00680002D7951) s (execDomainWrite v ix sub off total data s) := by
  unfold execDomainWrite
  apply Within.out
  try lift_lets
  with_reducible repeat' first
    | apply Within.refl | assumption | (intro u r hu; apply State.tryDomainWrite_to)
    | (intro x; refine Within.cut (0x400040003FFFC006BFFFC00000000000000000000007C00680002D7951) s x ?_ ?_; rotate_left; intro hx; clear_value x)
    | apply State.tryDomainWrite_to | apply State.item_to | apply Within.ite
  all_goals rfl

theorem execLeaseExpiry_within (head : Nat) (s : State) :
    WithinOut (0x4000000000068000000000000000000000000000000600000C3800 ||| pageBit head) s (execLeaseExpiry head s) := by
  unfold execLeaseExpiry
  apply Within.out
  try dsimp -proj -iota only
  with_reducible repeat' first
    | apply Within.refl | (apply Within.ofPair; case e => assumption) | intro x | apply State.lapse_to
    | apply Within.ite | refine Within.foldl ?_ fun s x => ?_ | apply Within.iteSnd | split
  all_goals repeat' first
    | with_reducible apply subFoot_or
    | with_reducible apply subFoot_laneIx
    | with_reducible apply subFoot_portIx
    | with_reducible apply subFoot_schedIx
    | with_reducible apply subFoot_gateIx
    | with_reducible apply subFoot_hostIx
    | with_reducible apply subFoot_tenantIx
    | with_reducible apply subFoot_cellIx
    | with_reducible apply subFoot_mgmtIx
    | with_reducible apply subFoot_domain
    | with_reducible apply subFoot_headIx
    | with_reducible apply subFoot_ite
    | exact subFoot_self _
    | exact subFoot_right _ _
    | exact subFoot_left (by rfl)
    | rfl
    | exact subFoot_all (by rfl)

theorem execRowSelect_within (v : Via) (ix row : Nat) (s : State) :
    WithinOut (0x7FFFFFFFFFFFFFFFFFFFFFFFFFFFFFFFFFFFFFFFFFFFFFFFFFFFFFFFF7 ||| pageBit ix) s (execRowSelect v ix row s) := by
  unfold execRowSelect
  apply Within.out
  try dsimp -proj -iota only
  with_reducible repeat' first
    | apply Within.refl | (apply Within.ofPair; case e => assumption) | intro x | apply State.anyItem_to
    | apply Within.ite | refine Within.foldl ?_ fun s x => ?_ | apply Within.iteSnd | split
  all_goals repeat' first
    | with_reducible apply subFoot_or
    | with_reducible apply subFoot_laneIx
    | with_reducible apply subFoot_portIx
    | with_reducible apply subFoot_schedIx
    | with_reducible apply subFoot_gateIx
    | with_reducible apply subFoot_hostIx
    | with_reducible apply subFoot_tenantIx
    | with_reducible apply subFoot_cellIx
    | with_reducible apply subFoot_mgmtIx
    | with_reducible apply subFoot_domain
    | with_reducible apply subFoot_headIx
    | with_reducible apply subFoot_ite
    | exact subFoot_self _
    | exact subFoot_right _ _
    | exact subFoot_left (by rfl)
    | rfl
    | exact subFoot_all (by rfl)

theorem execCommit_within (v : Via) (ix : Nat) (s : State) :
    WithinOut (0x7FFFFFFFFFFFFFFFFFFFFFFFFFFFFFFFFFFFFFFFFFFFFFFFFFFFFFFFF7 ||| pageBit ix) s (execCommit v ix s) := by
  unfold execCommit
  apply Within.out
  try dsimp -proj -iota only
  with_reducible repeat' first
    | apply Within.refl | (apply Within.ofPair; case e => assumption) | intro x | apply State.actionItem_to
    | apply Within.ite | refine Within.foldl ?_ fun s x => ?_ | apply Within.iteSnd | split
  all_goals repeat' first
    | with_reducible apply subFoot_or
    | with_reducible apply subFoot_laneIx
    | with_reducible apply subFoot_portIx
    | with_reducible apply subFoot_schedIx
    | with_reducible apply subFoot_gateIx
    | with_reducible apply subFoot_hostIx
    | with_reducible apply subFoot_tenantIx
    | with_reducible apply subFoot_cellIx
    | with_reducible apply subFoot_mgmtIx
    | with_reducible apply subFoot_domain
    | with_reducible apply subFoot_headIx
    | with_reducible apply subFoot_ite
    | exact subFoot_self _
    | exact subFoot_right _ _
    | exact subFoot_left (by rfl)
    | rfl
    | exact subFoot_all (by rfl)

theorem execRenew_within (v : Via) (head ms : Nat) (s : State) :
    WithinOut (0x4000400000000007BFFFC00080000000000000000000000680002CBED7 ||| pageBit head) s (execRenew v head ms s) := by
  unfold execRenew
  apply Within.out
  try dsimp -proj -iota only
  with_reducible repeat' first
    | apply Within.refl | (apply Within.ofPair; case e => assumption) | intro x | apply State.leaseItem_to
    | apply Within.ite | refine Within.foldl ?_ fun s x => ?_ | apply Within.iteSnd | split
  all_goals repeat' first
    | with_reducible apply subFoot_or
    | with_reducible apply subFoot_laneIx
    | with_reducible apply subFoot_portIx
    | with_reducible apply subFoot_schedIx
    | with_reducible apply subFoot_gateIx
    | with_reducible apply subFoot_hostIx
    | with_reducible apply subFoot_tenantIx
    | with_reducible apply subFoot_cellIx
    | with_reducible apply subFoot_mgmtIx
    | with_reducible apply subFoot_domain
    | with_reducible apply subFoot_headIx
    | with_reducible apply subFoot_ite
    | exact subFoot_self _
    | exact subFoot_right _ _
    | exact subFoot_left (by rfl)
    | rfl
    | exact subFoot_all (by rfl)

theorem State.tryRead_to (v : Via) (ix sub : Nat) (h : Within F z s) (e : subFoot (0x100000) F = true) :
    Within F z (s.tryRead v ix sub).state := by
  refine h.step ?_ e
  unfold State.tryRead
  try lift_lets
  with_reducible repeat' first
    | apply Within.refl | apply Within.ended | apply Within.later | apply Within.iteState | apply State.valueOf_to
    | apply Within.ite | split
  all_goals rfl

theorem State.identity_to (m : DoluxMsg) (d : Session) (h : Within F z s) (e : subFoot
    (0x6800000000000000000000000000000008000283840) F = true) :
    Within F z (s.identity m d) := by
  refine h.step ?_ e
  unfold State.identity
  try lift_lets
  with_reducible repeat' first
    | apply Within.refl | apply State.respond_to
  all_goals rfl

theorem execIdentify_within (m : DoluxMsg) (s : State) :
    WithinOut (0x4000000000068000000000000000000000000000000480002C3840) s (execIdentify m s) := by
  unfold execIdentify
  apply Within.out
  try dsimp -proj -iota only
  with_reducible repeat' first
    | apply Within.refl | apply State.admitMsg_to | apply State.identity_to | apply Within.ite | split
  all_goals rfl

theorem execRead_within (v : Via) (ix sub : Nat) (s : State) :
    WithinOut (0x4000000000068000000000000000000000000000000480003C3851) s (execRead v ix sub s) := by
  unfold execRead
  apply Within.out
  try lift_lets
  with_reducible repeat' first
    | apply Within.refl | assumption | (intro u r hu; apply State.tryRead_to)
    | (intro x; refine Within.cut (0x4000000000068000000000000000000000000000000480003C3851) s x ?_ ?_; rotate_left; intro hx; clear_value x)
    | apply State.tryRead_to | apply State.item_to | apply Within.ite
  all_goals rfl

theorem execKeyValidityEnded_within (key : Fin 256) (s : State) :
    WithinOut (0x400040003FFFC006BFFFC00000000000000000000007C00600000C3800) s (execKeyValidityEnded key s) := by
  unfold execKeyValidityEnded
  apply Within.out
  try lift_lets
  with_reducible repeat' first
    | apply Within.refl | apply State.endLeasesOf_to | apply State.event_to | apply Within.ite
  all_goals rfl

theorem execReplayCounterWrite_within (key : Fin 256) (s : State) :
    WithinOut (0x10040) s (execReplayCounterWrite key s) := by
  unfold execReplayCounterWrite
  apply Within.out
  try lift_lets
  with_reducible repeat' first
    | apply Within.refl | apply State.setKey_to | apply State.recordKey_to | apply Within.ite
  all_goals rfl

end Sys2Proof.Machine
end

