-- ==== Sys2Proof/Laws/WithinRegFile.lean ====
section
/-! SUPPORT. What the operations of Machine/RegFile.lean can touch. -/

namespace Sys2Proof.Machine

variable {F : Nat} {z s : State}

theorem State.writeSlot_to (o off : Nat) (val : Word) (h : Within F z s) (e : subFoot
    (0x400000000006C000000000000000000000000000000400000C3801) F = true) :
    Within F z (s.writeSlot o off val) := by
  refine h.step ?_ e
  unfold State.writeSlot
  try lift_lets
  with_reducible repeat' first
    | apply Within.refl | apply State.popHead_to | apply State.flushStale_to | apply State.writeReg_to
    | apply State.slotLevels_to | apply State.sendCommit_to | apply Within.ite
  all_goals rfl

theorem State.writeChannel_to (master off : Nat) (val : Word) (h : Within F z s) (e : subFoot
    (0x40004000000000078000000080000000000000000000000600002CB887) F = true) :
    Within F z (s.writeChannel master off val) := by
  refine h.step ?_ e
  unfold State.writeChannel
  try dsimp -proj -iota only
  with_reducible repeat' first
    | apply Within.refl | (apply Within.ofPair; case e => assumption) | apply State.dmaStart_to
    | apply State.writeReg_to | apply State.dmaAbort_to | apply State.dmaMay_to | apply Within.ite
    | refine Within.foldl ?_ fun s x => ?_ | split
  all_goals rfl

theorem State.writeThread_to (m off : Nat) (val : Word) (h : Within F z s) (e : subFoot
    (0x4000400000000007C000000080000000000000000000000600002CB887) F = true) :
    Within F z (s.writeThread m off val) := by
  refine h.step ?_ e
  unfold State.writeThread
  try lift_lets
  with_reducible repeat' first
    | apply Within.refl | apply State.writeSlot_to | apply State.writeChannel_to | split
  all_goals rfl

theorem State.writePf0_to (m off : Nat) (val : Word) (h : Within F z s) (e : subFoot
    (0x7FFFFFFFFFFFFFFFFFFFFFFFFFFFFFFFFFFFFFFFFFFFFFFFFFFFFFFFF7) F = true) :
    Within F z (s.writePf0 m off val) := by
  refine h.step ?_ e
  unfold State.writePf0
  try lift_lets
  with_reducible repeat' first
    | apply Within.refl | apply State.flushPba_to | apply State.completeBy_to | apply State.anyItem_to
    | apply State.setPend_to | apply State.writeChannel_to | apply State.dwGo_to | apply State.deliver_to
    | apply State.writeReg_to | apply Within.ite | apply State.putDwBuf_to
  all_goals rfl

theorem State.writeStorage_to (o off : Nat) (val : Word) (h : Within F z s) (e : subFoot
    (0x4000400000000006BFFFC00080000000000000000000000400002C3E81) F = true) :
    Within F z (s.writeStorage o off val) := by
  refine h.step ?_ e
  unfold State.writeStorage
  try lift_lets
  with_reducible repeat' first
    | apply Within.refl | apply State.noteCq_to | apply State.ringStor_to | apply State.writeStorCtrl_to
    | apply State.stepStor_to | apply State.writeReg_to | apply State.resumeHeld_to | apply Within.ite
  all_goals rfl

theorem State.writeTelemetry_to (o off : Nat) (val : Word) (h : Within F z s) (e : subFoot (0x1001) F = true) :
    Within F z (s.writeTelemetry o off val) := by
  refine h.step ?_ e
  unfold State.writeTelemetry
  try lift_lets
  with_reducible repeat' first
    | apply Within.refl | apply State.writeTlmCtrl_to | apply State.writeReg_to | apply Within.ite
  all_goals rfl

theorem State.writeRing_to (o off : Nat) (val : Word) (h : Within F z s) (e : subFoot
    (0x4000400000000006BFFFC00080000000000000000000000400002C3C81) F = true) :
    Within F z (s.writeRing o off val) := by
  refine h.step ?_ e
  unfold State.writeRing
  try lift_lets
  with_reducible repeat' first
    | apply Within.refl | apply State.writeRingCtrl_to | apply State.ringTail_to | apply State.beginRead_to
    | apply State.noteFull_to | apply State.writeReg_to | apply State.settleRing_to | apply State.resumeHeld_to
    | apply Within.ite
  all_goals rfl

theorem State.writePage_to (o off : Nat) (val : Word) (h : Within F z s) (e : subFoot
    (0x4000400000000006BFFFC00080004000000000000000000400002C3A81) F = true) :
    Within F z (s.writePage o off val) := by
  refine h.step ?_ e
  unfold State.writePage
  try lift_lets
  with_reducible repeat' first
    | apply Within.refl | apply State.ringPage_to | apply State.writePageCtrl_to | apply State.writeReg_to
    | apply Within.ite
  all_goals rfl

theorem State.writeTenant_to (t off : Nat) (val : Word) (h : Within F z s) (e : subFoot
    (0x4000400000000006FFFFC00080004000000000000000000400002C3E81) F = true) :
    Within F z (s.writeTenant t off val) := by
  refine h.step ?_ e
  unfold State.writeTenant
  try lift_lets
  with_reducible repeat' first
    | apply Within.refl | apply State.flushPba_to | apply State.writeSlot_to | apply State.writeStorage_to
    | apply State.writeTelemetry_to | apply State.writeRing_to | apply State.writePage_to | apply State.writeReg_to
    | apply Within.ite
  all_goals rfl

theorem State.writeWord_to (f : Func) (off : Nat) (val : Word) (h : Within F z s) (e : subFoot
    (0x7FFFFFFFFFFFFFFFFFFFFFFFFFFFFFFFFFFFFFFFFFFFFFFFFFFFFFFFF7) F = true) :
    Within F z (s.writeWord f off val) := by
  refine h.step ?_ e
  unfold State.writeWord
  try lift_lets
  with_reducible repeat' first
    | apply Within.refl | apply State.writeThread_to | apply State.writePf0_to | apply State.writeTenant_to | split
  all_goals rfl

theorem execFastPathWrite_within (master off : Nat) (data : Bytes) (s : State) :
    WithinOut (0x40004000000000078000000080000000000000000000000600002CB887) s (execFastPathWrite master off data s) := by
  unfold execFastPathWrite
  apply Within.out
  try dsimp -proj -iota only
  with_reducible repeat' first
    | apply Within.refl | apply State.writeChannel_to | apply Within.ite | refine Within.foldl ?_ fun s x => ?_
    | split
  all_goals rfl

theorem State.clearRead_to (o x2 : Nat) (h : Within F z s) (e : subFoot
    (0x6800000000000000000000000000000000000083801) F = true) :
    Within F z (s.clearRead o x2) := by
  refine h.step ?_ e
  unfold State.clearRead
  try lift_lets
  with_reducible repeat' first
    | apply Within.refl | apply State.slotLevels_to | apply State.setReg_to | split
  all_goals rfl

theorem State.readWord_to (f : Func) (off : Nat) (h : Within F z s) (e : subFoot
    (0x6800000000000000000000000000000000000083801) F = true) :
    Within F z (s.readWord f off).2 := by
  refine h.step ?_ e
  unfold State.readWord
  try lift_lets
  with_reducible repeat' first
    | apply Within.refl | apply State.claimOf_to | apply State.latchHead_to | apply State.clearRead_to | split
  all_goals rfl

theorem State.readBar_to (f : Func) (off n : Nat) (h : Within F z s) (e : subFoot
    (0x6800000000000000000000000000000000000083801) F = true) :
    Within F z (s.readBar f off n).2 := by
  refine h.step ?_ e
  unfold State.readBar
  try lift_lets
  with_reducible repeat' first
    | apply Within.refl | apply State.readWord_to | split
  all_goals rfl

theorem State.writeBar_to (f : Func) (off : Nat) (data : Bytes) (h : Within F z s) (e : subFoot
    (0x7FFFFFFFFFFFFFFFFFFFFFFFFFFFFFFFFFFFFFFFFFFFFFFFFFFFFFFFF7) F = true) :
    Within F z (s.writeBar f off data) := by
  refine h.step ?_ e
  unfold State.writeBar
  try dsimp -proj -iota only
  with_reducible repeat' first
    | apply Within.refl | apply State.writeWord_to | apply State.push_to | apply Within.ite
    | refine Within.foldl ?_ fun s x => ?_ | split
  all_goals rfl

theorem execRegisterWrite_within (f : Func) (a : RegPlace) (data : Bytes) (s : State) :
    WithinOut (0x7FFFFFFFFFFFFFFFFFFFFFFFFFFFFFFFFFFFFFFFFFFFFFFFFFFFFFFFF7) s (execRegisterWrite f a data s) := by
  unfold execRegisterWrite
  apply Within.out
  try lift_lets
  with_reducible repeat' first
    | apply Within.refl | apply State.configWrite_to | apply State.writeBar_to | split
  all_goals rfl

theorem execReadClear_within (f : Func) (a : RegRead) (s : State) :
    WithinOut (0x6800000000000000000000000000000000000083801) s (execReadClear f a s) := by
  unfold execReadClear
  apply Within.out
  try lift_lets
  with_reducible repeat' first
    | apply Within.refl | apply State.readBar_to | apply State.emit_to | split
  all_goals rfl

end Sys2Proof.Machine
end

