-- ==== Sys2Proof/Laws/WithinTick.lean ====
section
/-! SUPPORT. What the operations of Machine/Tick.lean can touch. -/

namespace Sys2Proof.Machine

variable {F : Nat} {z s : State}

theorem State.tick_to (h : Within F z s) (e : subFoot (0x400040007FFFC007BFFFC0008000400040004043C003C00400002FBAA7)
    F = true) :
    Within F z (s.tick) := by
  refine h.step ?_ e
  unfold State.tick
  try lift_lets
  with_reducible repeat' first
    | apply Within.refl | apply State.poolCycle_to | apply State.dmaCycle_to | apply State.poolAnswers_to
    | apply State.serveLanes_to | apply State.passTime_to | apply State.releaseAll_to | apply State.startJobs_to
  all_goals rfl

end Sys2Proof.Machine
end

