-- ==== Sys2Proof/Laws/Reach.lean ====
section
/-! SUPPORT. Each command keeps to its reach: what `reach` of Safety.lean names for it is all that may differ after it, and
canonical memories stay canonical. -/

namespace Sys2Proof.Machine

/-- The pages of a list of ranges as bits. -/
def pageBits : List (Nat × Nat) → Nat
  | [] => 0
  | x :: r => ((2 ^ (x.2 + 1 - x.1) - 1) <<< x.1) ||| pageBits r

/-- Every page of a set is in a reach. -/
def pagesOk (F : Nat) (r : Reach) : Bool := Nat.beq ((F >>> 22) % 2 ^ 208 ||| pageBits r.pages) (pageBits r.pages)

theorem pageBits_testBit (n : Nat) : (l : List (Nat × Nat)) →
    (pageBits l).testBit n = l.any fun x => decide (x.1 ≤ n) && decide (n ≤ x.2)
  | [] => by simp [pageBits]
  | x :: r => by
    unfold pageBits
    rw [Nat.testBit_or, pageBits_testBit n r, List.any_cons, Nat.testBit_shiftLeft, Nat.testBit_two_pow_sub_one]
    congr 1
    by_cases a : x.1 ≤ n
    · simp only [ge_iff_le, a, decide_true, Bool.true_and, decide_eq_decide]
      omega
    · simp [a]

theorem pagesOk_page {F : Nat} {r : Reach} (h : pagesOk F r = true) (n : Nat) (hn : n < 208) (k : r.onPage n = false) :
    F.testBit (22 + n) = false := by
  unfold pagesOk at h
  replace h := Nat.eq_of_beq_eq_true h
  have e := congrArg (fun m => Nat.testBit m n) h
  simp only [Nat.testBit_or, pageBits_testBit, Nat.testBit_mod_two_pow, Nat.testBit_shiftRight] at e
  unfold Reach.onPage at k
  rw [k] at e
  simpa [hn] using e

/-- Every part. -/
def allParts : List Part :=
  [.regs, .loop, .coreMem, .backup, .dwBuf, .clk, .acc, .net, .waiting, .adm, .cip, .sto, .hst, .rng, .thr, .cells, .dma, .pwr,
   .flt, .log, .out, .free]

/-- Every part of a set is in a reach. -/
def partsOk (F : Nat) (r : Reach) : Bool := allParts.all fun p => !(hasPart F p) || r.parts.contains p

/-- From `s` to `t` a command of reach `r` may lead. -/
structure Kept (r : Reach) (s t : State) : Prop where
  pending : t.pending = s.pending
  parts : ∀ p : Part, r.parts.contains p = false → p.same s t
  cells : ∀ ix row sub : Nat, ix < 0xD000 → r.onPage (ix / 256) = false → t.cell ix row sub = s.cell ix row sub
  canon : s.canonical = true → t.canonical = true

theorem Kept.of {F : Nat} {r : Reach} {ps : List (Nat × Nat)} {pt : List Part} {s t : State} (h : Within F s t)
    (hr : r = ⟨pt, ps⟩) (a : partsOk F ⟨pt, ps⟩ = true) (b : pagesOk F ⟨pt, ps⟩ = true) : Kept r s t := by
  subst hr
  refine ⟨h.pending, fun p hp => h.parts p ?_, fun ix row sub hi hp => h.dict ix ?_ row sub, h.canon⟩
  · unfold partsOk at a
    rw [List.all_eq_true] at a
    have := a p (by cases p <;> simp [allParts])
    rw [hp] at this
    simpa using this
  · have := pagesOk_page b (ix / 256) (by omega) hp
    unfold hasPage pageNo
    rw [Nat.min_eq_left (by omega)]
    exact this

/-- A page is no part. -/
theorem hasPart_page (G x : Nat) (p : Part) : hasPart (G ||| pageBit x) p = hasPart G p := by
  have : pageBit x &&& p.bit = 0 := by
    apply Nat.eq_of_testBit_eq
    intro i
    unfold pageBit pageNo
    rw [Nat.testBit_and, Nat.testBit_two_pow, Nat.zero_testBit]
    by_cases e : 22 + min (x / 256) 208 = i
    · have : p.bit < 2 ^ i := Nat.lt_of_lt_of_le (show p.bit < 2 ^ 22 by cases p <;> decide)
        (Nat.pow_le_pow_right (by decide) (by omega))
      rw [Nat.testBit_lt_two_pow this, Bool.and_false]
    · simp [e]
  unfold hasPart
  rw [Nat.and_or_distrib_right, this, Nat.or_zero]

theorem Kept.ofPage {G x : Nat} {r : Reach} {ps : List (Nat × Nat)} {pt : List Part} {s t : State}
    (h : Within (G ||| pageBit x) s t) (hr : r = ⟨pt, (x / 256, x / 256) :: ps⟩) (a : partsOk G ⟨pt, ps⟩ = true)
    (b : pagesOk G ⟨pt, ps⟩ = true) : Kept r s t := by
  subst hr
  refine ⟨h.pending, fun p hp => h.parts p ?_, fun ix row sub hi hp => h.dict ix ?_ row sub, h.canon⟩
  · rw [hasPart_page]
    unfold partsOk at a
    rw [List.all_eq_true] at a
    have := a p (by cases p <;> simp [allParts])
    rw [hp] at this
    simpa using this
  · have hx : Reach.onPage ⟨pt, ps⟩ (ix / 256) = false := by
      unfold Reach.onPage at hp ⊢
      simp only [List.any_cons, Bool.or_eq_false_iff] at hp
      exact hp.2
    have hne : ix / 256 ≠ x / 256 := by
      unfold Reach.onPage at hp
      simp only [List.any_cons, Bool.or_eq_false_iff, Bool.and_eq_false_iff, decide_eq_false_iff_not] at hp
      omega
    have := pagesOk_page b (ix / 256) (by omega) hx
    unfold hasPage pageNo pageBit pageNo
    rw [Nat.testBit_or, Nat.min_eq_left (by omega), this, Nat.testBit_two_pow]
    simp
    omega

/-- A command whose reach is every page. -/
theorem Kept.ofAll {G : Nat} {r : Reach} {s t : State} (h : Within G s t) (a : partsOk G r = true)
    (b : r.pages = [(0x00, 0xFF)]) : Kept r s t := by
  refine ⟨h.pending, fun p hp => h.parts p ?_, fun ix row sub hi hp => absurd hp ?_, h.canon⟩
  · unfold partsOk at a
    rw [List.all_eq_true] at a
    have := a p (by cases p <;> simp [allParts])
    rw [hp] at this
    simpa using this
  · unfold Reach.onPage
    rw [b]
    simp
    omega

theorem partsOk_page (G x : Nat) (r : Reach) : partsOk (G ||| pageBit x) r = partsOk G r := by
  unfold partsOk
  simp only [hasPart_page]

variable {z z' : State}

theorem reach_read (v : Via) (ix sub : Nat) (h : exec (.read v ix sub) z = .next z') :
    Kept (reach (.read v ix sub)) z z' :=
  .of (execRead_within _ _ _ z z' h) rfl (by rfl) (by rfl)

theorem reach_write (v : Via) (ix sub : Nat) (data : Bytes) (h : exec (.write v ix sub data) z = .next z') :
    Kept (reach (.write v ix sub data)) z z' :=
  .ofAll (execWrite_within _ _ _ _ z z' h) (by rw [partsOk_page]; rfl) rfl

theorem reach_domainRead (v : Via) (ix sub off max : Nat) (h : exec (.domainRead v ix sub off max) z = .next z') :
    Kept (reach (.domainRead v ix sub off max)) z z' :=
  .of (execDomainRead_within _ _ _ _ _ z z' h) rfl (by rfl) (by rfl)

theorem reach_domainWrite (v : Via) (ix sub off total : Nat) (data : Bytes) (h : exec (.domainWrite v ix sub off total data) z = .next z') :
    Kept (reach (.domainWrite v ix sub off total data)) z z' :=
  .of (execDomainWrite_within _ _ _ _ _ _ z z' h) rfl (by rfl) (by rfl)

theorem reach_identify (m : DoluxMsg) (h : exec (.identify m) z = .next z') :
    Kept (reach (.identify m)) z z' :=
  .of (execIdentify_within _ z z' h) rfl (by rfl) (by rfl)

theorem reach_doluxDatagramDropped (m : DoluxMsg) (h : exec (.doluxDatagramDropped m) z = .next z') :
    Kept (reach (.doluxDatagramDropped m)) z z' :=
  .of (execDoluxDatagramDropped_within _ z z' h) rfl (by rfl) (by rfl)

theorem reach_freshKeyRecorded (key : Fin 256) (h : exec (.freshKeyRecorded key) z = .next z') :
    Kept (reach (.freshKeyRecorded key)) z z' :=
  .of (execFreshKeyRecorded_within _ z z' h) rfl (by rfl) (by rfl)

theorem reach_replayCounterWrite (key : Fin 256) (h : exec (.replayCounterWrite key) z = .next z') :
    Kept (reach (.replayCounterWrite key)) z z' :=
  .of (execReplayCounterWrite_within _ z z' h) rfl (by rfl) (by rfl)

theorem reach_keyValidityEnded (key : Fin 256) (h : exec (.keyValidityEnded key) z = .next z') :
    Kept (reach (.keyValidityEnded key)) z z' :=
  .of (execKeyValidityEnded_within _ z z' h) rfl (by rfl) (by rfl)

theorem reach_rowSelect (v : Via) (ix row : Nat) (h : exec (.rowSelect v ix row) z = .next z') :
    Kept (reach (.rowSelect v ix row)) z z' :=
  .ofAll (execRowSelect_within _ _ _ z z' h) (by rw [partsOk_page]; rfl) rfl

theorem reach_commit (v : Via) (ix : Nat) (h : exec (.commit v ix) z = .next z') :
    Kept (reach (.commit v ix)) z z' :=
  .ofAll (execCommit_within _ _ z z' h) (by rw [partsOk_page]; rfl) rfl

theorem reach_clear (v : Via) (ix : Nat) (h : exec (.clear v ix) z = .next z') :
    Kept (reach (.clear v ix)) z z' :=
  .ofAll (execClear_within _ _ z z' h) (by rw [partsOk_page]; rfl) rfl

theorem reach_load (v : Via) (ix : Nat) (h : exec (.load v ix) z = .next z') :
    Kept (reach (.load v ix)) z z' :=
  .ofAll (execLoad_within _ _ z z' h) (by rw [partsOk_page]; rfl) rfl

theorem reach_batchOpen (v : Via) (h : exec (.batchOpen v) z = .next z') :
    Kept (reach (.batchOpen v)) z z' :=
  .ofAll (execBatchOpen_within _ z z' h) (by rfl) rfl

theorem reach_batchClose (v : Via) (h : exec (.batchClose v) z = .next z') :
    Kept (reach (.batchClose v)) z z' :=
  .ofAll (execBatchClose_within _ z z' h) (by rfl) rfl

theorem reach_batchDiscard (v : Via) (h : exec (.batchDiscard v) z = .next z') :
    Kept (reach (.batchDiscard v)) z z' :=
  .ofAll (execBatchDiscard_within _ z z' h) (by rfl) rfl

theorem reach_batchTimeout (master : Nat) (h : exec (.batchTimeout master) z = .next z') :
    Kept (reach (.batchTimeout master)) z z' :=
  .of (execBatchTimeout_within _ z z' h) rfl (by rfl) (by rfl)

theorem reach_domainTransferTimeout (ix sub : Nat) (h : exec (.domainTransferTimeout ix sub) z = .next z') :
    Kept (reach (.domainTransferTimeout ix sub)) z z' :=
  .of (execDomainTransferTimeout_within _ _ z z' h) rfl (by rfl) (by rfl)

theorem reach_acquire (v : Via) (head ms : Nat) (h : exec (.acquire v head ms) z = .next z') :
    Kept (reach (.acquire v head ms)) z z' :=
  .ofPage (execAcquire_within _ _ _ z z' h) rfl (by rfl) (by rfl)

theorem reach_renew (v : Via) (head ms : Nat) (h : exec (.renew v head ms) z = .next z') :
    Kept (reach (.renew v head ms)) z z' :=
  .ofPage (execRenew_within _ _ _ z z' h) rfl (by rfl) (by rfl)

theorem reach_release (v : Via) (head ms : Nat) (h : exec (.release v head ms) z = .next z') :
    Kept (reach (.release v head ms)) z z' :=
  .ofPage (execRelease_within _ _ _ z z' h) rfl (by rfl) (by rfl)

theorem reach_take (v : Via) (head ms : Nat) (h : exec (.take v head ms) z = .next z') :
    Kept (reach (.take v head ms)) z z' :=
  .ofPage (execTake_within _ _ _ z z' h) rfl (by rfl) (by rfl)

theorem reach_leaseExpiry (head : Nat) (h : exec (.leaseExpiry head) z = .next z') :
    Kept (reach (.leaseExpiry head)) z z' :=
  .ofPage (execLeaseExpiry_within _ z z' h) rfl (by rfl) (by rfl)

theorem reach_fastPathWrite (master off : Nat) (data : Bytes) (h : exec (.fastPathWrite master off data) z = .next z') :
    Kept (reach (.fastPathWrite master off data)) z z' :=
  .of (execFastPathWrite_within _ _ _ z z' h) rfl (by rfl) (by rfl)

theorem reach_registerWrite (f : Func) (a : RegPlace) (data : Bytes) (h : exec (.registerWrite f a data) z = .next z') :
    Kept (reach (.registerWrite f a data)) z z' :=
  .ofAll (execRegisterWrite_within _ _ _ z z' h) (by rfl) rfl

theorem reach_readClear (f : Func) (a : RegRead) (h : exec (.readClear f a) z = .next z') :
    Kept (reach (.readClear f a)) z z' :=
  .of (execReadClear_within _ _ z z' h) rfl (by rfl) (by rfl)

theorem reach_profileWrite (v : Via) (data : Bytes) (h : exec (.profileWrite v data) z = .next z') :
    Kept (reach (.profileWrite v data)) z z' :=
  .of (execProfileWrite_within _ _ z z' h) rfl (by rfl) (by rfl)

theorem reach_laneModeWrite (v : Via) (l : Lane) (data : Bytes) (h : exec (.laneModeWrite v l data) z = .next z') :
    Kept (reach (.laneModeWrite v l data)) z z' :=
  .of (execLaneModeWrite_within _ _ _ z z' h) rfl (by rfl) (by rfl)

theorem reach_fecWrite (v : Via) (l : Lane) (data : Bytes) (h : exec (.fecWrite v l data) z = .next z') :
    Kept (reach (.fecWrite v l data)) z z' :=
  .of (execFecWrite_within _ _ _ z z' h) rfl (by rfl) (by rfl)

theorem reach_polarityWrite (v : Via) (l : Lane) (tx : Bool) (data : Bytes) (h : exec (.polarityWrite v l tx data) z = .next z') :
    Kept (reach (.polarityWrite v l tx data)) z z' :=
  .of (execPolarityWrite_within _ _ _ _ z z' h) rfl (by rfl) (by rfl)

theorem reach_lanesEnterDisabled (l : Lane) (h : exec (.lanesEnterDisabled l) z = .next z') :
    Kept (reach (.lanesEnterDisabled l)) z z' :=
  .of (execLanesEnterDisabled_within _ z z' h) rfl (by rfl) (by rfl)

theorem reach_managementModeWrite (v : Via) (m : MgmtLane) (data : Bytes) (h : exec (.managementModeWrite v m data) z = .next z') :
    Kept (reach (.managementModeWrite v m data)) z z' :=
  .of (execManagementModeWrite_within _ _ _ z z' h) rfl (by rfl) (by rfl)

theorem reach_refclkLost (o : Octet) (h : exec (.refclkLost o) z = .next z') :
    Kept (reach (.refclkLost o)) z z' :=
  .of (execRefclkLost_within _ z z' h) rfl (by rfl) (by rfl)

theorem reach_refclkRestored (o : Octet) (h : exec (.refclkRestored o) z = .next z') :
    Kept (reach (.refclkRestored o)) z z' :=
  .of (execRefclkRestored_within _ z z' h) rfl (by rfl) (by rfl)

theorem reach_pllLocked (l : AnyLane) (h : exec (.pllLocked l) z = .next z') :
    Kept (reach (.pllLocked l)) z z' :=
  .of (execPllLocked_within _ z z' h) rfl (by rfl) (by rfl)

theorem reach_pllLockTimeout (l : AnyLane) (h : exec (.pllLockTimeout l) z = .next z') :
    Kept (reach (.pllLockTimeout l)) z z' :=
  .of (execPllLockTimeout_within _ z z' h) rfl (by rfl) (by rfl)

theorem reach_pllRetry (l : AnyLane) (h : exec (.pllRetry l) z = .next z') :
    Kept (reach (.pllRetry l)) z z' :=
  .of (execPllRetry_within _ z z' h) rfl (by rfl) (by rfl)

theorem reach_signalDetected (l : AnyLane) (h : exec (.signalDetected l) z = .next z') :
    Kept (reach (.signalDetected l)) z z' :=
  .of (execSignalDetected_within _ z z' h) rfl (by rfl) (by rfl)

theorem reach_alignConditionLost (l : AnyLane) (h : exec (.alignConditionLost l) z = .next z') :
    Kept (reach (.alignConditionLost l)) z z' :=
  .of (execAlignConditionLost_within _ z z' h) rfl (by rfl) (by rfl)

theorem reach_laneUp (l : AnyLane) (h : exec (.laneUp l) z = .next z') :
    Kept (reach (.laneUp l)) z z' :=
  .of (execLaneUp_within _ z z' h) rfl (by rfl) (by rfl)

theorem reach_laneFault (l : AnyLane) (why : LaneCause) (h : exec (.laneFault l why) z = .next z') :
    Kept (reach (.laneFault l why)) z z' :=
  .of (execLaneFault_within _ _ z z' h) rfl (by rfl) (by rfl)

theorem reach_portDownDiscard (p : Port) (h : exec (.portDownDiscard p) z = .next z') :
    Kept (reach (.portDownDiscard p)) z z' :=
  .of (execPortDownDiscard_within _ z z' h) rfl (by rfl) (by rfl)

theorem reach_remoteFaultReceived (l : Lane) (h : exec (.remoteFaultReceived l) z = .next z') :
    Kept (reach (.remoteFaultReceived l)) z z' :=
  .of (execRemoteFaultReceived_within _ z z' h) rfl (by rfl) (by rfl)

theorem reach_remoteFaultCleared (l : Lane) (h : exec (.remoteFaultCleared l) z = .next z') :
    Kept (reach (.remoteFaultCleared l)) z z' :=
  .of (execRemoteFaultCleared_within _ z z' h) rfl (by rfl) (by rfl)

theorem reach_sgmiiControlWord (l : Lane) (rate : Nat) (h : exec (.sgmiiControlWord l rate) z = .next z') :
    Kept (reach (.sgmiiControlWord l rate)) z z' :=
  .of (execSgmiiControlWord_within _ _ z z' h) rfl (by rfl) (by rfl)

theorem reach_flexeOverheadMismatch (l : Lane) (group phy : Nat) (h : exec (.flexeOverheadMismatch l group phy) z = .next z') :
    Kept (reach (.flexeOverheadMismatch l group phy)) z z' :=
  .of (execFlexeOverheadMismatch_within _ _ _ z z' h) rfl (by rfl) (by rfl)

theorem reach_calendarSwitchRequest (v : Via) (l : Lane) (data : Bytes) (h : exec (.calendarSwitchRequest v l data) z = .next z') :
    Kept (reach (.calendarSwitchRequest v l data)) z z' :=
  .of (execCalendarSwitchRequest_within _ _ _ z z' h) rfl (by rfl) (by rfl)

theorem reach_calendarSwitched (l : Lane) (h : exec (.calendarSwitched l) z = .next z') :
    Kept (reach (.calendarSwitched l)) z z' :=
  .of (execCalendarSwitched_within _ z z' h) rfl (by rfl) (by rfl)

theorem reach_calendarSwitchTimeout (l : Lane) (h : exec (.calendarSwitchTimeout l) z = .next z') :
    Kept (reach (.calendarSwitchTimeout l)) z z' :=
  .of (execCalendarSwitchTimeout_within _ z z' h) rfl (by rfl) (by rfl)

theorem reach_maximumFrameWrite (v : Via) (p : Port) (data : Bytes) (h : exec (.maximumFrameWrite v p data) z = .next z') :
    Kept (reach (.maximumFrameWrite v p data)) z z' :=
  .of (execMaximumFrameWrite_within _ _ _ z z' h) rfl (by rfl) (by rfl)

theorem reach_pauseHonouringWrite (v : Via) (p : Port) (data : Bytes) (h : exec (.pauseHonouringWrite v p data) z = .next z') :
    Kept (reach (.pauseHonouringWrite v p data)) z z' :=
  .of (execPauseHonouringWrite_within _ _ _ z z' h) rfl (by rfl) (by rfl)

theorem reach_frameReceived (p : Port) (frame : Bytes) (coding : Coding) (h : exec (.frameReceived p frame coding) z = .next z') :
    Kept (reach (.frameReceived p frame coding)) z z' :=
  .of (execFrameReceived_within _ _ _ z z' h) rfl (by rfl) (by rfl)

theorem reach_pause (p : Port) (quanta : Nat) (h : exec (.pause p quanta) z = .next z') :
    Kept (reach (.pause p quanta)) z z' :=
  .of (execPause_within _ _ z z' h) rfl (by rfl) (by rfl)

theorem reach_pauseTimerExpiry (p : Port) (h : exec (.pauseTimerExpiry p) z = .next z') :
    Kept (reach (.pauseTimerExpiry p)) z z' :=
  .of (execPauseTimerExpiry_within _ z z' h) rfl (by rfl) (by rfl)

theorem reach_managementFrameReceived (m : MgmtLane) (frame : Bytes) (fcs : Nat) (h : exec (.managementFrameReceived m frame fcs) z = .next z') :
    Kept (reach (.managementFrameReceived m frame fcs)) z z' :=
  .of (execManagementFrameReceived_within _ _ _ z z' h) rfl (by rfl) (by rfl)

theorem reach_ingressSlotGrant (k : Octet) (h : exec (.ingressSlotGrant k) z = .next z') :
    Kept (reach (.ingressSlotGrant k)) z z' :=
  .of (execIngressSlotGrant_within _ z z' h) rfl (by rfl) (by rfl)

theorem reach_recirculate (k : Octet) (h : exec (.recirculate k) z = .next z') :
    Kept (reach (.recirculate k)) z z' :=
  .of (execRecirculate_within _ z z' h) rfl (by rfl) (by rfl)

theorem reach_alloc (n : Thread) (row : Nat) (cls : BufClass) (h : exec (.alloc n row cls) z = .next z') :
    Kept (reach (.alloc n row cls)) z z' :=
  .of (execAlloc_within _ _ _ z z' h) rfl (by rfl) (by rfl)

theorem reach_free (n : Thread) (handle : Nat) (h : exec (.free n handle) z = .next z') :
    Kept (reach (.free n handle)) z z' :=
  .of (execFree_within _ _ z z' h) rfl (by rfl) (by rfl)

theorem reach_poolModeSwitch (quota : Bool) (h : exec (.poolModeSwitch quota) z = .next z') :
    Kept (reach (.poolModeSwitch quota)) z z' :=
  .of (execPoolModeSwitch_within _ z z' h) rfl (by rfl) (by rfl)

theorem reach_baseMinimumWrite (v : Via) (row : Nat) (cls : BufClass) (data : Bytes) (h : exec (.baseMinimumWrite v row cls data) z = .next z') :
    Kept (reach (.baseMinimumWrite v row cls data)) z z' :=
  .of (execBaseMinimumWrite_within _ _ _ _ z z' h) rfl (by rfl) (by rfl)

theorem reach_quotaWrite (v : Via) (row : Nat) (cls : BufClass) (data : Bytes) (h : exec (.quotaWrite v row cls data) z = .next z') :
    Kept (reach (.quotaWrite v row cls data)) z z' :=
  .of (execQuotaWrite_within _ _ _ _ z z' h) rfl (by rfl) (by rfl)

theorem reach_carveWrite (v : Via) (sub : Nat) (data : Bytes) (h : exec (.carveWrite v sub data) z = .next z') :
    Kept (reach (.carveWrite v sub data)) z z' :=
  .of (execCarveWrite_within _ _ _ z z' h) rfl (by rfl) (by rfl)

theorem reach_spillFetch (place : QueuePlace) (q : QueueNo) (h : exec (.spillFetch place q) z = .next z') :
    Kept (reach (.spillFetch place q)) z z' :=
  .of (execSpillFetch_within _ _ z z' h) rfl (by rfl) (by rfl)

theorem reach_spillFetchComplete (handle : Nat) (h : exec (.spillFetchComplete handle) z = .next z') :
    Kept (reach (.spillFetchComplete handle)) z z' :=
  .of (execSpillFetchComplete_within _ z z' h) rfl (by rfl) (by rfl)

theorem reach_frameSelection (p : Port) (h : exec (.frameSelection p) z = .next z') :
    Kept (reach (.frameSelection p)) z z' :=
  .of (execFrameSelection_within _ z z' h) rfl (by rfl) (by rfl)

theorem reach_pnMarkWritten (sa : Nat) (h : exec (.pnMarkWritten sa) z = .next z') :
    Kept (reach (.pnMarkWritten sa)) z z' :=
  .of (execPnMarkWritten_within _ z z' h) rfl (by rfl) (by rfl)

theorem reach_frameTransmitted (p : Port) (h : exec (.frameTransmitted p) z = .next z') :
    Kept (reach (.frameTransmitted p)) z z' :=
  .of (execFrameTransmitted_within _ z z' h) rfl (by rfl) (by rfl)

theorem reach_headAgeDiscard (row : Nat) (h : exec (.headAgeDiscard row) z = .next z') :
    Kept (reach (.headAgeDiscard row)) z z' :=
  .of (execHeadAgeDiscard_within _ z z' h) rfl (by rfl) (by rfl)

theorem reach_quantumWrite (v : Via) (p : Port) (q : QueueNo) (data : Bytes) (h : exec (.quantumWrite v p q data) z = .next z') :
    Kept (reach (.quantumWrite v p q data)) z z' :=
  .of (execQuantumWrite_within _ _ _ _ z z' h) rfl (by rfl) (by rfl)

theorem reach_shaperEnableWrite (v : Via) (p : Port) (q : QueueNo) (data : Bytes) (h : exec (.shaperEnableWrite v p q data) z = .next z') :
    Kept (reach (.shaperEnableWrite v p q data)) z z' :=
  .of (execShaperEnableWrite_within _ _ _ _ z z' h) rfl (by rfl) (by rfl)

theorem reach_idleSlopeWrite (v : Via) (p : Port) (q : QueueNo) (data : Bytes) (h : exec (.idleSlopeWrite v p q data) z = .next z') :
    Kept (reach (.idleSlopeWrite v p q data)) z z' :=
  .of (execIdleSlopeWrite_within _ _ _ _ z z' h) rfl (by rfl) (by rfl)

theorem reach_gateControlWrite (v : Via) (p : Port) (data : Bytes) (h : exec (.gateControlWrite v p data) z = .next z') :
    Kept (reach (.gateControlWrite v p data)) z z' :=
  .of (execGateControlWrite_within _ _ _ z z' h) rfl (by rfl) (by rfl)

theorem reach_initialStatesWrite (v : Via) (p : Port) (data : Bytes) (h : exec (.initialStatesWrite v p data) z = .next z') :
    Kept (reach (.initialStatesWrite v p data)) z z' :=
  .of (execInitialStatesWrite_within _ _ _ z z' h) rfl (by rfl) (by rfl)

theorem reach_cancelPending (v : Via) (p : Port) (data : Bytes) (h : exec (.cancelPending v p data) z = .next z') :
    Kept (reach (.cancelPending v p data)) z z' :=
  .of (execCancelPending_within _ _ _ z z' h) rfl (by rfl) (by rfl)

theorem reach_gateListSwap (p : Port) (h : exec (.gateListSwap p) z = .next z') :
    Kept (reach (.gateListSwap p)) z z' :=
  .of (execGateListSwap_within _ z z' h) rfl (by rfl) (by rfl)

theorem reach_gateEntryChange (p : Port) (h : exec (.gateEntryChange p) z = .next z') :
    Kept (reach (.gateEntryChange p)) z z' :=
  .of (execGateEntryChange_within _ z z' h) rfl (by rfl) (by rfl)

theorem reach_telemetrySample (row : Nat) (h : exec (.telemetrySample row) z = .next z') :
    Kept (reach (.telemetrySample row)) z z' :=
  .of (execTelemetrySample_within _ z z' h) rfl (by rfl) (by rfl)

theorem reach_telemetryRingEnable (f : Func) (ctrl : Word) (h : exec (.telemetryRingEnable f ctrl) z = .next z') :
    Kept (reach (.telemetryRingEnable f ctrl)) z z' :=
  .of (execTelemetryRingEnable_within _ _ z z' h) rfl (by rfl) (by rfl)

theorem reach_vportDelivery (hp : HostPort) (desc : RingDesc) (h : exec (.vportDelivery hp desc) z = .next z') :
    Kept (reach (.vportDelivery hp desc)) z z' :=
  .of (execVportDelivery_within _ _ z z' h) rfl (by rfl) (by rfl)

theorem reach_admitStream (v : Via) (rec : Bytes) (h : exec (.admitStream v rec) z = .next z') :
    Kept (reach (.admitStream v rec)) z z' :=
  .of (execAdmitStream_within _ _ z z' h) rfl (by rfl) (by rfl)

theorem reach_withdraw (v : Via) (rec : Bytes) (h : exec (.withdraw v rec) z = .next z') :
    Kept (reach (.withdraw v rec)) z z' :=
  .of (execWithdraw_within _ _ z z' h) rfl (by rfl) (by rfl)

theorem reach_check (v : Via) (rec : Bytes) (h : exec (.check v rec) z = .next z') :
    Kept (reach (.check v rec)) z z' :=
  .of (execCheck_within _ _ z z' h) rfl (by rfl) (by rfl)

theorem reach_modify (v : Via) (rec : Bytes) (h : exec (.modify v rec) z = .next z') :
    Kept (reach (.modify v rec)) z z' :=
  .of (execModify_within _ _ z z' h) rfl (by rfl) (by rfl)

theorem reach_frerRecoveryReset (compound : Fin 4096) (h : exec (.frerRecoveryReset compound) z = .next z') :
    Kept (reach (.frerRecoveryReset compound)) z z' :=
  .of (execFrerRecoveryReset_within _ z z' h) rfl (by rfl) (by rfl)

theorem reach_releaseDecrypted (pass : Nat) (h : exec (.releaseDecrypted pass) z = .next z') :
    Kept (reach (.releaseDecrypted pass)) z z' :=
  .of (execReleaseDecrypted_within _ z z' h) rfl (by rfl) (by rfl)

theorem reach_cipherPageDoorbell (f : Func) (tail : Word) (h : exec (.cipherPageDoorbell f tail) z = .next z') :
    Kept (reach (.cipherPageDoorbell f tail)) z z' :=
  .of (execCipherPageDoorbell_within _ _ z z' h) rfl (by rfl) (by rfl)

theorem reach_cipherPageEnable (f : Func) (ctrl : Word) (h : exec (.cipherPageEnable f ctrl) z = .next z') :
    Kept (reach (.cipherPageEnable f ctrl)) z z' :=
  .of (execCipherPageEnable_within _ _ z z' h) rfl (by rfl) (by rfl)

theorem reach_cipherPageDisable (f : Func) (ctrl : Word) (h : exec (.cipherPageDisable f ctrl) z = .next z') :
    Kept (reach (.cipherPageDisable f ctrl)) z z' :=
  .of (execCipherPageDisable_within _ _ z z' h) rfl (by rfl) (by rfl)

theorem reach_gcmEncrypt (f : Func) (job : Nat) (d : JobDesc) (src : Bytes) (h : exec (.gcmEncrypt f job d src) z = .next z') :
    Kept (reach (.gcmEncrypt f job d src)) z z' :=
  .of (execGcmEncrypt_within _ _ _ _ z z' h) rfl (by rfl) (by rfl)

theorem reach_gcmDecrypt (f : Func) (job : Nat) (d : JobDesc) (src : Bytes) (h : exec (.gcmDecrypt f job d src) z = .next z') :
    Kept (reach (.gcmDecrypt f job d src)) z z' :=
  .of (execGcmDecrypt_within _ _ _ _ z z' h) rfl (by rfl) (by rfl)

theorem reach_gmacGenerate (f : Func) (job : Nat) (d : JobDesc) (src : Bytes) (h : exec (.gmacGenerate f job d src) z = .next z') :
    Kept (reach (.gmacGenerate f job d src)) z z' :=
  .of (execGmacGenerate_within _ _ _ _ z z' h) rfl (by rfl) (by rfl)

theorem reach_gmacVerify (f : Func) (job : Nat) (d : JobDesc) (src : Bytes) (h : exec (.gmacVerify f job d src) z = .next z') :
    Kept (reach (.gmacVerify f job d src)) z z' :=
  .of (execGmacVerify_within _ _ _ _ z z' h) rfl (by rfl) (by rfl)

theorem reach_ctr (f : Func) (job : Nat) (d : JobDesc) (src : Bytes) (h : exec (.ctr f job d src) z = .next z') :
    Kept (reach (.ctr f job d src)) z z' :=
  .of (execCtr_within _ _ _ _ z z' h) rfl (by rfl) (by rfl)

theorem reach_xtsEncrypt (f : Func) (job : Nat) (d : JobDesc) (src : Bytes) (h : exec (.xtsEncrypt f job d src) z = .next z') :
    Kept (reach (.xtsEncrypt f job d src)) z z' :=
  .of (execXtsEncrypt_within _ _ _ _ z z' h) rfl (by rfl) (by rfl)

theorem reach_xtsDecrypt (f : Func) (job : Nat) (d : JobDesc) (src : Bytes) (h : exec (.xtsDecrypt f job d src) z = .next z') :
    Kept (reach (.xtsDecrypt f job d src)) z z' :=
  .of (execXtsDecrypt_within _ _ _ _ z z' h) rfl (by rfl) (by rfl)

theorem reach_cmacGenerate (f : Func) (job : Nat) (d : JobDesc) (src : Bytes) (h : exec (.cmacGenerate f job d src) z = .next z') :
    Kept (reach (.cmacGenerate f job d src)) z z' :=
  .of (execCmacGenerate_within _ _ _ _ z z' h) rfl (by rfl) (by rfl)

theorem reach_cmacVerify (f : Func) (job : Nat) (d : JobDesc) (src : Bytes) (h : exec (.cmacVerify f job d src) z = .next z') :
    Kept (reach (.cmacVerify f job d src)) z z' :=
  .of (execCmacVerify_within _ _ _ _ z z' h) rfl (by rfl) (by rfl)

theorem reach_wrap (f : Func) (job : Nat) (d : JobDesc) (h : exec (.wrap f job d) z = .next z') :
    Kept (reach (.wrap f job d)) z z' :=
  .of (execWrap_within _ _ _ z z' h) rfl (by rfl) (by rfl)

theorem reach_unwrap (f : Func) (job : Nat) (d : JobDesc) (src : Bytes) (h : exec (.unwrap f job d src) z = .next z') :
    Kept (reach (.unwrap f job d src)) z z' :=
  .of (execUnwrap_within _ _ _ _ z z' h) rfl (by rfl) (by rfl)

theorem reach_derive (f : Func) (job : Nat) (d : JobDesc) (src : Bytes) (h : exec (.derive f job d src) z = .next z') :
    Kept (reach (.derive f job d src)) z z' :=
  .of (execDerive_within _ _ _ _ z z' h) rfl (by rfl) (by rfl)

theorem reach_random (f : Func) (job : Nat) (d : JobDesc) (h : exec (.random f job d) z = .next z') :
    Kept (reach (.random f job d)) z z' :=
  .of (execRandom_within _ _ _ z z' h) rfl (by rfl) (by rfl)

theorem reach_laneStall (l : CipherLane) (h : exec (.laneStall l) z = .next z') :
    Kept (reach (.laneStall l)) z z' :=
  .of (execLaneStall_within _ z z' h) rfl (by rfl) (by rfl)

theorem reach_laneStallEnd (l : CipherLane) (h : exec (.laneStallEnd l) z = .next z') :
    Kept (reach (.laneStallEnd l)) z z' :=
  .of (execLaneStallEnd_within _ z z' h) rfl (by rfl) (by rfl)

theorem reach_maskRefresh (l : CipherLane) (h : exec (.maskRefresh l) z = .next z') :
    Kept (reach (.maskRefresh l)) z z' :=
  .of (execMaskRefresh_within _ z z' h) rfl (by rfl) (by rfl)

theorem reach_maskKeyExpiry (l : CipherLane) (h : exec (.maskKeyExpiry l) z = .next z') :
    Kept (reach (.maskKeyExpiry l)) z z' :=
  .of (execMaskKeyExpiry_within _ z z' h) rfl (by rfl) (by rfl)

theorem reach_drbgReseed (i : Fin 4) (h : exec (.drbgReseed i) z = .next z') :
    Kept (reach (.drbgReseed i)) z z' :=
  .of (execDrbgReseed_within _ z z' h) rfl (by rfl) (by rfl)

theorem reach_entropyTestFailure (t : EntropyTest) (h : exec (.entropyTestFailure t) z = .next z') :
    Kept (reach (.entropyTestFailure t)) z z' :=
  .of (execEntropyTestFailure_within _ z z' h) rfl (by rfl) (by rfl)

theorem reach_engineRestart (v : Via) (data : Bytes) (failing : Option EntropyTest) (h : exec (.engineRestart v data failing) z = .next z') :
    Kept (reach (.engineRestart v data failing)) z z' :=
  .of (execEngineRestart_within _ _ _ z z' h) rfl (by rfl) (by rfl)

theorem reach_storageQueueEnable (f : Func) (ctrl : Word) (h : exec (.storageQueueEnable f ctrl) z = .next z') :
    Kept (reach (.storageQueueEnable f ctrl)) z z' :=
  .of (execStorageQueueEnable_within _ _ z z' h) rfl (by rfl) (by rfl)

theorem reach_storageDoorbell (f : Func) (tail : Word) (h : exec (.storageDoorbell f tail) z = .next z') :
    Kept (reach (.storageDoorbell f tail)) z z' :=
  .of (execStorageDoorbell_within _ _ z z' h) rfl (by rfl) (by rfl)

theorem reach_connAdd (f : Func) (d : StorDesc) (rec : Bytes) (h : exec (.connAdd f d rec) z = .next z') :
    Kept (reach (.connAdd f d rec)) z z' :=
  .of (execConnAdd_within _ _ _ z z' h) rfl (by rfl) (by rfl)

theorem reach_connDel (f : Func) (d : StorDesc) (h : exec (.connDel f d) z = .next z') :
    Kept (reach (.connDel f d)) z z' :=
  .of (execConnDel_within _ _ z z' h) rfl (by rfl) (by rfl)

theorem reach_cmdRead (f : Func) (d : StorDesc) (segs : List Seg) (capsule : List ReadBytes) (h : exec (.cmdRead f d segs capsule) z = .next z') :
    Kept (reach (.cmdRead f d segs capsule)) z z' :=
  .of (execCmdRead_within _ _ _ _ z z' h) rfl (by rfl) (by rfl)

theorem reach_cmdWrite (f : Func) (d : StorDesc) (segs : List Seg) (capsule data : List ReadBytes) (h : exec (.cmdWrite f d segs capsule data) z = .next z') :
    Kept (reach (.cmdWrite f d segs capsule data)) z z' :=
  .of (execCmdWrite_within _ _ _ _ _ z z' h) rfl (by rfl) (by rfl)

theorem reach_cmdRetire (f : Func) (d : StorDesc) (h : exec (.cmdRetire f d) z = .next z') :
    Kept (reach (.cmdRetire f d)) z z' :=
  .of (execCmdRetire_within _ _ z z' h) rfl (by rfl) (by rfl)

theorem reach_resync (f : Func) (d : StorDesc) (h : exec (.resync f d) z = .next z') :
    Kept (reach (.resync f d)) z z' :=
  .of (execResync_within _ _ z z' h) rfl (by rfl) (by rfl)

theorem reach_storageSegment (f : Func) (vq : Nat) (desc : RingDesc) (host : List ReadBytes) (h : exec (.storageSegment f vq desc host) z = .next z') :
    Kept (reach (.storageSegment f vq desc host)) z z' :=
  .of (execStorageSegment_within _ _ _ _ z z' h) rfl (by rfl) (by rfl)

theorem reach_quarantineEnd (conn cid : Nat) (h : exec (.quarantineEnd conn cid) z = .next z') :
    Kept (reach (.quarantineEnd conn cid)) z z' :=
  .of (execQuarantineEnd_within _ _ z z' h) rfl (by rfl) (by rfl)

theorem reach_hostPortDisable (v : Via) (hp : HostPort) (h : exec (.hostPortDisable v hp) z = .next z') :
    Kept (reach (.hostPortDisable v hp)) z z' :=
  .of (execHostPortDisable_within _ _ z z' h) rfl (by rfl) (by rfl)

theorem reach_hostPortEnable (v : Via) (hp : HostPort) (h : exec (.hostPortEnable v hp) z = .next z') :
    Kept (reach (.hostPortEnable v hp)) z z' :=
  .of (execHostPortEnable_within _ _ z z' h) rfl (by rfl) (by rfl)

theorem reach_hostLinkUp (hp : HostPort) (width rate : Nat) (h : exec (.hostLinkUp hp width rate) z = .next z') :
    Kept (reach (.hostLinkUp hp width rate)) z z' :=
  .of (execHostLinkUp_within _ _ _ z z' h) rfl (by rfl) (by rfl)

theorem reach_linkStateChange (hp : HostPort) (st : LinkState) (h : exec (.linkStateChange hp st) z = .next z') :
    Kept (reach (.linkStateChange hp st)) z z' :=
  .of (execLinkStateChange_within _ _ z z' h) rfl (by rfl) (by rfl)

theorem reach_tenantEnableWrite (v : Via) (t : Tenant) (data : Bytes) (h : exec (.tenantEnableWrite v t data) z = .next z') :
    Kept (reach (.tenantEnableWrite v t data)) z z' :=
  .of (execTenantEnableWrite_within _ _ _ z z' h) rfl (by rfl) (by rfl)

theorem reach_tenantHostPortWrite (v : Via) (t : Tenant) (data : Bytes) (h : exec (.tenantHostPortWrite v t data) z = .next z') :
    Kept (reach (.tenantHostPortWrite v t data)) z z' :=
  .of (execTenantHostPortWrite_within _ _ _ z z' h) rfl (by rfl) (by rfl)

theorem reach_uplinkWrite (v : Via) (t : Tenant) (target : Bool) (data : Bytes) (h : exec (.uplinkWrite v t target data) z = .next z') :
    Kept (reach (.uplinkWrite v t target data)) z z' :=
  .of (execUplinkWrite_within _ _ _ _ z z' h) rfl (by rfl) (by rfl)

theorem reach_vfEnable (hp : HostPort) (numVFs : Nat) (h : exec (.vfEnable hp numVFs) z = .next z') :
    Kept (reach (.vfEnable hp numVFs)) z z' :=
  .of (execVfEnable_within _ _ z z' h) rfl (by rfl) (by rfl)

theorem reach_completionReceived (hp : HostPort) (tag : Nat) (st : CplStatus) (data : Bytes) (h : exec (.completionReceived hp tag st data) z = .next z') :
    Kept (reach (.completionReceived hp tag st data)) z z' :=
  .of (execCompletionReceived_within _ _ _ _ z z' h) rfl (by rfl) (by rfl)

theorem reach_completionTimeout (hp : HostPort) (tag : Nat) (h : exec (.completionTimeout hp tag) z = .next z') :
    Kept (reach (.completionTimeout hp tag)) z z' :=
  .of (execCompletionTimeout_within _ _ z z' h) rfl (by rfl) (by rfl)

theorem reach_tagQuarantineEnd (hp : HostPort) (tag : Nat) (h : exec (.tagQuarantineEnd hp tag) z = .next z') :
    Kept (reach (.tagQuarantineEnd hp tag)) z z' :=
  .of (execTagQuarantineEnd_within _ _ z z' h) rfl (by rfl) (by rfl)

theorem reach_busMasterEnableClear (f : Func) (h : exec (.busMasterEnableClear f) z = .next z') :
    Kept (reach (.busMasterEnableClear f)) z z' :=
  .of (execBusMasterEnableClear_within _ z z' h) rfl (by rfl) (by rfl)

theorem reach_flr (f : Func) (h : exec (.flr f) z = .next z') :
    Kept (reach (.flr f)) z z' :=
  .of (execFlr_within _ z z' h) rfl (by rfl) (by rfl)

theorem reach_flrComplete (f : Func) (h : exec (.flrComplete f) z = .next z') :
    Kept (reach (.flrComplete f)) z z' :=
  .of (execFlrComplete_within _ z z' h) rfl (by rfl) (by rfl)

theorem reach_dStateChange (f : Func) (d : DState) (h : exec (.dStateChange f d) z = .next z') :
    Kept (reach (.dStateChange f d)) z z' :=
  .of (execDStateChange_within _ _ z z' h) rfl (by rfl) (by rfl)

theorem reach_hostFaceReset (hp : HostPort) (why : HostCause) (h : exec (.hostFaceReset hp why) z = .next z') :
    Kept (reach (.hostFaceReset hp why)) z z' :=
  .of (execHostFaceReset_within _ _ z z' h) rfl (by rfl) (by rfl)

theorem reach_perstDeassert (hp : HostPort) (h : exec (.perstDeassert hp) z = .next z') :
    Kept (reach (.perstDeassert hp)) z z' :=
  .of (execPerstDeassert_within _ z z' h) rfl (by rfl) (by rfl)

theorem reach_ringEnable (f : Func) (tx : Bool) (r : RingNo) (ctrl : Word) (h : exec (.ringEnable f tx r ctrl) z = .next z') :
    Kept (reach (.ringEnable f tx r ctrl)) z z' :=
  .of (execRingEnable_within _ _ _ _ z z' h) rfl (by rfl) (by rfl)

theorem reach_ringDisable (f : Func) (tx : Bool) (r : RingNo) (ctrl : Word) (h : exec (.ringDisable f tx r ctrl) z = .next z') :
    Kept (reach (.ringDisable f tx r ctrl)) z z' :=
  .of (execRingDisable_within _ _ _ _ z z' h) rfl (by rfl) (by rfl)

theorem reach_ringDoorbell (f : Func) (tx : Bool) (r : RingNo) (tail : Word) (h : exec (.ringDoorbell f tx r tail) z = .next z') :
    Kept (reach (.ringDoorbell f tx r tail)) z z' :=
  .of (execRingDoorbell_within _ _ _ _ z z' h) rfl (by rfl) (by rfl)

theorem reach_hostFrameRead (f : Func) (r : RingNo) (descs : List RingDesc) (data : List ReadBytes) (how : FrameRead) (h : exec (.hostFrameRead f r descs data how) z = .next z') :
    Kept (reach (.hostFrameRead f r descs data how)) z z' :=
  .of (execHostFrameRead_within _ _ _ _ _ z z' h) rfl (by rfl) (by rfl)

theorem reach_inlinePush (f : Func) (off : Nat) (data : Bytes) (h : exec (.inlinePush f off data) z = .next z') :
    Kept (reach (.inlinePush f off data)) z z' :=
  .of (execInlinePush_within _ _ _ z z' h) rfl (by rfl) (by rfl)

theorem reach_ringModTimer (f : Func) (tx : Bool) (r : RingNo) (h : exec (.ringModTimer f tx r) z = .next z') :
    Kept (reach (.ringModTimer f tx r)) z z' :=
  .of (execRingModTimer_within _ _ _ z z' h) rfl (by rfl) (by rfl)

theorem reach_bindingLock (v : Via) (data : Bytes) (h : exec (.bindingLock v data) z = .next z') :
    Kept (reach (.bindingLock v data)) z z' :=
  .of (execBindingLock_within _ _ z z' h) rfl (by rfl) (by rfl)

theorem reach_sendCommit (f : Func) (slot : RingNo) (val : Word) (h : exec (.sendCommit f slot val) z = .next z') :
    Kept (reach (.sendCommit f slot val)) z z' :=
  .of (execSendCommit_within _ _ _ z z' h) rfl (by rfl) (by rfl)

theorem reach_receiveLatch (f : Func) (slot : RingNo) (h : exec (.receiveLatch f slot) z = .next z') :
    Kept (reach (.receiveLatch f slot)) z z' :=
  .of (execReceiveLatch_within _ _ z z' h) rfl (by rfl) (by rfl)

theorem reach_pop (f : Func) (slot : RingNo) (val : Word) (h : exec (.pop f slot val) z = .next z') :
    Kept (reach (.pop f slot val)) z z' :=
  .of (execPop_within _ _ _ z z' h) rfl (by rfl) (by rfl)

theorem reach_flush (f : Func) (slot : RingNo) (val : Word) (h : exec (.flush f slot val) z = .next z') :
    Kept (reach (.flush f slot val)) z z' :=
  .of (execFlush_within _ _ _ z z' h) rfl (by rfl) (by rfl)

theorem reach_sourceAssert (id : Fin 4096) (h : exec (.sourceAssert id) z = .next z') :
    Kept (reach (.sourceAssert id)) z z' :=
  .of (execSourceAssert_within _ z z' h) rfl (by rfl) (by rfl)

theorem reach_levelWithdrawn (id : Fin 4096) (h : exec (.levelWithdrawn id) z = .next z') :
    Kept (reach (.levelWithdrawn id)) z z' :=
  .of (execLevelWithdrawn_within _ z z' h) rfl (by rfl) (by rfl)

theorem reach_claim (c : EvCtx) (h : exec (.claim c) z = .next z') :
    Kept (reach (.claim c)) z z' :=
  .of (execClaim_within _ z z' h) rfl (by rfl) (by rfl)

theorem reach_complete (c : EvCtx) (id : Nat) (h : exec (.complete c id) z = .next z') :
    Kept (reach (.complete c id)) z z' :=
  .of (execComplete_within _ _ z z' h) rfl (by rfl) (by rfl)

theorem reach_setPending (f : Func) (id : Nat) (h : exec (.setPending f id) z = .next z') :
    Kept (reach (.setPending f id)) z z' :=
  .of (execSetPending_within _ _ z z' h) rfl (by rfl) (by rfl)

theorem reach_interruptEntry (n : Thread) (h : exec (.interruptEntry n) z = .next z') :
    Kept (reach (.interruptEntry n)) z z' :=
  .of (execInterruptEntry_within _ z z' h) rfl (by rfl) (by rfl)

theorem reach_interruptExit (n : Thread) (h : exec (.interruptExit n) z = .next z') :
    Kept (reach (.interruptExit n)) z z' :=
  .of (execInterruptExit_within _ z z' h) rfl (by rfl) (by rfl)

theorem reach_fork (n : Thread) (entry arg : Nat) (privileged : Bool) (h : exec (.fork n entry arg privileged) z = .next z') :
    Kept (reach (.fork n entry arg privileged)) z z' :=
  .of (execFork_within _ _ _ _ z z' h) rfl (by rfl) (by rfl)

theorem reach_join (n : Thread) (child deadline : Nat) (h : exec (.join n child deadline) z = .next z') :
    Kept (reach (.join n child deadline)) z z' :=
  .of (execJoin_within _ _ _ z z' h) rfl (by rfl) (by rfl)

theorem reach_exit (n : Thread) (code : Word) (h : exec (.exit n code) z = .next z') :
    Kept (reach (.exit n code)) z z' :=
  .of (execExit_within _ _ z z' h) rfl (by rfl) (by rfl)

theorem reach_wait (n : Thread) (mask : Word) (deadline : Nat) (h : exec (.wait n mask deadline) z = .next z') :
    Kept (reach (.wait n mask deadline)) z z' :=
  .of (execWait_within _ _ _ z z' h) rfl (by rfl) (by rfl)

theorem reach_signal (n : Thread) (target : Nat) (bits : Word) (h : exec (.signal n target bits) z = .next z') :
    Kept (reach (.signal n target bits)) z z' :=
  .of (execSignal_within _ _ _ z z' h) rfl (by rfl) (by rfl)

theorem reach_waitDeadline (n : Thread) (h : exec (.waitDeadline n) z = .next z') :
    Kept (reach (.waitDeadline n)) z z' :=
  .of (execWaitDeadline_within _ z z' h) rfl (by rfl) (by rfl)

theorem reach_accessStall (n : Thread) (h : exec (.accessStall n) z = .next z') :
    Kept (reach (.accessStall n)) z z' :=
  .of (execAccessStall_within _ z z' h) rfl (by rfl) (by rfl)

theorem reach_accessComplete (n : Thread) (h : exec (.accessComplete n) z = .next z') :
    Kept (reach (.accessComplete n)) z z' :=
  .of (execAccessComplete_within _ z z' h) rfl (by rfl) (by rfl)

theorem reach_threadFault (n : Thread) (cause : Nat) (h : exec (.threadFault n cause) z = .next z') :
    Kept (reach (.threadFault n cause)) z z' :=
  .of (execThreadFault_within _ _ z z' h) rfl (by rfl) (by rfl)

theorem reach_threadRestart (n : Thread) (h : exec (.threadRestart n) z = .next z') :
    Kept (reach (.threadRestart n)) z z' :=
  .of (execThreadRestart_within _ z z' h) rfl (by rfl) (by rfl)

theorem reach_threadRelease (n : Thread) (h : exec (.threadRelease n) z = .next z') :
    Kept (reach (.threadRelease n)) z z' :=
  .of (execThreadRelease_within _ z z' h) rfl (by rfl) (by rfl)

theorem reach_threadStop (n : Thread) (h : exec (.threadStop n) z = .next z') :
    Kept (reach (.threadStop n)) z z' :=
  .of (execThreadStop_within _ z z' h) rfl (by rfl) (by rfl)

theorem reach_threadResume (n : Thread) (h : exec (.threadResume n) z = .next z') :
    Kept (reach (.threadResume n)) z z' :=
  .of (execThreadResume_within _ z z' h) rfl (by rfl) (by rfl)

theorem reach_threadKill (n : Thread) (h : exec (.threadKill n) z = .next z') :
    Kept (reach (.threadKill n)) z z' :=
  .of (execThreadKill_within _ z z' h) rfl (by rfl) (by rfl)

theorem reach_executorRestart (n : Thread) (h : exec (.executorRestart n) z = .next z') :
    Kept (reach (.executorRestart n)) z z' :=
  .of (execExecutorRestart_within _ z z' h) rfl (by rfl) (by rfl)

theorem reach_unload (v : Via) (c : Cell) (data : Bytes) (h : exec (.unload v c data) z = .next z') :
    Kept (reach (.unload v c data)) z z' :=
  .of (execUnload_within _ _ _ z z' h) rfl (by rfl) (by rfl)

theorem reach_cellModeWrite (v : Via) (c : Cell) (data : Bytes) (h : exec (.cellModeWrite v c data) z = .next z') :
    Kept (reach (.cellModeWrite v c data)) z z' :=
  .of (execCellModeWrite_within _ _ _ z z' h) rfl (by rfl) (by rfl)

theorem reach_cellRelease (c : Cell) (h : exec (.cellRelease c) z = .next z') :
    Kept (reach (.cellRelease c)) z z' :=
  .of (execCellRelease_within _ z z' h) rfl (by rfl) (by rfl)

theorem reach_cellRun (c : Cell) (h : exec (.cellRun c) z = .next z') :
    Kept (reach (.cellRun c)) z z' :=
  .of (execCellRun_within _ z z' h) rfl (by rfl) (by rfl)

theorem reach_copy (master : Nat) (ch : Channel) (host : Bool) (h : exec (.copy master ch host) z = .next z') :
    Kept (reach (.copy master ch host)) z z' :=
  .of (execCopy_within _ _ _ z z' h) rfl (by rfl) (by rfl)

theorem reach_fill (master : Nat) (ch : Channel) (h : exec (.fill master ch) z = .next z') :
    Kept (reach (.fill master ch)) z z' :=
  .of (execFill_within _ _ z z' h) rfl (by rfl) (by rfl)

theorem reach_compare (master : Nat) (ch : Channel) (hostSrc hostDst : Bool) (h : exec (.compare master ch hostSrc hostDst) z = .next z') :
    Kept (reach (.compare master ch hostSrc hostDst)) z z' :=
  .of (execCompare_within _ _ _ _ z z' h) rfl (by rfl) (by rfl)

theorem reach_dmaAbort (master : Nat) (ch : Channel) (h : exec (.dmaAbort master ch) z = .next z') :
    Kept (reach (.dmaAbort master ch)) z z' :=
  .of (execDmaAbort_within _ _ z z' h) rfl (by rfl) (by rfl)

theorem reach_dmaDone (ch : Channel) (h : exec (.dmaDone ch) z = .next z') :
    Kept (reach (.dmaDone ch)) z z' :=
  .of (execDmaDone_within _ z z' h) rfl (by rfl) (by rfl)

theorem reach_stationChannelsWrite (v : Via) (data : Bytes) (h : exec (.stationChannelsWrite v data) z = .next z') :
    Kept (reach (.stationChannelsWrite v data)) z z' :=
  .of (execStationChannelsWrite_within _ _ z z' h) rfl (by rfl) (by rfl)

theorem reach_ptpMessage (p : PtpPort) (m : PtpMsg) (h : exec (.ptpMessage p m) z = .next z') :
    Kept (reach (.ptpMessage p m)) z z' :=
  .of (execPtpMessage_within _ _ z z' h) rfl (by rfl) (by rfl)

theorem reach_ptpPortStateChange (p : PtpPort) (st : PtpState) (h : exec (.ptpPortStateChange p st) z = .next z') :
    Kept (reach (.ptpPortStateChange p st)) z z' :=
  .of (execPtpPortStateChange_within _ _ z z' h) rfl (by rfl) (by rfl)

theorem reach_ptpSyncTransmit (p : PtpPort) (h : exec (.ptpSyncTransmit p) z = .next z') :
    Kept (reach (.ptpSyncTransmit p)) z z' :=
  .of (execPtpSyncTransmit_within _ z z' h) rfl (by rfl) (by rfl)

theorem reach_nextPpsSecondsWrite (v : Via) (data : Bytes) (h : exec (.nextPpsSecondsWrite v data) z = .next z') :
    Kept (reach (.nextPpsSecondsWrite v data)) z z' :=
  .of (execNextPpsSecondsWrite_within _ _ z z' h) rfl (by rfl) (by rfl)

theorem reach_temperatureSample (readings : List Int) (h : exec (.temperatureSample readings) z = .next z') :
    Kept (reach (.temperatureSample readings)) z z' :=
  by
  delta exec at h
  exact Kept.of (execTemperatureSample_within _ z z' h) rfl (by rfl) (by rfl)

theorem reach_thermalTrip (sensor : Fin 26) (h : exec (.thermalTrip sensor) z = .next z') :
    Kept (reach (.thermalTrip sensor)) z z' :=
  .of (execThermalTrip_within _ z z' h) rfl (by rfl) (by rfl)

theorem reach_sequenceFailure (rail : Nat) (status : Nat) (h : exec (.sequenceFailure rail status) z = .next z') :
    Kept (reach (.sequenceFailure rail status)) z z' :=
  .of (execSequenceFailure_within _ _ z z' h) rfl (by rfl) (by rfl)

theorem reach_warmResetRequest (v : Via) (data : Bytes) (h : exec (.warmResetRequest v data) z = .next z') :
    Kept (reach (.warmResetRequest v data)) z z' :=
  .of (execWarmResetRequest_within _ _ z z' h) rfl (by rfl) (by rfl)

theorem reach_hardResetRequest (v : Via) (data : Bytes) (h : exec (.hardResetRequest v data) z = .next z') :
    Kept (reach (.hardResetRequest v data)) z z' :=
  .of (execHardResetRequest_within _ _ z z' h) rfl (by rfl) (by rfl)

theorem reach_deviceReset (cause : Nat) (h : exec (.deviceReset cause) z = .next z') :
    Kept (reach (.deviceReset cause)) z z' :=
  .ofAll (execDeviceReset_within _ z z' h) (by rfl) rfl

theorem reach_watchdogWrite (n : Thread) (h : exec (.watchdogWrite n) z = .next z') :
    Kept (reach (.watchdogWrite n)) z z' :=
  .of (execWatchdogWrite_within _ z z' h) rfl (by rfl) (by rfl)

theorem reach_avsStep (lowest : Nat) (refused : Bool) (h : exec (.avsStep lowest refused) z = .next z') :
    Kept (reach (.avsStep lowest refused)) z z' :=
  .of (execAvsStep_within _ _ z z' h) rfl (by rfl) (by rfl)

theorem reach_pmbusAlert (words : List Nat) (h : exec (.pmbusAlert words) z = .next z') :
    Kept (reach (.pmbusAlert words)) z z' :=
  .of (execPmbusAlert_within _ z z' h) rfl (by rfl) (by rfl)

theorem reach_configurationCommit (v : Via) (data : Bytes) (h : exec (.configurationCommit v data) z = .next z') :
    Kept (reach (.configurationCommit v data)) z z' :=
  .of (execConfigurationCommit_within _ _ z z' h) rfl (by rfl) (by rfl)

theorem reach_commitEnd (failure : Option Nat) (h : exec (.commitEnd failure) z = .next z') :
    Kept (reach (.commitEnd failure)) z z' :=
  .of (execCommitEnd_within _ z z' h) rfl (by rfl) (by rfl)

theorem reach_program (v : Via) (h : exec (.program v) z = .next z') :
    Kept (reach (.program v)) z z' :=
  .of (execProgram_within _ z z' h) rfl (by rfl) (by rfl)

theorem reach_activate (v : Via) (h : exec (.activate v) z = .next z') :
    Kept (reach (.activate v)) z z' :=
  .of (execActivate_within _ z z' h) rfl (by rfl) (by rfl)

theorem reach_programAndActivate (v : Via) (h : exec (.programAndActivate v) z = .next z') :
    Kept (reach (.programAndActivate v)) z z' :=
  .of (execProgramAndActivate_within _ z z' h) rfl (by rfl) (by rfl)

theorem reach_switch (v : Via) (h : exec (.switch v) z = .next z') :
    Kept (reach (.switch v)) z z' :=
  .of (execSwitch_within _ z z' h) rfl (by rfl) (by rfl)

theorem reach_discard (v : Via) (h : exec (.discard v) z = .next z') :
    Kept (reach (.discard v)) z z' :=
  .of (execDiscard_within _ z z' h) rfl (by rfl) (by rfl)

theorem reach_firmwareProgramStep (failure : Option Nat) (h : exec (.firmwareProgramStep failure) z = .next z') :
    Kept (reach (.firmwareProgramStep failure)) z z' :=
  .of (execFirmwareProgramStep_within _ z z' h) rfl (by rfl) (by rfl)

theorem reach_switchCoreDone (fault : Bool) (h : exec (.switchCoreDone fault) z = .next z') :
    Kept (reach (.switchCoreDone fault)) z z' :=
  .of (execSwitchCoreDone_within _ z z' h) rfl (by rfl) (by rfl)

theorem reach_debugUnlock (d : DebugPath) (token : Bytes) (h : exec (.debugUnlock d token) z = .next z') :
    Kept (reach (.debugUnlock d token)) z z' :=
  .of (execDebugUnlock_within _ _ z z' h) rfl (by rfl) (by rfl)

theorem reach_correctableError (row : Fin 1148) (h : exec (.correctableError row) z = .next z') :
    Kept (reach (.correctableError row)) z z' :=
  .of (execCorrectableError_within _ z z' h) rfl (by rfl) (by rfl)

theorem reach_uncorrectableError (u : MemUnit) (h : exec (.uncorrectableError u) z = .next z') :
    Kept (reach (.uncorrectableError u)) z z' :=
  .of (execUncorrectableError_within _ z z' h) rfl (by rfl) (by rfl)

theorem reach_ternaryRowRewrite (row : Nat) (h : exec (.ternaryRowRewrite row) z = .next z') :
    Kept (reach (.ternaryRowRewrite row)) z z' :=
  .of (execTernaryRowRewrite_within _ z z' h) rfl (by rfl) (by rfl)

theorem reach_entryReload (u : MemUnit) (h : exec (.entryReload u) z = .next z') :
    Kept (reach (.entryReload u)) z z' :=
  .of (execEntryReload_within _ z z' h) rfl (by rfl) (by rfl)

theorem reach_frameUnitFault (u : Fin 1088) (h : exec (.frameUnitFault u) z = .next z') :
    Kept (reach (.frameUnitFault u)) z z' :=
  .of (execFrameUnitFault_within _ z z' h) rfl (by rfl) (by rfl)

theorem reach_failoverComplete (p : Port) (h : exec (.failoverComplete p) z = .next z') :
    Kept (reach (.failoverComplete p)) z z' :=
  .of (execFailoverComplete_within _ z z' h) rfl (by rfl) (by rfl)

theorem reach_cipherLaneFault (l : CipherLane) (h : exec (.cipherLaneFault l) z = .next z') :
    Kept (reach (.cipherLaneFault l)) z z' :=
  .of (execCipherLaneFault_within _ z z' h) rfl (by rfl) (by rfl)

theorem reach_cipherLaneRestartComplete (l : CipherLane) (h : exec (.cipherLaneRestartComplete l) z = .next z') :
    Kept (reach (.cipherLaneRestartComplete l)) z z' :=
  .of (execCipherLaneRestartComplete_within _ z z' h) rfl (by rfl) (by rfl)

theorem reach_loopCoreFault (c : Fin 16) (h : exec (.loopCoreFault c) z = .next z') :
    Kept (reach (.loopCoreFault c)) z z' :=
  .of (execLoopCoreFault_within _ z z' h) rfl (by rfl) (by rfl)

theorem reach_loopCoreFailoverComplete (c : Fin 16) (h : exec (.loopCoreFailoverComplete c) z = .next z') :
    Kept (reach (.loopCoreFailoverComplete c)) z z' :=
  .of (execLoopCoreFailoverComplete_within _ z z' h) rfl (by rfl) (by rfl)

theorem reach_fabricLinkRepair (link : Fin 5) (lost : Nat) (h : exec (.fabricLinkRepair link lost) z = .next z') :
    Kept (reach (.fabricLinkRepair link lost)) z z' :=
  .of (execFabricLinkRepair_within _ _ z z' h) rfl (by rfl) (by rfl)

theorem reach_fabricLinkRetrained (link : Fin 5) (ok : Bool) (h : exec (.fabricLinkRetrained link ok) z = .next z') :
    Kept (reach (.fabricLinkRetrained link ok)) z z' :=
  .of (execFabricLinkRetrained_within _ _ z z' h) rfl (by rfl) (by rfl)

theorem reach_hbmStackFailure (stack : Fin 2) (h : exec (.hbmStackFailure stack) z = .next z') :
    Kept (reach (.hbmStackFailure stack)) z z' :=
  .of (execHbmStackFailure_within _ z z' h) rfl (by rfl) (by rfl)

theorem reach_fozonLinkChange (st width : Nat) (h : exec (.fozonLinkChange st width) z = .next z') :
    Kept (reach (.fozonLinkChange st width)) z z' :=
  .of (execFozonLinkChange_within _ _ z z' h) rfl (by rfl) (by rfl)

theorem reach_pairMessage (m : PairMsg) (h : exec (.pairMessage m) z = .next z') :
    Kept (reach (.pairMessage m)) z z' :=
  .of (execPairMessage_within _ z z' h) rfl (by rfl) (by rfl)

theorem reach_transmitStart (p : Port) (h : exec (.transmitStart p) z = .next z') :
    Kept (reach (.transmitStart p)) z z' :=
  .of (execTransmitStart_within _ z z' h) rfl (by rfl) (by rfl)

theorem reach_oneCycleAfterStep (p : Port) (h : exec (.oneCycleAfterStep p) z = .next z') :
    Kept (reach (.oneCycleAfterStep p)) z z' :=
  .of (execOneCycleAfterStep_within _ z z' h) rfl (by rfl) (by rfl)

theorem reach_pdelayRequestTransmit (p : PtpPort) (h : exec (.pdelayRequestTransmit p) z = .next z') :
    Kept (reach (.pdelayRequestTransmit p)) z z' :=
  .of (execPdelayRequestTransmit_within _ z z' h) rfl (by rfl) (by rfl)

theorem reach_tableVersionEffective (h : exec .tableVersionEffective z = .next z') :
    Kept (reach .tableVersionEffective) z z' :=
  .of (execTableVersionEffective_within z z' h) rfl (by rfl) (by rfl)

theorem reach_admissionComplete (h : exec .admissionComplete z = .next z') :
    Kept (reach .admissionComplete) z z' :=
  .of (execAdmissionComplete_within z z' h) rfl (by rfl) (by rfl)

theorem reach_quiescentStall (h : exec .quiescentStall z = .next z') :
    Kept (reach .quiescentStall) z z' :=
  .of (execQuiescentStall_within z z' h) rfl (by rfl) (by rfl)

theorem reach_supervisorSilent (h : exec .supervisorSilent z = .next z') :
    Kept (reach .supervisorSilent) z z' :=
  .of (execSupervisorSilent_within z z' h) rfl (by rfl) (by rfl)

theorem reach_supervisorTakeover (h : exec .supervisorTakeover z = .next z') :
    Kept (reach .supervisorTakeover) z z' :=
  .of (execSupervisorTakeover_within z z' h) rfl (by rfl) (by rfl)

theorem reach_imageBackup (h : exec .imageBackup z = .next z') :
    Kept (reach .imageBackup) z z' :=
  .of (execImageBackup_within z z' h) rfl (by rfl) (by rfl)

theorem reach_ppsEdge (h : exec .ppsEdge z = .next z') :
    Kept (reach .ppsEdge) z z' :=
  .of (execPpsEdge_within z z' h) rfl (by rfl) (by rfl)

theorem reach_ppsMissing (h : exec .ppsMissing z = .next z') :
    Kept (reach .ppsMissing) z z' :=
  .of (execPpsMissing_within z z' h) rfl (by rfl) (by rfl)

theorem reach_ppsOut (h : exec .ppsOut z = .next z') :
    Kept (reach .ppsOut) z z' :=
  .of (execPpsOut_within z z' h) rfl (by rfl) (by rfl)

theorem reach_ref10mPresent (h : exec .ref10mPresent z = .next z') :
    Kept (reach .ref10mPresent) z z' :=
  .of (execRef10mPresent_within z z' h) rfl (by rfl) (by rfl)

theorem reach_ref10mAbsent (h : exec .ref10mAbsent z = .next z') :
    Kept (reach .ref10mAbsent) z z' :=
  .of (execRef10mAbsent_within z z' h) rfl (by rfl) (by rfl)

theorem reach_holdoverLimit (h : exec .holdoverLimit z = .next z') :
    Kept (reach .holdoverLimit) z z' :=
  .of (execHoldoverLimit_within z z' h) rfl (by rfl) (by rfl)

theorem reach_timeCopyReload (h : exec .timeCopyReload z = .next z') :
    Kept (reach .timeCopyReload) z z' :=
  .of (execTimeCopyReload_within z z' h) rfl (by rfl) (by rfl)

theorem reach_coreReferenceLost (h : exec .coreReferenceLost z = .next z') :
    Kept (reach .coreReferenceLost) z z' :=
  .of (execCoreReferenceLost_within z z' h) rfl (by rfl) (by rfl)

theorem reach_safeHoldExit (h : exec .safeHoldExit z = .next z') :
    Kept (reach .safeHoldExit) z z' :=
  .of (execSafeHoldExit_within z z' h) rfl (by rfl) (by rfl)

theorem reach_powerOn (h : exec .powerOn z = .next z') :
    Kept (reach .powerOn) z z' :=
  .ofAll (execPowerOn_within z z' h) (by rfl) rfl

theorem reach_railEnable (h : exec .railEnable z = .next z') :
    Kept (reach .railEnable) z z' :=
  .of (execRailEnable_within z z' h) rfl (by rfl) (by rfl)

theorem reach_sequenceRetry (h : exec .sequenceRetry z = .next z') :
    Kept (reach .sequenceRetry) z z' :=
  .of (execSequenceRetry_within z z' h) rfl (by rfl) (by rfl)

theorem reach_resetNAssert (h : exec .resetNAssert z = .next z') :
    Kept (reach .resetNAssert) z z' :=
  .ofAll (execResetNAssert_within z z' h) (by rfl) rfl

theorem reach_pwrOkLoss (h : exec .pwrOkLoss z = .next z') :
    Kept (reach .pwrOkLoss) z z' :=
  .ofAll (execPwrOkLoss_within z z' h) (by rfl) rfl

theorem reach_resetRelease (h : exec .resetRelease z = .next z') :
    Kept (reach .resetRelease) z z' :=
  .ofAll (execResetRelease_within z z' h) (by rfl) rfl

theorem reach_serviceEntry (h : exec .serviceEntry z = .next z') :
    Kept (reach .serviceEntry) z z' :=
  .of (execServiceEntry_within z z' h) rfl (by rfl) (by rfl)

theorem reach_watchdogExpiry (h : exec .watchdogExpiry z = .next z') :
    Kept (reach .watchdogExpiry) z z' :=
  .ofAll (execWatchdogExpiry_within z z' h) (by rfl) rfl

theorem reach_backgroundEraseDone (h : exec .backgroundEraseDone z = .next z') :
    Kept (reach .backgroundEraseDone) z z' :=
  .of (execBackgroundEraseDone_within z z' h) rfl (by rfl) (by rfl)

theorem reach_supplyWarnAssert (h : exec .supplyWarnAssert z = .next z') :
    Kept (reach .supplyWarnAssert) z z' :=
  .of (execSupplyWarnAssert_within z z' h) rfl (by rfl) (by rfl)

theorem reach_supplyWarnRelease (h : exec .supplyWarnRelease z = .next z') :
    Kept (reach .supplyWarnRelease) z z' :=
  .of (execSupplyWarnRelease_within z z' h) rfl (by rfl) (by rfl)

theorem reach_scrub (h : exec .scrub z = .next z') :
    Kept (reach .scrub) z z' :=
  .of (execScrub_within z z' h) rfl (by rfl) (by rfl)

theorem reach_recoveryTimeout (h : exec .recoveryTimeout z = .next z') :
    Kept (reach .recoveryTimeout) z z' :=
  .of (execRecoveryTimeout_within z z' h) rfl (by rfl) (by rfl)

theorem reach_logFlush (h : exec .logFlush z = .next z') :
    Kept (reach .logFlush) z z' :=
  .of (execLogFlush_within z z' h) rfl (by rfl) (by rfl)

theorem reach_availabilityUpdate (h : exec .availabilityUpdate z = .next z') :
    Kept (reach .availabilityUpdate) z z' :=
  .of (execAvailabilityUpdate_within z z' h) rfl (by rfl) (by rfl)

theorem reach_pairMessageSend (h : exec .pairMessageSend z = .next z') :
    Kept (reach .pairMessageSend) z z' :=
  .of (execPairMessageSend_within z z' h) rfl (by rfl) (by rfl)

theorem reach_partnerLost (h : exec .partnerLost z = .next z') :
    Kept (reach .partnerLost) z z' :=
  .of (execPartnerLost_within z z' h) rfl (by rfl) (by rfl)

theorem reach_vaux3v3Loss (h : exec .vaux3v3Loss z = .next z') :
    Kept (reach .vaux3v3Loss) z z' :=
  .ofAll (execVaux3v3Loss_within z z' h) (by rfl) rfl

theorem reach_powerSequenceRestart (h : exec .powerSequenceRestart z = .next z') :
    Kept (reach .powerSequenceRestart) z z' :=
  .of (execPowerSequenceRestart_within z z' h) rfl (by rfl) (by rfl)

end Sys2Proof.Machine
end

