-- ==== Sys2Proof/Machine/Package.lean ====
section
/-! DEFINITION. The ball map (R378): what the ball at a row and column of the package is. -/

namespace Sys2Proof.Machine

/-- A tile of four by four balls (Table 17-2): a lane tile has the two parts of its balls' names before and behind TX or RX. -/
inductive Tile where
  | clock (name : String)
  | lane (before behind : String)
  | lowSpeed (n : Nat)
  | power (rail : String)
  | ground
  | unpopulated
  deriving DecidableEq, Repr

/-- What a position holds: a signal or a rail by its name, VSS, or no ball. -/
inductive Ball where
  | signal (name : String)
  | rail (name : String)
  | vss
  | none
  deriving DecidableEq, Repr

/-- A number below 100 in digits, with a leading zero where `two`. -/
def digits (two : Bool) (n : Nat) : String :=
  let d := fun (k : Nat) => ["0", "1", "2", "3", "4", "5", "6", "7", "8", "9"].getD (k % 10) ""
  if two || 10 ≤ n then d (n / 10) ++ d n else d n

/-- Ring of a tile. -/
def tileRing (i j : Nat) : Nat := min (min i j) (min (18 - i) (18 - j))

/-- Index of a tile within its ring, clockwise from the top left. -/
def tileIndex (i j : Nat) : Nat :=
  let k := tileRing i j
  let n := 18 - 2 * k
  if i = k && j < 18 - k then j - k
  else if j = 18 - k && i < 18 - k then n + (i - k)
  else if i = 18 - k && k < j then 2 * n + (18 - k - j)
  else 3 * n + (18 - k - i)

/-- The function of a tile (Table 17-2). -/
def tileAt (k s : Nat) : Tile :=
  match k with
  | 0 =>
    let o := 2 * (s / 18) + s % 18 / 9
    let q := s % 9
    if q = 0 then .clock ("REFCLK_O" ++ digits false o) else .lane ("L" ++ digits true (8 * o + q - 1) ++ "_") ""
  | 1 =>
    if s < 16 then .lane "PA_" (digits false s)
    else if s < 32 then .lane "PB_" (digits false (s - 16))
    else if s = 32 then .clock "PA_REFCLK"
    else if s = 33 then .clock "PB_REFCLK"
    else if s < 36 then .lane ("M" ++ digits false (s - 34) ++ "_") ""
    else if s < 42 then .lowSpeed (s - 36)
    else if 48 ≤ s && s < 52 then .lane ("FZ" ++ digits false (s - 48) ++ "_") ""
    else .ground
  | 2 => .power (if s % 2 = 0 then "VDDA_LANE" else "VDDH_LANE")
  | 3 =>
    .power (if s < 16 then "VDD_PCIE" else if s < 26 then "VDD_HBM" else if s < 43 then "VDDQ_HBM" else if s < 45 then "VPP_HBM"
      else if s < 47 then "VDD_IO" else "VAUX_3V3")
  | 4 => .power "VDD_SRAM"
  | 8 => if s % 2 = 0 then .unpopulated else .power "VDD_CORE"
  | _ => .power "VDD_CORE"

/-- The balls of the low-speed tiles by slot (Table 17-4). -/
def lowSpeedBalls : List (List String) :=
  [ ["F0_CLK", "F0_CS_N", "F0_DQS", "F0_RESET_N", "F0_DQ0", "F0_DQ1", "F0_DQ2", "F0_DQ3"]
  , ["F0_DQ4", "F0_DQ5", "F0_DQ6", "F0_DQ7", "F1_CLK", "F1_CS_N", "F1_DQS", "F1_RESET_N"]
  , ["F1_DQ0", "F1_DQ1", "F1_DQ2", "F1_DQ3", "F1_DQ4", "F1_DQ5", "F1_DQ6", "F1_DQ7"]
  , ["PMBUS_CLK", "PMBUS_DATA", "PMBUS_ALERT_N", "TCK", "TMS", "TDI", "TDO", "TRST_N"]
  , ["PPS_IN", "PPS_OUT", "REF10M_IN", "RESET_N", "PWR_OK", "SUPPLY_WARN_N", "PA_PERST_N", "PB_PERST_N"]
  , ["PA_WAKE_N", "PB_WAKE_N", "VSENSE_CORE", "VSENSE_CORE_RTN", "TEST_EN", "TRIP_N", "NC", "NC"] ]

/-- The ball at a place of a tile (Table 17-3). -/
def ballIn (t : Tile) (a b : Nat) : Ball :=
  match t with
  | .lane x y =>
    if a = 0 && b = 1 then .signal (x ++ "TX" ++ y ++ "P")
    else if a = 0 && b = 2 then .signal (x ++ "TX" ++ y ++ "N")
    else if a = 2 && b = 1 then .signal (x ++ "RX" ++ y ++ "P")
    else if a = 2 && b = 2 then .signal (x ++ "RX" ++ y ++ "N")
    else .vss
  | .clock x =>
    if a = 1 && b = 1 then .signal (x ++ "_P") else if a = 1 && b = 2 then .signal (x ++ "_N") else .vss
  | .lowSpeed n => if (a + b) % 2 = 1 then .signal ((lowSpeedBalls.getD n []).getD (2 * a + b / 2) "") else .vss
  | .power r => if (a + b) % 2 = 0 then .rail r else .vss
  | .ground => .vss
  | .unpopulated => .none

/-- The ball at a row and column, 1 to 76 each (R377, R378). -/
def ballAt (row col : Nat) : Ball :=
  if row = 0 || 76 < row || col = 0 || 76 < col then .none
  else
    let i := (row - 1) / 4
    let j := (col - 1) / 4
    ballIn (tileAt (tileRing i j) (tileIndex i j)) ((row - 1) % 4) ((col - 1) % 4)

end Sys2Proof.Machine
end

