-- ==== Sys2Proof/WellFormed.lean ====
section
/-! DEFINITION. Well-formed commands: every operand fits the field the manual gives it. -/

namespace Sys2Proof

/-- A Dolux datagram: the frame is one that a port may take (R63). -/
def DoluxMsg.wf (m : DoluxMsg) : Bool := decide (14 ≤ m.frame.length) && decide (m.frame.length ≤ 16380)

/-- A dictionary path whose item number is one of at most 65,535 items. -/
def Via.wf : Via → Bool
  | .window _ item => decide (item < 65535)
  | .dolux m item => m.wf && decide (item < 65535)
  | .firmware _ => true
  | .leaseReq _ => true

/-- A debug request. -/
def DebugPath.wf : DebugPath → Bool
  | .jtag => true
  | .dictionary v => v.wf

/-- A PTP message: times of 48-bit seconds, sequence numbers, port identities and UTC offsets that fit. -/
def PtpMsg.wf : PtpMsg → Bool
  | .sync o => o.all fun t => decide (t < 2 ^ 96)
  | .followUp t => decide (t < 2 ^ 96)
  | .pdelayResp t => decide (t < 2 ^ 96)
  | .delayResp t => decide (t < 2 ^ 96)
  | .pdelayReq src seq => decide (src.length = 10) && decide (seq < 65536)
  | .delayReq src seq => decide (src.length = 10) && decide (seq < 65536)
  | .announce u => decide (-32768 ≤ u) && decide (u < 32768)
  | .other => true

/-- Counts of a reception that one frame can have. -/
def Coding.wf (c : Coding) : Bool :=
  decide (c.symbols < 2 ^ 32) && decide (c.corrected < 2 ^ 32) && decide (c.uncorrectable < 2 ^ 32)

/-- A link state: L0p keeps at most 16 lanes. -/
def LinkState.wf : LinkState → Bool
  | .l0 => true
  | .l0p n => decide (n ≤ 16)
  | .l1 => true
  | .l2 => true

/-- A memory unit that the device has (Table 16-1). -/
def MemUnit.wf : MemUnit → Bool
  | .packetData h _ => decide (h < 2 ^ 32)
  | .control => true
  | .ternaryRow r => decide (r < 65536)
  | .actionRow ix r => decide (ix < 65536) && decide (r < 4194304)
  | .meterRow r => decide (r < 65536)
  | .cacheEntry r => decide (r < 4194304)
  | .hbmTable _ => true
  | .hbmSpill h _ => decide (h < 2 ^ 32)
  | .coreSram _ => true
  | .imageSlot _ => true
  | .loopSram => true
  | .cipherLane _ => true
  | .frameUnit _ => true
  | .loopCore _ => true
  | .dmaSource _ => true

/-- An event record whose fields fit Table 16-2. -/
def Event.wf (e : Event) : Bool :=
  decide (e.time < 2 ^ 64) && decide (e.seq < 2 ^ 32) && decide (e.code < 65536) && decide (e.suppressed < 256)
    && decide (e.data.length ≤ 12)

/-- A pair message (R374). -/
def PairMsg.wf (m : PairMsg) : Bool :=
  decide (m.node < 65536) && decide (m.devState < 256) && decide (m.failed < 65536) && decide (m.committed < 2 ^ 32)
    && decide (m.firmware < 2 ^ 32) && m.records.all Event.wf

/-- Well-formed commands. -/
def Instr.wf : Instr → Bool
  | .read v ix sub => v.wf && decide (ix < 65536) && decide (sub < 256)
  | .write v ix sub data => v.wf && decide (ix < 65536) && decide (sub < 256) && decide (data.length ≤ 4096)
  | .domainRead v ix sub off max => v.wf && decide (ix < 65536) && decide (sub < 256) && decide (off < 2 ^ 32) && decide (max < 65536)
  | .domainWrite v ix sub off total data => v.wf && decide (ix < 65536) && decide (sub < 256) && decide (off < 2 ^ 32) && decide (total < 2 ^ 32) && decide (data.length ≤ 4096)
  | .identify m => m.wf
  | .doluxDatagramDropped m => m.wf
  | .freshKeyRecorded _ => true
  | .replayCounterWrite _ => true
  | .keyValidityEnded _ => true
  | .rowSelect v ix row => v.wf && decide (ix < 65536) && decide (row < 2 ^ 32)
  | .commit v ix => v.wf && decide (ix < 65536)
  | .clear v ix => v.wf && decide (ix < 65536)
  | .load v ix => v.wf && decide (ix < 65536)
  | .batchOpen v => v.wf
  | .batchClose v => v.wf
  | .batchDiscard v => v.wf
  | .batchTimeout master => decide (master < 65536)
  | .domainTransferTimeout ix sub => decide (ix < 65536) && decide (sub < 256)
  | .acquire v head ms => v.wf && decide (head < 65536) && decide (ms < 2 ^ 24)
  | .renew v head ms => v.wf && decide (head < 65536) && decide (ms < 2 ^ 24)
  | .release v head ms => v.wf && decide (head < 65536) && decide (ms < 2 ^ 24)
  | .take v head ms => v.wf && decide (head < 65536) && decide (ms < 2 ^ 24)
  | .leaseExpiry head => decide (head < 65536)
  | .fastPathWrite master off data => decide (master < 65536) && decide (off < 2 ^ 26) && decide (data.length ≤ 4096)
  | .registerWrite _ a data => decide (a.off < 2 ^ 26) && decide (data.length ≤ 4096)
  | .readClear _ a => decide (a.off < 2 ^ 26) && decide (a.n < 9)
  | .profileWrite v data => v.wf && decide (data.length ≤ 4096)
  | .laneModeWrite v _ data => v.wf && decide (data.length ≤ 4096)
  | .fecWrite v _ data => v.wf && decide (data.length ≤ 4096)
  | .polarityWrite v _ _ data => v.wf && decide (data.length ≤ 4096)
  | .lanesEnterDisabled _ => true
  | .managementModeWrite v _ data => v.wf && decide (data.length ≤ 4096)
  | .refclkLost _ => true
  | .refclkRestored _ => true
  | .pllLocked _ => true
  | .pllLockTimeout _ => true
  | .pllRetry _ => true
  | .signalDetected _ => true
  | .alignConditionLost _ => true
  | .laneUp _ => true
  | .laneFault _ _ => true
  | .portDownDiscard _ => true
  | .remoteFaultReceived _ => true
  | .remoteFaultCleared _ => true
  | .sgmiiControlWord _ rate => decide (rate < 65536)
  | .flexeOverheadMismatch _ group phy => decide (group < 2 ^ 20) && decide (phy < 256)
  | .calendarSwitchRequest v _ data => v.wf && decide (data.length ≤ 4096)
  | .calendarSwitched _ => true
  | .calendarSwitchTimeout _ => true
  | .maximumFrameWrite v _ data => v.wf && decide (data.length ≤ 4096)
  | .pauseHonouringWrite v _ data => v.wf && decide (data.length ≤ 4096)
  | .frameReceived _ frame coding => decide (frame.length ≤ 16384) && coding.wf
  | .pause _ quanta => decide (quanta < 65536)
  | .pauseTimerExpiry _ => true
  | .managementFrameReceived _ frame fcs => decide (frame.length ≤ 16380) && decide (fcs < 2 ^ 32)
  | .ingressSlotGrant _ => true
  | .recirculate _ => true
  | .alloc _ row _ => decide (row < 2 ^ 32)
  | .free _ handle => decide (handle < 2 ^ 32)
  | .poolModeSwitch _ => true
  | .baseMinimumWrite v row _ data => v.wf && decide (row < 2 ^ 32) && decide (data.length ≤ 4096)
  | .quotaWrite v row _ data => v.wf && decide (row < 2 ^ 32) && decide (data.length ≤ 4096)
  | .carveWrite v sub data => v.wf && decide (sub < 256) && decide (data.length ≤ 4096)
  | .spillFetch .. => true
  | .spillFetchComplete handle => decide (handle < 2 ^ 32)
  | .frameSelection _ => true
  | .pnMarkWritten sa => decide (sa < 131072)
  | .frameTransmitted _ => true
  | .headAgeDiscard row => decide (row < 2 ^ 32)
  | .quantumWrite v _ _ data => v.wf && decide (data.length ≤ 4096)
  | .shaperEnableWrite v _ _ data => v.wf && decide (data.length ≤ 4096)
  | .idleSlopeWrite v _ _ data => v.wf && decide (data.length ≤ 4096)
  | .gateControlWrite v _ data => v.wf && decide (data.length ≤ 4096)
  | .initialStatesWrite v _ data => v.wf && decide (data.length ≤ 4096)
  | .cancelPending v _ data => v.wf && decide (data.length ≤ 4096)
  | .gateListSwap _ => true
  | .gateEntryChange _ => true
  | .telemetrySample row => decide (row < 2 ^ 32)
  | .telemetryRingEnable _ _ => true
  | .vportDelivery .. => true
  | .admitStream v rec => v.wf && decide (rec.length ≤ 64)
  | .withdraw v rec => v.wf && decide (rec.length ≤ 64)
  | .check v rec => v.wf && decide (rec.length ≤ 64)
  | .modify v rec => v.wf && decide (rec.length ≤ 64)
  | .frerRecoveryReset _ => true
  | .releaseDecrypted _ => true
  | .cipherPageDoorbell _ _ => true
  | .cipherPageEnable _ _ => true
  | .cipherPageDisable _ _ => true
  | .gcmEncrypt _ job _ _ => decide (job < 65536)
  | .gcmDecrypt _ job _ _ => decide (job < 65536)
  | .gmacGenerate _ job _ _ => decide (job < 65536)
  | .gmacVerify _ job _ _ => decide (job < 65536)
  | .ctr _ job _ _ => decide (job < 65536)
  | .xtsEncrypt _ job _ _ => decide (job < 65536)
  | .xtsDecrypt _ job _ _ => decide (job < 65536)
  | .cmacGenerate _ job _ _ => decide (job < 65536)
  | .cmacVerify _ job _ _ => decide (job < 65536)
  | .wrap _ job _ => decide (job < 65536)
  | .unwrap _ job _ _ => decide (job < 65536)
  | .derive _ job _ _ => decide (job < 65536)
  | .random _ job _ => decide (job < 65536)
  | .laneStall _ => true
  | .laneStallEnd _ => true
  | .maskRefresh _ => true
  | .maskKeyExpiry _ => true
  | .drbgReseed _ => true
  | .entropyTestFailure _ => true
  | .engineRestart v data _ => v.wf && decide (data.length ≤ 4096)
  | .storageQueueEnable _ _ => true
  | .storageDoorbell _ _ => true
  | .connAdd .. => true
  | .connDel .. => true
  | .cmdRead .. => true
  | .cmdWrite .. => true
  | .cmdRetire .. => true
  | .resync .. => true
  | .storageSegment _ vq _ _ => decide (vq < 524288)
  | .quarantineEnd conn cid => decide (conn < 65536) && decide (cid < 65536)
  | .hostPortDisable v _ => v.wf
  | .hostPortEnable v _ => v.wf
  | .hostLinkUp _ width rate => decide (width < 17) && decide (rate < 7)
  | .linkStateChange _ st => st.wf
  | .tenantEnableWrite v _ data => v.wf && decide (data.length ≤ 4096)
  | .tenantHostPortWrite v _ data => v.wf && decide (data.length ≤ 4096)
  | .uplinkWrite v _ _ data => v.wf && decide (data.length ≤ 4096)
  | .vfEnable _ numVFs => decide (numVFs < 65536)
  | .completionReceived _ tag _ data => decide (tag < 16384) && decide (data.length ≤ 16777216)
  | .completionTimeout _ tag => decide (tag < 16384)
  | .tagQuarantineEnd _ tag => decide (tag < 16384)
  | .busMasterEnableClear _ => true
  | .flr _ => true
  | .flrComplete _ => true
  | .dStateChange _ _ => true
  | .hostFaceReset _ _ => true
  | .perstDeassert _ => true
  | .ringEnable _ _ _ _ => true
  | .ringDisable _ _ _ _ => true
  | .ringDoorbell _ _ _ _ => true
  | .hostFrameRead .. => true
  | .inlinePush _ off data => decide (off < 2 ^ 26) && decide (data.length ≤ 16777216)
  | .ringModTimer _ _ _ => true
  | .bindingLock v data => v.wf && decide (data.length ≤ 4096)
  | .sendCommit _ _ _ => true
  | .receiveLatch _ _ => true
  | .pop _ _ _ => true
  | .flush _ _ _ => true
  | .sourceAssert _ => true
  | .levelWithdrawn _ => true
  | .claim _ => true
  | .complete _ id => decide (id < 4096)
  | .setPending _ id => decide (id < 4096)
  | .interruptEntry _ => true
  | .interruptExit _ => true
  | .fork _ entry arg _ => decide (entry < 2 ^ 32) && decide (arg < 2 ^ 64)
  | .join _ child deadline => decide (child < 65536) && decide (deadline < 2 ^ 64)
  | .exit _ _ => true
  | .wait _ _ deadline => decide (deadline < 2 ^ 64)
  | .signal _ target _ => decide (target < 65536)
  | .waitDeadline _ => true
  | .accessStall _ => true
  | .accessComplete _ => true
  | .threadFault _ cause => decide (cause < 256)
  | .threadRestart _ => true
  | .threadRelease _ => true
  | .threadStop _ => true
  | .threadResume _ => true
  | .threadKill _ => true
  | .executorRestart _ => true
  | .unload v _ data => v.wf && decide (data.length ≤ 4096)
  | .cellModeWrite v _ data => v.wf && decide (data.length ≤ 4096)
  | .cellRelease _ => true
  | .cellRun _ => true
  | .copy master _ _ => decide (master < 65536)
  | .fill master _ => decide (master < 65536)
  | .compare master _ _ _ => decide (master < 65536)
  | .dmaAbort master _ => decide (master < 65536)
  | .dmaDone _ => true
  | .stationChannelsWrite v data => v.wf && decide (data.length ≤ 4096)
  | .ptpMessage _ m => m.wf
  | .ptpPortStateChange _ _ => true
  | .ptpSyncTransmit _ => true
  | .nextPpsSecondsWrite v data => v.wf && decide (data.length ≤ 4096)
  | .temperatureSample readings => decide (readings.length = 28)
  | .thermalTrip _ => true
  | .sequenceFailure rail status => decide (rail < 9) && decide (status < 65536)
  | .warmResetRequest v data => v.wf && decide (data.length ≤ 4096)
  | .hardResetRequest v data => v.wf && decide (data.length ≤ 4096)
  | .deviceReset cause => decide (cause < 256)
  | .watchdogWrite _ => true
  | .avsStep lowest _ => decide (lowest < 65536)
  | .pmbusAlert words => decide (words.length = 9)
  | .configurationCommit v data => v.wf && decide (data.length ≤ 4096)
  | .commitEnd c => c.all fun x => decide (x < 256)
  | .program v => v.wf
  | .activate v => v.wf
  | .programAndActivate v => v.wf
  | .switch v => v.wf
  | .discard v => v.wf
  | .firmwareProgramStep c => c.all fun x => decide (x < 256)
  | .switchCoreDone _ => true
  | .debugUnlock d token => d.wf && decide (token.length ≤ 128)
  | .correctableError _ => true
  | .uncorrectableError u => u.wf
  | .ternaryRowRewrite row => decide (row < 2 ^ 32)
  | .entryReload u => u.wf
  | .frameUnitFault _ => true
  | .failoverComplete _ => true
  | .cipherLaneFault _ => true
  | .cipherLaneRestartComplete _ => true
  | .loopCoreFault _ => true
  | .loopCoreFailoverComplete _ => true
  | .fabricLinkRepair _ lost => decide (lost < 2 ^ 32)
  | .fabricLinkRetrained _ _ => true
  | .hbmStackFailure _ => true
  | .fozonLinkChange st width => decide (st < 3) && decide (width < 17)
  | .pairMessage m => m.wf
  | .transmitStart _ => true
  | .oneCycleAfterStep _ => true
  | .pdelayRequestTransmit _ => true
  | .tableVersionEffective => true
  | .admissionComplete => true
  | .quiescentStall => true
  | .supervisorSilent => true
  | .supervisorTakeover => true
  | .imageBackup => true
  | .ppsEdge => true
  | .ppsMissing => true
  | .ppsOut => true
  | .ref10mPresent => true
  | .ref10mAbsent => true
  | .holdoverLimit => true
  | .timeCopyReload => true
  | .coreReferenceLost => true
  | .safeHoldExit => true
  | .powerOn => true
  | .railEnable => true
  | .sequenceRetry => true
  | .resetNAssert => true
  | .pwrOkLoss => true
  | .resetRelease => true
  | .serviceEntry => true
  | .watchdogExpiry => true
  | .backgroundEraseDone => true
  | .supplyWarnAssert => true
  | .supplyWarnRelease => true
  | .scrub => true
  | .recoveryTimeout => true
  | .logFlush => true
  | .availabilityUpdate => true
  | .pairMessageSend => true
  | .partnerLost => true
  | .vaux3v3Loss => true
  | .powerSequenceRestart => true

end Sys2Proof
end

