-- ==== Sys2Proof/Tests/Slice0.lean ====
section
/-! SUPPORT. Small tests: the well-formedness checks, witnesses for the hypotheses of the statements, single steps. -/

namespace Sys2Proof.Tests

open Sys2Proof Sys2Proof.Machine

set_option Elab.async false

/-! ### States -/

/-- A state in SERVICE in which C00.T00 holds the device lease. -/
def served : State :=
  let s := (State.reset.setOb 0x1300 4 1).setCells 0x1303 0 [(0xF0, 0x2000), (0xF1, 2 ^ 62)]
  { s with pwr := { s.pwr with inReset := false } }

/-- Firmware on C00.T00. -/
def fw : Via := .firmware 0

/-- The object of an index. -/
def obj (ix : Nat) : Obj := (objectAt ix).getD { entries := [] }

/-- An entry of an object. -/
def ent (ix sub : Nat) : Entry := ((obj ix).entry sub).getD ⟨sub, sub, .u 1, .rT, 0, false, []⟩

/-- The state in which the body of a write of an object's row runs. -/
def lapsed (s : State) (ix row : Nat) : State := s.lapses (s.domain ix row)

/-- An item of firmware runs in every state that is out of reset and not in FAULT. -/
theorem item_runs (s : State) (q : ReqItem) (h : (s.pwr.inReset || s.devState = 4) = false) : ItemRuns s fw q s := by
  refine ⟨rfl, ?_, rfl⟩
  simp only [State.begin, fw, h]; rfl

/-- A write by firmware runs where it passes the checks of Table 2-9 up to TYPE. -/
theorem write_runs (s : State) (ix row sub : Nat) (data : Bytes) (h : (s.pwr.inReset || s.devState = 4) = false)
    (hc : (lapsed s ix row).writeCheck fw ix row sub data.length = stOk) : WriteRuns s fw ix row sub data (lapsed s ix row) :=
  ⟨s, item_runs s _ h, rfl, hc⟩

/-! ### Witnesses: steps, reads, domains -/

/-- StepRunsFront, QueueIsFirstInFirstOut, CanonicalKept, ReachKept. -/
def queued : State := { served with pending := [.scrub, .powerOn] }

theorem wit_StepRunsFront : queued.pending = .scrub :: [.powerOn] := rfl

theorem wit_QueueIsFirstInFirstOut : queued.pending = .scrub :: [.powerOn] ∧ ∃ t, step queued = .next t := ⟨rfl, _, rfl⟩

theorem wit_CanonicalKept : queued.canonical = true ∧ ∃ t, step queued = .next t := ⟨by decide +kernel, _, rfl⟩

theorem wit_ReachKept : (∃ t, exec .scrub served = .next t) ∧ (reach .scrub).parts.contains .net = false
    ∧ (reach .scrub).onPage (0x1300 / 256) = false := ⟨⟨_, rfl⟩, by decide +kernel⟩

theorem wit_IdleStepPassesACycle : served.pending = [] ∧ served.net.pool = [] ∧ served.net.answers = [] ∧ served.cip.passes = []
    ∧ served.cip.jobs = [] ∧ served.cip.work = [] ∧ served.dma.ops = [] := by decide +kernel

/-- A plain field, a drawn field, a WINDOW's selector. -/
theorem wit_ReadAnswersPresentValue :
    (objectAt 0x1300 = some (obj 0x1300) ∧ ItemRuns served fw (readReq 0x1300 4) served ∧ served.room fw = some (2 ^ 24)
      ∧ (obj 0x1300).entry 4 = some (ent 0x1300 4) ∧ (ent 0x1300 4).acc.reads (served.principal fw) = true
      ∧ ownTenant (served.principal fw) 0x1300 = true ∧ (ent 0x1300 4).ty ≠ .domain ∧ (ent 0x1300 4).ty.len ≤ 2 ^ 24
      ∧ (obj 0x1300).rows = none ∧ drawnField 0x1300 4 = false)
    ∧ (objectAt 0xB000 = some (obj 0xB000) ∧ ItemRuns served fw (readReq 0xB000 1) served
      ∧ (obj 0xB000).entry 1 = some (ent 0xB000 1) ∧ (ent 0xB000 1).acc.reads (served.principal fw) = true
      ∧ ownTenant (served.principal fw) 0xB000 = true ∧ (ent 0xB000 1).ty ≠ .domain ∧ (ent 0xB000 1).ty.len ≤ 2 ^ 24
      ∧ (obj 0xB000).rows = none ∧ drawnField 0xB000 1 = true)
    ∧ (objectAt 0x5010 = some (obj 0x5010) ∧ ItemRuns served fw (readReq 0x5010 1) served
      ∧ (obj 0x5010).entry 1 = some (ent 0x5010 1) ∧ (ent 0x5010 1).acc.reads (served.principal fw) = true
      ∧ ownTenant (served.principal fw) 0x5010 = true ∧ (ent 0x5010 1).ty ≠ .domain ∧ (ent 0x5010 1).ty.len ≤ 2 ^ 24
      ∧ (obj 0x5010).rows.isSome = true) :=
  ⟨⟨by decide +kernel, item_runs _ _ (by decide +kernel), by decide +kernel⟩,
    ⟨by decide +kernel, item_runs _ _ (by decide +kernel), by decide +kernel⟩,
    by decide +kernel, item_runs _ _ (by decide +kernel), by decide +kernel⟩

/-- Subindex 0, and the last subindex, which 0x1300 has not. -/
theorem wit_SubindexZeroIsTheHighest :
    (objectAt 0x1300 = some (obj 0x1300) ∧ ItemRuns served fw (readReq 0x1300 0) served ∧ served.room fw = some (2 ^ 24)
      ∧ ownTenant (served.principal fw) 0x1300 = true)
    ∧ ItemRuns served fw (readReq 0x1300 255) served ∧ (obj 0x1300).entry 255 = none :=
  ⟨⟨by decide +kernel, item_runs _ _ (by decide +kernel), by decide +kernel⟩, item_runs _ _ (by decide +kernel), by decide +kernel⟩

/-- The end of an empty DOMAIN, and one byte behind it. -/
theorem wit_DomainReadAnswersBytes :
    (objectAt 0x3400 = some (obj 0x3400) ∧ (obj 0x3400).entry 3 = some (ent 0x3400 3) ∧ (ent 0x3400 3).ty = .domain
      ∧ ItemRuns served fw (domainReadReq 0x3400 3 0 16) served ∧ served.room fw = some (2 ^ 24)
      ∧ (ent 0x3400 3).acc.reads (served.principal fw) = true ∧ ownTenant (served.principal fw) 0x3400 = true
      ∧ 0 ≤ (served.domainBytes 0x3400 3).length)
    ∧ ItemRuns served fw (domainReadReq 0x3400 3 1 16) served ∧ (served.domainBytes 0x3400 3).length < 1 :=
  ⟨⟨by decide +kernel, by decide +kernel, by decide +kernel, item_runs _ _ (by decide +kernel), by decide +kernel⟩,
    item_runs _ _ (by decide +kernel), by decide +kernel⟩

/-- A transfer of C00.T00 that holds one of three bytes. -/
def sending : State := { served with acc := { served.acc with transfers := [⟨0x3400, 3, 0x2000, 3, [7], 0⟩] } }

/-- The first segment; the segment behind it, one byte short of the total. -/
theorem wit_DomainSegmentKept :
    (objectAt 0x3400 = some (obj 0x3400) ∧ (obj 0x3400).entry 3 = some (ent 0x3400 3)
      ∧ ItemRuns served fw (domainWriteReq 0x3400 3 0 2 [7]) served
      ∧ (lapsed served 0x3400 0).domainAccess fw 0x3400 3 (obj 0x3400) (ent 0x3400 3) = stOk
      ∧ (lapsed served 0x3400 0).transfer 0x3400 3 = none)
    ∧ ItemRuns sending fw (domainWriteReq 0x3400 3 1 3 [8]) sending
      ∧ (lapsed sending 0x3400 0).domainAccess fw 0x3400 3 (obj 0x3400) (ent 0x3400 3) = stOk
      ∧ (lapsed sending 0x3400 0).transfer 0x3400 3 = some ⟨0x3400, 3, masterOf fw, 3, [7], 0⟩ ∧ 1 + 1 < 3 :=
  ⟨⟨by decide +kernel, by decide +kernel, item_runs _ _ (by decide +kernel), by decide +kernel⟩,
    item_runs _ _ (by decide +kernel), by decide +kernel⟩

/-- A transfer and a batch from time 0, at one second. -/
def late : State :=
  { sending with
    clk := { sending.clk with frcQ := 4000000000 }, acc := { sending.acc with batches := [{ master := 0x2000, opened := 0 }] } }

theorem wit_TransfersAndBatchesTimeOut :
    (late.transfer 0x3400 3 = some ⟨0x3400, 3, 0x2000, 3, [7], 0⟩ ∧ 0 + 1000000000 ≤ late.now)
    ∧ late.batch 0x2000 = some { master := 0x2000, opened := 0 } := by decide +kernel

/-- Row 5 of 0x3800 selected. -/
def selected : State := served.setWindow { master := 0x2000, index := 0x3800, selected := some 5 }

theorem wit_RowSelectLoadsStaging :
    (objectAt 0x3800 = some (obj 0x3800) ∧ (obj 0x3800).rows = some 65536 ∧ (obj 0x3800).head = false ∧ served.devState ≠ 0
      ∧ served.inHold = false ∧ (∀ e ∈ (obj 0x3800).fields, drawnField 0x3800 e.1 = false))
    ∧ (ItemRuns served fw (writeReq 0x3800 1 (toBE 4 65535)) served ∧ 65535 < served.rowCount 0x3800 (obj 0x3800)
      ∧ served.rowOpen (served.principal fw) 0x3800 65535 = true)
    ∧ ItemRuns selected fw (writeReq 0x3800 3 (toBE 1 3)) selected ∧ (selected.window (masterOf fw) 0x3800).selected = some 5
      ∧ selected.actionAccess fw 0x3800 (obj 0x3800) (selected.window (masterOf fw) 0x3800) 3 = true :=
  ⟨by decide +kernel, ⟨item_runs _ _ (by decide +kernel), by decide +kernel⟩, item_runs _ _ (by decide +kernel), by decide +kernel⟩

/-! ### Witnesses: rows, batches, writes, leases, Dolux messages, registers -/

/-- A row action by firmware on its selected row runs where its access, lease and state checks pass. -/
theorem row_acts (s : State) (ix row code : Nat) (h : (s.pwr.inReset || s.devState = 4) = false)
    (hr : objectAt ix = some (obj ix) ∧ (obj ix).rows.isSome = true ∧ (s.window (masterOf fw) ix).selected = some row
      ∧ (lapsed s ix row).actionAccess fw ix (obj ix) (s.window (masterOf fw) ix) code = true
      ∧ (lapsed s ix row).leased fw ((lapsed s ix row).domain ix row) = true ∧ (lapsed s ix row).startState = stOk)
    (hd : s.domain ix row = (lapsed s ix row).domain ix row) : RowActs s fw ix row (obj ix) code (lapsed s ix row) :=
  ⟨s, item_runs s _ h, hr.1, hr.2.1, hr.2.2.1, rfl, hr.2.2.2.1, hd ▸ hr.2.2.2.2.1, hr.2.2.2.2.2⟩

/-- Row 5 of the tag table 0x5200 selected, with nothing staged. -/
def chosen : State := served.setWindow { master := 0x2000, index := 0x5200, selected := some 5 }

theorem wit_CommitAndClearLandOneVersion :
    (versioned 0x5200 = true ∧ (lapsed chosen 0x5200 5).batch (masterOf fw) = none)
    ∧ (RowActs chosen fw 0x5200 5 (obj 0x5200) 1 (lapsed chosen 0x5200 5)
      ∧ (lapsed chosen 0x5200 5).checkChange (obj 0x5200)
          ((lapsed chosen 0x5200 5).commitChange ((lapsed chosen 0x5200 5).window (masterOf fw) 0x5200) 5 (obj 0x5200)) .none = stOk)
    ∧ RowActs chosen fw 0x5200 5 (obj 0x5200) 2 (lapsed chosen 0x5200 5)
      ∧ (lapsed chosen 0x5200 5).checkChange (obj 0x5200) ((lapsed chosen 0x5200 5).clearChange 0x5200 5 (obj 0x5200)) .none = stOk :=
  ⟨by decide +kernel, ⟨row_acts _ _ _ _ (by decide +kernel) (by decide +kernel) (by decide +kernel), by decide +kernel⟩,
    row_acts _ _ _ _ (by decide +kernel) (by decide +kernel) (by decide +kernel), by decide +kernel⟩

/-- A batch of C00.T00 that holds a clear of row 5 of 0x5200. -/
def batched : State := served.setBatch 0x2000 (some { master := 0x2000, opened := 0, held := [served.clearChange 0x5200 5 (obj 0x5200)] })

theorem wit_BatchesOpenCloseDiscard :
    (Acc.wT.writes (served.principal fw) = true ∧ served.startState = stOk ∧ ItemRuns served fw (writeReq 0x5000 0x10 (toBE 1 1)) served
      ∧ served.batch (masterOf fw) = none)
    ∧ (Acc.wT.writes (batched.principal fw) = true ∧ batched.startState = stOk
      ∧ ItemRuns batched fw (writeReq 0x5000 0x10 (toBE 1 3)) batched ∧ (batched.batch (masterOf fw)).isSome = true)
    ∧ ItemRuns batched fw (writeReq 0x5000 0x10 (toBE 1 2)) batched
      ∧ ((batched.batch (masterOf fw)).map (·.held)).getD [] ≠ []
      ∧ (batched.setBatch (masterOf fw) none).conflicts (batched.setBatch (masterOf fw) none)
          (((batched.batch (masterOf fw)).map (·.held)).getD []) = false :=
  ⟨⟨by decide +kernel, by decide +kernel, item_runs _ _ (by decide +kernel), by decide +kernel⟩,
    ⟨by decide +kernel, by decide +kernel, item_runs _ _ (by decide +kernel), by decide +kernel⟩,
    item_runs _ _ (by decide +kernel), by decide +kernel⟩

/-- A landed version that an item of firmware waits for. -/
def landed : State := { served with acc := { served.acc with versions := [⟨[], some fw, 0x5200, 3⟩] } }

theorem wit_TableVersionTakesEffect : landed.acc.versions = ⟨[], some fw, 0x5200, 3⟩ :: [] ∧ Awaits landed fw := ⟨rfl, trivial⟩

/-- The five plain fields. -/
theorem wit_PlainWriteStores :
    (WriteRuns served fw 0x1010 0 1 [0xFF, 0xFE] (lapsed served 0x1010 0) ∧ (lapsed served 0x1010 0).startState = stOk
      ∧ rangeOk 0x1010 1 (ofBE [0xFF, 0xFE]) = true)
    ∧ (WriteRuns served fw (laneIx 63) 0 7 [0, 0] (lapsed served (laneIx 63) 0) ∧ (lapsed served (laneIx 63) 0).startState = stOk
      ∧ rangeOk (laneIx 63) 7 (ofBE [0, 0]) = true)
    ∧ (WriteRuns served fw (laneIx 63) 0 0x20 [0, 0, 0, 1] (lapsed served (laneIx 63) 0) ∧ rangeOk (laneIx 63) 0x20 (ofBE [0, 0, 0, 1]) = true)
    ∧ (WriteRuns served fw (laneIx 63) 0 0x21 [1] (lapsed served (laneIx 63) 0) ∧ rangeOk (laneIx 63) 0x21 (ofBE [1]) = true)
    ∧ WriteRuns served fw (hostIx 1) 0 5 [1] (lapsed served (hostIx 1) 0) ∧ (lapsed served (hostIx 1) 0).startState = stOk
      ∧ rangeOk (hostIx 1) 5 (ofBE [1]) = true :=
  ⟨⟨write_runs _ _ _ _ _ (by decide +kernel) (by decide +kernel), by decide +kernel⟩,
    ⟨write_runs _ _ _ _ _ (by decide +kernel) (by decide +kernel), by decide +kernel⟩,
    ⟨write_runs _ _ _ _ _ (by decide +kernel) (by decide +kernel), by decide +kernel⟩,
    ⟨write_runs _ _ _ _ _ (by decide +kernel) (by decide +kernel), by decide +kernel⟩,
    write_runs _ _ _ _ _ (by decide +kernel) (by decide +kernel), by decide +kernel⟩

/-- C00.T00 also holds port 7, for one second. -/
def leasing : State := served.setCells 0x2007 0 [(0xF0, 0x2000), (0xF1, 1000000000)]

/-- The last nanosecond before that lease lapses, and the moment it does. -/
def leaseEnd : State := { leasing with clk := { leasing.clk with frcQ := 4000000000 } }

/-- The shortest and the longest lease. -/
theorem wit_LeasesAreTakenAndEnd :
    (objectAt 0x2007 = some (obj 0x2007) ∧ (obj 0x2007).head = true ∧ (served.lapses 0x2007).mayLease fw 0x2007 = true
      ∧ ownTenant ((served.lapses 0x2007).principal fw) 0x2007 = true ∧ (served.lapses 0x2007).devState ≠ 0 ∧ masterOf fw ≠ 0)
    ∧ (100 ≤ 100 ∧ 100 ≤ 3600000 ∧ ItemRuns served fw (writeReq 0x2007 0xF2 (toBE 4 (1 * 2 ^ 28 + 100))) served
      ∧ (served.lapses 0x2007).explicitHolder 0x2007 = 0)
    ∧ (ItemRuns leasing fw (writeReq 0x2007 0xF2 (toBE 4 (2 * 2 ^ 28 + 3600000))) leasing ∧ (leasing.lapses 0x2007).mayLease fw 0x2007 = true
      ∧ (leasing.lapses 0x2007).explicitHolder 0x2007 = masterOf fw)
    ∧ (ItemRuns leasing fw (writeReq 0x2007 0xF2 (toBE 4 (4 * 2 ^ 28 + 100))) leasing ∧ (leasing.lapses 0x2007).mayTake fw 0x2007 = true)
    ∧ ItemRuns leasing fw (writeReq 0x2007 0xF2 (toBE 4 (3 * 2 ^ 28 + 0))) leasing
    ∧ leaseEnd.explicitHolder 0x2007 ≠ 0 ∧ leaseEnd.ob 0x2007 0xF1 ≤ leaseEnd.now :=
  ⟨by decide +kernel, ⟨by decide +kernel, by decide +kernel, item_runs _ _ (by decide +kernel), by decide +kernel⟩,
    ⟨item_runs _ _ (by decide +kernel), by decide +kernel⟩, ⟨item_runs _ _ (by decide +kernel), by decide +kernel⟩,
    item_runs _ _ (by decide +kernel), by decide +kernel⟩

/-- An IDENTIFY under key 7 at M0, from node 99 with counter 5, as a frame with its tag. -/
def asking (op : Nat) (tag : Bytes → Bytes) : DoluxMsg :=
  let b := [1] ++ toBE 1 op ++ toBE 2 (Config.serial.toNat % 65536) ++ toBE 2 99 ++ toBE 4 1 ++ toBE 2 0 ++ [0, 7] ++ toBE 2 0 ++ toBE 8 5
  let b := b ++ tag b
  let u := toBE 2 4000 ++ toBE 2 40510 ++ toBE 2 (8 + b.length) ++ [0, 0] ++ b
  let ip := [0x45, 0] ++ toBE 2 (20 + u.length) ++ [0, 0, 0, 0, 64, 17, 0, 0, 10, 0, 0, 2, 10, 0, 0, 1] ++ u
  { place := .mgmt .m0, frame := [2, 0, 0, 0, 0, 1, 2, 0, 0, 0, 0, 2, 8, 0] ++ ip }

/-- The message with its own tag, with another tag, and with another opcode. -/
def asked : DoluxMsg := asking 5 (cmac (toBE 32 77))
def forged : DoluxMsg := asking 5 fun b => (cmac (toBE 32 77) b).map (· + 1)
def malformed : DoluxMsg := asking 6 fun _ => zeros 16

/-- M0 is UP with address 10.0.0.1, and key 7 is valid and recorded as in use. -/
def addressed : State :=
  let s := ((served.setOb 0x1101 3 0x0A000001).setOb 0x1120 2 4).setCells 0x1110 7 [(4, 1), (5, 1), (7, 77)]
  { s with pwr := { s.pwr with replay := [(7, (0, 0, true))] } }

/-- A message names its node by the two low bytes of the node's number. -/
theorem wit_dest (n : Nat) (h : n < 65536) : ofBE (toBE 2 n) = n := by
  simp [ofBE, toBE, toLE]; omega

/-- A byte string that is not empty differs from itself with one added to each byte. -/
theorem wit_other (b : Bytes) (h : b ≠ []) : b ≠ b.map (· + 1) := by
  cases b with
  | nil => exact absurd rfl h
  | cons x b =>
    intro e
    have := (List.cons.inj e).1
    exact absurd this (by bv_omega)

theorem wit_DoluxMessagesAreIdentifiedAndCounted :
    (msgKey asked = 7 ∧ addressed.pwr.inReset = false ∧ addressed.devState ≠ 4 ∧ addressed.isDolux (msgLayer asked) = true
      ∧ addressed.placeUp asked.place = true ∧ msgMalformed asked = false ∧ addressed.underRate.isSome = true
      ∧ addressed.cell 0x1110 7 4 ≠ 0 ∧ addressed.session 7 = none
      ∧ (addressed.acc.doluxWait.any fun w => msgKey w.1 == 7) = false ∧ msgOpcode asked = 5
      ∧ addressed.counterNew 7 (msgCounter asked) = true ∧ addressed.keyFresh 7 = false ∧ addressed.keyEnded 7 = false)
    ∧ (msgKey forged = 7 ∧ addressed.isDolux (msgLayer forged) = true ∧ addressed.placeUp forged.place = true
      ∧ msgMalformed forged = false ∧ msgOpcode forged = 5)
    ∧ addressed.isDolux (msgLayer malformed) = true ∧ addressed.placeUp malformed.place = true ∧ msgMalformed malformed = true := by
  decide +kernel

theorem wit_DoluxMessagesGoToTheNode : msgDest asked = addressed.ob 0x1010 1 ∧ msgDest forged = addressed.ob 0x1010 1 :=
  have h : addressed.ob 0x1010 1 = Config.serial.toNat % 65536 := rfl
  have e := wit_dest (Config.serial.toNat % 65536) (by omega)
  ⟨h ▸ e, h ▸ e⟩

/-- A tag is not empty. -/
theorem wit_tag (k : Key) (m : Bytes) : cmac k m ≠ [] := by simp [cmac, toBE, toLE]

theorem wit_key : addressed.cell 0x1110 7 7 = 77 := by decide +kernel

seal aes cmacDouble in
set_option maxRecDepth 100000 in
theorem wit_askedTag : msgTag asked = cmac (toBE 32 77) (msgCovered asked) := by rfl

seal aes cmacDouble in
set_option maxRecDepth 100000 in
theorem wit_forgedTag : msgTag forged = (cmac (toBE 32 77) (msgCovered forged)).map (· + 1) := by rfl

/-- The tag of the one message is right, that of the other is wrong. -/
theorem wit_DoluxTags :
    cmac (toBE 32 (addressed.cell 0x1110 7 7)) (msgCovered asked) = msgTag asked
    ∧ cmac (toBE 32 (addressed.cell 0x1110 7 7)) (msgCovered forged) ≠ msgTag forged := by
  rw [wit_key, wit_askedTag, wit_forgedTag]
  exact ⟨rfl, wit_other _ (wit_tag _ _)⟩

/-- Key 3 holds a message until flash 1 records it; key 4 has accepted 65,536 messages; key 5 ends now. -/
def keys : State :=
  let s := (served.setSession 3 (some { held := true })).setKey 4 { accepted := 65536 }
  (s.setCells 0x1110 5 [(4, 1), (8, 1)]).withClk fun c => { c with tai := 65536 }

theorem wit_KeysAreRecordedAndEnd :
    (keys.session 3 = some { held := true } ∧ ({ held := true } : Session).held = true) ∧ 65536 ≤ (keys.key 4).accepted
    ∧ keys.canonical = true ∧ keys.cell 0x1110 5 4 = 1 ∧ keys.keyEnded 5 = true := by decide +kernel


/-- Tenant 1 has a function at Port A; `locked` has its first storage queue and its transmit ring 63 enabled. -/
def hosted : State := served.setCells 0x8001 0 [(3, 1), (4, 1)]
def locked : State := (hosted.setReg 0x1001 (sq 0x28) 1).setReg 0x1001 (0x1FC0 + 0x24) 1

/-- The PF0 of Port A holds the station lease, that of Port B does not. -/
def leasedA : State := served.setCell 0x1303 0 0xF0 1

theorem wit_RegistersAreWrittenAndCleared :
    (hosted.regTarget (.vf 1) 0x1FC0 = some (0x1001, 0x1FC0) ∧ (regAt 0x1001 0x1FC0).isSome = true ∧ plainReg 0x1001 0x1FC0 = true
      ∧ hosted.setupLocked 0x1001 0x1FC0 = false ∧ locked.regTarget (.vf 1) 0x1FC0 = some (0x1001, 0x1FC0)
      ∧ locked.setupLocked 0x1001 0x1FC0 = true ∧ locked.setupLocked 0x1001 (sq 0) = true
      ∧ ([1, 2, 3] : Bytes).length ≠ 4 ∧ ([1, 2, 3] : Bytes).length ≠ 8)
    ∧ (∃ r, channelOffset 0x14007D4 = some 0x7D4 ∧ 0x14007D4 % 4 = 0 ∧ 0x7D4 % 64 ≤ 0x14 ∧ regAt 0 0x7D4 = some r)
    ∧ (leasedA.devState ≠ 0 ∧ leasedA.devState ≠ 4 ∧ (leasedA.func 1).inFlr = false ∧ leasedA.stationCh 31 = true
      ∧ (leasedA.lapse 0x1303).slotHolder (0x402 + 4) 0x1303 = 1 ∧ leasedA.dmaBusy 31 = false
      ∧ (leasedA.func 2).inFlr = false ∧ (leasedA.lapse 0x1303).slotHolder (0x402 + 8) 0x1303 ≠ 2)
    ∧ (∃ r, locked.regTarget (.vf 1) (sq 0x34) = some (0x1001, sq 0x34) ∧ regAt 0x1001 (sq 0x34) = some r ∧ r.rc ≠ 0
      ∧ within 0x4000 0x5FFF (sq 0x34) = false)
    ∧ (served.setCells (hostIx 0) 0 [(0x10, 1)]).configLive (hpNo .a) = true
      ∧ (served.setCells (hostIx 0) 0 [(0x10, 1)]).reg (configOwner (portMaster .a)) 0 = 0x10241D0C :=
  ⟨by decide +kernel, ⟨_, by decide +kernel, by decide, by decide, rfl⟩, by decide +kernel, ⟨_, by decide +kernel, rfl, by decide, by decide⟩,
    by decide +kernel⟩

/-! ### Witnesses: lanes and ports -/

/-- Lane 63 in a state, with a mode and its group and PHY number 5 and 6. -/
def laned (mode st : Nat) (d : LaneDyn) : State :=
  (served.setCells (laneIx 63) 0 [(1, mode), (3, st), (0x20, 5), (0x21, 6)]).setLane 63 d

/-- Management lane M1 in a state. -/
def m1 (st : Nat) (d : LaneDyn) : State := (served.setCell 0x1121 0 2 st).setLane 65 d

/-- Each clause for the highest lane and for a management lane; a hold that ends at this moment. -/
theorem wit_LaneTrains :
    ((laned 10 1 {}).anyState (.lane 63) = 1 ∧ (m1 1 {}).anyState (.mgmt .m1) = 1)
    ∧ ((laned 4 5 { pllFailed := true }).anyState (.lane 63) = 5
      ∧ ((laned 4 5 { pllFailed := true }).lane (anyNo (.lane 63))).pllFailed = true
      ∧ (laned 4 5 { pllFailed := true }).anyRef (.lane 63) = true
      ∧ (m1 5 { pllFailed := true }).anyState (.mgmt .m1) = 5 ∧ ((m1 5 { pllFailed := true }).lane (anyNo (.mgmt .m1))).pllFailed = true
      ∧ (m1 5 { pllFailed := true }).anyRef (.mgmt .m1) = true)
    ∧ ((laned 4 5 {}).anyState (.lane 63) = 5 ∧ ((laned 4 5 {}).lane (anyNo (.lane 63))).pllFailed = false
      ∧ (m1 2 {}).anyState (.mgmt .m1) = 2)
    ∧ ((laned 10 3 { overhead := some (5, 6) }).anyState (.lane 63) = 3
      ∧ ((laned 10 3 { overhead := some (5, 6) }).lane 63).holdFrom + ((laned 10 3 { overhead := some (5, 6) }).lane 63).hold
          ≤ (laned 10 3 { overhead := some (5, 6) }).now
      ∧ ((laned 10 3 { overhead := some (5, 6) }).lane 63).draining = none
      ∧ (laned 10 3 { overhead := some (5, 6) }).mode 63 = 10
      ∧ (laned 10 3 { overhead := some (5, 6) }).ob (laneIx 63) 0x20 = 5
      ∧ (laned 10 3 { overhead := some (5, 6) }).ob (laneIx 63) 0x21 = 6)
    ∧ (laned 2 3 { announced := some 1000 }).anyState (.lane 63) = 3 ∧ (laned 2 3 { announced := some 1000 }).mode 63 = 2
      ∧ ((laned 2 3 { announced := some 1000 }).lane 63).announced = some 1000 := by decide +kernel

theorem wit_LaneFaultsAreCountedAndTrainAgain :
    ((laned 4 1 {}).anyState (.lane 63) = 1 ∧ (m1 1 {}).anyState (.mgmt .m1) = 1)
    ∧ (laned 4 4 {}).anyState (.lane 63) = 4 ∧ (m1 4 {}).anyState (.mgmt .m1) = 4 := by decide +kernel

/-- The reference of octet 7 is lost. -/
def dark : State := { served with net := { served.net with refLost := [7] } }

theorem wit_ReferencesStopAndStartLanes :
    served.net.refLost.contains (7 : Octet).val = false ∧ dark.net.refLost.contains (7 : Octet).val = true
    ∧ (WriteRuns served fw (mgmtIx .m1) 0 1 [3] (lapsed served 0x1121 0) ∧ (lapsed served 0x1121 0).startState = stOk ∧ ofBE [3] = 3)
    ∧ WriteRuns dark fw (mgmtIx .m1) 0 1 [1] (lapsed dark 0x1121 0) ∧ (lapsed dark 0x1121 0).startState = stOk ∧ ofBE [1] = 1 :=
  ⟨by decide +kernel, by decide +kernel, ⟨write_runs _ _ _ _ _ (by decide +kernel) (by decide +kernel), by decide +kernel⟩,
    write_runs _ _ _ _ _ (by decide +kernel) (by decide +kernel), by decide +kernel⟩

theorem wit_SgmiiStaysInAlign :
    ((laned 2 3 {}).mode 63 = 2 ∧ (laned 2 3 {}).laneState 63 = 3 ∧ (999 : Nat) ≠ 1000 ∧ ((laned 2 3 {}).lane 63).announced ≠ some 1000)
    ∧ (laned 2 3 { announced := some 1000 }).laneState 63 = 3 ∧ ((laned 2 3 { announced := some 1000 }).lane 63).announced = some 1000
      ∧ ((laned 2 3 { announced := some 1000 }).lane 63).holdFrom + ((laned 2 3 { announced := some 1000 }).lane 63).hold
          ≤ (laned 2 3 { announced := some 1000 }).now
      ∧ ((laned 2 3 { announced := some 1000 }).lane 63).draining = none := by decide +kernel

theorem wit_FlexePeersMustAgree :
    ((laned 10 3 {}).mode 63 = 10 ∧ (laned 10 3 {}).laneState 63 = 3)
    ∧ ((laned 10 3 {}).setOb (laneIx 63) 0x20 0).ob (laneIx 63) 0x20 = 0
    ∧ ∃ x, ((laned 10 3 { overhead := some (5, 7) }).lane 63).overhead = some x
      ∧ x ≠ ((laned 10 3 { overhead := some (5, 7) }).ob (laneIx 63) 0x20, (laned 10 3 { overhead := some (5, 7) }).ob (laneIx 63) 0x21) :=
  ⟨by decide +kernel, by decide +kernel, _, rfl, by decide +kernel⟩

theorem wit_CalendarsSwitchOrLapse : ((laned 10 4 { calTarget := some 1 }).lane 63).calTarget = some 1
    ∧ (laned 10 4 { calTarget := some 1 }).mode 63 = 10 := by decide +kernel

/-- Lanes 62 and 63 drain together; port 992 has left UP with a frame in a queue. -/
def draining : State :=
  let s := ((laned 11 4 { draining := some 62 }).setCells (laneIx 62) 0 [(1, 8), (3, 4)]).setLane 62 { draining := some 62 }
  let s := (s.setCell (portIx 992) 0 2 2).setQueue (portRow 992 7) [{ handle := 0, wireLen := 64, enq := 0, delay := 0 }]
  { s with net := { s.net with sched := [(992, { flushing := true })] } }

/-- Port 992 is UP on lanes 62 and 63. -/
def upped : State :=
  (((laned 11 4 {}).setCells (laneIx 62) 0 [(1, 8), (3, 4)])).setCells (portIx 992) 0 [(1, 1), (2, 3), (4, 50000), (7, 62)]

theorem wit_LanesStopAndPortsAreFlushed :
    ((draining.lane 63).draining = some 62 ∧ draining.wireFree 62 = true ∧ draining.up 992 = false
      ∧ (draining.sched 992).flushing = true ∧ draining.queue (portRow 992 7) ≠ [])
    ∧ (draining.sched 992).wire = none
    ∧ (upped.laneState 63 = 4 ∧ 63 ∈ upped.lanesFrom (upped.leadLane (16 * upped.leadOf 63)) ∧ upped.up (16 * upped.leadOf 63) = true)
    ∧ (WriteRuns served fw (laneIx 63) 0 6 [1] (lapsed served (laneIx 63) 0) ∧ ofBE [1] ≤ 1)
    ∧ WriteRuns served fw (laneIx 0) 0 5 [0] (lapsed served (laneIx 0) 0) ∧ (lapsed served (laneIx 0) 0).startState = stOk ∧ ofBE [0] ≤ 1 :=
  ⟨by decide +kernel, by decide +kernel, by decide +kernel,
    ⟨write_runs _ _ _ _ _ (by decide +kernel) (by decide +kernel), by decide +kernel⟩,
    write_runs _ _ _ _ _ (by decide +kernel) (by decide +kernel), by decide +kernel⟩

/-- A port that leaves UP, one that comes UP. -/
theorem wit_PortFollowsItsLanes :
    (served.setCell (portIx 1008) 0 2 3).ob (portIx 1008) 2 = 3 ∧ (served.setCell (portIx 1008) 0 2 3).portTarget 1008 ≠ 3
    ∧ (upped.setCells (portIx 992) 0 [(2, 2), (8, 0)]).ob (portIx 992) 2 ≠ 3
    ∧ (upped.setCells (portIx 992) 0 [(2, 2), (8, 0)]).portTarget 992 = 3 := by decide +kernel

/-! ### Witnesses: writes that the admission unit checks -/

/-- The three facts of a write of the admission unit's queue that holds its lanes or not, in `served`. -/
abbrev Asks (ix sub : Nat) (data : Bytes) : Prop :=
  WriteRuns served fw ix 0 sub data (lapsed served ix 0) ∧ (lapsed served ix 0).startState = stOk ∧ (lapsed served ix 0).adm.length < 64

theorem asks (ix sub : Nat) (data : Bytes) (hc : (lapsed served ix 0).writeCheck fw ix 0 sub data.length = stOk)
    (h : (lapsed served ix 0).startState = stOk ∧ (lapsed served ix 0).adm.length < 64) : Asks ix sub data :=
  ⟨write_runs _ _ _ _ _ (by decide +kernel) hc, h⟩

/-- A record of one MAC frame a millisecond to row 4 of port 1, from port 0. -/
def record : Bytes :=
  [1, 6] ++ toBE 2 0 ++ toBE 4 4 ++ toBE 4 0 ++ toBE 2 1 ++ [0, 0] ++ toBE 2 64 ++ toBE 2 1500 ++ toBE 2 64 ++ [0, 0] ++ toBE 4 1000
    ++ toBE 4 1500 ++ toBE 4 4000000000 ++ toBE 4 0 ++ toBE 4 0 ++ toBE 4 200000000 ++ toBE 2 1 ++ toBE 2 0 ++ toBE 4 0 ++ zeros 8

/-- Every clause of AdmissionCheckedWritesWait with a value at the end of its range. -/
theorem wit_AdmissionCheckedWritesWait :
    (Asks (laneIx 63) 1 [1] ∧ (lapsed served (laneIx 63) 0).holdsLanes fw ((lapsed served (laneIx 63) 0).modeLanes 63 (ofBE [1])) = true
      ∧ (lapsed served (laneIx 63) 0).laneModeStatus 63 (ofBE [1]) = stOk)
    ∧ (Asks (laneIx 63) 2 [0] ∧ (lapsed served (laneIx 63) 0).holdsLanes fw
        ((lapsed served (laneIx 63) 0).lanesFrom ((lapsed served (laneIx 63) 0).leadOf 63)) = true
      ∧ (lapsed served (laneIx 63) 0).fecStatus 63 (ofBE [0]) = stOk)
    ∧ (Asks (laneIx 63) 0x33 [1] ∧ ofBE [1] ≤ 1 ∧ (lapsed served (laneIx 63) 0).ob (laneIx 63) 0x32 ≠ ofBE [1]
      ∧ ((lapsed served (laneIx 63) 0).lane 63).calTarget = none) := by
  exact ⟨⟨asks _ _ _ (by decide +kernel) (by decide +kernel), by decide +kernel⟩,
    ⟨asks _ _ _ (by decide +kernel) (by decide +kernel), by decide +kernel⟩,
    asks _ _ _ (by decide +kernel) (by decide +kernel), by decide +kernel⟩

theorem wit_SchedulerWritesWait :
    (Asks (schedIx 1023) (qSub 4 1) (toBE 4 1048576) ∧ 64 ≤ ofBE (toBE 4 1048576) ∧ ofBE (toBE 4 1048576) ≤ 1048576)
    ∧ (Asks (schedIx 1023) (qSub 7 2) [0] ∧ ofBE [0] ≤ 1)
    ∧ (Asks (schedIx 1023) (qSub 7 3) [0, 0, 0, 0] ∧ ofBE [0, 0, 0, 0] = 0 ∧ (lapsed served (schedIx 1023) 0).ob (schedIx 1023) (qSub 7 2) = 0)
    ∧ (Asks (gateIx 1023) 1 [1] ∧ ofBE [1] ≤ 1)
    ∧ Asks (gateIx 1023) 2 [255] :=
  ⟨⟨asks _ _ _ (by decide +kernel) (by decide +kernel), by decide +kernel⟩,
    ⟨asks _ _ _ (by decide +kernel) (by decide +kernel), by decide +kernel⟩,
    ⟨asks _ _ _ (by decide +kernel) (by decide +kernel), by decide +kernel⟩,
    ⟨asks _ _ _ (by decide +kernel) (by decide +kernel), by decide +kernel⟩,
    asks _ _ _ (by decide +kernel) (by decide +kernel)⟩

/-- Port 1008, which is lane 63's, is not ABSENT. -/
def ported : State := served.setCells (portIx 1008) 0 [(2, 1), (4, 10000), (7, 63)]

theorem wit_PortWritesWait :
    (WriteRuns ported fw (portIx 1008) 0 5 [5, 238] (lapsed ported (portIx 1008) 0) ∧ (lapsed ported (portIx 1008) 0).startState = stOk
      ∧ 1518 ≤ ofBE [5, 238] ∧ ofBE [5, 238] ≤ 16000 ∧ (lapsed ported (portIx 1008) 0).portAbsent 1008 = false
      ∧ (lapsed ported (portIx 1008) 0).adm.length < 64)
    ∧ WriteRuns ported fw (portIx 1008) 0 6 [1] (lapsed ported (portIx 1008) 0) ∧ ofBE [1] ≤ 1 :=
  ⟨⟨write_runs _ _ _ _ _ (by decide +kernel) (by decide +kernel), by decide +kernel⟩,
    write_runs _ _ _ _ _ (by decide +kernel) (by decide +kernel), by decide +kernel⟩

theorem wit_CarveAndProfileWait :
    (Asks 0x9300 0x10 (toBE 2 (State.reset.ob 0x9300 0x10))
      ∧ (lapsed served 0x9300 0).carveStatus 0x10 (ofBE (toBE 2 (State.reset.ob 0x9300 0x10))) = stOk)
    ∧ (Asks 0x1001 1 [1] ∧ (lapsed served 0x1001 0).profileStatus (ofBE [1]) = stOk) :=
  ⟨⟨asks _ _ _ (by decide +kernel) (by decide +kernel), by decide +kernel⟩,
    asks _ _ _ (by decide +kernel) (by decide +kernel), by decide +kernel⟩

theorem wit_RequestsWait :
    ItemRuns served fw (writeReq 0x4001 1 record) served ∧ served.principal fw = .station
    ∧ (served.lapses (portIx (served.contract (contractOf record).id).egress)).requestLeased fw .admitStream (contractOf record) = true
    ∧ record.length = 64 ∧ (served.lapses (portIx (served.contract (contractOf record).id).egress)).startState = stOk
    ∧ (served.lapses (portIx (served.contract (contractOf record).id).egress)).requestStatus .admitStream (contractOf record) = stOk
    ∧ (served.lapses (portIx (served.contract (contractOf record).id).egress)).adm.length < 64 :=
  ⟨item_runs _ _ (by decide +kernel), by decide +kernel⟩

/-! ### Witnesses: the admission unit's decisions -/

/-- The admission unit holds one command of firmware. -/
def asksFor (s : State) (c : Instr) : State := { s with adm := [⟨some fw, 0x2000, c⟩] }

/-- What the unit decides on. -/
def decides (s : State) : State := ({ s with adm := [] } : State).level 0x7AC false

theorem wit_AdmittedWritesLand :
    (decides (asksFor served (.laneModeWrite fw 63 [1]))).laneModeStatus 63 (ofBE [1]) = stOk
    ∧ refusedChange (decides (asksFor served (.laneModeWrite fw 63 [1])))
        ((decides (asksFor served (.laneModeWrite fw 63 [1]))).landMode 63 (ofBE [1])) = none
    ∧ (decides (asksFor served (.fecWrite fw 63 [0]))).fecStatus 63 (ofBE [0]) = stOk
    ∧ refusedChange (decides (asksFor served (.fecWrite fw 63 [0])))
        ((decides (asksFor served (.fecWrite fw 63 [0]))).setOb (laneIx 63) 2 (ofBE [0])) = none
    ∧ (decides (asksFor served (.calendarSwitchRequest fw 63 [1]))).calendarStatus 63 (ofBE [1]) = stOk
    ∧ refusedChange (decides (asksFor served (.calendarSwitchRequest fw 63 [1])))
        ((decides (asksFor served (.calendarSwitchRequest fw 63 [1]))).withCalendar 63 (ofBE [1])) = none
    ∧ (decides (asksFor ported (.maximumFrameWrite fw 1008 [62, 128]))).portAbsent 1008 = false
    ∧ refusedChange (decides (asksFor ported (.maximumFrameWrite fw 1008 [62, 128])))
        ((decides (asksFor ported (.maximumFrameWrite fw 1008 [62, 128]))).setOb (portIx 1008) 5 (ofBE [62, 128])) = none
    ∧ refusedChange (decides (asksFor ported (.pauseHonouringWrite fw 1008 [1])))
        ((decides (asksFor ported (.pauseHonouringWrite fw 1008 [1]))).setOb (portIx 1008) 6 (ofBE [1])) = none := by decide +kernel

theorem wit_AdmittedSchedulesLand :
    refusedChange (decides (asksFor served (.quantumWrite fw 1023 4 (toBE 4 64)))) (decides (asksFor served (.quantumWrite fw 1023 4 (toBE 4 64))))
      = none
    ∧ (decides (asksFor served (.shaperEnableWrite fw 1023 7 [0]))).shaperStatus 1023 7 (ofBE [0]) = stOk
    ∧ refusedChange (decides (asksFor served (.shaperEnableWrite fw 1023 7 [0])))
        ((decides (asksFor served (.shaperEnableWrite fw 1023 7 [0]))).setOb (schedIx 1023) (qSub 7 2) (ofBE [0])) = none
    ∧ (decides (asksFor ported (.idleSlopeWrite fw 1008 7 (toBE 4 10000000)))).slopeStatus 1008 7 (ofBE (toBE 4 10000000)) = stOk
    ∧ refusedChange (decides (asksFor ported (.idleSlopeWrite fw 1008 7 (toBE 4 10000000))))
        ((decides (asksFor ported (.idleSlopeWrite fw 1008 7 (toBE 4 10000000)))).setOb (schedIx 1008) (qSub 7 3) (ofBE (toBE 4 10000000))) = none
    ∧ refusedChange (decides (asksFor served (.gateControlWrite fw 1023 [1])))
        ((decides (asksFor served (.gateControlWrite fw 1023 [1]))).setOb (gateIx 1023) 1 (ofBE [1])) = none
    ∧ refusedChange (decides (asksFor served (.initialStatesWrite fw 1023 [255])))
        ((decides (asksFor served (.initialStatesWrite fw 1023 [255]))).setOb (gateIx 1023) 2 (ofBE [255])) = none := by decide +kernel

/-- Ports 0 and 1 are UP at 10 Gb/s, and queue 6 of port 1 is shaped. -/
def linked : State :=
  let up := [(1, 1), (2, 3), (4, 10000)]
  ((served.setCells (portIx 0) 0 up).setCells (portIx 1) 0 up).setCells (schedIx 1) 0 [(qSub 6 2, 1), (qSub 6 3, 10000000)]

/-- Stream 4 is admitted under the record. -/
def admitted : State :=
  match exec .admissionComplete (asksFor linked (.admitStream fw record)) with
  | .next t => t
  | _ => linked

/-- Whether the unit accepts a contract beside the streams that it holds. -/
def accepts (s : State) (i : Nat) (c : Contract) (since : Nat) : Bool := (s.decideRequest (s.others i) c since).isRight

theorem wit_StreamsAreAdmittedAndWithdrawn :
    (decides (asksFor linked (.admitStream fw record))).requestRow (contractOf record) = some 4
    ∧ (decides (asksFor linked (.admitStream fw record))).str 4 4 = 0
    ∧ accepts (decides (asksFor linked (.admitStream fw record))) 4 { contractOf record with id := 4 } 0 = true
    ∧ accepts (decides (asksFor served (.check fw record))) 4 { contractOf record with id := 4 } 0 = false := by decide +kernel

theorem wit_StreamsAreModifiedAndWithdrawn :
    (decides (asksFor admitted (.withdraw fw record))).str (be record 4 4) 4 ≠ 0
    ∧ (decides (asksFor admitted (.modify fw record))).admitted (contractOf record).id = true
    ∧ accepts (decides (asksFor admitted (.modify fw record))) 4
        { (decides (asksFor admitted (.modify fw record))).contract 4 with
            ceiling := (contractOf record).ceiling, upstream := (contractOf record).upstream, link := (contractOf record).link, granted := none }
        ((decides (asksFor admitted (.modify fw record))).str 4 0x17) = true
    ∧ (decides (asksFor served (.profileWrite fw [1]))).profileStatus (ofBE [1]) = stOk
    ∧ broken (decides (asksFor served (.profileWrite fw [1]))) ((decides (asksFor served (.profileWrite fw [1]))).under (ofBE [1])) = []
    ∧ ((decides (asksFor served (.profileWrite fw [1]))).tightClasses (ofBE [1]) fun _ => 0) = [] := by decide +kernel

/-! ### Witnesses: frames -/

/-- Port 1023 is UP at 25 Gb/s in the fabric's view, with or without PAUSE honoured. -/
def open_ (honour : Nat) : State := served.setCells (portIx 1023) 0 [(1, 1), (2, 3), (4, 25000), (5, 1518), (6, honour), (7, 63)]

/-- A frame of 64 bytes with its FCS. -/
def framed : Bytes := List.replicate 60 7 ++ [0x94, 0x25, 0x11, 0xC9]

/-- A paused port whose pause ends now. -/
def pausing : State := (open_ 1).setSched 1023 { pauseEnd := 1 } |>.withClk fun c => { c with frcQ := 4 }

/-- The shortest good frame, one a byte shorter, one a byte longer than the maximum, one with a wrong FCS; the extremes of a PAUSE. -/
theorem wit_FramesAndPausesArrive :
    ((open_ 1).up 1023 = true ∧ (open_ 1).blocked 1023 = false)
    ∧ (64 ≤ framed.length ∧ framed.length ≤ (open_ 1).maxAt 1023 framed.length
      ∧ crc32 (framed.take (framed.length - 4)) = le framed (framed.length - 4) 4 ∧ be framed 12 2 ≠ 0x8808)
    ∧ (zeros 63).length < 64 ∧ (open_ 1).maxAt 1023 (zeros 1519).length < (zeros 1519).length
    ∧ (zeros 1518).length ≤ (open_ 1).maxAt 1023 (zeros 1518).length
    ∧ crc32 ((zeros 64).take ((zeros 64).length - 4)) ≠ le (zeros 64) ((zeros 64).length - 4) 4
    ∧ ((open_ 1).ob (portIx 1023) 6 ≠ 0 ∧ (open_ 1).rate 1023 ≠ 0 ∧ (65535 : Nat) < 65536)
    ∧ ((open_ 0).up 1023 = true ∧ (open_ 0).ob (portIx 1023) 6 = 0)
    ∧ (pausing.sched 1023).pauseEnd ≠ 0 ∧ (pausing.sched 1023).pauseEnd ≤ pausing.ps := by decide +kernel

/-- A buffer of 64 bytes, and a copy of it. -/
def buffer : Buffer :=
  { handle := 0, row := 3, length := 64, rxTime := 0, source := ⟨0, 3⟩, tenant := 0, vport := none, stream := none, replicas := 1
    unmodified := false, pass2 := false, host := false, hbm := false, decrypted := false, version := 0, data := List.replicate 60 9, fcs := none }
def copy : QCopy := { handle := 0, wireLen := 84, enq := 0, delay := 0 }
def slot (at_ : Nat) : Slot := { queue := 7, copy := copy, bytes := List.replicate 64 9, start := at_, fin := at_, occ := 84 }

/-- Port 1023 holds a copy in queue 7; the copy is to be encrypted or not. -/
def sendable (c : QCopy) : State :=
  let s := (open_ 0).setQueue (portRow 1023 7) [c]
  let s := (((s.setCells 0x6010 5 [(4, 1), (6, 2), (7, 0), (0x14, 64)]).setOb 0x6000 1 1).setMark 5 (2 ^ 64 - 1)).setSlot 5 (zeros 16)
  { s with net := { s.net with buffers := [(0, some buffer)] } }

/-- What FRAME_SELECTION selects from. -/
def settled (s : State) : State := (s.settle 1023).purgeAll 1023

/-- A frame to be selected in the clear, one under an SA, none. -/
theorem wit_PortsSelectFrames :
    ((sendable copy).up 1023 = true ∧ (sendable copy).paused 1023 = false ∧ (sendable copy).blocked 1023 = false
      ∧ ((sendable copy).sched 1023).free ≤ (sendable copy).ps + 90000)
    ∧ ((settled (open_ 0)).pickQueue 1023).1 = none
    ∧ (((settled (sendable copy)).pickQueue 1023).1 = some 7 ∧ (settled (sendable copy)).queue (portRow 1023 7) = copy :: []
      ∧ copy.eRow = none ∧ copy.sa = none)
    ∧ ((settled (sendable { copy with sa := some 5 })).pickQueue 1023).1 = some 7
      ∧ (settled (sendable { copy with sa := some 5 })).queue (portRow 1023 7) = { copy with sa := some 5 } :: []
      ∧ ((settled (sendable { copy with sa := some 5 })).sa 5).use ≠ 4 := by decide +kernel

/-- A frame selected for now, one whose gate is shut, one on the wire. -/
def starting : State := (open_ 0).setSched 1023 { selected := [slot 0] }
def barred : State := (starting.setOb (gateIx 1023) 1 1).setOb (gateIx 1023) 2 0
def wired : State := (open_ 0).setSched 1023 { wire := some (slot 0) }

/-- A head that was enqueued 5 ns ago in a queue whose age limit is 4 ns. -/
def aged : State := (((open_ 0).setQueue (portRow 1023 5) [copy]).setCell (schedIx 1023) 0 (qSub 5 6) 4).withClk fun c => { c with frcQ := 20 }

theorem wit_PortsSendTheirFrames :
    ((starting.sched 1023).selected = slot 0 :: [] ∧ (slot 0).start ≤ starting.ps ∧ (starting.sched 1023).wire = none
      ∧ starting.up 1023 = true ∧ (slot 0).queue < 8 ∧ starting.mayStart 1023 (slot 0) = true)
    ∧ ((barred.sched 1023).selected = slot 0 :: [] ∧ (slot 0).start ≤ barred.ps ∧ (barred.sched 1023).wire = none
      ∧ barred.up 1023 = true ∧ barred.mayStart 1023 (slot 0) = false)
    ∧ (wired.sched 1023).wire = some (slot 0) ∧ (slot 0).fin ≤ wired.ps := by decide +kernel

theorem wit_HeadsAge : aged.queue (portRow 1023 5) = copy :: [] ∧ aged.ageLimit (portRow 1023 5) ≠ 0
    ∧ copy.enq + aged.ageLimit (portRow 1023 5) < aged.now := by decide +kernel

/-- A port frame that waits at pipeline 7, from port 1023. -/
def arrived : Waiting :=
  { pipe := 7, cls := 3, time := 0, bytes := [1, 2, 3, 4, 5, 6] ++ List.replicate 54 5, fcs := none, source := ⟨0, 1023⟩, ingress := some 1023 }

/-- The frame waits, with no row of stage CS, or with one that matches every frame and only counts. -/
def granting : State := { open_ 0 with net := { (open_ 0).net with waiting := [arrived] } }
def matching : State := granting.setCells 0x5011 0 [(4, 1), (6, 0x40), (0x16, 1)]

/-- What the pipeline works on. -/
def grantTo (s : State) : State :=
  { s with net := { s.net with waiting := [], cycle := NMap.put 0 s.net.cycle 7 (max (NMap.at 0 s.net.cycle 7) (s.clk.frcQ * 2 / 5) + 1) } }

theorem wit_FramesAreGranted :
    pickWaiting (max (NMap.at 0 granting.net.cycle 7) (granting.clk.frcQ * 2 / 5)) (NMap.at 0 granting.net.ringPtr 7) 7
      (granting.net.waiting.filter fun w => granting.cmplReady w && !(granting.inHold && w.cls = 2)) = some arrived
    ∧ dropFirst (fun x => decide (x = arrived)) granting.net.waiting = []
    ∧ (arrived.handle = none ∧ arrived.txDone = none ∧ arrived.cls = 3 ∧ arrived.pass2 = false ∧ arrived.ingress = some 1023
      ∧ arrived.source.kind = 0 ∧ granting.inHold = false)
    ∧ (grantTo granting).deviceFrame ((grantTo granting).begins { arrived with granted := granting.tai } []).parsed.outer arrived.bytes = none
    ∧ linkLocal ((grantTo granting).begins { arrived with granted := granting.tai } []).parsed.outer.dst = false
    ∧ (grantTo granting).classifyRows ((grantTo granting).begins { arrived with granted := granting.tai } []) = []
    ∧ (grantTo matching).classifyRows ((grantTo matching).begins { arrived with granted := matching.tai } []) ≠ []
    ∧ ((grantTo matching).classify ((grantTo matching).begins { arrived with granted := matching.tai } [])
        ((grantTo matching).classifyRows ((grantTo matching).begins { arrived with granted := matching.tai } []))).decrypt = 0 := by decide +kernel

/-- A copy that comes back into pipeline 7. -/
def returning : State :=
  { sendable copy with net := { (sendable copy).net with recirc := [(7, copy, arrived)] } }

/-- The same without it. -/
def returned : State := { returning with net := { returning.net with recirc := [] } }

theorem wit_FramesRecirculate :
    returning.pickRecirc 7 = some (7, copy, arrived) ∧ dropFirst (fun y => decide (y = (7, copy, arrived))) returning.net.recirc = []
    ∧ copy.eRow = none ∧ copy.sa = none ∧ NMap.at 0 returning.net.recircFree 7 ≤ returning.ps
    ∧ (returned.allocBuf 6148 (classFor ((returned.dress copy).length + 4)) (arrived.stream.any returned.admitted)).1 ≠ noHandle := by
  decide +kernel

/-- A MACsec association without confidentiality, and a frame under number `pn` with an ICV. -/
def rsa : Sa :=
  ⟨5, 0, 1, 0, toBE 16 9, false, 0, 7, 0, 0, 0, true, true, 0, 0, false, 0, 0, 0, 0⟩
def secured (icv : Bytes → Bytes) : Bytes :=
  let b := [1, 2, 3, 4, 5, 6, 2, 2, 3, 4, 5, 7] ++ [0x88, 0xE5, 0x20, 0, 0, 0, 0, 9] ++ toBE 8 7 ++ List.replicate 48 3
  b ++ icv b

/-- The ICV of the frame. -/
def icvOf (b : Bytes) : Bytes := gcmTag (toBE 16 9) (macsecNonce rsa 7 9) b []

/-- A pass over a frame under number 9. -/
def passing (bs : Bytes) : Pass :=
  { id := 7, lane := 2, sa := rsa, frame := { arrived with bytes := bs }, tenant := 0, acts := [], tables := [], version := 0, rows := []
    pn := 9, churn := bs, start := some 0 }

/-- The lane holds the pass, and numbers from `low` on are acceptable; it is released at its first multiple of 200 ns. -/
def opening (low : Nat) (bs : Bytes) : State :=
  let s := (open_ 0).setCells 0x6010 5 [(4, 1), (6, 1), (0x13, low)]
  { s with cip := { s.cip with passes := [passing bs] }, clk := { s.clk with frcQ := 800 } }

theorem wit_PassesAreReleased :
    (opening 9 (secured icvOf)).cip.passes.find? (fun y => y.id == 7) = some (passing (secured icvOf))
    ∧ (opening 9 (secured icvOf)).mayRelease (passing (secured icvOf)) = true
    ∧ (opening 9 (secured icvOf)).saField 5 4 = 1 ∧ (opening 9 (secured icvOf)).oldSa rsa = none :=
  ⟨rfl, by decide +kernel⟩

theorem wit_PassesAreReplays : (opening 10 (secured icvOf)).replayed rsa 9 = true
    ∧ (opening 9 (secured icvOf)).replayed rsa 9 = false := by decide +kernel

seal aes in
set_option maxRecDepth 100000 in
theorem wit_icv : gcmTag rsa.key (macsecNonce rsa 7 9) ((secured icvOf).take (12 + (secTag (secured icvOf)).len) ++ (secureData rsa (secured icvOf)).1)
    (secureData rsa (secured icvOf)).2.1 = (secureData rsa (secured icvOf)).2.2 := by rfl

theorem wit_verify : macsecVerify rsa 7 9 (secured icvOf) = true := by
  unfold macsecVerify
  exact decide_eq_true wit_icv

/-- One that is a replay, one that verifies. -/
theorem wit_PassesVerify :
    (∃ p, (opening 10 (secured icvOf)).openPass (passing (secured icvOf)) p = .replay)
    ∧ (opening 9 (secured icvOf)).openPass (passing (secured icvOf))
        ((opening 9 (secured icvOf)).parse (passing (secured icvOf)).frame.bytes) = .ok 9 (secured icvOf) := by
  have hs : ((opening 9 (secured icvOf)).parse (passing (secured icvOf)).frame.bytes).sci = 7 := by decide +kernel
  refine ⟨⟨(opening 10 (secured icvOf)).parse (secured icvOf), ?_⟩, ?_⟩
  · unfold State.openPass
    exact if_pos wit_PassesAreReplays.1
  · unfold State.openPass
    rw [hs, if_neg, if_pos, if_pos]
    · rfl
    · exact wit_verify
    · rfl
    · exact Bool.eq_false_iff.mp wit_PassesAreReplays.2

/-- The frame with a wrong ICV. -/
def tampered : Bytes := secured fun b => (icvOf b).map (· + 1)

seal aes in
set_option maxRecDepth 100000 in
theorem wit_wrongIcv : (gcmTag rsa.key (macsecNonce rsa 7 9) (tampered.take (12 + (secTag tampered).len) ++ (secureData rsa tampered).1)
    (secureData rsa tampered).2.1).map (· + 1) = (secureData rsa tampered).2.2 := by rfl

theorem wit_refused : macsecVerify rsa 7 9 tampered = false := by
  unfold macsecVerify
  exact decide_eq_false fun h => wit_other _ (by simp [gcmTag, toBE, toLE]) (h.trans wit_wrongIcv.symm)

theorem wit_PassesAreRefused :
    (opening 9 tampered).cip.passes.find? (fun y => y.id == 7) = some (passing tampered)
    ∧ (opening 9 tampered).mayRelease (passing tampered) = true
    ∧ (opening 9 tampered).openPass (passing tampered) ((opening 9 tampered).parse (passing tampered).frame.bytes) = .auth := by
  have hs : ((opening 9 tampered).parse (passing tampered).frame.bytes).sci = 7 := by decide +kernel
  have hr : (opening 9 tampered).replayed rsa 9 = false := by decide +kernel
  refine ⟨rfl, by decide +kernel, ?_⟩
  unfold State.openPass
  rw [hs, if_neg, if_pos, if_neg]
  · exact Bool.eq_false_iff.mp wit_refused
  · rfl
  · exact Bool.eq_false_iff.mp hr

/-! ### Witnesses: buffers, queues, gates -/

/-- The lowest requester row granted the smallest class, and one that is not: no buffer of the class is free. -/
def scarce : State := { served with net := { served.net with fresh := [(0, 2 ^ 24)] } }.setOb 0x9300 0x20 0

theorem wit_BuffersAreGrantedAndFreed :
    served.privileged (0 : Thread).val = true ∧ served.net.pool = [] ∧ served.grants 0 0 false = true ∧ served.grants 2048 5 false = true
    ∧ scarce.privileged (0 : Thread).val = true ∧ scarce.net.pool = [] ∧ scarce.grants 0 0 false = false
    ∧ (2 ^ 32 - 1 < 2 ^ 32 ∧ 5 * 2 ^ 24 / 2 ^ 24 % 8 < 6) ∧ served.ob 0x9300 1 ≠ false.toNat := by decide +kernel

/-- A queue of a port with a spilled copy in its fourth place. -/
def spilled : State :=
  served.setQueue 8191 [copy, copy, copy, { copy with fetched := false }]

theorem wit_RequesterRowsAndSpilledFrames :
    (WriteRuns served fw 0x9301 6149 5 (toBE 4 0) (lapsed served 0x9301 6149) ∧ (requesterRule 6149 5).check (lapsed served 0x9301 6149) fw 0 = stOk)
    ∧ (WriteRuns served fw 0x9301 0 0x17 (toBE 4 1) (lapsed served 0x9301 0) ∧ (requesterRule 0 0x17).check (lapsed served 0x9301 0) fw 1 = stOk)
    ∧ ((spilled.queue 8191).take 4).any (fun c => !c.fetched && !c.fetching) = true :=
  ⟨⟨write_runs _ _ _ _ _ (by decide +kernel) (by decide +kernel), by decide +kernel⟩,
    ⟨write_runs _ _ _ _ _ (by decide +kernel) (by decide +kernel), by decide +kernel⟩, by decide +kernel⟩

/-- A gate list of one entry at a base time. -/
def gateBytes (base : Nat) : Bytes :=
  toBE 2 1 ++ toBE 2 1 ++ toBE 4 1000 ++ toBE 8 base ++ zeros 16 ++ [0, 255, 0, 0] ++ toBE 4 1000

/-- A list of port 1023 that becomes operative now, one that will in 2 ms. -/
def gated (base : Nat) : State :=
  ((served.setBlob (gateIx 1023) 3 (gateBytes base)).setCells (gateIx 1023) 0 [(1, 1), (5, base), (7, 1000)]).withClk fun c =>
    { c with tai := 5 * 65536, wasValid := true }

/-- Rows 3 and 5 feed compound 7, through which nothing has come for its reset timeout. -/
def recovering : State :=
  let s := (served.setCells 0x4002 3 [(4, 1), (5, 2), (6, 7), (0xB, 100)]).setCells 0x4002 5 [(4, 1), (5, 2), (6, 7), (0xB, 100)]
  (s.setCompound 7 { take := false }).withClk fun c => { c with frcQ := 400 }

/-- Station time stepped at 5 ns; a cycle of 1,000 ns has passed, or all but a nanosecond of it. -/
def stepping (now : Nat) : State :=
  ((served.setCell (gateIx 1023) 0 7 1000).setSched 1023 { stepped := some 5 }).withClk fun c => { c with frcQ := 4 * now }

theorem wit_GatesFollowTheirLists :
    (gated 5).swapDue 1023 = true
    ∧ (WriteRuns (gated 2000005) fw (gateIx 1023) 0 0xB [1] (lapsed (gated 2000005) (gateIx 1023) 0)
      ∧ (lapsed (gated 2000005) (gateIx 1023) 0).startState = stOk ∧ ofBE [1] = 1
      ∧ (lapsed (gated 2000005) (gateIx 1023) 0).ob (gateIx 1023) 5 ≠ 0 ∧ (lapsed (gated 2000005) (gateIx 1023) 0).listImminent 1023 = false)
    ∧ ((rowsWith recovering.dict 0x4002 4).filter (fun r => decide (recovering.frerField r 5 = 2) && decide (recovering.frerField r 6 = 7)) = [3, 5]
      ∧ (recovering.compound 7).take = false ∧ (recovering.compound 7).lastPass + recovering.frerField 3 0xB ≤ recovering.now)
    ∧ ((stepping 1005).sched 1023).stepped = some 5 ∧ 5 + (stepping 1005).ob (gateIx 1023) 7 ≤ (stepping 1005).now
    ∧ ((stepping 1004).sched 1023).stepped = some 5 ∧ (stepping 1004).now < 5 + (stepping 1004).ob (gateIx 1023) 7 :=
  ⟨by decide +kernel, ⟨write_runs _ _ _ _ _ (by decide +kernel) (by decide +kernel), by decide +kernel⟩, by decide +kernel⟩

/-! ### Witnesses: virtual ports and rings -/

/-- A 16-byte-aligned descriptor of 60 bytes that starts and ends a frame. -/
def desc60 : Bytes := toLE 8 0x10000 ++ toLE 2 60 ++ [0xC0, 0, 0, 0, 0, 0] ++ toLE 8 1 ++ zeros 8

/-- Registers of a ring of 64 slots from its head to its tail, enabled or not. -/
def ringed (s : State) (tx : Bool) (r ctrl : Nat) : State :=
  let b := ringBase tx r
  let s := (s.setReg 0x1001 (b + 8) 6).setReg 0x1001 (b + 0xC) 1
  (s.setReg 0x1001 (b + 0x24) (BitVec.ofNat 32 ctrl)).setRing 0x1001 tx r { descs := [(0, desc60)] }

/-- The function of tenant 1 is a bus master at Port A, whose link is in L0. -/
def master : State :=
  let s := hosted.setCell (hostIx 0) 0 0x10 1
  { s with hst := { s.hst with funcs := [(0x1001, { busMaster := true })] } }

/-- A copy waits in queue 0 of vport 16; receive ring 0 of tenant 1 has one descriptor. -/
def delivering : State :=
  let s := (ringed master false 0 1).setQueue (vportRow 16 0) [copy]
  { s with net := { s.net with buffers := [(0, some buffer)] } }

theorem wit_VportsDeliverToTheirRings :
    delivering.inHold = false ∧ ((delivering.vPurgeAll.hPick (hpNo .a)).map fun x => (x.1, x.2.1)) = some (16, 0)
    ∧ delivering.vPurgeAll.headStored 16 0 = false ∧ delivering.vPurgeAll.queue (vportRow 16 0) = copy :: []
    ∧ delivering.mayIssue (delivering.funcMaster 0x1001) = true := by decide +kernel

/-- Row 532,479 of the queue table has an interval of 10 ns, of which one has passed. -/
def sampling : State := (served.setCell 0x3801 532479 4 10).withClk fun c => { c with tai := 10 * 65536 }

theorem wit_QueuesAreSampled : sampling.cell 0x3801 532479 4 ≠ 0 ∧ sampling.tai / sampling.cell 0x3801 532479 4 ≠ sampling.sampledAt 532479
    ∧ hosted.regionOf (.vf 1) = some 0x1001 ∧ hosted.regBits 0x1001 (tlm 0x14) 0 0 = 0 ∧ bit (1 : Word).toNat 0 = true := by decide +kernel

/-- Transmit ring 63 has a frame of one descriptor to read. -/
def feeding : State := ringed master true 63 1

/-- The data of that frame has come. -/
def fed : State :=
  feeding.setRing 0x1001 true 63
    { reading := some { descs := [ringDesc desc60], next := 1, prep := { reads := [(0x10000, 60)], got := [(0, zeros 60)] } } }

theorem wit_RingsAreEnabledAndFed :
    master.regionOf (.vf 1) = some 0x1001
    ∧ (master.ringEnabled 0x1001 true 63 = false ∧ bit (1 : Word).toNat 0 = true ∧ (master.ring 0x1001 true 63).owed = [])
    ∧ (feeding.ringEnabled 0x1001 true 63 = true ∧ bit (0 : Word).toNat 0 = false)
    ∧ (feeding.ringHalted 0x1001 true 63 = false ∧ feeding.mayIssue (feeding.funcMaster 0x1001) = true
      ∧ feeding.regN 0x1001 (ringBase true 63 + 0xC) % feeding.ringSize 0x1001 true 63 < 5 % feeding.ringSize 0x1001 true 63)
    ∧ ((feeding.ring 0x1001 true 63).reading = none
      ∧ frameDescs ((feeding.regN 0x1001 (ringBase true 63 + 0xC) % 64 + 64 - feeding.regN 0x1001 (ringBase true 63 + 0x10) % 64) % 64)
          (feeding.headDescs 0x1001 63) = some [ringDesc desc60]
      ∧ feeding.ringSize 0x1001 true 63 = 64 ∧ feeding.ringFull 0x1001 true 63 = false ∧ formatBad [ringDesc desc60] = false)
    ∧ (((fed.ring 0x1001 true 63).reading.map fun x => (x.prep.ready, formatBad x.descs, x.prep.all.any (·.isNone))) = some (true, false, false))
    ∧ (within 0x3800 0x3FFF 0x3FFF && 0x3FFF % 512 = 0) = false := by decide +kernel

/-- A ring whose delayed message of 1 µs is due now. -/
def delaying : State :=
  let s := (ringed master true 63 3).setReg 0x1001 (ringBase true 63 + 0x28) 0x10000
  (s.setRing 0x1001 true 63 { oldest := some 0 }).withClk fun c => { c with frcQ := 4000 }

/-- A push of the longest frame of Table 11-1 to ring 63. -/
def push : Bytes := toLE 2 63 ++ zeros 6 ++ toLE 2 256 ++ [0xC0, 15] ++ zeros 20 ++ zeros 256

theorem wit_RingsAreDelayedAndPushed :
    ((delaying.ring 0x1001 true 63).oldest = some 0 ∧ delaying.regBits 0x1001 (ringBase true 63 + 0x28) 31 16 ≠ 0
      ∧ delaying.regBits 0x1001 (ringBase true 63 + 0x24) 1 1 = 1
      ∧ 0 + 1000 * delaying.regBits 0x1001 (ringBase true 63 + 0x28) 31 16 ≤ delaying.now)
    ∧ (within 0x3800 0x3FFF 0x3E00 = true ∧ 0x3E00 % 512 = 0 ∧ le push 0 2 = 63 ∧ within 14 256 (le push 8 2) = true
      ∧ le push 10 1 % 32 = 0 ∧ bit (le push 10 1) 7 = true ∧ bit (le push 10 1) 6 = true ∧ le push 11 1 < 16
      ∧ push.length = roundUp (32 + le push 8 2) 4 ∧ feeding.pushesHeld 0x1001 < 8
      ∧ (feeding.takeBuf (2048 + 1) (classFor (le push 8 2 + 4))).1.isSome = true) := by decide +kernel

/-! ### Witnesses: the cipher engine -/

/-- The cipher page of tenant 1 is disabled, or enabled with one exposed descriptor. -/
def paged : State := (master.setReg 0x1001 (cp 0x18) 1).setReg 0x1001 (cp 8) 6

theorem wit_CipherPagesStartAndStop :
    master.regionOf (.vf 1) = some 0x1001 ∧ master.regBits 0x1001 (cp 0x18) 0 0 = 0 ∧ bit (1 : Word).toNat 0 = true
    ∧ paged.regBits 0x1001 (cp 0x18) 0 0 = 1 ∧ bit (0 : Word).toNat 0 = false
    ∧ paged.regBits 0x1001 (cp 0x20) 1 1 = 0 ∧ paged.mayIssue (paged.funcMaster 0x1001) = true := by decide +kernel

/-- A descriptor of an opcode: 16 bytes, or what a PARAM names, and no AAD. -/
def jobDesc (op len param : Nat) : JobDesc :=
  ⟨op, false, false, 16, param, 70, 16411, 0, 0x1000, 0x7000, len, zeros 16⟩

/-- A job that has run on lane 3 under a key, or without one, over what it read. -/
def theJob (d : JobDesc) (key : Option Bytes) (src : Bytes) : Job :=
  { owner := 0x1001, slot := 0, desc := some d, src := some src, lane := some 3, work := 7, key := key, aux := some (zeros 16) }

/-- The page of tenant 1 holds the job. -/
def working (d : JobDesc) (key : Option Bytes) (src : Bytes) : State := { paged with cip := { paged.cip with jobs := [theJob d key src] } }

/-- Such a job runs, whatever its opcode. -/
theorem job_runs (d : JobDesc) (key : Option Bytes) (src : Bytes) : JobRuns (working d key src) (.vf 1) 0 d.opcode 0x1001 (theJob d key src) d :=
  ⟨rfl, rfl, rfl, rfl, rfl, rfl⟩

/-- The key of the jobs. -/
def kek : Bytes := toBE 16 0x000102030405060708090A0B0C0D0E0F

/-- Every mode with the shortest data that it takes; a length that it does not take. -/
theorem wit_JobsRunWithTheirKeys :
    ([1, 2, 3, 4, 5, 6, 7, 8, 9, 10, 11, 12].all fun op => jobLimits (jobDesc op (if op = 11 then 24 else 16) (if op = 6 ∨ op = 7 then 0 else 0x51))) = true
    ∧ jobLimits (jobDesc 13 16 0) = true ∧ (working (jobDesc 13 16 0) none []).drbgWaits (3 % 4) = false
    ∧ ([1, 2, 3, 4, 5, 6, 7, 8, 9].all fun op => !jobLimits (jobDesc op 16777217 0)) = true
    ∧ (working (jobDesc 11 24 0x51) (some kek) []).targetFree 1 16411 = true
    ∧ (paramKey 0x51).isSome = true := by decide +kernel

/-- Data with a tag that is right, and data without. -/
theorem wit_JobsVerify (k : Bytes) (ct : Bytes) (t : Bytes) (h : t = (gcmTag k (zeros 12) [] [5]).take 16) :
    (gcmTag k (zeros 12) (List.take 0 (5 :: t)) (slice (5 :: t) 0 1)).take 16 = (5 :: t).drop (0 + 1)
    ∧ (gcmTag k (zeros 12) (List.take 0 ct) (slice ct 0 ct.length)).take 16 ≠ ct.drop (0 + ct.length) := by
  subst h
  refine ⟨rfl, fun e => ?_⟩
  have := congrArg List.length e
  simp [gcmTag, toBE, toLE] at this

/-- The 128 bits of key data of RFC 3394, 4.1, as they are wrapped there, and bytes that no key wraps to. -/
theorem wit_JobsUnwrap : keyUnwrap kek (toBE 24 0x1FA68B0A8112B447AEF34BD8FB5A7B829D3E862371D2CFE5) = some (toBE 16 0x00112233445566778899AABBCCDDEEFF)
    ∧ keyUnwrap kek [] = none := by decide +kernel

/-- Lane 33: its key expired 256 cycles ago with its generator due for a reseed; stalled with a fresh key; loaded at 0. -/
def lane33 (d : CLane) (cycle count : Nat) : State :=
  let s := (served.setOb 0x6000 1 1).setOb 0x6020 1 1
  { s with clk := { s.clk with frcQ := 5 * cycle }, cip := { s.cip with lanes := [(33, d)], drbg := [(1, count)] } }

theorem wit_CipherEngineStallsAndStops :
    (((lane33 { expired := true } 16512 1048576).clane 33).stalled = none ∧ ((lane33 { expired := true } 16512 1048576).clane 33).expired = true
      ∧ ((lane33 { expired := true } 16512 1048576).clane 33).keyLoaded + 33024 ≤ (lane33 { expired := true } 16512 1048576).laneCycle
      ∧ (lane33 { expired := true } 16512 1048576).drbgWaits (33 % 4) = true)
    ∧ (((lane33 { stalled := some 0 } 0 0).clane 33).stalled = some 0 ∧ ((lane33 { stalled := some 0 } 0 0).clane 33).expired = false)
    ∧ ((lane33 { expired := true } 8192 1048575).drbgWaits (33 % 4) = false ∧ (lane33 { expired := true } 8192 1048575).engineRuns = true
      ∧ ((lane33 { expired := true } 8192 1048575).clane 33).keyLoaded + 16384 ≤ (lane33 { expired := true } 8192 1048575).laneCycle)
    ∧ ((lane33 { expired := true } 16384 0).clane 33).keyLoaded + 32768 ≤ (lane33 { expired := true } 16384 0).laneCycle
    ∧ ((lane33 {} 0 1048576).drbgWaits 1 = true ∧ (lane33 {} 0 1048576).ob 0x6020 1 = 1)
    ∧ (served.ob 0x6000 1 ≤ 1 ∧ served.pwr.inReset = false)
    ∧ WriteRuns (served.setOb 0x6000 1 2) fw 0x6000 0 3 [1] (lapsed (served.setOb 0x6000 1 2) 0x6000 0)
      ∧ (lapsed (served.setOb 0x6000 1 2) 0x6000 0).startState = stOk ∧ ofBE [1] = 1
      ∧ (lapsed (served.setOb 0x6000 1 2) 0x6000 0).engineRuns = false :=
  ⟨by decide +kernel, by decide +kernel, by decide +kernel, by decide +kernel, by decide +kernel, by decide +kernel,
    write_runs _ _ _ _ _ (by decide +kernel) (by decide +kernel), by decide +kernel⟩

/-! ### Witnesses: storage assist -/

/-- A connection of tenant 1 at vport 16 without digests and encryption, with command 1. -/
def conn0 : Conn :=
  { tenant := 1, version := 4, digests := 0, hpda := 0, cpda := 0, lport := 4420, rport := 1000, laddr := 0x0A000001, raddr := 0x0A000002
    key := 0xFFFFFFFF, unit := 0, vport := 16, quar := 5, maxH2c := 4096
    cmds := [{ cid := 1, write := false, len := 600, segs := [⟨0x9000, 600⟩], stage := 0x4000, dun := 0, xts := false, cookie := 3 }] }

/-- A descriptor of an opcode for connection `conn` and command `cid` with one segment of 600 bytes. -/
def storDesc (op conn cid : Nat) : StorDesc := ⟨op, false, false, conn, cid, 600, 0, 0x100, 1, 0x4000, 0, 0, 77⟩

/-- What it reads: for CONN_ADD the record of a connection to 10.0.0.9, else its segment list. -/
def storList (op : Nat) : Bytes :=
  if op = 1 then
    [4, 0, 0, 0] ++ toLE 2 4420 ++ toLE 2 1000 ++ zeros 12 ++ [10, 0, 0, 1] ++ zeros 12 ++ [10, 0, 0, 9] ++ toLE 4 0 ++ toLE 4 0xFFFFFFFF ++ [0, 0]
      ++ toLE 2 16 ++ toLE 4 0 ++ toLE 4 4096 ++ zeros 4
  else toLE 8 0x9000 ++ toLE 4 600 ++ zeros 4

def storSlot (op conn cid : Nat) : StorSlot :=
  { slot := 1, desc := some (storDesc op conn cid), list := some (storList op), prep := some { reads := [] } }

/-- Row 16 holds the connection in a state (1 ESTABLISHED, 2 RESYNC, 3 FAILED); a descriptor stands at the head of tenant 1's queue. -/
def storing (st op conn cid : Nat) : State :=
  let s := ((master.setReg 0x1001 (sq 0x28) 1).setReg 0x1001 (sq 8) 6).setReg 0x1001 (sq 0x1C) 6
  let s := (s.setCells 0x7000 16 [(4, st), (5, 1), (7, 1000)]).setConn 16 (some conn0)
  { s with sto := { s.sto with queues := [(0x1001, [storSlot op conn cid])] } }

/-- Such a descriptor runs. -/
theorem stor_runs (st op conn cid : Nat) (hq : ((storing st op conn cid).stepStor 0x1001).storQ 0x1001 = [storSlot op conn cid])
    (h : (storing st op conn cid).inHold = false ∧ (storing st op conn cid).regionOf (.vf 1) = some 0x1001
      ∧ ((storing st op conn cid).stepStor 0x1001).prepDone
          (((storing st op conn cid).stepStor 0x1001).descNeeds 0x1001 (storDesc op conn cid) (storList op)).2 { reads := [] } = true
      ∧ 0 < ((storing st op conn cid).stepStor 0x1001).cqRoom 0x1001
      ∧ ((storing st op conn cid).stepStor 0x1001).mayIssue (((storing st op conn cid).stepStor 0x1001).funcMaster 0x1001) = true) :
    StorRuns (storing st op conn cid) (.vf 1) op 0x1001 ((storing st op conn cid).stepStor 0x1001) (storDesc op conn cid) (storList op)
      { reads := [] } :=
  ⟨h.1, h.2.1, rfl, ⟨_, _, hq, rfl, rfl, rfl, rfl⟩, rfl, h.2.2⟩

/-- The state in which the descriptor is decided. -/
abbrev storNow (st op conn cid : Nat) : State := (storing st op conn cid).stepStor 0x1001

abbrev Stores (st op conn cid : Nat) : Prop :=
  StorRuns (storing st op conn cid) (.vf 1) op 0x1001 (storNow st op conn cid) (storDesc op conn cid) (storList op) { reads := [] }

/-- Each opcode on the connection of row 16; a registration of command 2, the retirement of command 1. -/
theorem wit_StorageConnectionsAndCommands :
    (Stores 1 1 16 0 ∧ (storNow 1 1 16 0).connCheck 1 (connRecord 1 (fit 64 (storList 1))) = 0 ∧ ((storNow 1 1 16 0).connRow 1).isSome = true)
    ∧ (Stores 1 2 16 0 ∧ (storNow 1 2 16 0).connFor 0x1001 (storDesc 2 16 0) = some conn0)
    ∧ (Stores 1 3 16 2 ∧ (storNow 1 3 16 2).connFor 0x1001 (storDesc 3 16 2) = some conn0
      ∧ (storNow 1 3 16 2).cmdCheck (storDesc 3 16 2) (some conn0) (segList 1 (storList 3)) = 0)
    ∧ (Stores 1 4 16 2 ∧ (storNow 1 4 16 2).connFor 0x1001 (storDesc 4 16 2) = some conn0
      ∧ (storNow 1 4 16 2).cmdCheck (storDesc 4 16 2) (some conn0) (segList 1 (storList 4)) = 0)
    ∧ (Stores 1 5 16 1 ∧ (storNow 1 5 16 1).connFor 0x1001 (storDesc 5 16 1) = some conn0
      ∧ ((conn0.cmds.find? fun y => y.cid == (storDesc 5 16 1).cid).map (·.quarantine)) = some none)
    ∧ Stores 2 6 16 0 ∧ (storNow 2 6 16 0).connFor 0x1001 (storDesc 6 16 0) = some conn0 ∧ (storNow 2 6 16 0).cell 0x7000 16 4 = 2 :=
  ⟨⟨stor_runs _ _ _ _ (by decide +kernel) (by decide +kernel), by decide +kernel⟩,
    ⟨stor_runs _ _ _ _ (by decide +kernel) (by decide +kernel), by decide +kernel⟩,
    ⟨stor_runs _ _ _ _ (by decide +kernel) (by decide +kernel), by decide +kernel⟩,
    ⟨stor_runs _ _ _ _ (by decide +kernel) (by decide +kernel), by decide +kernel⟩,
    ⟨stor_runs _ _ _ _ (by decide +kernel) (by decide +kernel), by decide +kernel⟩,
    stor_runs _ _ _ _ (by decide +kernel) (by decide +kernel), by decide +kernel⟩

/-- Descriptors of a connection that tenant 1 does not have; a quarantine that ends now; a queue that is disabled. -/
theorem wit_StorageNamesAndQuarantines :
    (Stores 1 2 65535 0 ∧ (storNow 1 2 65535 0).connFor 0x1001 (storDesc 2 65535 0) = none)
    ∧ (Stores 1 5 65535 0 ∧ (storNow 1 5 65535 0).connFor 0x1001 (storDesc 5 65535 0) = none)
    ∧ (Stores 1 6 65535 0 ∧ (storNow 1 6 65535 0).connFor 0x1001 (storDesc 6 65535 0) = none)
    ∧ ({ conn0 with cmds := conn0.cmds.map (·.retired 0) } : Conn).cmds.any (fun x => x.cid == 1 && x.quarantine.any (· ≤ served.now)) = true
    ∧ master.regionOf (.vf 1) = some 0x1001 ∧ master.regBits 0x1001 (sq 0x28) 0 0 = 0 ∧ bit (1 : Word).toNat 0 = true :=
  ⟨⟨stor_runs _ _ _ _ (by decide +kernel) (by decide +kernel), by decide +kernel⟩,
    ⟨stor_runs _ _ _ _ (by decide +kernel) (by decide +kernel), by decide +kernel⟩,
    ⟨stor_runs _ _ _ _ (by decide +kernel) (by decide +kernel), by decide +kernel⟩, by decide +kernel⟩

/-- A segment of the connection with `n` bytes of payload and a sequence number, with right checksums. -/
def tcpFrame (seq n : Nat) : Bytes :=
  let data := zeros n
  let tcp := fun (c : Nat) => toBE 2 1000 ++ toBE 2 4420 ++ toBE 4 seq ++ zeros 4 ++ [0x50, 0x10] ++ toBE 2 500 ++ toBE 2 c ++ [0, 0] ++ data
  let pseudo : Bytes := [10, 0, 0, 2, 10, 0, 0, 1] ++ toBE 4 (20 + n) ++ [0, 0, 0, 6]
  let ip := fun (c : Nat) => [0x45, 0] ++ toBE 2 (40 + n) ++ [0, 0, 0, 0, 64, 6] ++ toBE 2 c ++ [10, 0, 0, 2, 10, 0, 0, 1]
  [2, 0, 0, 0, 0, 1, 2, 0, 0, 0, 0, 2, 8, 0] ++ ip (65535 - onesSum (ip 0)) ++ tcp (65535 - onesSum (pseudo ++ tcp 0))

/-- The segment waits in queue 0 of vport 16, and receive ring 0 has a descriptor. -/
def segmented : State :=
  let s := (ringed (storing 1 1 16 0) false 0 1).setQueue (vportRow 16 0) [copy]
  { s with net := { s.net with buffers := [(0, some { buffer with data := tcpFrame 1000 8 })] }, sto := { s.sto with queues := [] } }

/-- What STORAGE_SEGMENT takes it from. -/
def segNow : State := segmented.vPurgeAll

/-- The connection and the segment of the frame. -/
def segOf : Option (Nat × Conn × Segment) := segNow.connOf 16 (segNow.deliveredBytes copy)

theorem wit_StorageSegmentsAreTaken :
    segmented.inHold = false ∧ segmented.regionOf (.vf 1) = some 0x1001
    ∧ (segNow.hPick (segmented.portOf 1 - 1)).map (fun x => (x.1, x.2.1)) = some (16, 0)
    ∧ segNow.queue (vportRow 16 0) = copy :: [] ∧ copy.eRow = none ∧ copy.sa = none
    ∧ segOf.map (fun x => (x.1, x.2.1, x.2.2.good, x.2.2.seq)) = some (16, conn0, true, 1000)
    ∧ (segOf.map fun x => (segNow.prepSegment 0x1001 (vportRow 16 0) 0 (segNow.segNeeds x.1 x.2.1 x.2.2).1 (segNow.segNeeds x.1 x.2.1 x.2.2).2).1.isSome)
        = some true := by decide +kernel

/-- A segment with a wrong checksum, one of a FAILED connection, the first and the last sequence number ahead of 1000, the last one
behind it. -/
theorem wit_SegmentsAreJudged :
    (⟨1000, 0, [], false⟩ : Segment).good = false ∧ (storing 3 1 16 0).cell 0x7000 16 4 = 3
    ∧ ((storing 1 1 16 0).cell 0x7000 16 4 = 1 ∧ (storing 1 1 16 0).cell 0x7000 16 7 = 1000)
    ∧ (0 < (1001 + 2 ^ 32 - 1000) % 2 ^ 32 ∧ (1001 + 2 ^ 32 - 1000) % 2 ^ 32 < 2 ^ 31
      ∧ (1000 + 2 ^ 31 - 1 + 2 ^ 32 - 1000) % 2 ^ 32 < 2 ^ 31)
    ∧ (2 ^ 31 ≤ (999 + 2 ^ 32 - 1000) % 2 ^ 32 ∧ ([7] : Bytes).length ≤ (1000 + 2 ^ 32 - 999) % 2 ^ 32) := by decide +kernel

/-! ### Witnesses: host ports and functions -/

/-- Port B in a link state, enabled, with PERST_N asserted or not. -/
def ported2 (link : Nat) (perst : Bool) : State :=
  let s := hosted.setCells (hostIx 1) 0 [(1, 1), (0x10, link)]
  s.setHport 1 { s.hport 1 with perst := perst, trained := 16 }

theorem wit_HostPortsAndTenantMaps :
    (((ported2 5 false).hport 1).perst = false ∧ (ported2 5 false).ob (hostIx 1) 1 ≠ 0 ∧ (ported2 5 false).link 1 = 5
      ∧ (ported2 5 false).devState ≠ 0 ∧ (ported2 5 false).flt.deadLinks.contains 0 = false
      ∧ 16 ≤ ((ported2 5 false).hport 1).inForce.width ∧ 1 ≤ ((ported2 5 false).hport 1).inForce.rate)
    ∧ ((ported2 0 false).link 1 = 0 ∧ 4 ≤ (ported2 0 false).ob (hostIx 1) 2 ∧ 6 ≤ (ported2 0 false).ob (hostIx 1) 3 ∧ (3 : Nat) < 4)
    ∧ ((ported2 4 false).configLive 1 = true ∧ ((ported2 4 false).hport 1).inForce.l0p = 1 ∧ 8 < ((ported2 4 false).hport 1).trained
      ∧ ({ ported2 1 false with pwr := { (ported2 1 false).pwr with vaux := true } } : State).pwr.vaux = true)
    ∧ ((ported2 0 true).hport 1).perst = true
    ∧ ((ported2 1 false).configLive 1 = true ∧ ((ported2 1 false).func 2).inFlr = false)
    ∧ (WriteRuns (ported2 1 false) fw (hostIx 1) 0 1 [0] (lapsed (ported2 1 false) (hostIx 1) 0) ∧ (lapsed (ported2 1 false) (hostIx 1) 0).startState = stOk)
    ∧ WriteRuns (served.setCell (hostIx 1) 0 1 0) fw (hostIx 1) 0 1 [1] (lapsed (served.setCell (hostIx 1) 0 1 0) (hostIx 1) 0) :=
  ⟨by decide +kernel, by decide +kernel, by decide +kernel, by decide +kernel, by decide +kernel,
    ⟨write_runs _ _ _ _ _ (by decide +kernel) (by decide +kernel), by decide +kernel⟩,
    write_runs _ _ _ _ _ (by decide +kernel) (by decide +kernel)⟩

theorem wit_TenantsAreMapped :
    (WriteRuns served fw (tenantIx 4095) 0 1 [1] (lapsed served (tenantIx 4095) 0)
      ∧ (tenantRule 4095 1).check (lapsed served (tenantIx 4095) 0) fw (ofBE [1]) = stOk ∧ (lapsed served (tenantIx 4095) 0).startState = stOk)
    ∧ (WriteRuns served fw (tenantIx 4095) 0 2 [2] (lapsed served (tenantIx 4095) 0)
      ∧ (tenantRule 4095 2).check (lapsed served (tenantIx 4095) 0) fw (ofBE [2]) = stOk)
    ∧ (WriteRuns served fw (tenantIx 4095) 0 6 [1] (lapsed served (tenantIx 4095) 0)
      ∧ (uplinkRule 4095 6).check (lapsed served (tenantIx 4095) 0) fw (ofBE [1]) = stOk)
    ∧ WriteRuns served fw (tenantIx 4095) 0 7 (toBE 4 1023) (lapsed served (tenantIx 4095) 0)
      ∧ (uplinkRule 4095 7).check (lapsed served (tenantIx 4095) 0) fw (ofBE (toBE 4 1023)) = stOk :=
  ⟨⟨write_runs _ _ _ _ _ (by decide +kernel) (by decide +kernel), by decide +kernel⟩,
    ⟨write_runs _ _ _ _ _ (by decide +kernel) (by decide +kernel), by decide +kernel⟩,
    ⟨write_runs _ _ _ _ _ (by decide +kernel) (by decide +kernel), by decide +kernel⟩,
    write_runs _ _ _ _ _ (by decide +kernel) (by decide +kernel), by decide +kernel⟩

/-- Port A has tag 3 outstanding since 0, or in quarantine until `q`. -/
def tagged (q : Option Nat) : State :=
  let s := { master with hst := { master.hst with tags := [(0, [⟨3, 0x1001, 1, 64, 0, 0, q⟩])] } }
  s.withClk fun c => { c with frcQ := 4 * s.timeoutOf 0x1001 }

theorem wit_FunctionsReadResetAndSleep :
    (((tagged none).tags (hpNo .a)).find? (fun t => t.tag == 3) = some ⟨3, 0x1001, 1, 64, 0, 0, none⟩
      ∧ (tagged none).timeoutOf 0x1001 ≤ (tagged none).now)
    ∧ (((tagged (some 0)).tags (hpNo .a)).all fun x => decide (x.tag = 3 → x.quarantine ≠ none)) = true
    ∧ ((tagged (some 0)).tags (hpNo .a)).any (fun t => t.tag == 3 && t.quarantine.any (· ≤ (tagged (some 0)).now)) = true
    ∧ (master.funcThere (.vf 1) = some 0x1001 ∧ (master.func 0x1001).busMaster = true ∧ (master.func 0x1001).dstate ≠ .d3hot)
    ∧ ((master.funcThere (.pf0 .a)).isSome = true)
    ∧ ((ownerOf (.vf 1) = 0x1001 ∧ ({ master with hst := { master.hst with funcs := [(0x1001, { inFlr := true })] } } : State).func 0x1001
        = { inFlr := true })) := by decide +kernel

/-! ### Witnesses: mailboxes and event sources -/

/-- Channel 4095 goes from slot 63 of tenant 1 to slot 0 of C00.T03, and holds notices. -/
def bound (ns : List Notice) : State :=
  let s := master.setCells 0x9000 4095 [(4, 1), (5, 1), (6, 1), (7, 63), (8, 2), (9, 3), (0xA, 0)]
  { s with rng := { s.rng with channels := [(4095, { notices := ns, nextSeq := 65535 })] } }

/-- A notice with the last sequence number. -/
def note : Notice := ⟨1, 2, 3, 4, 5, 65535, 0⟩

theorem wit_NoticesAreSentLatchedAndPopped :
    ((bound []).slotOwner (.vf 1) = some 0x1001 ∧ (bound []).sendChannel 0x1001 63 = some 4095 ∧ bit (1 : Word).toNat 0 = true
      ∧ ((bound (List.replicate 15 note)).channel 4095).notices.length < 16
      ∧ 16 ≤ ((bound (List.replicate 16 note)).channel 4095).notices.length)
    ∧ (bound []).sendChannel 0x1001 0 = none
    ∧ ((bound [note]).slotOwner (.thread 3) = some 0x2003 ∧ (bound [note]).recvChannel 0x2003 0 = some 4095
      ∧ ((bound [note]).channel 4095).notices = note :: [] ∧ note.seq = (0xFFFF : Word).toNat % 65536 ∧ note.seq ≠ (0 : Word).toNat % 65536)
    ∧ WriteRuns served fw 0x9001 0 1 [1] (lapsed served 0x9001 0) ∧ (lapsed served 0x9001 0).startState = stOk ∧ ofBE [1] = 1 :=
  ⟨by decide +kernel, by decide +kernel, by decide +kernel, write_runs _ _ _ _ _ (by decide +kernel) (by decide +kernel), by decide +kernel⟩

/-- Source 0xFFE (1 level, 2 edge) in a state, enabled and aimed at C00.T03, claimed by a context or by none. -/
def sourced (kind st claimed : Nat) : State :=
  let s := (served.setCells 0x9100 0xFFE [(4, kind), (5, 1), (6, 7), (7, 1), (8, 3)]).setSrc 0xFFE st
  { s with rng := { s.rng with claimed := NMap.put 0 s.rng.claimed 0xFFE claimed } }

/-- A record of event 0x0807 of this moment. -/
def noisy : State := { sourced 2 1 0 with log := { (sourced 2 1 0).log with limits := [⟨0x0807, 0, 0, 0⟩] } }

theorem wit_SourcesArePendingActiveAndIdle :
    ((sourced 2 0 0).srcState 0xFFE = 0 ∧ (sourced 2 0 0).cell 0x9100 0xFFE 4 = 2 ∧ (sourced 1 0 0).cell 0x9100 0xFFE 4 = 1
      ∧ (sourced 1 0 0).rng.levels.contains 0xFFE = false)
    ∧ ((sourced 1 1 0).srcState 0xFFE = 1 ∧ (sourced 2 1 0).srcState 0xFFE = 1 ∧ (sourced 2 2 4).srcState 0xFFE = 2
      ∧ (sourced 1 2 4).srcState 0xFFE = 2)
    ∧ ((sourced 2 1 0).ctxLive (.thread 3) = true
      ∧ (sourced 2 1 0).select (ctxNo (.thread 3)) ((sourced 2 1 0).claimFloor (ctxNo (.thread 3))) = some 0xFFE)
    ∧ ((sourced 2 0 0).select (ctxNo (.thread 3)) ((sourced 2 0 0).claimFloor (ctxNo (.thread 3))) = none
      ∧ (sourced 2 0 0).rng.delivered.contains (ctxNo (.thread 3)) = false)
    ∧ (2 ≤ (sourced 2 3 4).srcState 0xFFE ∧ NMap.at 0 (sourced 2 3 4).rng.claimed 0xFFE = ctxNo (.thread 3) + 1)
    ∧ ((sourced 2 1 0).srcState 0xFFE < 2 ∧ (sourced 2 1 0).log.limits.find? (fun l => l.code == 0x0807 && l.key == 0) = none
      ∧ (sourced 2 1 0).log.staged.length < 4096)
    ∧ (noisy.log.limits.find? (fun l => l.code == 0x0807 && l.key == 0) = some ⟨0x0807, 0, 0, 0⟩ ∧ noisy.now - 0 < 1000000000)
    ∧ (within 0xE00 0xFFE 0xFFE = true ∧ within 0xE00 0xFFE 0xFFF = false)
    ∧ served.funcLive (portMaster .b) = true ∧ served.maySetPend (portMaster .b) = false := by decide +kernel

/-! ### Witnesses: threads, cells, DMA -/

/-- C15.T15 in a state, with event bits; C15.T14 is its child, in another. -/
def threaded (st child events : Nat) : State :=
  let s := (served.setCells 0x93F0 255 [(4, 5), (5, st)]).setCells 0x93F0 254 [(4, 5), (5, child), (9, 255)]
  s.setThread 255 { events := events }

/-- The child waits for the highest bit that a SIGNAL can set. -/
def awaiting : State :=
  ((threaded 2 4 0).setCell 0x93F0 254 7 0x40000000).setThread 254 { waits := 1, deadline := some 0 }

theorem wit_ThreadsWaitForkAndEnter :
    ((threaded 2 1 1).thSt (255 : Thread).val = 2 ∧ (threaded 2 1 1).deadlineOf 255 0xFFFFFFFFFFFFFFFF = none
      ∧ (threaded 2 1 1).deadlineOf 255 60000000000 = some (some 60000000000)
      ∧ ((threaded 2 1 1).thread 255).events &&& (1 : Word).toNat ≠ 0 ∧ ((threaded 2 1 1).thread 255).events &&& (2 : Word).toNat = 0
      ∧ (some 60000000000 : Option Nat).all ((threaded 2 1 1).now < ·) = true)
    ∧ ((threaded 2 5 0).thSt 254 = 5 ∧ (threaded 2 5 0).cell 0x93F0 254 9 = 255)
    ∧ ((threaded 2 1 0).thSt 254 ≠ 5 ∧ ((threaded 2 1 0).thread 254).killed = false ∧ (threaded 2 1 0).thSt 254 ≠ 0 ∧ (threaded 2 1 0).thSt 254 ≠ 4)
    ∧ (awaiting.thSt 255 = 2 ∧ awaiting.thSt 254 = 4 ∧ (awaiting.thread 254).waits = 1
      ∧ ((awaiting.thread 254).events ||| (0x40000000 : Word).toNat % 2 ^ 31) &&& awaiting.cell 0x93F0 254 7 ≠ 0)
    ∧ ((threaded 2 1 0).freeThread (255 / 16) = some 240)
    ∧ ((threaded 3 1 0).thSt 255 = 3 ∧ ((threaded 3 1 0).thread 255).stopAsked = false)
    ∧ awaiting.thSt (254 : Thread).val = 4 ∧ (awaiting.thread 254).deadline.any (· ≤ awaiting.now) = true := by decide +kernel

/-- C00.T03 runs while an enabled source of a priority above its own is pending; it has one priority saved. -/
def interrupted (pending : Nat) : State :=
  let s := ((sourced 2 pending 0).setCells 0x93F0 3 [(4, 5), (5, 2)]).setThread 3 { saved := [7] }
  s

theorem wit_ThreadsEnterAndLeave :
    (interrupted 1).thSt (3 : Thread).val = 2 ∧ (interrupted 1).deliverable 3 = some 0xFFE ∧ (interrupted 1).inPhase 3 1 = false
    ∧ (interrupted 1).inPhase 3 2 = false ∧ ((interrupted 0).thread 3).saved = 7 :: [] ∧ (interrupted 0).select 3 (7 + 1) = none := by
  decide +kernel

/-- C15.T15 with debug unlocked, in a state. -/
def debugged (st : Nat) : State := ((threaded st 0 0).setOb 0x1300 0x12 1).setThread 255 { prior := 7 }

/-- The only watched thread waits, and has for the detector's window. -/
def quiet : State :=
  let s := served.setCells 0x93F0 255 [(4, 5), (5, 4)]
  { s with thr := { s.thr with armed := true, quietFrom := 0, window := 1 } }.withClk fun c => { c with frcQ := 4000000 }

/-- The supervisor waits without a deadline and has for ten windows; it has failed. -/
def silent (st : Nat) : State :=
  let s := served.setCells 0x93F0 0 [(4, 1), (5, st)]
  { s with thr := { s.thr with backup := true, window := 1 } }.withClk fun c => { c with frcQ := 40000000 }

theorem wit_ThreadsFaultStopAndRestart :
    ((threaded 4 0 0).thSt 255 = 4 ∧ (5 : Nat) ≤ 5) ∧ (threaded 7 0 0).thSt 255 = 7
    ∧ ((debugged 7).mayDebug 255 = true ∧ (debugged 7).thSt 255 ∈ [1, 2, 4, 7] ∧ (debugged 3).thSt 255 = 3
      ∧ (debugged 6).mayDebug 255 = true ∧ (debugged 6).thSt 255 = 6)
    ∧ ((served.setCells 0x93F0 255 [(4, 4)]).thSt 255 = 0 ∧ (served.setCells 0x93F0 255 [(4, 4)]).role 255 = 4)
    ∧ ((List.range 256).filter quiet.watched = [255] ∧ quiet.thr.armed = true ∧ quiet.thSt 255 = 4
      ∧ quiet.thr.quietFrom + quiet.thr.window * 1000000 ≤ quiet.now)
    ∧ ((silent 4).ob 0x9400 1 = 0 ∧ (silent 4).thSt 0 = 4 ∧ ((silent 4).thread 0).deadline = none ∧ (silent 4).ob 0x9400 5 = 0
      ∧ ((silent 4).thread 0).waitFrom + 10 * ((silent 4).thr.window * 1000000) ≤ (silent 4).now)
    ∧ (silent 7).thr.backup = true ∧ (silent 7).ob 0x9400 1 < 128 ∧ (silent 7).thSt ((silent 7).ob 0x9400 1) = 7 := by decide +kernel

/-- An image of a period of 1,000 µs without blocks, with a template of stream 4. -/
def image : CellImage := ⟨1000, 10, 0, 3, [], [], [⟨4, zeros 64, 0xFFFF⟩], zeros 16⟩

/-- Cell 4095 placed on C09.T15 with the image, in a device state and with a run in progress or not; stream 4 is its own. -/
def celled (dev : Nat) (running : Bool) : State :=
  let s := ((served.setOb 0x1300 4 dev).placeCell 4095 5 9 15).setCells (cellIx 4095) 0 [(2, 1), (4, 3), (5, 3)]
  let s := (s.setCells 0x4000 4 [(4, 1), (0x32, 2 * 65536 + 4095), (0x33, 7)]).setCells 0x93F0 159 [(4, 4), (5, 4)]
  s.setCellDyn 4095 { image := some image, running := running, runMode := 3, lastFrames := [(4, zeros 64)] }

theorem wit_CellsAreReleasedAndRun :
    (((celled 1 false).cellDyn 4095).image = some image ∧ (celled 1 false).placeOf 4095 = some (9, 15) ∧ (celled 1 false).devState = 1
      ∧ ((celled 1 false).dueRelease 4095 ((celled 1 false).cellDyn 4095) image).isSome = true
      ∧ ((celled 1 false).cellDyn 4095).running = false ∧ (celled 1 false).executorUp (16 * 9 + 15) = true)
    ∧ (((celled 1 true).cellDyn 4095).running = true ∧ (celled 1 true).executorUp (16 * 9 + 15) = true
      ∧ ((celled 1 true).dueRelease 4095 ((celled 1 true).cellDyn 4095) image).isSome = true
      ∧ ((celled 1 true).cellDyn 4095).runMode = 3 ∧ (image.templates.all fun x => (celled 1 true).admitted x.stream) = true)
    ∧ ((celled 3 false).devState = 3 ∧ ((celled 3 false).dueRelease 4095 ((celled 3 false).cellDyn 4095) image).isSome = true
      ∧ (celled 3 false).ob (cellIx 4095) 5 = 3 ∧ ((celled 3 false).cellDyn 4095).lastFrames.length = image.templates.length
      ∧ (image.templates.all fun x => (celled 3 false).admitted x.stream) = true) := by decide +kernel

/-- Cell 4095 in Track. -/
def tracking : State := (celled 1 false).setCells (cellIx 4095) 0 [(4, 1), (5, 1)]

theorem wit_CellsAreWritten :
    (WriteRuns tracking fw (cellIx 4095) 0 4 [2] (lapsed tracking (cellIx 4095) 0) ∧ (lapsed tracking (cellIx 4095) 0).startState = stOk
      ∧ (cellModeRule 4095).check (lapsed tracking (cellIx 4095) 0) fw (ofBE [2]) = stOk)
    ∧ WriteRuns tracking fw (cellIx 4095) 0 0x1A [1] (lapsed tracking (cellIx 4095) 0) ∧ ofBE [1] = 1
      ∧ (lapsed tracking (cellIx 4095) 0).ob (cellIx 4095) 5 = 1 ∧ ((lapsed tracking (cellIx 4095) 0).cellDyn 4095).image.isSome = true :=
  ⟨⟨write_runs _ _ _ _ _ (by decide +kernel) (by decide +kernel), by decide +kernel⟩,
    write_runs _ _ _ _ _ (by decide +kernel) (by decide +kernel), by decide +kernel⟩

/-- Channel 31 belongs to C00.T00; its setup names a mode, in shared SRAM, of `n` bytes. -/
def chan (mode n status : Nat) : State :=
  let s := served.setCells 0x9200 0 [(1, 0), (0x2F, 0x2000)]
  let s := (s.setReg 0 (dmaOff 31 0) (BitVec.ofNat 32 (mode + 16 * 4 + 16 * 512 + 2 * 2 ^ 16 + 2 * 2 ^ 20))).setReg 0 (dmaOff 31 4) (BitVec.ofNat 32 n)
  (s.setReg 0 (dmaOff 31 0x10) 0x400000).setReg 0 (dmaOff 31 0x20) (BitVec.ofNat 32 status)

/-- An operation in shared SRAM of 128 bytes. -/
def dmaOp (mode made : Nat) (hold : Bytes) (differs : Option Nat) : Dma :=
  { op := mode + 16 * 4 + 16 * 512 + 2 * 2 ^ 16 + 2 * 2 ^ 20, len := 128, src := 0, dst := 0x400000, source := { hold := hold }
    made := made, differs := differs }

/-- Channel 31 runs it. -/
def moving (d : Dma) : State := (chan 1 128 1).setDma 31 (some d)

theorem wit_DmaOperationsRunAndEnd :
    (dmaMode ((chan 1 128 0).dmaSetup 31) = 1 ∧ dmaMode ((chan 2 128 0).dmaSetup 31) = 2 ∧ dmaMode ((chan 3 128 0).dmaSetup 31) = 3
      ∧ ((chan 1 128 0).dmaMay 0x2000 31 0x18).1 = true ∧ (chan 1 128 0).dmaBusy 31 = false
      ∧ dmaRange ((chan 1 128 0).dmaSetup 31) = true ∧ (chan 1 128 0).dmaSpaces ((chan 1 128 0).dmaThread 31) ((chan 1 128 0).dmaSetup 31) = true
      ∧ ((chan 1 128 0).dmaBuffer 31 ((chan 1 128 0).dmaSetup 31)).isNone = false ∧ dmaHosts ((chan 1 128 0).dmaSetup 31) = []
      ∧ dmaRange ((chan 1 0 0).dmaSetup 31) = false)
    ∧ (chan 1 128 1).dmaBusy 31 = true ∧ ((chan 1 128 0).dmaMay 2 31 0x18).1 = false
    ∧ ((moving (dmaOp 1 0 (zeros 16) none)).dmaOp 31 = some (dmaOp 1 0 (zeros 16) none)
      ∧ nextChannel (moving (dmaOp 1 0 (zeros 16) none)).dma.lastWrite
          (fun k => ((moving (dmaOp 1 0 (zeros 16) none)).dmaOp k).any dmaWrites) = some 31
      ∧ dmaDs (dmaOp 1 0 (zeros 16) none) = 2 ∧ dmaMode (dmaOp 1 0 (zeros 16) none) = 1
      ∧ ((List.range 32).all fun ch => ((moving (dmaOp 1 0 (zeros 16) none)).dmaOp ch).all fun d =>
          decide (d.source.hold.length ≤ d.room) && decide (d.target.hold.length ≤ d.room)) = true)
    ∧ ((moving (dmaOp 3 0 [] (some 17))).dmaOp 31).any (fun d => decide (d.differs = some 17)) = true
    ∧ ((moving (dmaOp 1 128 [] none)).dmaOp 31).any (fun d => d.differs.isNone && decide (d.len ≤ d.made)) = true
    ∧ ((moving (dmaOp 1 0 [] none)).dmaMay 0x2000 31 0x1C).1 = true := by decide +kernel

theorem wit_StationChannelsAreWritten : WriteRuns served fw 0x9200 0 1 [32] (lapsed served 0x9200 0)
    ∧ stationChannelsRule.check (lapsed served 0x9200 0) fw (ofBE [32]) = stOk :=
  ⟨write_runs _ _ _ _ _ (by decide +kernel) (by decide +kernel), by decide +kernel⟩

/-! ### Witnesses: time, resets, flash, faults, the pair -/

/-- Port 1023 has PTP on under instance 3, in a state of its port, with a profile; instance `source` is the time source. -/
def timed (port profile source : Nat) : State :=
  let s := (open_ 0).setCells 0x1220 1023 [(4, 1), (5, 3), (0xA, port), (0xB, 7)]
  let s := (s.setCells 0x1210 3 [(4, 1), (5, profile)]).setCells 0x1200 0 [(1, 1), (3, source)]
  let s := s.setPtpDyn 1023 { sent := some 5, got := some 900000000000, sync := some (5, 9) }
  s.withClk fun c => { c with tai := 900000000000 }

/-- The difference that the Follow_Up of 0 shows there. -/
def shown (s : State) : Int := 900000000000 - 0 - ((s.cell 0x1220 1023 0xB : Int) + decI 32 (s.cell 0x1220 1023 9)) * 65536

theorem wit_PtpMessagesAreTaken :
    ((timed 5 1 4).ptpUp 1023 = true ∧ (timed 5 1 4).cell 0x1220 1023 4 ≠ 0 ∧ (timed 5 1 4).ptpOn 1023 = true)
    ∧ (served.ptpUp 1025 = true ∧ served.cell 0x1220 1025 4 = 0)
    ∧ (((timed 5 1 4).ptpDyn 1023).got = some 900000000000 ∧ (timed 5 1 4).cell 0x1220 1023 0xA = 5
      ∧ (timed 5 1 0).ob 0x1200 3 ≠ (timed 5 1 0).ptpInst 1023 + 1 ∧ (timed 5 1 4).ob 0x1200 3 = (timed 5 1 4).ptpInst 1023 + 1
      ∧ (timed 5 1 4).ob 0x1200 1 = 1 ∧ (timed 5 1 4).ob 0x1201 6 * 65536 < (shown (timed 5 1 4)).natAbs)
    ∧ (((timed 5 1 4).ptpDyn 1023).sent = some 5 ∧ (timed 5 1 4).ptpProfile 1023 ≠ 2)
    ∧ (((timed 2 2 4).ptpDyn 1023).sync = some (5, 9) ∧ (timed 2 2 4).ptpProfile 1023 = 2 ∧ (timed 2 2 4).cell 0x1220 1023 0xA = 2
      ∧ (timed 2 2 4).ptpOn 1023 = true ∧ (timed 2 2 4).ptpUp 1023 = true) := by decide +kernel

/-- Pulses came until 1.1 s ago, the seconds of the next one are written, and PPS_OUT is on. -/
def pulsing : State :=
  let s := (served.setOb 0x1202 1 1).setOb 0x1202 4 1
  s.withClk fun c => { c with frcQ := 4400000000, ppsHere := true, ppsLast := some 0, ppsNext := some 5 }

/-- In HOLDOVER, with no source left, for as long as 0x1201:05 allows; core reference 0 in use and both present. -/
def holding : State := (((served.setOb 0x1200 1 3).setOb 0x1200 2 0).setOb 0x1203 2 0).withClk fun c => { c with frcQ := 4000000000 * 2 ^ 24 }

/-- SAFE_HOLD by a trip from SERVICE, with every sensor cool for a second. -/
def cooled : State :=
  let s := (served.setOb 0x1300 4 3).withClk fun c => { c with frcQ := 4000000000, holdCool := some 0 }
  { s with pwr := { s.pwr with heldFrom := 1 } }

theorem wit_TimeSourcesAreFollowed :
    (WriteRuns served fw 0x1202 0 3 (toBE 8 5) (lapsed served 0x1202 0) ∧ (lapsed served 0x1202 0).startState = stOk)
    ∧ (pulsing.ob 0x1202 1 = 1 ∧ pulsing.clk.ppsNext.isSome = true ∧ pulsing.clk.ppsHere = true
      ∧ pulsing.clk.ppsLast.all (fun t => decide (t + 1000001000 < pulsing.now)) = true ∧ pulsing.ob 0x1202 4 = 1)
    ∧ (holding.ob 0x1200 1 = 3 ∧ holding.clk.holdFrom + holding.ob 0x1201 5 * 1000000000 ≤ holding.now ∧ holding.firstSource = 0)
    ∧ (holding.ob 0x1203 2 ≤ 1 ∧ holding.coreRefHere (1 - holding.ob 0x1203 2) = true)
    ∧ (served.clk.excluded.contains 25 = false ∧ -480 ≤ decI 16 (encI 16 (-480)) ∧ decI 16 (encI 16 (-480)) ≤ 1600
      ∧ encI 16 (-480) ≠ served.ob 0x1002 (2 + 25) ∧ ((List.replicate 26 (-480 : Int)).map (encI 16)).getD 25 0 = encI 16 (-480))
    ∧ (served.pwr.inReset = false ∧ served.devState < 3)
    ∧ cooled.inHold = true ∧ cooled.pwr.heldFrom ≠ 3 ∧ cooled.clk.holdCool.any (fun t => decide (t + 1000000000 ≤ cooled.now)) = true :=
  ⟨⟨write_runs _ _ _ _ _ (by decide +kernel) (by decide +kernel), by decide +kernel⟩, by decide +kernel⟩

/-- In reset, at a step of the power sequence, after attempts, a loss of PWR_OK or none. -/
def sequencing (step tries : Nat) (loss : Option Nat) : State :=
  { served with pwr := { served.pwr with inReset := true, vaux := true, pwrOk := false, railStep := step, seqTries := tries, lossRec := loss } }

/-- A bank that can be booted. -/
def image9 : Bank := { state := 0xFC, sequence := 9, check := 0xFFFFFFFF - 9, good := true }

/-- In reset with all rails on and firmware in bank 1 only, or in none. -/
def releasing (b : Bank) : State :=
  { sequencing 8 0 none with pwr := { (sequencing 8 0 none).pwr with fwA := {}, fwB := b } }

/-- The watchdog was written two seconds ago by the supervisor C00.T03. -/
def watched : State := ((served.setOb 0x9400 1 3).setThSt 3 2).withClk fun c => { c with frcQ := 8000000000 }

theorem wit_ResetsBeginAndAreReleased :
    (({ served with pwr := { served.pwr with pwrOk := true } } : State).pwr.pwrOk = true
      ∧ ({ served with pwr := { served.pwr with pendingReset := some 7 } } : State).pwr.pendingReset = some 7)
    ∧ (watched.watchdogOut = true ∧ (3 : Thread).val = watched.ob 0x9400 1 ∧ watched.thSt 3 = 2)
    ∧ ((sequencing 7 0 none).pwr.inReset = true ∧ (sequencing 7 0 none).pwr.vaux = true ∧ (sequencing 7 0 none).pwr.lockout = false
      ∧ (sequencing 7 0 none).pwr.railStep < 8 ∧ (sequencing 7 0 none).pwr.railStep ≠ 0 ∧ (sequencing 7 0 none).pwr.pwrOk = false)
    ∧ ((sequencing 0 2 none).pwr.railStep = 0 ∧ 0 < (sequencing 0 2 none).pwr.seqTries ∧ (sequencing 0 2 none).pwr.lockout = false)
    ∧ ((sequencing 0 0 (some 1)).pwr.lossRec.isSome = true ∧ (sequencing 0 0 (some 1)).pwr.pwrOk = false
      ∧ (sequencing 0 0 (some 1)).pwr.warnLow = false)
    ∧ ((releasing {}).releasable = true ∧ (releasing {}).pwr.attempts < 3 ∧ newest (releasing {}).pwr.fwA (releasing {}).pwr.fwB = none
      ∧ (releasing image9).releasable = true ∧ newest (releasing image9).pwr.fwA (releasing image9).pwr.fwB = some 1)
    ∧ ((served.setOb 0x1300 4 0).pwr.inReset = false ∧ (served.setOb 0x1300 4 0).devState = 0)
    ∧ (WriteRuns served fw 0x1300 0 1 [2] (lapsed served 0x1300 0) ∧ resetRule.check (lapsed served 0x1300 0) fw (ofBE [2]) = stOk)
    ∧ WriteRuns served fw 0x1300 0 1 [1] (lapsed served 0x1300 0) ∧ resetRule.check (lapsed served 0x1300 0) fw (ofBE [1]) = stOk :=
  ⟨by decide +kernel, by decide +kernel, by decide +kernel, by decide +kernel, by decide +kernel, by decide +kernel, by decide +kernel,
    ⟨write_runs _ _ _ _ _ (by decide +kernel) (by decide +kernel), by decide +kernel⟩,
    write_runs _ _ _ _ _ (by decide +kernel) (by decide +kernel), by decide +kernel⟩

/-- Firmware banks and a staged image or none; SERVICE. -/
def banked (a b : Bank) (staged : Option (Nat × Bool × Nat × Nat)) (st : Nat) : State :=
  let s := served.setOb 0x1302 3 st
  { s with pwr := { s.pwr with fwA := a, fwB := b, staged := staged, booted := 0 } }

/-- A bank programmed and not activated. -/
def programmed : Bank := { state := 0xFC, good := true }

/-- Bank 1 beside the booted bank 0: newer, and its image one that the hitless switch may take. -/
def hitless9 : Bank := { image9 with sequence := 10, check := 0xFFFFFFFF - 10, hitless := true }

/-- Each firmware command with a state in which its checks pass. -/
def staging : State := banked image9 {} (some (3, true, 0, 500)) 1
def waiting2 : State := banked image9 programmed none 5
def ready4 : State := banked image9 hitless9 none 6

theorem wit_FirmwareCommandsBegin :
    (WriteRuns staging fw 0x1302 0 2 (toBE 1 1) (lapsed staging 0x1302 0) ∧ fwCommandRule.check (lapsed staging 0x1302 0) fw 1 = stOk)
    ∧ (WriteRuns staging fw 0x1302 0 2 (toBE 1 3) (lapsed staging 0x1302 0) ∧ fwCommandRule.check (lapsed staging 0x1302 0) fw 3 = stOk)
    ∧ (WriteRuns staging fw 0x1302 0 2 (toBE 1 5) (lapsed staging 0x1302 0) ∧ fwCommandRule.check (lapsed staging 0x1302 0) fw 5 = stOk)
    ∧ (WriteRuns waiting2 fw 0x1302 0 2 (toBE 1 2) (lapsed waiting2 0x1302 0) ∧ fwCommandRule.check (lapsed waiting2 0x1302 0) fw 2 = stOk)
    ∧ (WriteRuns ready4 fw 0x1302 0 2 (toBE 1 4) (lapsed ready4 0x1302 0) ∧ fwCommandRule.check (lapsed ready4 0x1302 0) fw 4 = stOk)
    ∧ (WriteRuns served fw 0x1301 0 1 [1] (lapsed served 0x1301 0) ∧ commitRule.check (lapsed served 0x1301 0) fw (ofBE [1]) = stOk)
    ∧ WriteRuns served fw 0x1300 0 0x11 (zeros 128) (lapsed served 0x1300 0) ∧ (lapsed served 0x1300 0).startState = stOk :=
  ⟨⟨write_runs _ _ _ _ _ (by decide +kernel) (by decide +kernel), by decide +kernel⟩,
    ⟨write_runs _ _ _ _ _ (by decide +kernel) (by decide +kernel), by decide +kernel⟩,
    ⟨write_runs _ _ _ _ _ (by decide +kernel) (by decide +kernel), by decide +kernel⟩,
    ⟨write_runs _ _ _ _ _ (by decide +kernel) (by decide +kernel), by decide +kernel⟩,
    ⟨write_runs _ _ _ _ _ (by decide +kernel) (by decide +kernel), by decide +kernel⟩,
    ⟨write_runs _ _ _ _ _ (by decide +kernel) (by decide +kernel), by decide +kernel⟩,
    write_runs _ _ _ _ _ (by decide +kernel) (by decide +kernel), by decide +kernel⟩

/-- A commit to bank 1, a firmware command at a state of 0x1302:03, or a switch at a core, goes on. -/
def committing : State :=
  let c : Commit := { bank := 1, cells := [], blobs := [], keys := [], master := 3, reset := none }
  { served with pwr := { served.pwr with commit := some c, cfgA := { image9 with sequence := 0xFFFFFFFD, check := 2 } } }
def programming (x st : Nat) : State :=
  let s := served.setOb 0x1302 3 st
  { s with pwr := { s.pwr with fwJob := some (x, 1) } }
def switching (c : Nat) : State := { served with pwr := { served.pwr with switching := some c } }

/-- Row 7 waits for its mark. -/
def marking : State := { served with cip := { served.cip with markWait := [(7, 2 ^ 64 - 1)] } }

theorem wit_FlashIsCommittedAndProgrammed :
    served.pwr.inReset = false
    ∧ (committing.pwr.commit = some { bank := 1, cells := [], blobs := [], keys := [], master := 3, reset := none }
      ∧ committing.pwr.warnLow = false ∧ committing.ob 0x1301 7 ≠ 1 ∧ (committing.cfgBank (1 - 1)).sequence < 0xFFFFFFFE)
    ∧ ((programming 3 2).pwr.fwJob = some (3, 1) ∧ (programming 3 2).pwr.warnLow = false ∧ (programming 3 2).ob 0x1302 3 = 2
      ∧ (programming 3 3).ob 0x1302 3 = 3 ∧ (programming 1 4).ob 0x1302 3 = 4 ∧ (programming 2 5).ob 0x1302 3 = 5)
    ∧ ((switching 0).pwr.switching = some 0 ∧ (switching 15).pwr.switching = some 15)
    ∧ (served.pwr.warnLow = false ∧ ({ served with pwr := { served.pwr with warnLow := true } } : State).pwr.warnLow = true)
    ∧ (served.log.staged.length + served.log.flash.length ≤ 2340864 ∧ served.devState ≠ 0 ∧ served.devState ≠ 4)
    ∧ (NMap.at 0 marking.cip.markWait 7 ≠ 0 ∧ NMap.at 0 marking.cip.markWait 7 < 2 ^ 64)
    ∧ (served.pwr.avsOff = false ∧ (served.setCells 0xB000 0 [(2, 800), (3, 1)]).ob 0xB000 3 ≠ 0
      ∧ (served.setCells 0xB000 0 [(2, 800), (3, 1)]).ob 0xB000 2 ≤ 800 ∧ avsNext 800 795 ≠ 800) := by decide +kernel

/-- Unit 1087 serves port 1023 from row 1087 of 0x2500; `heldPort` waits for its failover. -/
def serving : State := (open_ 0).setCells 0x2500 1087 [(4, 1023), (5, 1)]
def heldPort : State :=
  let s := serving.setSched 1023 { serving.sched 1023 with held := true, failed := [1087] }
  { s with flt := { s.flt with recovering := [1087, laneRow 33, coreRow 15] } }

/-- RECOVERY for 100 ms; rows in repair; link 4 in training for the second time. -/
def repairing : State :=
  let s := (served.setOb 0x1300 4 2).withClk fun c => { c with frcQ := 400000000 }
  { s with flt := { s.flt with badRows := [7], reloading := [0x3800 * 2 ^ 32 + 9], training := [4], retrains := [(4, 1)] } }

theorem wit_FailedUnitsAreReplaced :
    (serving.unitGood 1087 = true ∧ serving.servedPort 1087 = some 1023)
    ∧ ((heldPort.sched 1023).held = true ∧ 1087 ∈ (heldPort.sched 1023).failed)
    ∧ (served.unitGood (laneRow 31) = true ∧ served.cell 0x9311 31 4 ≠ 3 ∧ served.unitGood (coreRow 15) = true
      ∧ served.unitGood (hbmRow 1) = true)
    ∧ (heldPort.flt.recovering.contains (laneRow 33) = true ∧ heldPort.flt.recovering.contains (coreRow 15) = true
      ∧ heldPort.ob 0x9400 1 / 16 ≠ 15)
    ∧ ((∀ ch, MemUnit.imageSlot 16383 ≠ .dmaSource ch) ∧ memRow (.hbmTable 1) = some (hbmRow 1))
    ∧ ((moving (dmaOp 1 0 [] none)).dmaSource (31 : Channel).val = some (.imageSlot 0) ∧ (moving (dmaOp 1 0 [] none)).dmaOp 31 = some (dmaOp 1 0 [] none))
    ∧ (repairing.flt.badRows.contains 7 = true ∧ repairing.reloads 0x3800 9 = true)
    ∧ (served.flt.deadLinks.contains 4 = false ∧ served.flt.training.contains 4 = false ∧ repairing.flt.training.contains 4 = true
      ∧ 1 ≤ NMap.at 0 repairing.flt.retrains 4)
    ∧ repairing.devState = 2 ∧ repairing.flt.since + 100000000 ≤ repairing.now ∧ repairing.pwr.pendingReset = none :=
  ⟨by decide +kernel, by decide +kernel, by decide +kernel, by decide +kernel, ⟨nofun, by decide +kernel⟩, by decide +kernel,
    by decide +kernel, by decide +kernel, by decide +kernel⟩

/-- The pair is on with partner 9, which was heard 100 µs ago. -/
def paired : State :=
  (served.setCells 0xC000 0 [(1, 1), (2, 9), (3, 2), (4, 8), (5, 1)]).withClk fun c => { c with frcQ := 400000 }

/-- A message of the partner's, and one of another node's. -/
def pairMsg (node : Nat) : PairMsg := { node := node, devState := 1, failed := 0, committed := 5, firmware := 9, offset := -4, records := [] }

/-- An ARP request for 10.0.0.1, and a frame of no protocol of the device's, without their FCS. -/
def arp : Bytes :=
  [0xFF, 0xFF, 0xFF, 0xFF, 0xFF, 0xFF, 2, 0, 0, 0, 0, 1, 8, 6, 0, 1, 8, 0, 6, 4, 0, 1, 2, 0, 0, 0, 0, 1, 10, 0, 0, 2]
    ++ zeros 6 ++ [10, 0, 0, 1] ++ zeros 18
def foreign : Bytes := zeros 60

/-- A frame with its FCS. -/
def closed (b : Bytes) : Bytes := b ++ toLE 4 (crc32 b)

theorem wit_PairAndManagementMessages :
    (paired.ob 0xC000 3 ≠ 255 ∧ paired.pairOn = true ∧ (pairMsg 9).node = paired.ob 0xC000 2 ∧ (pairMsg 8).node ≠ paired.ob 0xC000 2
      ∧ paired.ob 0xC000 5 = 1 ∧ paired.flt.pairLast + 100000 ≤ paired.now)
    ∧ (addressed.ob (mgmtIx .m0) 2 = 4 ∧ 64 ≤ (closed arp).length ∧ (closed arp).take ((closed arp).length - 4) = arp
      ∧ crc32 arp = le (closed arp) ((closed arp).length - 4) 4 ∧ addressed.deviceFrame (parseLayer arp 0) arp = some .arp)
    ∧ (closed foreign).take ((closed foreign).length - 4) = foreign ∧ addressed.deviceFrame (parseLayer foreign 0) foreign = none := by
  decide +kernel

/-! ### Well-formedness refuses every operand that does not fit -/

/-- A dictionary path and a Dolux message that are well formed, and such as are not. -/
def v : Via := .firmware 0
def m : DoluxMsg := ⟨.mgmt .m0, zeros 60⟩
def badVia : Via := .window .a 65535
def badMsg : DoluxMsg := ⟨.mgmt .m0, zeros 13⟩

/-- A byte string one byte longer than `n`. -/
def overLen (n : Nat) : Bytes := List.replicate (n + 1) 0

theorem test_wf_refuses_1 : ([
  .read badVia 0 0, .read v 65536 0, .read v 0 256, .write badVia 0 0 [], .write v 65536 0 [], .write v 0 256 [],
  .write v 0 0 (overLen 4096), .domainRead badVia 0 0 0 0, .domainRead v 65536 0 0 0, .domainRead v 0 256 0 0, .domainRead v 0 0 (2 ^ 32) 0,
  .domainRead v 0 0 0 65536, .domainWrite badVia 0 0 0 0 [], .domainWrite v 65536 0 0 0 [], .domainWrite v 0 256 0 0 [],
  .domainWrite v 0 0 (2 ^ 32) 0 [], .domainWrite v 0 0 0 (2 ^ 32) [], .domainWrite v 0 0 0 0 (overLen 4096), .identify badMsg,
  .doluxDatagramDropped badMsg, .rowSelect badVia 0 0, .rowSelect v 65536 0, .rowSelect v 0 (2 ^ 32), .commit badVia 0, .commit v 65536,
  .clear badVia 0, .clear v 65536, .load badVia 0, .load v 65536, .batchOpen badVia, .batchClose badVia, .batchDiscard badVia,
  .batchTimeout 65536, .domainTransferTimeout 65536 0, .domainTransferTimeout 0 256, .acquire badVia 0 0, .acquire v 65536 0,
  .acquire v 0 (2 ^ 24), .renew badVia 0 0, .renew v 65536 0] : List Instr).all (fun c => !c.wf) = true := by decide +kernel

theorem test_wf_refuses_2 : ([
  .renew v 0 (2 ^ 24), .release badVia 0 0, .release v 65536 0, .release v 0 (2 ^ 24), .take badVia 0 0, .take v 65536 0,
  .take v 0 (2 ^ 24), .leaseExpiry 65536, .fastPathWrite 65536 0 [], .fastPathWrite 0 (2 ^ 26) [], .fastPathWrite 0 0 (overLen 4096),
  .registerWrite (.vf 1) ⟨.bar, 2 ^ 26⟩ [], .registerWrite (.vf 1) ⟨.bar, 0⟩ (overLen 4096), .readClear (.vf 1) ⟨.bar, 2 ^ 26, 0⟩,
  .readClear (.vf 1) ⟨.bar, 0, 9⟩, .profileWrite badVia [], .profileWrite v (overLen 4096), .laneModeWrite badVia 0 [],
  .laneModeWrite v 0 (overLen 4096), .fecWrite badVia 0 [], .fecWrite v 0 (overLen 4096), .polarityWrite badVia 0 true [],
  .polarityWrite v 0 true (overLen 4096), .managementModeWrite badVia .m0 [], .managementModeWrite v .m0 (overLen 4096),
  .sgmiiControlWord 0 65536, .flexeOverheadMismatch 0 (2 ^ 20) 0, .flexeOverheadMismatch 0 0 256, .calendarSwitchRequest badVia 0 [],
  .calendarSwitchRequest v 0 (overLen 4096), .maximumFrameWrite badVia 0 [], .maximumFrameWrite v 0 (overLen 4096),
  .pauseHonouringWrite badVia 0 [], .pauseHonouringWrite v 0 (overLen 4096), .frameReceived 0 (overLen 16384) ⟨0, 0, 0⟩,
  .frameReceived 0 [] ⟨2 ^ 32, 0, 0⟩, .pause 0 65536, .managementFrameReceived .m0 (overLen 16380) 0, .managementFrameReceived .m0 [] (2 ^ 32), .alloc 0 (2 ^ 32) 0, .free 0 (2 ^ 32)] : List Instr).all (fun c => !c.wf) = true := by decide +kernel

theorem test_wf_refuses_3 : ([
  .baseMinimumWrite badVia 0 0 [], .baseMinimumWrite v (2 ^ 32) 0 [], .baseMinimumWrite v 0 0 (overLen 4096), .quotaWrite badVia 0 0 [],
  .quotaWrite v (2 ^ 32) 0 [], .quotaWrite v 0 0 (overLen 4096), .carveWrite badVia 0 [], .carveWrite v 256 [], .carveWrite v 0 (overLen 4096),
  .spillFetchComplete (2 ^ 32), .pnMarkWritten 131072, .headAgeDiscard (2 ^ 32), .quantumWrite badVia 0 0 [],
  .quantumWrite v 0 0 (overLen 4096), .shaperEnableWrite badVia 0 0 [], .shaperEnableWrite v 0 0 (overLen 4096), .idleSlopeWrite badVia 0 0 [],
  .idleSlopeWrite v 0 0 (overLen 4096), .gateControlWrite badVia 0 [], .gateControlWrite v 0 (overLen 4096), .initialStatesWrite badVia 0 [],
  .initialStatesWrite v 0 (overLen 4096), .cancelPending badVia 0 [], .cancelPending v 0 (overLen 4096), .telemetrySample (2 ^ 32),
  .admitStream badVia [], .admitStream v (overLen 64), .withdraw badVia [], .withdraw v (overLen 64), .check badVia [], .check v (overLen 64),
  .modify badVia [], .modify v (overLen 64), .gcmEncrypt (.vf 1) 65536 (jobDesc 1 0 0) [], .gcmDecrypt (.vf 1) 65536 (jobDesc 1 0 0) [], .gmacGenerate (.vf 1) 65536 (jobDesc 1 0 0) [],
  .gmacVerify (.vf 1) 65536 (jobDesc 1 0 0) [], .ctr (.vf 1) 65536 (jobDesc 1 0 0) [], .xtsEncrypt (.vf 1) 65536 (jobDesc 1 0 0) []] : List Instr).all (fun c => !c.wf) = true := by decide +kernel

theorem test_wf_refuses_4 : ([
  .xtsDecrypt (.vf 1) 65536 (jobDesc 1 0 0) [], .cmacGenerate (.vf 1) 65536 (jobDesc 1 0 0) [], .cmacVerify (.vf 1) 65536 (jobDesc 1 0 0) [], .wrap (.vf 1) 65536 (jobDesc 1 0 0), .unwrap (.vf 1) 65536 (jobDesc 1 0 0) [],
  .derive (.vf 1) 65536 (jobDesc 1 0 0) [], .random (.vf 1) 65536 (jobDesc 1 0 0), .engineRestart badVia [] none, .engineRestart v (overLen 4096) none,
  .storageSegment (.vf 1) 524288 (ringDesc []) [], .quarantineEnd 65536 0, .quarantineEnd 0 65536, .hostPortDisable badVia .a, .hostPortEnable badVia .a,
  .hostLinkUp .a 17 0, .hostLinkUp .a 0 7, .linkStateChange .a (.l0p 17), .tenantEnableWrite badVia 0 [],
  .tenantEnableWrite v 0 (overLen 4096), .tenantHostPortWrite badVia 0 [], .tenantHostPortWrite v 0 (overLen 4096),
  .uplinkWrite badVia 0 true [], .uplinkWrite v 0 true (overLen 4096), .vfEnable .a 65536, .completionReceived .a 16384 .success [],
  .completionTimeout .a 16384, .tagQuarantineEnd .a 16384, .inlinePush (.vf 1) (2 ^ 26) [], .bindingLock badVia [],
  .bindingLock v (overLen 4096), .complete (.thread 0) 4096, .setPending (.vf 1) 4096, .fork 0 (2 ^ 32) 0 true, .fork 0 0 (2 ^ 64) true,
  .join 0 65536 0, .join 0 0 (2 ^ 64), .wait 0 0 (2 ^ 64), .signal 0 65536 0, .threadFault 0 256, .unload badVia 0 []] : List Instr).all (fun c => !c.wf) = true := by decide +kernel

theorem test_wf_refuses_5 : ([
  .unload v 0 (overLen 4096), .cellModeWrite badVia 0 [], .cellModeWrite v 0 (overLen 4096), .copy 65536 0 true, .fill 65536 0, .compare 65536 0 true true,
  .dmaAbort 65536 0, .stationChannelsWrite badVia [], .stationChannelsWrite v (overLen 4096), .ptpMessage 0 (.followUp (2 ^ 96)),
  .nextPpsSecondsWrite badVia [], .nextPpsSecondsWrite v (overLen 4096), .temperatureSample [], .sequenceFailure 9 0,
  .sequenceFailure 0 65536, .warmResetRequest badVia [], .warmResetRequest v (overLen 4096), .hardResetRequest badVia [],
  .hardResetRequest v (overLen 4096), .deviceReset 256, .avsStep 65536 true, .pmbusAlert [], .configurationCommit badVia [],
  .configurationCommit v (overLen 4096), .commitEnd (some 256), .program badVia, .activate badVia, .programAndActivate badVia,
  .switch badVia, .discard badVia, .firmwareProgramStep (some 256), .debugUnlock (.dictionary badVia) [], .debugUnlock .jtag (overLen 128),
  .uncorrectableError (.ternaryRow 65536), .ternaryRowRewrite (2 ^ 32), .entryReload (.ternaryRow 65536), .fabricLinkRepair 0 (2 ^ 32),
  .fozonLinkChange 3 0, .fozonLinkChange 0 17, .pairMessage { pairMsg 9 with node := 65536 }] : List Instr).all (fun c => !c.wf) = true := by decide +kernel

/-- Data of more bytes than one read may ask for. -/
theorem test_wf_refuses_long (d : Bytes) (h : 16777216 < d.length) : (Instr.completionReceived .a 0 .success d).wf = false
    ∧ (Instr.inlinePush (.vf 1) 0 d).wf = false := by simp [Instr.wf, h]

theorem test_wf_refuses_parts :
    (DoluxMsg.wf ⟨.mgmt .m0, overLen 16380⟩ = false ∧ Via.wf (.dolux badMsg 0) = false ∧ Via.wf (.dolux m 65535) = false)
    ∧ ([.sync (some (2 ^ 96)), .followUp (2 ^ 96), .pdelayResp (2 ^ 96), .delayResp (2 ^ 96), .pdelayReq [] 0, .delayReq [] 0,
        .pdelayReq (zeros 10) 65536, .delayReq (zeros 10) 65536, .announce 32768, .announce (-32769)] : List PtpMsg).all (fun x => !x.wf) = true
    ∧ ([⟨2 ^ 32, 0, 0⟩, ⟨0, 2 ^ 32, 0⟩, ⟨0, 0, 2 ^ 32⟩] : List Coding).all (fun x => !x.wf) = true
    ∧ ([.packetData (2 ^ 32) 0, .ternaryRow 65536, .actionRow 65536 0, .actionRow 0 4194304, .meterRow 65536, .cacheEntry 4194304,
        .hbmSpill (2 ^ 32) 0] : List MemUnit).all (fun x => !x.wf) = true
    ∧ ([⟨2 ^ 64, 0, 0, true, false, 0, []⟩, ⟨0, 2 ^ 32, 0, true, false, 0, []⟩, ⟨0, 0, 65536, true, false, 0, []⟩, ⟨0, 0, 0, true, false, 256, []⟩,
        ⟨0, 0, 0, true, false, 0, List.replicate 13 0⟩] : List Event).all (fun x => !x.wf) = true
    ∧ ([⟨65536, 0, 0, 0, 0, 0, []⟩, ⟨0, 256, 0, 0, 0, 0, []⟩, ⟨0, 0, 65536, 0, 0, 0, []⟩, ⟨0, 0, 0, 2 ^ 32, 0, 0, []⟩, ⟨0, 0, 0, 0, 2 ^ 32, 0, []⟩,
        ⟨0, 0, 0, 0, 0, 0, [⟨2 ^ 64, 0, 0, true, false, 0, []⟩]⟩] : List PairMsg).all (fun x => !x.wf) = true := by decide +kernel

/-- The same operands where they fit. -/
theorem test_wf_accepts : ([.write v 0x1300 1 [1], .identify m, .pairMessage (pairMsg 9), .uncorrectableError .control, .ptpMessage 3 .other,
    .temperatureSample (List.replicate 28 0), .pmbusAlert (List.replicate 9 0), .debugUnlock .jtag (zeros 128)] : List Instr).all (·.wf) = true := by
  decide +kernel

/-! ### Single steps -/

/-- The table gives no row any bits: no word spells a command. -/
theorem test_no_word_spells_a_command : State.reset.withFetchWord 16 0x1234 = State.reset ∧ decodeTableWord 16 0x1234 = none := by
  decide +kernel

/-- An empty queue lets one cycle pass: 1.25 ns of the free-running counter (R321). -/
theorem test_cycle_on_empty_queue : (match step served with | .next t => t.clk.frcQ == 5 | _ => false) = true := by decide +kernel

/-- The command at the front runs and leaves the queue. -/
theorem test_front_runs : (match step { served with pending := [.scrub, .powerOn] } with
    | .next t => decide (t.pending = [.powerOn] ∧ t.ob 0x1300 4 = 1) | _ => false) = true := by decide +kernel

end Sys2Proof.Tests
end

section
/-! What an item's answer does where its request shows it: the bytes and registers of a window, the response of a
message, the frame that carries it, the answer to firmware (R42 to R47). -/

namespace Sys2Proof.Machine

/-! ### Bits of a number and of a register -/

theorem testBit_setBits (n hi lo v i : Nat) (h : lo ≤ hi) :
    (setBits n hi lo v).testBit i = if lo ≤ i ∧ i ≤ hi then v.testBit (i - lo) else n.testBit i := by
  have hfield : v % 2 ^ (hi - lo + 1) * 2 ^ lo + n % 2 ^ lo < 2 ^ (hi + 1) := by
    have h1 : v % 2 ^ (hi - lo + 1) < 2 ^ (hi - lo + 1) := Nat.mod_lt _ (Nat.two_pow_pos _)
    have h2 : n % 2 ^ lo < 2 ^ lo := Nat.mod_lt _ (Nat.two_pow_pos _)
    have h3 : 2 ^ (hi + 1) = 2 ^ (hi - lo + 1) * 2 ^ lo := by rw [← Nat.pow_add]; congr 1; omega
    calc v % 2 ^ (hi - lo + 1) * 2 ^ lo + n % 2 ^ lo < (v % 2 ^ (hi - lo + 1) + 1) * 2 ^ lo := by rw [Nat.succ_mul]; omega
      _ ≤ 2 ^ (hi + 1) := by rw [h3]; exact Nat.mul_le_mul_right _ h1
  have hlow : n % 2 ^ lo < 2 ^ lo := Nat.mod_lt _ (Nat.two_pow_pos _)
  have hshape : setBits n hi lo v
      = 2 ^ (hi + 1) * (n / 2 ^ (hi + 1)) + (2 ^ lo * (v % 2 ^ (hi - lo + 1)) + n % 2 ^ lo) := by
    rw [setBits, Nat.mul_comm (n / 2 ^ (hi + 1)), Nat.mul_comm (v % 2 ^ (hi - lo + 1)), Nat.add_assoc]
  rw [hshape, Nat.testBit_two_pow_mul_add _ (by rwa [Nat.mul_comm (2 ^ lo)]), Nat.testBit_two_pow_mul_add _ hlow]
  simp only [Nat.testBit_mod_two_pow, Nat.testBit_div_two_pow]
  by_cases hlo : i < lo
  · simp [show i < hi + 1 by omega, hlo, show ¬ lo ≤ i by omega]
  · by_cases hhi : i ≤ hi
    · simp [show i < hi + 1 by omega, hlo, hhi, show lo ≤ i by omega, show i - lo < hi - lo + 1 by omega]
    · simp [show ¬ i < hi + 1 by omega, hhi, show i - (hi + 1) + (hi + 1) = i by omega]

theorem testBit_bits (n hi lo i : Nat) : (bits n hi lo).testBit i = (decide (i < hi - lo + 1) && n.testBit (lo + i)) := by
  unfold bits
  rw [Nat.testBit_mod_two_pow, Nat.testBit_div_two_pow, Nat.add_comm i]

/-- A field of a 32-bit word reads what was written to it. -/
theorem bits_setBits_same (n hi lo v : Nat) (h : lo ≤ hi) (hw : hi < 32) :
    bits (setBits n hi lo v % 2 ^ 32) hi lo = v % 2 ^ (hi - lo + 1) := by
  apply Nat.eq_of_testBit_eq
  intro i
  rw [testBit_bits, Nat.testBit_mod_two_pow, testBit_setBits _ _ _ _ _ h, Nat.testBit_mod_two_pow]
  by_cases hin : i < hi - lo + 1
  · simp [hin, show lo + i < 32 by omega, show lo + i ≤ hi by omega]
  · simp [hin]

/-- A field of a 32-bit word below or above the one written keeps its bits. -/
theorem bits_setBits_other (n hi lo v hi' lo' : Nat) (h : lo ≤ hi) (h' : lo' ≤ hi') (hd : hi' < lo ∨ hi < lo')
    (hw : hi' < 32) :
    bits (setBits n hi lo v % 2 ^ 32) hi' lo' = bits n hi' lo' := by
  apply Nat.eq_of_testBit_eq
  intro i
  rw [testBit_bits, testBit_bits, Nat.testBit_mod_two_pow, testBit_setBits _ _ _ _ _ h]
  by_cases hin : i < hi' - lo' + 1
  · simp [hin, show lo' + i < 32 by omega, show ¬ (lo ≤ lo' + i ∧ lo' + i ≤ hi) by omega]
  · simp [hin]

variable (s : State)

/-- A register whose bits were just set. -/
theorem State.regN_setRegBits_self (owner off hi lo v : Nat) :
    (s.setRegBits owner off hi lo v).regN owner off = setBits (s.regN owner off) hi lo v % 2 ^ 32 := by
  rw [State.regN, State.setRegBits, State.reg_setReg_self, BitVec.toNat_ofNat]

/-- Bits of a register that were just set. -/
theorem State.regBits_setRegBits_same (owner off hi lo v : Nat) (h : lo ≤ hi) (hw : hi < 32) :
    (s.setRegBits owner off hi lo v).regBits owner off hi lo = v % 2 ^ (hi - lo + 1) := by
  rw [State.regBits, State.regN_setRegBits_self, bits_setBits_same _ _ _ _ h hw]

/-- A write of one register leaves the others of its owner. -/
theorem State.reg_setReg_off (owner off off' : Nat) (v : Word) (h : off' % 2 ^ 26 ≠ off % 2 ^ 26) :
    (s.setReg owner off v).reg owner off' = s.reg owner off' := by
  rw [State.reg_setReg, if_neg]
  unfold regKey
  omega

/-! ### A run of bytes just written -/

theorem NMap.bytes_putBytes_self (m : NMap Byte) (a : Nat) (b : Bytes) : NMap.bytes (NMap.putBytes m a b) a b.length = b := by
  induction b generalizing m a with
  | nil => rfl
  | cons x b ih =>
    have hx : NMap.at 0 (NMap.putBytes (NMap.put 0 m a x) (a + 1) b) a = x := by
      rw [NMap.at_putBytes_out _ _ _ _ (.inl (Nat.lt_succ_self a)), NMap.at_put_self]
    simp only [List.length_cons, NMap.bytes, NMap.putBytes, hx, ih]

/-! ### Outputs are only added

What drives a source and the threads it wakes keeps every output that was there. -/

/-- The outputs of `t` are those of `s` behind newer ones. -/
def OutGrows (s t : State) : Prop := s.out <:+ t.out

theorem OutGrows.refl : OutGrows s s := List.suffix_refl _

theorem OutGrows.of_eq {s t : State} (h : t.out = s.out) : OutGrows s t := ⟨[], h.symm⟩

theorem OutGrows.behind {s t u : State} (k : OutGrows t u) (h : t.out = s.out) : OutGrows s u :=
  List.IsSuffix.trans (OutGrows.of_eq h) k

theorem State.emit_outGrows (o : Output) : OutGrows s (s.emit o) := List.suffix_cons _ _

theorem State.msix_outGrows (m v : Nat) : OutGrows s (s.msix m v) := by
  unfold State.msix
  dsimp only
  split
  · exact OutGrows.refl s
  · split
    · exact s.emit_outGrows _
    · exact OutGrows.of_eq rfl

theorem State.finishWait_outGrows (n : Nat) : OutGrows s (s.finishWait n) := by
  unfold State.finishWait
  dsimp only
  split
  · split
    · exact List.suffix_cons _ _
    · split <;> exact List.suffix_cons _ _
  · split
    · split
      · exact List.suffix_cons _ _
      · split
        · exact List.suffix_cons _ _
        · split <;> exact List.suffix_cons _ _
    · exact OutGrows.of_eq rfl

theorem State.runThread_outGrows (n : Nat) : OutGrows s (s.runThread n) := by
  unfold State.runThread
  dsimp only
  generalize hr : (if n = _ then _ else _ : State) = r
  have hout : r.out = s.out := by
    rw [← hr]
    split <;> rfl
  split
  · split
    · exact OutGrows.of_eq hout
    · exact (r.finishWait_outGrows n).behind hout
  · exact OutGrows.of_eq hout

theorem State.dispatch_outGrows (c : Nat) : OutGrows s (s.dispatch c) := by
  unfold State.dispatch
  split
  · exact OutGrows.refl s
  · split
    · exact OutGrows.refl s
    · exact s.runThread_outGrows _

theorem State.wakeThread_outGrows (n : Nat) : OutGrows s (s.wakeThread n) := by
  unfold State.wakeThread
  split
  · exact (s.setThSt n 1).dispatch_outGrows (n / 16)
  · exact OutGrows.refl s

theorem State.deliver_outGrows (ctx : Nat) : OutGrows s (s.deliver ctx) := by
  unfold State.deliver
  split
  · exact s.wakeThread_outGrows ctx
  · split
    · exact OutGrows.refl s
    · split
      · exact OutGrows.refl s
      · exact (State.msix_outGrows _ _ _).behind rfl

theorem State.deliverFor_outGrows (id : Nat) : OutGrows s (s.deliverFor id) := by
  unfold State.deliverFor
  split
  · exact OutGrows.refl s
  · exact s.deliver_outGrows _

theorem State.level_outGrows (id : Nat) (on : Bool) : OutGrows s (s.level id on) := by
  unfold State.level
  split
  · unfold State.levelOn
    dsimp only
    split
    · exact (State.deliverFor_outGrows _ id).behind rfl
    · exact OutGrows.of_eq rfl
  · unfold State.levelOff
    dsimp only
    split
    · exact (State.deliverFor_outGrows _ id).behind rfl
    · exact OutGrows.of_eq rfl

/-! ### The request in execution -/

/-- Setting a request changes the object server's sessions, and beyond them only what source 0x7AA drives. -/
theorem State.setSession_quiet (k : Nat) (d : Option Session) :
    Quiet { s with acc := { s.acc with sessions := NMap.put none s.acc.sessions k d } } (s.setSession k d) :=
  State.level_quiet _ _ _

theorem State.setSession_outGrows (k : Nat) (d : Option Session) : OutGrows s (s.setSession k d) :=
  State.level_outGrows { s with acc := { s.acc with sessions := NMap.put none s.acc.sessions k d } } _ _

@[simp] theorem State.session_setSession_self (k : Nat) (d : Option Session) : (s.setSession k d).session k = d := by
  rw [State.session, (s.setSession_quiet k d).acc]
  exact NMap.at_put_self none _ k d

@[simp] theorem State.key_setSession (k : Nat) (d : Option Session) (k' : Nat) : (s.setSession k d).key k' = s.key k' := by
  rw [State.key, (s.setSession_quiet k d).acc]
  rfl

@[simp] theorem State.net_setSession (k : Nat) (d : Option Session) : (s.setSession k d).net = s.net :=
  (s.setSession_quiet k d).waiting

@[simp] theorem State.regs_setSession (k : Nat) (d : Option Session) : (s.setSession k d).regs = s.regs :=
  (s.setSession_quiet k d).regs

@[simp] theorem State.dwBuf_setSession (k : Nat) (d : Option Session) : (s.setSession k d).dwBuf = s.dwBuf :=
  (s.setSession_quiet k d).dwBuf

variable {s}

/-- An item that begins leaves its request in progress, with the message it came in. -/
theorem State.session_of_beginItem_run {u : State} {k item : Nat} {q : ReqItem} {d : Session} (hd : s.session k = some d)
    (h : s.beginItem k item q = .run u) : u.session k = some { d with next := item + 1 } := by
  simp only [State.beginItem, hd] at h
  split at h
  · cases h
  · split at h
    · cases h
    · obtain rfl := Begun.run.inj h
      exact State.session_setSession_self _ _ _

/-- An item that runs has a request that its answer reaches. -/
theorem ItemRuns.awaits {u : State} {v : Via} {q : ReqItem} (h : ItemRuns s v q u) : Awaits u v := by
  obtain ⟨-, hb, -⟩ := h
  unfold State.begin at hb
  split at hb
  · cases hb
  cases v with
  | window p item =>
    dsimp only at hb
    split at hb
    · cases hd : s.session (winSlot p) with
      | none => simp only [State.beginItem, hd] at hb; cases hb
      | some d => exact Option.isSome_of_eq_some (State.session_of_beginItem_run hd hb)
    · cases hb
  | dolux m item =>
    dsimp only [State.beginDolux] at hb
    generalize (if item = 0 then (s.admitMsg m).answerBare m else s) = w at hb
    split at hb
    · cases hb
    · next d hd =>
      split at hb
      · next hm => exact ⟨_, State.session_of_beginItem_run hd hb, hm⟩
      · cases hb
  | firmware n => trivial
  | leaseReq p => trivial

/-! ### The answer in a window (R47) -/

variable (s)

/-- The end of a window's request shows DONE in place of BUSY; beyond that and the request, only what sources drive changes. -/
theorem State.dwDone_quiet (p : HostPort) :
    Quiet ((s.setSession (winSlot p) none).setRegBits (portMaster p) (dw 0x10) 1 0 2) (s.dwDone p) := by
  unfold State.dwDone
  dsimp only
  split
  · exact (State.dwLevel_quiet _).trans (State.msix_quiet _ _ _)
  · exact State.dwLevel_quiet _

theorem State.setRegBits_regs_congr {s t : State} (h : t.regs = s.regs) (owner off hi lo v : Nat) :
    (t.setRegBits owner off hi lo v).regs = (s.setRegBits owner off hi lo v).regs := by
  simp only [State.setRegBits, State.setReg, State.regN, State.reg, h]

theorem State.dwDone_dwBuf (p : HostPort) : (s.dwDone p).dwBuf = s.dwBuf := by
  rw [(s.dwDone_quiet p).dwBuf, State.setRegBits, State.setReg_dwBuf, State.dwBuf_setSession]

theorem State.dwDone_regs (p : HostPort) : (s.dwDone p).regs = (s.setRegBits (portMaster p) (dw 0x10) 1 0 2).regs :=
  (s.dwDone_quiet p).regs.trans (State.setRegBits_regs_congr (s.regs_setSession _ _) _ _ _ _ _)

/-- A window with one more response item: its bytes, DW_RLENGTH and ITEMS_DONE. -/
def State.dwPlaced (s : State) (p : HostPort) (b : Bytes) (done : Nat) : State :=
  let m := portMaster p
  let len := s.regN m (dw 0x14)
  (({ s with dwBuf := NMap.putBytes s.dwBuf (m * 0x10000 + 0x2000 + len) b }).setReg m (dw 0x14)
    (BitVec.ofNat 32 (len + b.length))).setRegBits m (dw 0x10) 23 8 done

theorem State.dwAnswer_eq {p : HostPort} {d : Session} (b : Bytes) (hd : s.session (winSlot p) = some d) :
    s.dwAnswer p b = if d.answered + 1 = d.items.length then (s.dwPlaced p b (d.answered + 1)).dwDone p
      else (s.dwPlaced p b (d.answered + 1)).setSession (winSlot p) (some { d with answered := d.answered + 1 }) := by
  simp only [State.dwAnswer, hd]
  rfl

theorem State.dwPlaced_dwBuf (p : HostPort) (b : Bytes) (done : Nat) :
    (s.dwPlaced p b done).dwBuf
      = NMap.putBytes s.dwBuf (portMaster p * 0x10000 + 0x2000 + s.regN (portMaster p) (dw 0x14)) b := rfl

theorem State.dwPlaced_length (p : HostPort) (b : Bytes) (done : Nat)
    (h : s.regN (portMaster p) (dw 0x14) + b.length < 2 ^ 32) :
    (s.dwPlaced p b done).regN (portMaster p) (dw 0x14) = s.regN (portMaster p) (dw 0x14) + b.length := by
  unfold State.dwPlaced State.setRegBits
  rw [State.regN, State.reg_setReg_off _ _ _ _ _ (by decide), State.reg_setReg_self, BitVec.toNat_ofNat, Nat.mod_eq_of_lt h]

theorem State.dwPlaced_done (p : HostPort) (b : Bytes) (done : Nat) :
    (s.dwPlaced p b done).regBits (portMaster p) (dw 0x10) 23 8 = done % 65536 :=
  State.regBits_setRegBits_same _ _ _ _ _ _ (by decide) (by decide)

theorem State.dwPlaced_busy (p : HostPort) (b : Bytes) (done : Nat) :
    (s.dwPlaced p b done).regBits (portMaster p) (dw 0x10) 1 0 = s.regBits (portMaster p) (dw 0x10) 1 0 := by
  unfold State.dwPlaced
  rw [State.regBits, State.regN_setRegBits_self, bits_setBits_other _ _ _ _ _ _ (by decide) (by decide) (by decide) (by decide),
    State.regN, State.reg_setReg_off _ _ _ _ _ (by decide)]
  rfl

/-- An item's answer shows in the window of its request. -/
theorem State.dwAnswer_answers {p : HostPort} (item : Nat) {ix sub st : Nat} {data : Bytes}
    (ha : (s.session (winSlot p)).isSome = true)
    (hfit : s.regN (portMaster p) (dw 0x14) + (itemBytes ix sub st data).length < 2 ^ 32) :
    Answers s (s.dwAnswer p (itemBytes ix sub st data)) (.window p item) ix sub st data := by
  obtain ⟨d, hd⟩ := Option.isSome_iff_exists.1 ha
  have hlen := s.dwPlaced_length p _ (d.answered + 1) hfit
  have hdone := s.dwPlaced_done p (itemBytes ix sub st data) (d.answered + 1)
  have hbusy := s.dwPlaced_busy p (itemBytes ix sub st data) (d.answered + 1)
  have hbuf := s.dwPlaced_dwBuf p (itemBytes ix sub st data) (d.answered + 1)
  rw [s.dwAnswer_eq _ hd]
  refine ⟨d, hd, ?_⟩
  generalize s.dwPlaced p (itemBytes ix sub st data) (d.answered + 1) = w at *
  split
  · have hreg : ∀ off, (w.dwDone p).regN (portMaster p) off
        = (w.setRegBits (portMaster p) (dw 0x10) 1 0 2).regN (portMaster p) off := fun off => by
      rw [State.regN, State.reg, w.dwDone_regs]
      rfl
    refine ⟨?_, ?_, ?_, ?_⟩
    · rw [w.dwDone_dwBuf, hbuf, NMap.bytes_putBytes_self]
    · rw [hreg, State.setRegBits, State.regN, State.reg_setReg_off _ _ _ _ _ (by decide)]
      exact hlen
    · rw [State.regBits, hreg, State.regN_setRegBits_self,
        bits_setBits_other _ _ _ _ _ _ (by decide) (by decide) (by decide) (by decide)]
      exact hdone
    · rw [State.regBits, hreg]
      exact w.regBits_setRegBits_same _ _ _ _ _ (by decide) (by decide)
  · have hreg : ∀ off, (w.setSession (winSlot p) (some { d with answered := d.answered + 1 })).regN (portMaster p) off
        = w.regN (portMaster p) off := fun off => by
      rw [State.regN, State.reg, State.regs_setSession]
      rfl
    refine ⟨?_, ?_, ?_, ?_⟩
    · rw [State.dwBuf_setSession, hbuf, NMap.bytes_putBytes_self]
    · rw [hreg, hlen]
    · rw [State.regBits, hreg]
      exact hdone
    · rw [State.regBits, hreg]
      exact hbusy

/-! ### The answer to a message (R42, R44) -/

theorem State.sendBack_acc (at_ : DoluxPlace) (frame : Bytes) : (s.sendBack at_ frame).acc = s.acc := by
  cases at_ <;> rfl

theorem State.sendBack_leaves (at_ : DoluxPlace) (frame : Bytes) : Leaves at_ frame (s.sendBack at_ frame) := by
  cases at_ with
  | port p => exact ⟨_, List.mem_append_right _ (List.mem_singleton.2 rfl), rfl, rfl, rfl, rfl⟩
  | mgmt m => exact List.mem_cons_self
  | vport n => exact ⟨_, List.mem_append_right _ (List.mem_singleton.2 rfl), rfl, rfl, rfl⟩

/-- A frame that leaves still does after what keeps the waiting frames and only adds outputs. -/
theorem Leaves.mono {at_ : DoluxPlace} {frame : Bytes} {t u : State} (h : Leaves at_ frame t) (hn : u.net = t.net)
    (ho : OutGrows t u) : Leaves at_ frame u := by
  cases at_ with
  | port p => simpa only [Leaves, hn] using h
  | mgmt m => exact List.IsSuffix.subset ho h
  | vport n => simpa only [Leaves, hn] using h

/-- The state of `respond` once the response has left, before the next message of the key is opened. -/
def State.responded (s : State) (m : DoluxMsg) (d : Session) : State :=
  let tx := (s.key (msgKey m)).tx + 1
  (s.setKey (msgKey m) { s.key (msgKey m) with tx := tx }).sendBack m.place (s.response m d.answered d.resp tx)

/-- A response that has left changes beside it only who waits and the request in execution. -/
theorem State.respond_eq {m : DoluxMsg} {d : Session} (hm : d.msg = some m) :
    ∃ w x, s.respond (msgKey m) d = ({ s.responded m d with acc := { (s.responded m d).acc with doluxWait := w } } :
      State).setSession (msgKey m) x := by
  simp only [State.respond, hm]
  split
  · exact ⟨_, _, rfl⟩
  · exact ⟨_, _, rfl⟩

theorem State.respond_tx {m : DoluxMsg} {d : Session} (hm : d.msg = some m) :
    ((s.respond (msgKey m) d).key (msgKey m)).tx = (s.key (msgKey m)).tx + 1 := by
  obtain ⟨w, x, he⟩ := s.respond_eq hm
  rw [he, State.key_setSession]
  simp only [State.key, State.responded, State.sendBack_acc, State.setKey, NMap.at_put_self]

theorem State.respond_leaves {m : DoluxMsg} {d : Session} (hm : d.msg = some m) :
    Leaves m.place (s.response m d.answered d.resp ((s.key (msgKey m)).tx + 1)) (s.respond (msgKey m) d) := by
  obtain ⟨w, x, he⟩ := s.respond_eq hm
  rw [he]
  exact Leaves.mono (t := s.responded m d) (State.sendBack_leaves _ _ _) (State.net_setSession _ _ _)
    ((State.setSession_outGrows _ _ _).behind rfl)

/-- An item's answer shows in the response of its message, which leaves with its last item. -/
theorem State.doluxAnswer_answers {m : DoluxMsg} (item : Nat) {ix sub st : Nat} {data : Bytes} {d : Session}
    (hd : s.session (msgKey m) = some d) (hm : d.msg = some m) :
    Answers s (s.doluxAnswer (msgKey m) st (itemBytes ix sub st data)) (.dolux m item) ix sub st data := by
  refine ⟨d, hd, hm, ?_⟩
  simp only [State.doluxAnswer, hd, Bool.or_eq_true, Bool.and_eq_true, decide_eq_true_eq]
  split
  · exact ⟨s.respond_tx hm, s.respond_leaves (d := { d with resp := _, answered := _ }) hm⟩
  · exact s.session_setSession_self _ _

/-! ### The answer on every path -/

@[simp] theorem length_toLE (n v : Nat) : (toLE n v).length = n := by
  induction n generalizing v with
  | zero => rfl
  | succ n ih => simp only [toLE, List.length_cons, ih]

@[simp] theorem length_toBE (n v : Nat) : (toBE n v).length = n := by rw [toBE, List.length_reverse, length_toLE]

/-- A response item pads its 6 bytes and its data to a multiple of 4. -/
theorem itemBytes_length_le (ix sub st : Nat) (data : Bytes) : (itemBytes ix sub st data).length ≤ data.length + 9 := by
  simp only [itemBytes, List.length_append, length_toBE, zeros, List.length_replicate, roundUp]
  omega

/-- An item's answer shows on the path of a request that waits for it and has room for its data. -/
theorem State.answer_answers {v : Via} {ix sub st room : Nat} {data : Bytes} (ha : Awaits s v) (hr : s.room v = some room)
    (hl : data.length ≤ room) : Answers s (s.answer v ix sub st data) v ix sub st data := by
  cases v with
  | window p item =>
    refine s.dwAnswer_answers item ha ?_
    have hroom : s.regN (portMaster p) (dw 0x14) + 6 + data.length ≤ 4096 := by
      simp only [State.room, Option.ite_none_right_eq_some, Option.some.injEq] at hr
      omega
    have := itemBytes_length_le ix sub st data
    omega
  | dolux m item =>
    obtain ⟨d, hd, hm⟩ := ha
    exact s.doluxAnswer_answers item hd hm
  | firmware n => rfl
  | leaseReq p => exact s.regBits_setRegBits_same _ _ _ _ _ (by decide) (by decide)

end Sys2Proof.Machine
end

section
/-! READ of subindex 0 and of a subindex that an object does not implement (R20). -/

namespace Sys2Proof.Machine

/-! ### The highest subindex of an object -/

/-- A running maximum bounds what it starts from and every value it has seen. -/
theorem le_foldl_max {α : Type} (f : α → Nat) (l : List α) (a : Nat) :
    a ≤ l.foldl (fun m e => max m (f e)) a ∧ ∀ e ∈ l, f e ≤ l.foldl (fun m e => max m (f e)) a := by
  induction l generalizing a with
  | nil => simp
  | cons x l ih =>
    obtain ⟨hstart, hseen⟩ := ih (max a (f x))
    refine ⟨Nat.le_trans (Nat.le_max_left _ _) hstart, fun e he => ?_⟩
    rcases List.mem_cons.1 he with rfl | he
    · exact Nat.le_trans (Nat.le_max_right _ _) hstart
    · exact hseen e he

/-- A running maximum is what it starts from or a value it has seen. -/
theorem foldl_max_attained {α : Type} (f : α → Nat) (l : List α) (a : Nat) :
    l.foldl (fun m e => max m (f e)) a = a ∨ ∃ e ∈ l, l.foldl (fun m e => max m (f e)) a = f e := by
  induction l generalizing a with
  | nil => exact .inl rfl
  | cons x l ih =>
    rcases ih (max a (f x)) with h | ⟨e, he, h⟩
    · rcases Nat.le_total (f x) a with hm | hm
      · exact .inl (h.trans (Nat.max_eq_left hm))
      · exact .inr ⟨x, List.mem_cons_self, h.trans (Nat.max_eq_right hm)⟩
    · exact .inr ⟨e, List.mem_cons_of_mem _ he, h⟩

/-- An entry is found exactly for the subindices of the object's entries. -/
theorem Obj.entry_isSome_iff (o : Obj) (k : Nat) : (o.entry k).isSome = true ↔
    ∃ e ∈ o.all, e.sub ≤ k ∧ k < e.sub + e.n := by
  simp only [Obj.entry, entryIn, List.find?_isSome, Bool.and_eq_true, decide_eq_true_eq]

theorem Obj.le_highest {o : Obj} {k : Nat} (h : (o.entry k).isSome = true) : k ≤ o.highest := by
  obtain ⟨e, he, -, hk⟩ := (o.entry_isSome_iff k).1 h
  have : e.sub + e.n - 1 ≤ o.highest := (le_foldl_max (fun e : Entry => e.sub + e.n - 1) o.all 0).2 e he
  omega

/-- Every entry stands for at least one subindex. -/
def Obj.occupied (o : Obj) : Bool := o.all.all fun e => decide (1 ≤ e.n)

theorem Obj.highest_implemented {o : Obj} (ho : o.occupied = true) : (o.entry o.highest).isSome = true ∨ o.highest = 0 := by
  rcases foldl_max_attained (fun e : Entry => e.sub + e.n - 1) o.all 0 with h | ⟨e, he, h⟩
  · exact .inr h
  · have hn : 1 ≤ e.n := of_decide_eq_true (List.all_eq_true.1 ho e he)
    have hh : o.highest = e.sub + e.n - 1 := h
    exact .inl ((o.entry_isSome_iff _).2 ⟨e, he, by omega, by omega⟩)

theorem all_ite {α : Type} {P : α → Bool} {c : Prop} [Decidable c] {a b : Option α} (ha : a.all P = true)
    (hb : b.all P = true) : (if c then a else b).all P = true := by
  split
  · exact ha
  · exact hb

/-- The objects of the tables have no entry without a subindex. -/
theorem objectAt_occupied {ix : Nat} {o : Obj} (h : objectAt ix = some o) : o.occupied = true := by
  have hall : (objectAt ix).all Obj.occupied = true := by
    unfold objectAt
    with_reducible repeat' apply all_ite
    all_goals rfl
  rw [h] at hall
  exact hall

/-! ### The read -/

/-- A READ that begins is answered with what its body ends with, where the response has room. -/
theorem exec_read_answers {s u : State} {v : Via} {ix sub room st : Nat} {data : Bytes} (hi : ItemRuns s v (readReq ix sub) u)
    (hr : u.room v = some room) (ht : u.tryRead v ix sub = .done st data u) (hl : data.length ≤ room) :
    ∃ t : State, exec (.read v ix sub) s = .next t ∧ Answers u t v ix sub st data := by
  have hawaits := hi.awaits
  obtain ⟨hreach, hbegin, -⟩ := hi
  refine ⟨_, ?_, u.answer_answers hawaits hr hl⟩
  show execRead v ix sub s = _
  simp only [execRead, State.item, hreach, hbegin, hr, ht, hl, if_true]

/-- Subindex 0 is the highest, to a principal that reaches the object (R20, R27). -/
theorem State.tryRead_zero {u : State} {v : Via} {ix : Nat} {o : Obj} (ho : objectAt ix = some o)
    (hp : ownTenant (u.principal v) ix = true) : u.tryRead v ix 0 = .done stOk (toBE 1 o.highest) u := by
  simp only [State.tryRead, ho, hp, if_true]

theorem State.tryRead_absent {u : State} {v : Via} {ix sub : Nat} {o : Obj} (ho : objectAt ix = some o) (hz : sub ≠ 0)
    (he : o.entry sub = none) : u.tryRead v ix sub = .done stNoSubindex [] u := by
  simp only [State.tryRead, ho, he, hz, if_false]

/-! ### O9 -/

/-- Settles O9: a read of subindex 0, or of a subindex without an entry, ends before any check of the entry's rights, and its
answer shows on the path of the request; the highest subindex is the running maximum over the object's entries. -/
theorem subindexZeroIsTheHighest : Obligations.SubindexZeroIsTheHighest := by
  intro s u v ix sub room o _ _ ho hi hr
  refine ⟨fun hz hroom hp => ?_, fun hz he => ?_⟩
  · subst hz
    obtain ⟨t, hexec, hanswers⟩ := exec_read_answers hi hr (State.tryRead_zero ho hp) hroom
    exact ⟨t, hexec, hanswers, fun k hk => Obj.le_highest hk, Obj.highest_implemented (objectAt_occupied ho)⟩
  · exact exec_read_answers hi hr (State.tryRead_absent ho hz he) (Nat.zero_le _)

end Sys2Proof.Machine
end

section
/-! An SGMII lane in ALIGN: what its peer's control word does, and when it comes up (R51, Table 3-2). -/

namespace Sys2Proof.Machine

/-! ### A lane's state behind its object -/

@[simp] theorem State.lane_setLane_self (s : State) (l : Nat) (d : LaneDyn) : (s.setLane l d).lane l = d :=
  NMap.at_put_self _ s.net.lanes l d

/-- A write of a lane's state changes the network side alone, and no frame that waits for a slot. -/
theorem State.setLane_only (s : State) (l : Nat) (d : LaneDyn) : Only [.net] noField s (s.setLane l d) := by
  refine ⟨rfl, fun p hp => ?_, fun _ _ _ _ _ _ => rfl⟩
  cases p with
  | net => exact absurd List.mem_cons_self hp
  | _ => rfl

/-! ### A lane's object under what goes with a change of the lane -/

theorem laneIx_lane (l : Lane) : laneIx l.val = 0x2400 + l.val := if_pos l.isLt

theorem pageNo_laneIx (l : Lane) : pageNo (laneIx l.val) = 58 := by
  rw [laneIx_lane, pageNo]
  omega

theorem loud_laneIx (l : Lane) (sub : Nat) : loud (laneIx l.val) sub = false := by
  simp only [loud, laneIx_lane, List.contains_cons, List.contains_nil, Bool.or_eq_false_iff, Bool.and_eq_false_iff,
    beq_eq_false_iff_ne, and_true]
  exact ⟨by omega, .inl (by omega)⟩

/-- Bringing ports up to date writes no lane's object. -/
@[simp] theorem State.refreshLane_ob_laneIx (s : State) (k cause : Nat) (cut : Bool) (l : Lane) (sub : Nat) :
    (s.refreshLane k cause cut).ob (laneIx l.val) sub = s.ob (laneIx l.val) sub := by
  refine (State.refreshLane_to k cause cut (Within.refl _ s) (subFoot_self _)).dict _ ?_ 0 sub
  rw [hasPage, pageNo_laneIx]
  decide

@[simp] theorem State.event_ob_laneIx (s : State) (code : Nat) (data : List Nat) (l : Lane) (sub : Nat) :
    (s.event code data).ob (laneIx l.val) sub = s.ob (laneIx l.val) sub :=
  (s.event_quiet code data).ob _ _ (loud_laneIx l sub)

@[simp] theorem State.setLaneState_laneState (s : State) (l : Lane) (st : Nat) :
    (s.setLaneState l.val st).laneState l.val = st := by
  unfold State.setLaneState
  split
  · assumption
  · rw [State.laneState, (State.edge_quiet _ _).ob _ _ (loud_laneIx l 3), State.ob_setOb_self]

/-- A lane that rises is UP: neither its cause, its event nor its ports' states write its state again. -/
theorem State.laneRises_laneState (s : State) (l : Lane) : (s.laneRises (.lane l)).laneState l.val = 4 := by
  rw [State.laneRises, State.laneState, State.refreshLane_ob_laneIx, State.event_ob_laneIx, State.ob, State.setOb,
    State.cell_setCell_sub _ _ _ _ _ (by decide)]
  exact s.setLaneState_laneState l 4

/-! ### The instructions -/

variable {s : State}

/-- The lane `l` is an SGMII lane in ALIGN. -/
def State.SgmiiAligning (s : State) (l : Lane) : Prop := s.mode l.val = 2 ∧ s.laneState l.val = 3

/-- The lane `l` keeps the control word of `rate`, and its hold starts again. -/
def State.keepAnnounced (s : State) (l : Lane) (rate : Nat) : State :=
  s.setLane l.val { s.lane l.val with announced := some rate, holdFrom := s.now }

theorem exec_sgmiiControlWord_other {l : Lane} {rate : Nat} (h : s.SgmiiAligning l) (hr : rate ≠ 1000) :
    exec (.sgmiiControlWord l rate) s = .next ((s.keepAnnounced l rate).event 0x0205 [l.val, rate]) := by
  obtain ⟨hmode, hstate⟩ := h
  show execSgmiiControlWord l rate s = _
  simp [execSgmiiControlWord, State.keepAnnounced, hmode, hstate, hr]

theorem exec_sgmiiControlWord_1000 {l : Lane} (h : s.SgmiiAligning l) (ha : (s.lane l.val).announced ≠ some 1000) :
    exec (.sgmiiControlWord l 1000) s = .next (s.keepAnnounced l 1000) := by
  obtain ⟨hmode, hstate⟩ := h
  show execSgmiiControlWord l 1000 s = _
  simp [execSgmiiControlWord, State.keepAnnounced, hmode, hstate, ha]

/-- Of the conditions of ALIGN that the block sees, an SGMII lane has its peer's announcement alone. -/
theorem State.SgmiiAligning.aligned_iff {l : Lane} (h : s.SgmiiAligning l) :
    s.aligned l.val = true ↔ (s.lane l.val).announced = some 1000 := by
  obtain ⟨hmode, -⟩ := h
  simp only [State.aligned, hmode, if_true, decide_eq_true_eq]

theorem exec_laneUp_of_not_aligned {l : Lane} (h : s.aligned l.val ≠ true) : exec (.laneUp (.lane l)) s = .next s := by
  show execLaneUp (.lane l) s = _
  simp [execLaneUp, h]

theorem exec_laneUp_of_aligned {l : Lane} (hstate : s.laneState l.val = 3) (h : s.aligned l.val = true)
    (hhold : (s.lane l.val).holdFrom + (s.lane l.val).hold ≤ s.now) (hdrain : (s.lane l.val).draining = none) :
    exec (.laneUp (.lane l)) s = .next (s.laneRises (.lane l)) := by
  show execLaneUp (.lane l) s = _
  simp [execLaneUp, State.anyState, anyNo, h, hstate, Nat.not_lt.2 hhold, hdrain]

/-! ### O27 -/

/-- Settles O27: a kept control word is a write of the lane's state alone, and LANE_UP of an aligned SGMII lane turns on the word
last kept. -/
theorem sgmiiStaysInAlign : Obligations.SgmiiStaysInAlign := by
  refine ⟨rfl, fun s l rate hmode hstate => ?_⟩
  have h : s.SgmiiAligning l := ⟨hmode, hstate⟩
  refine ⟨fun hr => ?_, fun ha => ?_, fun ha => ?_, fun ha hhold hdrain => ?_⟩
  · exact ⟨s.keepAnnounced l rate, exec_sgmiiControlWord_other h hr, s.lane_setLane_self _ _, s.setLane_only _ _⟩
  · exact exec_laneUp_of_not_aligned (mt h.aligned_iff.1 ha)
  · exact ⟨s.keepAnnounced l 1000, exec_sgmiiControlWord_1000 h ha, s.lane_setLane_self _ _, s.setLane_only _ _⟩
  · exact ⟨_, exec_laneUp_of_aligned hstate (h.aligned_iff.2 ha) hhold hdrain, s.laneRises_laneState l⟩

end Sys2Proof.Machine
end

section
/-! Event sources (Table 11-9, R275 to R279): what an edge, a level input, a claim, its completion and a software set do to the
source, to the counters of Table 11-13 and to the log. -/

namespace Sys2Proof.Machine

/-! ### What may differ between two states -/

theorem Only.trans {ps : List Part} {w : (ix row sub : Nat) → Bool} {s t u : State} (h : Only ps w s t) (k : Only ps w t u) :
    Only ps w s u := by
  obtain ⟨hqueue, hparts, hfields⟩ := h
  obtain ⟨kqueue, kparts, kfields⟩ := k
  exact ⟨kqueue.trans hqueue, fun p hp => Part.same_trans (hparts p hp) (kparts p hp),
    fun ix row sub hr hs hw => (kfields ix row sub hr hs hw).trans (hfields ix row sub hr hs hw)⟩

theorem Only.mono {ps ps' : List Part} {w w' : (ix row sub : Nat) → Bool} {s t : State} (h : Only ps w s t) (hps : ps ⊆ ps')
    (hw : ∀ ix row sub, w ix row sub = true → w' ix row sub = true) : Only ps' w' s t := by
  obtain ⟨hqueue, hparts, hfields⟩ := h
  exact ⟨hqueue, fun p hp => hparts p fun hin => hp (hps hin), fun ix row sub hr hs hout =>
    hfields ix row sub hr hs (Bool.eq_false_iff.2 fun hin => Bool.eq_false_iff.1 hout (hw ix row sub hin))⟩

/-- A field of an object is a field of a list that names the object. -/
theorem objects_of_fields {l : List Nat} {ix row : Nat} {subs : List Nat} (h : l.contains ix = true) (ix' row' sub' : Nat)
    (hf : fields ix row subs ix' row' sub' = true) : objects l ix' row' sub' = true := by
  simp only [fields, Bool.and_eq_true, beq_iff_eq] at hf
  obtain ⟨⟨rfl, -⟩, -⟩ := hf
  exact h

variable (s : State)

theorem State.setCell_only (ix v : Nat) {row sub : Nat} (hrow : row < 2 ^ 32) (hsub : sub < 256) :
    Only [] (fields ix row [sub]) s (s.setCell ix row sub v) := by
  refine ⟨rfl, fun p _ => by cases p <;> rfl, fun ix' row' sub' hr hs hout => ?_⟩
  rw [State.cell_setCell, if_neg]
  intro hkey
  obtain ⟨rfl, rfl, rfl⟩ := (cellKey_inj hr hrow hs hsub).1 hkey
  simp [fields] at hout

theorem State.withRng_only (x : Rings) : Only [.rng] noField s { s with rng := x } := by
  refine ⟨rfl, fun p hp => ?_, fun _ _ _ _ _ _ => rfl⟩
  cases p with
  | rng => exact absurd List.mem_cons_self hp
  | _ => rfl

theorem State.setSrc_only {id : Nat} (st : Nat) (hid : id < 4096) : Only [.rng] (fields 0x9100 id [0xA]) s (s.setSrc id st) := by
  have hcell : Only [.rng] (fields 0x9100 id [0xA]) s (s.setCell 0x9100 id 0xA st) :=
    (s.setCell_only 0x9100 st (by omega) (by decide)).mono (List.nil_subset _) fun _ _ _ h => h
  exact hcell.trans ((State.withRng_only _ _).mono (List.Subset.refl _) nofun)

/-! ### The state of a source -/

@[simp] theorem State.srcState_setSrc_self (id st : Nat) : (s.setSrc id st).srcState id = st :=
  s.cell_setCell_self 0x9100 id 0xA st

theorem State.srcState_setSrc_other {id k : Nat} (st : Nat) (hid : id < 4096) (hk : k < 4096) (hne : k ≠ id) :
    (s.setSrc id st).srcState k = s.srcState k :=
  s.cell_setCell_row 0x9100 0xA st 0xA (by omega)

/-- A change of state leaves every other field of the objects. -/
theorem State.cell_setSrc_sub (id st ix row : Nat) {sub : Nat} (h : sub % 256 ≠ 0xA) :
    (s.setSrc id st).cell ix row sub = s.cell ix row sub := by
  rw [show (s.setSrc id st).cell ix row sub = (s.setCell 0x9100 id 0xA st).cell ix row sub from rfl, State.cell_setCell, if_neg]
  unfold Machine.cellKey
  omega

theorem State.cell_setSrc_ix (id st row sub : Nat) {ix : Nat} (h : ix ≠ 0x9100) :
    (s.setSrc id st).cell ix row sub = s.cell ix row sub :=
  s.cell_setCell_ix id 0xA st row sub h

/-- A counter that is added to gains what is added. -/
theorem State.countsUp_bump (ix row sub n : Nat) : countsUp s (s.bump ix row sub n) ix row sub n :=
  s.cell_setCell_self ix row sub _

/-- Adding to a field other than a source's state changes no source's state. -/
theorem State.srcState_bump (ix row n k : Nat) {sub : Nat} (h : sub % 256 ≠ 0xA) :
    (s.bump ix row sub n).srcState k = s.srcState k := by
  rw [State.srcState, State.bump, State.cell_setCell, if_neg, State.srcState]
  unfold Machine.cellKey
  omega

theorem contains_insertId (l : List Nat) (x : Nat) : (insertId l x).contains x = true := by
  induction l with
  | nil => simp [insertId]
  | cons y l ih =>
    unfold insertId
    split
    · simp
    · split
      · next h => simp [h]
      · simpa using Or.inr (by simpa using ih)

theorem contains_filter_ne (l : List Nat) (x : Nat) : (l.filter (· != x)).contains x = false := by
  simp

/-! ### A source is selected only while it is PENDING (R277) -/

/-- A running choice that each value either takes or leaves is what it starts from or one of the values. -/
theorem foldl_choice_mem {α : Type} {f : Option α → α → Option α} (hf : ∀ b x, f b x = some x ∨ f b x = b) (l : List α)
    (b : Option α) {y : α} (h : l.foldl f b = some y) : b = some y ∨ y ∈ l := by
  induction l generalizing b with
  | nil => exact .inl h
  | cons x l ih =>
    rcases ih (f b x) h with hx | hl
    · rcases hf b x with ht | hk
      · exact .inr (by simp [Option.some.inj (ht.symm.trans hx)])
      · exact .inl (hk.symm.trans hx)
    · exact .inr (List.mem_cons_of_mem x hl)

/-- The best of some sources is one of them. -/
theorem State.bestOf_mem {ids : List Nat} {id : Nat} (h : s.bestOf ids = some id) : id ∈ ids := by
  refine (foldl_choice_mem (fun b x => ?_) ids none h).resolve_left nofun
  cases b with
  | none => exact .inl rfl
  | some j =>
    dsimp only
    split
    · exact .inl rfl
    · exact .inr rfl

theorem State.srcState_of_select {ctx floor id : Nat} (h : s.select ctx floor = some id) : s.srcState id = 1 := by
  have hmem := s.bestOf_mem h
  simp only [State.candidates, List.mem_filter, Bool.and_eq_true, decide_eq_true_eq] at hmem
  obtain ⟨-, ⟨⟨hpending, -⟩, -⟩, -⟩ := hmem
  exact hpending

/-! ### What a delivery leaves (R277) -/

/-- A delivery wakes a thread or sends a message: of the dictionary it writes threads and loop cores alone, and the event
controller keeps its level inputs and its claims. -/
structure Delivers (s t : State) : Prop where
  only : Only [.hst, .rng, .thr, .out] (objects [0x93F0, 0x9400]) s t
  cell : ∀ ix row sub, ix ≠ 0x93F0 → ix ≠ 0x9400 → t.cell ix row sub = s.cell ix row sub
  levels : t.rng.levels = s.rng.levels
  claimed : t.rng.claimed = s.rng.claimed

theorem Delivers.refl : Delivers s s :=
  ⟨⟨rfl, fun p _ => p.same_refl s, fun _ _ _ _ _ _ => rfl⟩, fun _ _ _ _ _ => rfl, rfl, rfl⟩

variable {s}

theorem Delivers.srcState {t : State} (h : Delivers s t) (id : Nat) : t.srcState id = s.srcState id :=
  h.cell 0x9100 id 0xA (by decide) (by decide)

/-- Of the loud objects a delivery reaches only those on the pages of threads and loop cores. -/
theorem cell_of_quiet_within {t : State} (hq : Quiet s t) (hw : Within 0x6000000000000000000000000000000000000083800 s t)
    (ix row sub : Nat) (hthread : ix ≠ 0x93F0) (hcore : ix ≠ 0x9400) : t.cell ix row sub = s.cell ix row sub := by
  cases hl : loud ix sub with
  | false => exact hq.cell ix row sub hl
  | true =>
    refine hw.dict ix ?_ row sub
    simp only [loud, List.contains_cons, List.contains_nil, Bool.or_eq_true, Bool.and_eq_true, beq_iff_eq, Bool.or_false] at hl
    rcases hl with (rfl | rfl | rfl | rfl | rfl | rfl) | ⟨rfl | rfl, -⟩
    · rfl
    · rfl
    · rfl
    · exact absurd rfl hthread
    · exact absurd rfl hcore
    · rfl
    · rfl
    · rfl

variable (s)

theorem State.wakeThread_rng (n : Nat) : (s.wakeThread n).rng = s.rng :=
  (State.wakeThread_to n (Within.refl _ s) (subFoot_self _)).parts .rng rfl

theorem State.msix_rng (m v : Nat) : (s.msix m v).rng = s.rng :=
  (State.msix_to m v (Within.refl _ s) (subFoot_self _)).parts .rng rfl

/-- Of the event controller a delivery changes who has been sent a message and the DELIVERED flags. -/
theorem State.deliver_rng (ctx : Nat) :
    ∃ sent flags, (s.deliver ctx).rng = { s.rng with messaged := sent, delivered := flags } := by
  unfold State.deliver
  split
  · exact ⟨_, _, s.wakeThread_rng ctx⟩
  · split
    · exact ⟨_, _, rfl⟩
    · split
      · exact ⟨_, _, rfl⟩
      · exact ⟨_, _, State.msix_rng _ _ _⟩

theorem State.deliver_delivers (ctx : Nat) : Delivers s (s.deliver ctx) := by
  have hw := State.deliver_to ctx (Within.refl _ s) (subFoot_self _)
  have hcell := cell_of_quiet_within (s.deliver_quiet ctx) hw
  obtain ⟨sent, flags, hrng⟩ := s.deliver_rng ctx
  refine ⟨⟨hw.pending, fun p hp => hw.parts p ?_, fun ix row sub _ _ hout => ?_⟩, hcell, by rw [hrng], by rw [hrng]⟩
  · revert hp
    cases p <;> decide
  · refine hcell ix row sub ?_ ?_ <;> rintro rfl <;> simp [objects] at hout

theorem State.deliverFor_delivers (id : Nat) : Delivers s (s.deliverFor id) := by
  unfold State.deliverFor
  split
  · exact Delivers.refl s
  · exact s.deliver_delivers _

/-! ### An entry into PENDING -/

/-- An IDLE source becomes PENDING, counts the entry and is delivered (Table 11-9). -/
def State.entersPending (s : State) (id : Nat) : State := ((s.setSrc id 1).bump 0x9100 id 0xB 1).deliverFor id

theorem State.srcState_entersPending_self (id : Nat) : (s.entersPending id).srcState id = 1 := by
  rw [State.entersPending, (State.deliverFor_delivers _ id).srcState, State.srcState_bump _ _ _ _ _ (by decide),
    State.srcState_setSrc_self]

theorem State.srcState_entersPending_other {id k : Nat} (hid : id < 4096) (hk : k < 4096) (hne : k ≠ id) :
    (s.entersPending id).srcState k = s.srcState k := by
  rw [State.entersPending, (State.deliverFor_delivers _ id).srcState, State.srcState_bump _ _ _ _ _ (by decide),
    s.srcState_setSrc_other 1 hid hk hne]

theorem State.entersPending_counts (id : Nat) : countsUp s (s.entersPending id) 0x9100 id 0xB 1 := by
  rw [countsUp, State.entersPending, (State.deliverFor_delivers _ id).cell _ _ _ (by decide) (by decide),
    State.countsUp_bump, s.cell_setSrc_sub _ _ _ _ (by decide)]

theorem State.entersPending_cell (id row sub : Nat) {ix : Nat} (hsource : ix ≠ 0x9100) (hthread : ix ≠ 0x93F0)
    (hcore : ix ≠ 0x9400) :
    (s.entersPending id).cell ix row sub = s.cell ix row sub := by
  rw [State.entersPending, (State.deliverFor_delivers _ id).cell _ _ _ hthread hcore, State.bump,
    State.cell_setCell_ix _ _ _ _ _ _ hsource, s.cell_setSrc_ix _ _ _ _ hsource]

theorem State.entersPending_claimed (id : Nat) : (s.entersPending id).rng.claimed = s.rng.claimed :=
  (State.deliverFor_delivers _ id).claimed

/-- The parts and objects that an arrival at a source may change. -/
abbrev SourceOnly (s t : State) : Prop := Only [.hst, .rng, .thr, .out] (objects [0x9100, 0x93F0, 0x9400]) s t

theorem Delivers.sourceOnly {s t : State} (h : Delivers s t) : SourceOnly s t :=
  h.only.mono (List.Subset.refl _) fun ix _ _ hin => by
    simp only [objects, List.contains_cons, Bool.or_eq_true] at hin ⊢
    exact .inr hin

theorem State.setSrc_sourceOnly {id : Nat} (st : Nat) (hid : id < 4096) : SourceOnly s (s.setSrc id st) :=
  (s.setSrc_only st hid).mono (by simp) (objects_of_fields rfl)

theorem State.withRng_sourceOnly (x : Rings) : SourceOnly s { s with rng := x } := (s.withRng_only x).mono (by simp) nofun

theorem State.entersPending_sourceOnly {id : Nat} (hid : id < 4096) : SourceOnly s (s.entersPending id) := by
  have hcount : SourceOnly (s.setSrc id 1) ((s.setSrc id 1).bump 0x9100 id 0xB 1) :=
    (State.setCell_only _ _ _ (by omega) (by decide)).mono (List.nil_subset _) (objects_of_fields rfl)
  exact ((s.setSrc_sourceOnly 1 hid).trans hcount).trans (State.deliverFor_delivers _ id).sourceOnly

/-! ### Edges and level inputs, by the state of the source (Table 11-9) -/

variable {s}

theorem State.edge_of_idle {id : Nat} (hkind : s.cell 0x9100 id 4 ≠ 0) (h : s.srcState id = 0) :
    s.edge id = s.entersPending id := by
  rw [State.edge, if_neg hkind, if_pos h, State.entersPending]

theorem State.edge_of_pending {id : Nat} (hkind : s.cell 0x9100 id 4 ≠ 0) (h : s.srcState id = 1) :
    s.edge id = s.bump 0x9100 id 0xC 1 := by
  rw [State.edge, if_neg hkind, if_neg (by omega), if_pos h]

theorem State.edge_of_active {id : Nat} (hkind : s.cell 0x9100 id 4 ≠ 0) (h : s.srcState id = 2) : s.edge id = s.setSrc id 3 := by
  rw [State.edge, if_neg hkind, if_neg (by omega), if_neg (by omega), if_pos h]

/-- An edge ends in one of four ways, by the kind and the state of the source. -/
theorem State.edge_cases (s : State) (id : Nat) :
    s.edge id = s ∨ s.edge id = s.entersPending id ∨ s.edge id = s.bump 0x9100 id 0xC 1 ∨ s.edge id = s.setSrc id 3 := by
  unfold State.edge
  split
  · exact .inl rfl
  · split
    · exact .inr (.inl rfl)
    · split
      · exact .inr (.inr (.inl rfl))
      · split
        · exact .inr (.inr (.inr rfl))
        · exact .inr (.inr (.inl rfl))

/-- A state whose level input of a source is asserted. -/
def State.asserted (s : State) (id : Nat) : State := { s with rng := { s.rng with levels := insertId s.rng.levels id } }

/-- A state whose level input of a source is withdrawn. -/
def State.withdrawn (s : State) (id : Nat) : State := { s with rng := { s.rng with levels := s.rng.levels.filter (· != id) } }

theorem State.levelOn_of_idle {id : Nat} (h : s.srcState id = 0) (hl : s.rng.levels.contains id = false) :
    s.levelOn id = (s.asserted id).entersPending id := by
  simp only [State.levelOn, h, hl, Bool.not_false, Bool.and_true, decide_true, if_true]
  rfl

theorem State.levelOn_of_not_idle {id : Nat} (h : s.srcState id ≠ 0) : s.levelOn id = s.asserted id := by
  simp [State.levelOn, h, State.asserted]

theorem State.levelOff_of_pending {id : Nat} (h : s.srcState id = 1) :
    s.levelOff id = ((s.withdrawn id).setSrc id 0).deliverFor id := by
  simp [State.levelOff, h, State.withdrawn]

theorem State.levelOff_of_not_pending {id : Nat} (h : s.srcState id ≠ 1) : s.levelOff id = s.withdrawn id := by
  simp [State.levelOff, h, State.withdrawn]

theorem exec_sourceAssert_level {id : Fin 4096} (h : s.cell 0x9100 id.val 4 = 1) :
    exec (.sourceAssert id) s = .next (s.levelOn id.val) := by
  show execSourceAssert id s = _
  simp only [execSourceAssert, h, if_true]

theorem exec_sourceAssert_edge {id : Fin 4096} (h : s.cell 0x9100 id.val 4 = 2) :
    exec (.sourceAssert id) s = .next (s.edge id.val) := by
  show execSourceAssert id s = _
  simp [execSourceAssert, h]

theorem exec_levelWithdrawn_level {id : Fin 4096} (h : s.cell 0x9100 id.val 4 = 1) :
    exec (.levelWithdrawn id) s = .next (s.levelOff id.val) := by
  show execLevelWithdrawn id s = _
  rw [execLevelWithdrawn, if_pos h]

/-- An edge at an IDLE edge source, or an input at an IDLE level source, makes the source PENDING from a state that differs at
most in the level inputs. -/
theorem exec_sourceAssert_of_idle {id : Fin 4096} (h : s.srcState id.val = 0)
    (hkind : s.cell 0x9100 id.val 4 = 2 ∨ (s.cell 0x9100 id.val 4 = 1 ∧ s.rng.levels.contains id.val = false)) :
    ∃ levels, exec (.sourceAssert id) s
      = .next (State.entersPending { s with rng := { s.rng with levels := levels } } id.val) := by
  rcases hkind with hedge | ⟨hlevel, hoff⟩
  · exact ⟨s.rng.levels, by rw [exec_sourceAssert_edge hedge, State.edge_of_idle (by omega) h]⟩
  · exact ⟨_, by rw [exec_sourceAssert_level hlevel, State.levelOn_of_idle h hoff]; rfl⟩

/-- The withdrawal of a PENDING level source's input makes the source IDLE. -/
theorem State.srcState_levelOff_self {id : Nat} (h : s.srcState id = 1) : (s.levelOff id).srcState id = 0 := by
  rw [State.levelOff_of_pending h, (State.deliverFor_delivers _ id).srcState, State.srcState_setSrc_self]

theorem State.srcState_levelOff_other {id k : Nat} (h : s.srcState id = 1) (hid : id < 4096) (hk : k < 4096) (hne : k ≠ id) :
    (s.levelOff id).srcState k = s.srcState k := by
  rw [State.levelOff_of_pending h, (State.deliverFor_delivers _ id).srcState]
  exact State.srcState_setSrc_other (s.withdrawn id) 0 hid hk hne

theorem State.levels_levelOff {id : Nat} (h : s.srcState id = 1) : (s.levelOff id).rng.levels.contains id = false := by
  rw [State.levelOff_of_pending h, (State.deliverFor_delivers _ id).levels]
  exact contains_filter_ne s.rng.levels id

theorem State.levelOff_sourceOnly {id : Nat} (h : s.srcState id = 1) (hid : id < 4096) : SourceOnly s (s.levelOff id) := by
  rw [State.levelOff_of_pending h]
  exact ((s.withRng_sourceOnly _).trans (State.setSrc_sourceOnly (s.withdrawn id) 0 hid)).trans
    (State.deliverFor_delivers _ id).sourceOnly

/-! ### CLAIM (R278) -/

/-- What a claim returns goes to the thread, or is the value of the read of EC_CLAIM. -/
def claimAnswer (c : EvCtx) (id : Nat) : Output :=
  match c with
  | .thread n => .thread n.val id 0
  | .pf0 p => .regRead (portMaster p) 0x800000 id

theorem exec_claim_of_live {c : EvCtx} (h : s.ctxLive c = true) :
    exec (.claim c) s = .next ((s.claimOf (ctxNo c)).2.emit (claimAnswer c (s.claimOf (ctxNo c)).1)) := by
  show execClaim c s = _
  rw [execClaim, h]
  cases c <;> rfl

/-- A claim clears the DELIVERED flag of its context. -/
def State.undelivered (s : State) (ctx : Nat) : State :=
  { s with rng := { s.rng with delivered := s.rng.delivered.filter (· != ctx) } }

/-- The selected source becomes ACTIVE under the claim of a context, which counts; the context is delivered its next. -/
def State.activates (s : State) (ctx id : Nat) : State :=
  let t := (s.setSrc id 2).inc 0x9101 1
  { t with rng := { t.rng with claimed := NMap.put 0 t.rng.claimed id (ctx + 1) } }.deliver ctx

/-- The selection does not look at the DELIVERED flags. -/
theorem State.select_undelivered (s : State) (ctx : Nat) : (s.undelivered ctx).select ctx ((s.undelivered ctx).claimFloor ctx)
    = s.select ctx (s.claimFloor ctx) := rfl

theorem State.claimOf_of_select {ctx id : Nat} (h : s.select ctx (s.claimFloor ctx) = some id) :
    s.claimOf ctx = (id, (s.undelivered ctx).activates ctx id) := by
  have hsel := (s.select_undelivered ctx).trans h
  unfold State.undelivered at hsel
  simp only [State.claimOf, hsel]
  rfl

theorem State.claimOf_of_none {ctx : Nat} (h : s.select ctx (s.claimFloor ctx) = none) (hd : s.rng.delivered.contains ctx = false) :
    s.claimOf ctx = (0, (s.undelivered ctx).inc 0x9101 1) := by
  have hsel := (s.select_undelivered ctx).trans h
  unfold State.undelivered at hsel
  simp only [State.claimOf, hsel, hd]
  rfl

variable (s)

theorem State.srcState_activates_self (ctx id : Nat) : (s.activates ctx id).srcState id = 2 :=
  ((State.deliver_delivers _ ctx).srcState id).trans
    ((State.srcState_bump _ 0x9101 0 1 id (by decide)).trans (s.srcState_setSrc_self id 2))

theorem State.activates_counts (ctx id : Nat) : countsUp s (s.activates ctx id) 0x9101 0 1 1 := by
  have hcount := (s.setSrc id 2).countsUp_bump 0x9101 0 1 1
  rw [countsUp, s.cell_setSrc_ix _ _ _ _ (by decide)] at hcount
  exact ((State.deliver_delivers _ ctx).cell _ _ _ (by decide) (by decide)).trans hcount

theorem State.claimed_activates (ctx id : Nat) : NMap.at 0 (s.activates ctx id).rng.claimed id = ctx + 1 := by
  rw [State.activates, (State.deliver_delivers _ ctx).claimed]
  exact NMap.at_put_self 0 s.rng.claimed id (ctx + 1)

/-! ### COMPLETE (Table 11-9) -/

variable {s}

theorem exec_complete_of_live {c : EvCtx} (id : Nat) (h : s.ctxLive c = true) :
    exec (.complete c id) s = .next (s.completeBy (ctxNo c) id) := by
  show execComplete c id s = _
  rw [execComplete, if_pos h]

theorem State.completeBy_of_claimed {ctx id : Nat} (hid : id < 4096) (hst : 2 ≤ s.srcState id)
    (hc : NMap.at 0 s.rng.claimed id = ctx + 1) : s.completeBy ctx id = (s.endActive id (s.afterActive id)).deliverFor id := by
  simp only [State.completeBy, hid, hst, hc, decide_true, Bool.and_true, if_true]

theorem State.completeBy_of_not_claimed {ctx id : Nat} (h : NMap.at 0 s.rng.claimed id ≠ ctx + 1 ∨ s.srcState id < 2) :
    s.completeBy ctx id = (s.inc 0x9101 5).eventLim 0x0807 0 [ctx, id] := by
  rw [State.completeBy, if_neg]
  simp only [Bool.and_eq_true, decide_eq_true_eq]
  rintro ⟨⟨-, hst⟩, hc⟩
  exact h.elim (fun hne => hne hc) (fun hlt => by omega)

theorem State.afterActive_eq (s : State) (id : Nat) :
    s.afterActive id = if s.srcState id = 3 ∨ s.rng.levels.contains id = true then 1 else 0 := by
  simp only [State.afterActive, Bool.or_eq_true, decide_eq_true_eq]

theorem State.srcState_endActive_self (s : State) (id st : Nat) : (s.endActive id st).srcState id = st := by
  unfold State.endActive
  dsimp only
  split
  · rw [State.srcState_bump _ _ _ _ _ (by decide)]
    exact s.srcState_setSrc_self id st
  · exact s.srcState_setSrc_self id st

theorem State.claimed_endActive (s : State) (id st : Nat) : NMap.at 0 (s.endActive id st).rng.claimed id = 0 := by
  unfold State.endActive
  dsimp only
  split <;> exact NMap.at_put_self 0 s.rng.claimed id 0

/-! ### What a record leaves of the event controller (R372) -/

/-- A record raises source 0x7A3 alone: the other sources, the counters of the controller and the claims stay. -/
structure RaisesRecord (s t : State) : Prop where
  counter : ∀ row sub, t.cell 0x9101 row sub = s.cell 0x9101 row sub
  source : ∀ k, k < 4096 → k ≠ 0x7A3 → t.srcState k = s.srcState k
  claimed : t.rng.claimed = s.rng.claimed

theorem RaisesRecord.refl (s : State) : RaisesRecord s s := ⟨fun _ _ => rfl, fun _ _ _ => rfl, rfl⟩

theorem RaisesRecord.trans {t u : State} (h : RaisesRecord s t) (k : RaisesRecord t u) : RaisesRecord s u :=
  ⟨fun row sub => (k.counter row sub).trans (h.counter row sub),
   fun i hi hne => (k.source i hi hne).trans (h.source i hi hne), k.claimed.trans h.claimed⟩

/-- What keeps the controller's objects and its state keeps what a record keeps. -/
theorem RaisesRecord.of_keeps {t : State} (hcell : ∀ row sub, t.cell 0x9101 row sub = s.cell 0x9101 row sub)
    (hsource : ∀ row sub, t.cell 0x9100 row sub = s.cell 0x9100 row sub) (hrng : t.rng = s.rng) : RaisesRecord s t :=
  ⟨hcell, fun k _ _ => hsource k 0xA, congrArg Rings.claimed hrng⟩

variable (s)

theorem State.edge_raisesRecord : RaisesRecord s (s.edge 0x7A3) := by
  rcases s.edge_cases 0x7A3 with h | h | h | h <;> rw [h]
  · exact RaisesRecord.refl s
  · exact ⟨fun row sub => s.entersPending_cell _ row sub (by decide) (by decide) (by decide),
      fun k hk hne => s.srcState_entersPending_other (by decide) hk hne, s.entersPending_claimed _⟩
  · exact ⟨fun row sub => s.cell_setCell_ix _ _ _ row sub (by decide), fun k _ _ => s.srcState_bump _ _ _ k (by decide), rfl⟩
  · exact ⟨fun row sub => s.cell_setSrc_ix _ _ row sub (by decide),
      fun k hk hne => s.srcState_setSrc_other 3 (by decide) hk hne, rfl⟩

/-- A write of an object that the controller does not own. -/
theorem State.setCell_raisesRecord (row sub v : Nat) {ix : Nat} (hs : ix ≠ 0x9100) (hc : ix ≠ 0x9101) :
    RaisesRecord s (s.setCell ix row sub v) :=
  .of_keeps (fun row' sub' => s.cell_setCell_ix row sub v row' sub' hc.symm)
    (fun row' sub' => s.cell_setCell_ix row sub v row' sub' hs.symm) rfl

theorem State.withLog_raisesRecord (x : EventLog) : RaisesRecord s { s with log := x } :=
  .of_keeps (fun _ _ => rfl) (fun _ _ => rfl) rfl

theorem State.emit_raisesRecord (o : Output) : RaisesRecord s (s.emit o) :=
  .of_keeps (fun _ _ => rfl) (fun _ _ => rfl) rfl

theorem State.stageRecord_raisesRecord (e : Event) : RaisesRecord s (s.stageRecord e) := by
  unfold State.stageRecord
  split
  · exact s.setCell_raisesRecord 0 0x12 _ (by decide) (by decide)
  · exact ((s.withLog_raisesRecord _).trans (State.setCell_raisesRecord _ 0 0x11 _ (by decide) (by decide))).trans
      (State.edge_raisesRecord _)

theorem State.record_raisesRecord (code sup : Nat) (data : List Nat) : RaisesRecord s (s.record code sup data) := by
  unfold State.record
  dsimp only
  split
  · exact ((s.emit_raisesRecord _).trans (State.setCell_raisesRecord _ 0 0xB _ (by decide) (by decide))).trans
      (State.stageRecord_raisesRecord _ _)
  · exact s.stageRecord_raisesRecord _

theorem State.eventLim_raisesRecord (code key : Nat) (data : List Nat) : RaisesRecord s (s.eventLim code key data) := by
  unfold State.eventLim State.eventGap
  split
  · exact (s.withLog_raisesRecord _).trans (State.record_raisesRecord _ _ _ _)
  · split
    · exact s.withLog_raisesRecord _
    · exact (s.withLog_raisesRecord _).trans (State.record_raisesRecord _ _ _ _)

/-- A counter of the controller that is added to before a limited record has gained what was added. -/
theorem State.countsUp_inc_eventLim (sub code key : Nat) (data : List Nat) :
    countsUp s ((s.inc 0x9101 sub).eventLim code key data) 0x9101 0 sub 1 :=
  ((State.eventLim_raisesRecord _ code key data).counter 0 sub).trans (s.countsUp_bump 0x9101 0 sub 1)

/-! ### The staged records (R372) -/

theorem State.edge_log (id : Nat) : (s.edge id).log = s.log :=
  (State.edge_to id (Within.refl _ s) (subFoot_self _)).parts .log rfl

/-- With room in staging a record is the newest that is staged. -/
theorem State.newest_stageRecord (e : Event) (h : s.log.staged.length < 4096) :
    (s.stageRecord e).log.staged.head?.map (fun e => (e.code, e.data)) = some (e.code, e.data) := by
  rw [State.stageRecord, if_neg (by omega), State.edge_log]
  rfl

theorem State.newest_record (code sup : Nat) (data : List Nat) (h : s.log.staged.length < 4096) :
    (s.record code sup data).log.staged.head?.map (fun e => (e.code, e.data)) = some (code, data) := by
  unfold State.record
  dsimp only
  split <;> exact State.newest_stageRecord _ _ h

variable {s}

/-- A limited record of a code and key that has been made within a second is held back. -/
theorem State.staged_eventLim_of_recent {code key : Nat} {l : Limit} (data : List Nat)
    (h : s.log.limits.find? (fun l => l.code == code && l.key == key) = some l) (ht : s.now - l.last < 1000000000) :
    (s.eventLim code key data).log.staged = s.log.staged := by
  simp only [State.eventLim, State.eventGap, h, ht, if_true]
  rfl

/-- The first limited record of a code and key is made. -/
theorem State.staged_eventLim_of_first {code key : Nat} (data : List Nat)
    (h : s.log.limits.find? (fun l => l.code == code && l.key == key) = none) (hroom : s.log.staged.length < 4096) :
    (s.eventLim code key data).log.staged.head?.map (fun e => (e.code, e.data)) = some (code, data) := by
  simp only [State.eventLim, State.eventGap, h]
  exact State.newest_record _ _ _ _ hroom

/-! ### SET_PENDING (R279) -/

theorem exec_setPending_thread (n : Thread) (id : Nat) :
    exec (.setPending (.thread n) id) s = .next (s.setPend (threadMaster n.val) id true) := rfl

theorem exec_setPending_pf0 {p : HostPort} (id : Nat) (h : s.funcLive (portMaster p) = true) :
    exec (.setPending (.pf0 p) id) s = .next (s.setPend (portMaster p) id (s.maySetPend (portMaster p))) := by
  show execSetPending (.pf0 p) id s = _
  simp only [execSetPending, h, if_true]

theorem State.setPend_of_software {master id : Nat} (h : within 0xE00 0xFFE id = true) : s.setPend master id true = s.edge id := by
  simp only [State.setPend, h, Bool.and_self, if_true]

theorem State.setPend_refused {master id : Nat} {may : Bool} (h : (may && within 0xE00 0xFFE id) = false) :
    s.setPend master id may = (s.inc 0x9101 6).eventLim 0x080A 0 [master, id] := by
  simp only [State.setPend, h, Bool.false_eq_true, if_false]

/-! ### O51 -/

/-- Settles O51: the case of Table 11-9 fixes which operation an arrival, a claim or a completion is; deliveries write only threads
and loop cores, and a record raises source 0x7A3 alone. -/
theorem sourcesArePendingActiveAndIdle : Obligations.SourcesArePendingActiveAndIdle := by
  refine ⟨fun s id => ⟨fun h hkind => ?_, fun hkind h => ?_, fun hkind h => ?_, fun hkind h => ?_, fun hkind h => ⟨?_, ?_⟩⟩,
    fun s c hlive => ⟨fun id hsel _ => ?_, fun hsel hd => ?_, fun id hid hst hc => ?_, fun id h => ?_⟩,
    fun s id => ⟨fun n hin hkind h => ?_, fun n hout => ?_, fun p hlive hmay => ?_⟩⟩
  -- arrivals and withdrawals, by the kind and the state of the source
  · obtain ⟨levels, hexec⟩ := exec_sourceAssert_of_idle h hkind
    exact ⟨_, hexec, State.srcState_entersPending_self _ _, State.entersPending_counts _ _,
      fun k hk hne => State.srcState_entersPending_other _ id.isLt hk hne,
      (s.withRng_sourceOnly _).trans (State.entersPending_sourceOnly _ id.isLt)⟩
  · have hidle := State.srcState_levelOff_self h
    refine ⟨_, exec_levelWithdrawn_level hkind, hidle, State.levels_levelOff h, fun ctx floor hsel => ?_,
      fun k hk hne => State.srcState_levelOff_other h id.isLt hk hne, State.levelOff_sourceOnly h id.isLt⟩
    have hpending := State.srcState_of_select _ hsel
    omega
  · rw [exec_sourceAssert_edge hkind, State.edge_of_pending (by omega) h]
    have := id.isLt
    exact ⟨_, rfl, s.countsUp_bump _ _ _ _, s.setCell_only _ _ (by omega) (by decide)⟩
  · rw [exec_sourceAssert_edge hkind, State.edge_of_active (by omega) h]
    exact ⟨_, rfl, s.srcState_setSrc_self _ _, s.setSrc_only 3 id.isLt⟩
  · rw [exec_levelWithdrawn_level hkind, State.levelOff_of_not_pending (by omega)]
    exact ⟨_, rfl, contains_filter_ne _ _, s.withRng_only _⟩
  · rw [exec_sourceAssert_level hkind, State.levelOn_of_not_idle (by omega)]
    exact ⟨_, rfl, contains_insertId _ _, s.withRng_only _⟩
  -- CLAIM with and without a source at the floor
  · rw [exec_claim_of_live hlive, State.claimOf_of_select hsel]
    exact ⟨_, rfl, State.srcState_activates_self _ _ _, State.activates_counts _ _ _, State.claimed_activates _ _ _,
      by cases c <;> exact List.mem_cons_self⟩
  · rw [exec_claim_of_live hlive, State.claimOf_of_none hsel hd]
    exact ⟨_, rfl, State.countsUp_bump _ _ _ _ _, fun k => State.srcState_bump _ _ _ _ k (by decide),
      by cases c <;> exact List.mem_cons_self⟩
  -- COMPLETE by the claiming context, and any other
  · rw [exec_complete_of_live id hlive, State.completeBy_of_claimed hid hst hc]
    have hd := (s.endActive id (s.afterActive id)).deliverFor_delivers id
    exact ⟨_, rfl, by rw [hd.srcState, s.srcState_endActive_self, s.afterActive_eq], by rw [hd.claimed, s.claimed_endActive]⟩
  · rw [exec_complete_of_live id hlive, State.completeBy_of_not_claimed h]
    have hr := (s.inc 0x9101 5).eventLim_raisesRecord 0x0807 0 [ctxNo c, id]
    exact ⟨_, rfl, s.countsUp_inc_eventLim _ _ _ _, hr.claimed,
      fun k hk hne => (hr.source k hk hne).trans (s.srcState_bump _ _ _ k (by decide)),
      fun l hl ht => State.staged_eventLim_of_recent (s := s.inc 0x9101 5) _ hl ht,
      fun hn hroom => State.staged_eventLim_of_first (s := s.inc 0x9101 5) _ hn hroom⟩
  -- SET_PENDING, allowed and refused
  · rw [exec_setPending_thread, State.setPend_of_software hin, State.edge_of_idle hkind h]
    exact ⟨_, rfl, s.srcState_entersPending_self id, s.entersPending_counts id⟩
  · rw [exec_setPending_thread, State.setPend_refused (by rw [Bool.true_and, hout])]
    exact ⟨_, rfl, s.countsUp_inc_eventLim _ _ _ _⟩
  · rw [exec_setPending_pf0 id hlive, State.setPend_refused (by rw [hmay, Bool.false_and])]
    exact ⟨_, rfl, s.countsUp_inc_eventLim _ _ _ _⟩

end Sys2Proof.Machine
end
